-- ==== Sys2Proof/Word.lean ====
section
/-! DEFINITION. The word types every layer uses. -/
namespace Sys2Proof

/-- A byte. -/
abbrev Byte := BitVec 8

/-- A 64-bit word: a D register, a timebase value, most 64-bit entries. -/
abbrev Word := BitVec 64

/-- A device address: the address space is 48 bits wide (R39, 01_architecture.md). -/
abbrev Addr := BitVec 48

/-- A sparse table: key and value pairs, keys strictly rising. Machine/Tab.lean has its operations. -/
abbrev Tab (α : Type) := List (Nat × α)

end Sys2Proof
end

