-- ==== Sys2Proof/Machine/Kinds.lean ====
section
/-! DEFINITION. The kinds of operands the commands carry: outcomes the environment settles, and the shapes of requests. -/
namespace Sys2Proof.Machine

/-- What the error-correcting code found on an access (R353, R357, R364, R369). -/
inductive Ecc where
  | clean | corrected | uncorrectable
  deriving DecidableEq, Repr

/-- What an access by a core met: also a control error in logic its cluster shares (R13, R369). -/
inductive LoadEcc where
  | clean | corrected | uncorrectable | shared
  deriving DecidableEq, Repr

/-- How a codeword's decode ended at its present stage: so many bits corrected, read as erased, or failed (R217, R218). -/
inductive CwResult where
  | decoded (bits : Nat)
  | erased
  | failed
  deriving DecidableEq, Repr

/-- One logical block: data and metadata bytes; bytes past a list's end are 0 (R111). -/
structure Lba where
  data : List Byte
  info : List Byte
  deriving DecidableEq, Repr

/-- What a command says of protection information (R111): `PRACT`, `PRCHK`, application tag, its mask, reference tag. -/
structure PrInfo where
  act : Bool
  guard_ : Bool
  app : Bool
  ref : Bool
  appTag : Nat
  appMask : Nat
  refTag : Nat
  deriving DecidableEq, Repr

/-- A contiguous run of logical blocks. -/
structure Extent where
  nsid : Nat
  lba : Nat
  count : Nat
  deriving DecidableEq, Repr

/-- The submission entry a command was fetched as: function, submission queue (0 the admin queue) and command identifier. -/
structure Sqe where
  fn : BitVec 8
  sq : BitVec 16
  cid : BitVec 16
  deriving DecidableEq, Repr

/-- An SGL descriptor (R122): descriptor type and subtype, address, length. -/
structure SglDesc where
  type : BitVec 4
  sub : BitVec 4
  addr : BitVec 64
  len : BitVec 32
  deriving DecidableEq, Repr

/-- A command's data pointer with what the front end reads through it: PRP entries in order, those of a list among them, or an SGL's first
descriptor and the descriptors of the segments it leads to, in the order they are reached (R122). -/
inductive DataPtr where
  | prp (entries : List (BitVec 64))
  | sgl (first : SglDesc) (segments : List (List SglDesc))
  deriving DecidableEq, Repr

/-- A command's metadata pointer: a contiguous buffer, or an SGL (R122). -/
inductive MetaPtr where
  | buffer (addr : BitVec 64)
  | sgl (first : SglDesc) (segments : List (List SglDesc))
  deriving DecidableEq, Repr

/-- The data and metadata pointers of a command. -/
structure Walk where
  data : DataPtr
  info : MetaPtr
  deriving DecidableEq, Repr

/-- Pointers of one page at address 0, as a command has them that moves at most a page. -/
def Walk.ok : Walk := ⟨.prp [0], .buffer 0⟩

/-- How a device read of host memory failed (R100); `sram` says that what was read came, and the hub SRAM that holds it lost it (R369). -/
inductive ReadFault where
  | timeout | unsupported | abort | malformed | sram
  deriving DecidableEq, Repr

/-- A request of the host to a function's configuration space, by doubleword, or to the memory of its BAR0 or BAR2, by byte offset (R42,
R97, R105). -/
inductive CfgReq where
  | read (reg : Fin 1024)
  | write (reg : Fin 1024) (v : BitVec 32)
  | barRead (bar2 : Bool) (offset : BitVec 18)
  | barWrite (bar2 : Bool) (offset : BitVec 18) (v : BitVec 32)
  deriving DecidableEq, Repr

/-- A source range of a Copy: first block, count less one, and the expected reference tag, application tag and its mask (R111, R117). -/
structure CopyRange where
  lba : BitVec 64
  nlb : BitVec 16
  refTag : BitVec 64
  appTag : BitVec 16
  appMask : BitVec 16
  deriving DecidableEq, Repr

/-- The protection checks a Copy asks of its sources, and whether it strips their protection information (R111; `PRINFOR`). -/
structure CopyPr where
  act : Bool
  guard_ : Bool
  app : Bool
  ref : Bool
  deriving DecidableEq, Repr

/-- An SPDM request (R104). -/
inductive SpdmReq where
  | getVersion
  | getCapabilities
  | negotiate (p384 sha384 : Bool)
  | getDigests
  | getCertificate (slot : BitVec 8) (offset length : BitVec 16)
  | challenge (slot : BitVec 8) (nonce : BitVec 256)
  | getMeasurements (index : BitVec 8) (signed : Bool) (nonce : BitVec 256)
  | other
  deriving DecidableEq, Repr

/-- A reservation command's fields (R117): action, ignore-existing-key, keys, type, the Persist Through Power Loss change. -/
inductive ResvOp where
  | register (action : BitVec 3) (iekey : Bool) (cptpl : BitVec 2) (crkey nrkey : BitVec 64)
  | acquire (action : BitVec 3) (iekey : Bool) (type : BitVec 8) (crkey prkey : BitVec 64)
  | release (action : BitVec 3) (iekey : Bool) (type : BitVec 8) (crkey : BitVec 64)
  | report
  deriving DecidableEq, Repr

/-- The link fields a received Strait frame carries (R321): its `ACK`, and frames of credit returned to a class. -/
structure Link where
  ack : BitVec 32
  credit : BitVec 12
  cls : BitVec 3
  deriving DecidableEq, Repr

/-- A command to a device namespace (R118, R411 to R422): parts of an image, unloading, activation, memory range sets, Execute
Program, and the SLM commands. `index` is a program index; ranges are SLM offset and length. -/
inductive DevOp where
  | load (index : BitVec 16) (offset : BitVec 32) (data : List Byte)
  | unload (index : BitVec 16)
  | activate (index : BitVec 16) (on : Bool)
  | makeSet (ranges : List (BitVec 64 × BitVec 64))
  | dropSet (id : BitVec 16)
  | execute (index rangeSet : BitVec 16) (params : List Byte)
  | memRead (offset : BitVec 64) (len : BitVec 32)
  | memWrite (offset : BitVec 64) (data : List Byte)
  | memCopy (dst : BitVec 64) (nsid : BitVec 32) (src : List (BitVec 64 × BitVec 16))
  deriving DecidableEq, Repr

/-- A command as `FWD_CMD` carries it (R349). -/
inductive FwdOp where
  | write (lba : BitVec 64) (nlb : BitVec 16)
  | read (lba : BitVec 64) (nlb : BitVec 16)
  | compare (lba : BitVec 64) (nlb : BitVec 16)
  | zeroes (lba : BitVec 64) (nlb : BitVec 16)
  | verify (lba : BitVec 64) (nlb : BitVec 16)
  | deallocate (ranges : List (BitVec 64 × BitVec 32))
  | copy (dst : BitVec 64) (src : List CopyRange) (check : CopyPr)
  | reservation (host : BitVec 128) (op : ResvOp)
  | device (bytes : BitVec 32) (op : DevOp)
  deriving DecidableEq, Repr

/-- A registrant as `RESV_STATE` carries it (R327): controller, host identifier, key. -/
structure Registration where
  cntlid : BitVec 16
  host : BitVec 128
  key : BitVec 64
  deriving DecidableEq, Repr

/-- An entry's value as SYNC carries it (R88, R89): function, index, subindex, bytes. -/
structure SyncVal where
  fn : BitVec 8
  index : BitVec 16
  sub : BitVec 8
  value : List Byte
  deriving DecidableEq, Repr

/-- A namespace as the twin now has it, or gone; `formatted` says that its units were deallocated, `rekeyed` that it has a new key (R89, log 30). -/
structure NsSync where
  nsid : BitVec 32
  gone : Bool
  lbas : BitVec 64
  lbaf : BitVec 4
  dps : BitVec 8
  group : BitVec 32
  attached : List (BitVec 16)
  nguid : BitVec 128
  guard64 : Bool
  extended : Bool
  formatted : Bool
  rekeyed : Bool
  deriving DecidableEq, Repr

/-- A management port's frame (R80, R82): the MCTP endpoint with its `IC` bit and, where that is set, the integrity check it carries; or the
10BASE-T1S addresses, sequence and tag. -/
inductive MgmtPort where
  | mctp (eid : BitVec 8) (ic : Bool) (check : BitVec 32)
  | t1s (dst mac : BitVec 48) (seq : BitVec 64) (auth : List Byte)
  deriving DecidableEq, Repr

/-- Where a header request comes from: a management port, or the Strait (R79). -/
inductive Sender where
  | port (p : MgmtPort)
  | strait (link : Link)
  deriving DecidableEq, Repr

/-- A dictionary access header as a requester sends it, but for the operation and the `STATUS` of 0 (R79). -/
structure HdrIn where
  version : BitVec 8
  tag : BitVec 8
  index : BitVec 16
  sub : BitVec 8
  flags : BitVec 8
  offset : BitVec 32
  length : BitVec 16
  function : BitVec 8
  security : BitVec 8
  deriving DecidableEq, Repr

/-- `SUPERVISOR`: the frame is tagged with a supervisor session key (R79). -/
def HdrIn.supervisor (h : HdrIn) : Bool := h.security.getLsbD 0

/-- Command doublewords 10 to 14 of a Dictionary Read or Write (R75). -/
structure DictCdw where
  cdw10 : BitVec 32
  cdw11 : BitVec 32
  cdw12 : BitVec 32
  cdw13 : BitVec 32
  cdw14 : BitVec 32
  deriving DecidableEq, Repr

/-- `INDEX`. -/
def DictCdw.index (c : DictCdw) : Nat := c.cdw10.toNat % 65536

/-- `SUBINDEX`. -/
def DictCdw.sub (c : DictCdw) : Nat := c.cdw10.toNat / 65536 % 256

/-- `READ_STAGED` of a read, `COMMIT_NOW` of a write. -/
def DictCdw.flag (c : DictCdw) : Bool := c.cdw11.getLsbD 0

/-- `SEGMENT`. -/
def DictCdw.segment (c : DictCdw) : Bool := c.cdw11.getLsbD 1

/-- `LAST_SEGMENT`. -/
def DictCdw.last (c : DictCdw) : Bool := c.cdw11.getLsbD 2

/-- The segment offset. -/
def DictCdw.offset (c : DictCdw) : Nat := c.cdw12.toNat

/-- `LENGTH`. -/
def DictCdw.len (c : DictCdw) : Nat := c.cdw13.toNat

/-- `FUNCTION`. -/
def DictCdw.fn (c : DictCdw) : Nat := c.cdw14.toNat % 256

/-- What a SYNC message says of a Sanitize operation of the subsystem: the sender has begun it, by crypto erase or by block erase, or its part is
done (R116). -/
inductive SanPart where
  | crypto | block | done
  deriving DecidableEq, Repr

/-- A SYNC message: on the Strait, a commit's shared values with its pair commit sequence, or the answer to one, or, with `whole`, all of
a survivor's shared entries and namespaces for a twin that adopts them (R90, log 30); on a management port, a foreign one (R80, R88). -/
inductive SyncMsg where
  | strait (link : Link) (response : Bool) (seq : BitVec 64) (vals : List SyncVal) (ns : List NsSync) (whole : Bool) (status : BitVec 8)
      (san : Option SanPart)
  | port (p : MgmtPort) (h : HdrIn) (value : List Byte)
  deriving DecidableEq, Repr

/-- What a DRAM request is for (R362, R369): payload; control traffic whose error ends with its requester; a map entry
read for a command (R256); one copy of a journal page not yet programmed, with where the other lies (R370); the state table or ring
of a buffer pool (R544); or control traffic whose error
is fatal to a function, a region or the package. -/
inductive DramUse where
  | payload
  | own
  | queueState (fn : BitVec 8)
  | completion (fn : BitVec 8)
  | region (r : Fin 4)
  | mapEntry (set : Fin 2) (segment : BitVec 64) (command : Nat)
  | journal (other : BitVec 38)
  | pool (p : Fin 64)
  | hub
  deriving DecidableEq, Repr

/-- What happens at the DRAM controllers: a request arrives, or a subchannel issues its next one: which banks are busy, whether
the row takes an activate, and what the check bits found. -/
inductive DramOp where
  | arrive (addr : BitVec 38) (write : Option (List Byte)) (poison : Bool) (cls : Fin 5) (port : Option (Fin 5)) (use_ : DramUse)
      (reqType : Fin 6) (reqNum : BitVec 12)
  | issue (chan : Fin 8) (sub : Fin 2) (busy : List (Fin 128)) (act : Bool) (ecc : Ecc)
  deriving DecidableEq, Repr

/-- The core that executes an instruction, and what the check bits found on its fetch. -/
structure Issue where
  core : Fin 132
  fetch : Ecc
  deriving DecidableEq, Repr

/-- An immediate or a displacement: its value, and whether it is written with an extension word although it need not be. -/
structure Imm where
  v : BitVec 32
  long : Bool
  deriving DecidableEq, Repr

/-- A load into a D register: bytes and whether sign-extended. -/
inductive LoadKind where
  | u8 | s8 | u16 | s16 | u32 | s32 | d64
  deriving DecidableEq, Repr

/-- A store of a D register: its low bytes. -/
inductive StoreKind where
  | b8 | b16 | b32 | b64
  deriving DecidableEq, Repr

/-- The loads and stores with the register they name. -/
inductive MemOp where
  | load (k : LoadKind) (d : Fin 16)
  | pair (d : Fin 16)
  | loadA (d : Fin 8)
  | store (k : StoreKind) (d : Fin 16)
  | storePair (d : Fin 16)
  | storeA (d : Fin 8)
  deriving DecidableEq, Repr

/-- How an `ALLOC` reads: a pool's register on the hub, or a core's own port. -/
inductive AllocAt where
  | hub (pool : Fin 64)
  | port
  deriving DecidableEq, Repr

/-- What a device read of host memory was reading. -/
inductive HostRead where
  | entry | list | data
  deriving DecidableEq, Repr

/-- The engines of a region that take descriptors from queues (R467, R494, R516). -/
inductive EngKind where
  | comp | cipher | digest | pat
  deriving DecidableEq, Repr

end Sys2Proof.Machine
end

