-- ==== Sys2Proof/Machine/StateCores.lean ====
section
/-! DEFINITION. The state of the Basiz cores, of programs and of the task scheduler (12 and 13 of spec/). -/
namespace Sys2Proof.Machine

/-- A window: base, limit (its last byte) and rights (R402, R407). -/
structure Window where
  base : Addr
  limit : Addr
  rights : BitVec 8
  deriving DecidableEq, Repr

/-- A window register's reset value: not enabled; `WIN_LIMIT` bits 5–0 read as ones. -/
def Window.init : Window := ⟨0, 0x3F, 0⟩

/-- A `MACX` that has not ended (R396 to R399): accumulator, mode, `UNSIGNED`, where each stream has come to, steps left. -/
structure Macx where
  ac : Fin 4
  mode : BitVec 2
  uns : Bool
  a : Nat
  b : Nat
  left : Nat
  deriving DecidableEq, Repr

/-- A task descriptor with its window set (R434, R435); `order` is its place in enqueue order, `slice` the bytes of cluster
memory it uses, `exec` whether `tag` names an Execute Program. -/
structure Task where
  id : Nat
  tag : Nat
  exec : Bool
  index : Nat
  count : Nat
  program : Nat
  gen : Nat
  fn : Nat
  priority : Nat
  target : Bool
  rsmode : Bool
  entry : Nat
  decHandler : Option Nat
  wins : List Window
  param : Nat
  stamp : Word
  order : Nat
  deriving DecidableEq, Repr

/-- A store to cluster memory that only its own core sees, until a `FENCE` (R12): first byte, bytes, poison mark. -/
structure OwnStore where
  addr : Nat
  data : List Byte
  poison : Bool
  deriving DecidableEq, Repr

/-- One Basiz core (R376, R390, R403, R407). `wins` govern accesses; `nextWins` were last written. `owed` notes, for D0–D15 and
A0–A7, a load that got a bus error and whose value has not been used (R404). `started` says that the task has run its first
instruction (R13); `prefetch` is the core's prefetch slot with the window epoch it recorded (R436, R440); `lastFn` and
`lastGen` are the previous task's function and slot generation (R387, R442); `icache` says that the instruction cache holds
lines; `stores` are the stores to cluster memory not yet fenced, oldest first; `stop` that a task stop waits for the next instruction boundary. -/
structure Core where
  pc : Addr
  d : Vector Word 16
  dp : Vector Bool 16
  a : Vector Addr 8
  ac : Vector (BitVec 128) 4
  acp : Vector Bool 4
  owed : Vector (Option Addr) 24
  rstacks : Vector (List Addr) 2
  rsmode : Bool
  eventEn : Bool
  exl : Bool
  sup : Bool
  halted : Bool
  waiting : Bool
  epc : Addr
  estatus : BitVec 2
  ecause : Word
  eaddr : Addr
  einst : BitVec 32
  vbar : Addr
  wins : Vector Window 8
  nextWins : Vector Window 8
  winsPending : Bool
  draining : Bool
  discarded : Bool
  taskId : BitVec 32
  taskFn : BitVec 8
  sscratch : Vector Word 8
  retired : Word
  macSteps : Word
  macx : Option Macx
  task : Option Task
  started : Bool
  stop : Bool
  prefetch : Option (Task × Nat)
  lastFn : Option Nat
  lastGen : Option (Nat × Nat)
  icache : Bool
  stores : List OwnStore
  deriving DecidableEq, Repr

/-- The states of a loadable slot (R412). -/
inductive SlotState where
  | empty | loading | loaded | active | unloading
  deriving DecidableEq, Repr

/-- A program slot (R412, R418): its image as loaded so far, when its last part came, and the Execute-order number of the
unload command that waits. -/
structure Slot where
  state : SlotState
  fn : Nat
  gen : Nat
  image : List Byte
  at_ : Word
  unload : Option Nat
  deriving DecidableEq, Repr

/-- A memory range of a set: SLM offset and length (R118, R174). -/
structure MemRange where
  base : Nat
  len : Nat
  deriving DecidableEq, Repr

/-- A memory range set: its identifier, the function that made it, its ranges. -/
structure RangeSet where
  id : Nat
  fn : Nat
  ranges : List MemRange
  deriving DecidableEq, Repr

/-- An Execute Program past validation (R422 to R427): its tag, which is its command's order; its task header; the tasks
enqueued and ended; the first fault and the number of faults; whether its next task waits at a stalled port. -/
structure Exec where
  tag : Nat
  fn : Nat
  program : Nat
  gen : Nat
  cls : Nat
  rangeSet : Nat
  count : Nat
  cap : Nat
  mask : Nat
  sels : List Nat
  next : Nat
  region : Nat
  ended : Nat
  faults : Nat
  first : Option (Nat × Nat)
  started : Bool
  stalled : Bool
  deriving DecidableEq, Repr

/-- A descriptor that waits at a stalled enqueue port (R443): region, task, since when. -/
structure Stalled where
  region : Nat
  task : Task
  since : Word
  deriving DecidableEq, Repr

/-- A scheduling trace record (R446). -/
structure TraceRec where
  time : Word
  kind : Nat
  priority : Nat
  target : Bool
  task : Nat
  core : Nat
  fn : Nat
  extra : Nat
  deriving DecidableEq, Repr

/-- Programs and the scheduler: slots, range sets, Execute Programs, ready lists (head first), stalled ports, window epochs
by region × 256 + function, rings of the scheduling trace with the size in force, the core
each cluster's MAC unit served last; `deferred` are the tasks whose deferral by a core limit has been counted (R178). -/
structure Sched where
  slots : Tab Slot
  sets : List RangeSet
  execs : List Exec
  ready : Vector (List Task) 4
  stalled : List Stalled
  epochs : Tab Nat
  traces : Vector (List TraceRec) 4
  traceBytes : Nat
  reservedUnits : Nat
  programArea : Nat
  nextTask : Nat
  nextOrder : Nat
  macLast : Tab Nat
  deferred : List Nat
  deriving DecidableEq, Repr


/-- Empty slots, lists and rings; the sizes in force are the defaults of their entries until start-up loads them. -/
def Sched.init : Sched where
  slots := []
  sets := []
  execs := []
  ready := Vector.replicate 4 []
  stalled := []
  epochs := []
  traces := Vector.replicate 4 []
  traceBytes := 0x100000
  reservedUnits := 1
  programArea := 256
  nextTask := 1
  nextOrder := 0
  macLast := []
  deferred := []

end Sys2Proof.Machine
end

