-- ==== Sys2Proof/Syntax.lean ====
section
/-! DEFINITION. The commands: one constructor for each row of spec/opcode_table.json, in its order, with the operands a command carries and
the outcomes the world outside the package settles (what the check bits found, whether a program passed). -/
namespace Sys2Proof

open Sys2Proof.Machine

/-- A command to the package, or an event at its pins, links, dies or clocks. A constructor's comment gives its row's mnemonic and rule. -/
inductive Instr where
  /-- POWER_ON, R46. -/
  | powerOn
  /-- PERST_DEASSERT, R41. -/
  | perstDeassert (isle : Bool) (twin : Bool) (bootBank : Bool) (csAnswers : Bool)
  /-- PERST_ASSERT, R47. -/
  | perstAssert (sense : BitVec 16)
  /-- HOT_RESET, R46. -/
  | hotReset (sense : BitVec 16)
  /-- CONFIG_REQUEST, R42. -/
  | configRequest (fn : BitVec 8) (q : CfgReq)
  /-- PERSISTENT_ENTRIES_LOADED, R41. -/
  | persistentEntriesLoaded
  /-- DIE_LINKS_TRAINED, R41. -/
  | dieLinksTrained (up : BitVec 4)
  /-- DDR_TRAINING_DONE, R532. -/
  | ddrTrainingDone (org : BitVec 32) (us : BitVec 32) (failed : BitVec 8)
  /-- FIRMWARE_COPY_DONE, R41. -/
  | firmwareCopyDone (copies : BitVec 2)
  /-- TWIN_WAIT_TIMEOUT, R44. -/
  | twinWaitTimeout
  /-- LIVE_MAP_LOADED, R316. -/
  | liveMapLoaded (good : BitVec 64)
  /-- CSTS_RDY_SET, R43. -/
  | cstsRdySet (fn : BitVec 8)
  /-- PF_SLOT_ERASE, R246. -/
  | pfSlotErase
  /-- TIMEBASE_TICK, R34. -/
  | timebaseTick
  /-- TEMPO_SAMPLE, R49. -/
  | tempoSample (r : Fin 4) (rate : BitVec 32)
  /-- TEMPO_COUNT_EXPIRY, R20. -/
  | tempoCountExpiry
  /-- REFCLK_LOSS_DETECTED, R20. -/
  | refclkLossDetected
  /-- HUB_WATCHDOG_EXPIRY, R19. -/
  | hubWatchdogExpiry
  /-- DIE_TEMP_UPDATE, R576. -/
  | dieTempUpdate (t : Vector (BitVec 32) 4)
  /-- THERMAL_TRIP, R38. -/
  | thermalTrip (sense : BitVec 16)
  /-- THERMAL_HOLD_RELEASE, R38. -/
  | thermalHoldRelease (csAnswers : Bool)
  /-- FLIT_REPLAY, R8. -/
  | flitReplay (m : Fin 4)
  /-- DIE_LINK_DOWN_TIMEOUT, R9. -/
  | dieLinkDownTimeout (m : Fin 4)
  /-- REGION_WATCHDOG_EXPIRY, R15. -/
  | regionWatchdogExpiry (r : Fin 4)
  /-- REGION_ONLINE, R16. -/
  | regionOnline (r : Fin 4)
  /-- DICTIONARY_READ, R76. -/
  | dictionaryRead (q : Sqe) (c : DictCdw) (w : Walk)
  /-- DICTIONARY_WRITE, R60. -/
  | dictionaryWrite (q : Sqe) (c : DictCdw) (data : List Byte) (w : Walk)
  /-- DICTIONARY_COMMIT, R64. -/
  | dictionaryCommit (q : Sqe) (cdw10 : BitVec 32)
  /-- DICTIONARY_DISCARD, R63. -/
  | dictionaryDiscard (q : Sqe)
  /-- HEADER_READ, R79. -/
  | headerRead (o : Sender) (h : HdrIn) (value : List Byte)
  /-- HEADER_WRITE, R79. -/
  | headerWrite (o : Sender) (h : HdrIn) (value : List Byte)
  /-- HEADER_COMMIT, R79. -/
  | headerCommit (o : Sender) (h : HdrIn) (value : List Byte)
  /-- HEADER_DISCARD, R79. -/
  | headerDiscard (o : Sender) (h : HdrIn) (value : List Byte)
  /-- GET_EPOCH, R83. -/
  | getEpoch (p : MgmtPort) (h : HdrIn) (value : List Byte)
  /-- CHALLENGE, R86. -/
  | challenge (p : MgmtPort) (h : HdrIn) (value : List Byte)
  /-- ANSWER, R86. -/
  | answer (p : MgmtPort) (h : HdrIn) (value : List Byte)
  /-- NONCE_EXPIRY, R86. -/
  | nonceExpiry (mac : BitVec 48)
  /-- CHALLENGE_LOCKOUT_EXPIRY, R86. -/
  | challengeLockoutExpiry (mac : BitVec 48)
  /-- SYNC, R89. -/
  | sync (m : SyncMsg)
  /-- RESERVED_OP_FRAME, R91. -/
  | reservedOpFrame (t1s : Bool)
  /-- COMMIT_PROCESS, R64. -/
  | commitProcess (written : Bool)
  /-- COMMIT_SHARED_APPLIED, R64. -/
  | commitSharedApplied
  /-- COMMIT_MARKER_WRITTEN, R64. -/
  | commitMarkerWritten (ok : Bool)
  /-- DOMAIN_TRANSFER_TIMEOUT, R71. -/
  | domainTransferTimeout (n : BitVec 8)
  /-- PEER_IDLE_TIMEOUT, R84. -/
  | peerIdleTimeout (mac : BitVec 48)
  /-- I3C_BUS_RESET, R68. -/
  | i3cBusReset
  /-- MCTP_ENDPOINT_REMOVED, R68. -/
  | mctpEndpointRemoved (eid : BitVec 8)
  /-- POISONED_TLP_RECEIVED, R99. -/
  | poisonedTlpReceived (q : Sqe) (what : HostRead)
  /-- HOST_READ_FAILED, R100. -/
  | hostReadFailed (q : Sqe) (what : HostRead) (why : ReadFault)
  /-- SQ_TAIL_DOORBELL, R107. -/
  | sqTailDoorbell (fn : BitVec 8) (q : BitVec 16) (tail : BitVec 16)
  /-- CQ_HEAD_DOORBELL, R107. -/
  | cqHeadDoorbell (fn : BitVec 8) (q : BitVec 16) (head : BitVec 16)
  /-- CONTROLLER_ENABLE, R43. -/
  | controllerEnable (fn : BitVec 8) (asqs : BitVec 12) (acqs : BitVec 12) (asq : BitVec 64) (acq : BitVec 64) (cc : BitVec 32)
  /-- CONTROLLER_RESET, R145. -/
  | controllerReset (fn : BitVec 8)
  /-- CONTROLLER_RESET_DONE, R148. -/
  | controllerResetDone (fn : BitVec 8)
  /-- DELETE_IO_SQ, R145. -/
  | deleteIoSq (q : Sqe) (id : BitVec 16)
  /-- DELETE_IO_CQ, R113. -/
  | deleteIoCq (q : Sqe) (id : BitVec 16)
  /-- CREATE_IO_SQ, R113. -/
  | createIoSq (q : Sqe) (id : BitVec 16) (size : BitVec 16) (cq : BitVec 16) (prio : BitVec 2) (pc : Bool)
  /-- CREATE_IO_CQ, R113. -/
  | createIoCq (q : Sqe) (id : BitVec 16) (size : BitVec 16) (vector : BitVec 16) (pc : Bool) (ien : Bool)
  /-- GET_LOG_PAGE, R124. -/
  | getLogPage (q : Sqe) (lid : BitVec 8) (nsid : BitVec 32) (offset : BitVec 64) (numd : BitVec 32) (rae : Bool) (rgo : Bool) (w : Walk)
  /-- IDENTIFY, R120. -/
  | identify (q : Sqe) (cns : BitVec 8) (nsid : BitVec 32) (cntid : BitVec 16) (csi : BitVec 8) (w : Walk)
  /-- ABORT, R143. -/
  | abort (q : Sqe)
  /-- SET_FEATURES, R121. -/
  | setFeatures (q : Sqe) (fid : BitVec 8) (nsid : BitVec 32) (dw11 : BitVec 32) (data : BitVec 256) (sv : Bool) (w : Walk)
  /-- GET_FEATURES, R121. -/
  | getFeatures (q : Sqe) (fid : BitVec 8) (nsid : BitVec 32) (dw11 : BitVec 32) (sel : BitVec 3) (w : Walk)
  /-- ASYNCHRONOUS_EVENT_REQUEST, R127. -/
  | asynchronousEventRequest (q : Sqe)
  /-- NAMESPACE_CREATE, R114. -/
  | namespaceCreate (q : Sqe) (nsze : BitVec 64) (ncap : BitVec 64) (lbaf : BitVec 4) (dps : BitVec 8) (group : BitVec 32) (guard64 : Bool) (extended : Bool) (shared : Bool) (w : Walk)
  /-- NAMESPACE_DELETE, R114. -/
  | namespaceDelete (q : Sqe) (nsid : BitVec 32)
  /-- NAMESPACE_ATTACH, R113. -/
  | namespaceAttach (q : Sqe) (nsid : BitVec 32) (ctrls : List (BitVec 16)) (w : Walk)
  /-- NAMESPACE_DETACH, R113. -/
  | namespaceDetach (q : Sqe) (nsid : BitVec 32) (ctrls : List (BitVec 16)) (w : Walk)
  /-- FIRMWARE_IMAGE_DOWNLOAD, R115. -/
  | firmwareImageDownload (q : Sqe) (offset : BitVec 32) (numd : BitVec 32) (data : List Byte) (w : Walk)
  /-- FIRMWARE_COMMIT_WRITE, R249. -/
  | firmwareCommitWrite (q : Sqe) (fs : BitVec 3) (fails : Fin 7)
  /-- FIRMWARE_COMMIT_WRITE_SELECT, R249. -/
  | firmwareCommitWriteSelect (q : Sqe) (fs : BitVec 3) (fails : Fin 7)
  /-- FIRMWARE_COMMIT_SELECT, R249. -/
  | firmwareCommitSelect (q : Sqe) (fs : BitVec 3) (action : BitVec 3) (fails : Bool)
  /-- DEVICE_SELF_TEST_SHORT, R151. -/
  | deviceSelfTestShort (q : Sqe)
  /-- DEVICE_SELF_TEST_EXTENDED, R151. -/
  | deviceSelfTestExtended (q : Sqe)
  /-- DEVICE_SELF_TEST_ABORT, R153. -/
  | deviceSelfTestAbort (q : Sqe) (stc : BitVec 4)
  /-- SELFTEST_STEP_START, R150. -/
  | selftestStepStart (region : Option (Fin 4)) (last : Bool) (fails : Bool) (refreshed : List (Fin 32 × Fin 32 × BitVec 16))
  /-- SELFTEST_TIMEOUT, R152. -/
  | selftestTimeout
  /-- KEEP_ALIVE, R113. -/
  | keepAlive (q : Sqe)
  /-- KEEP_ALIVE_EXPIRY, R180. -/
  | keepAliveExpiry (fn : BitVec 8)
  /-- PRIMARY_FLEXIBLE_ALLOCATION, R167. -/
  | primaryFlexibleAllocation (q : Sqe)
  /-- SECONDARY_CONTROLLER_OFFLINE, R172. -/
  | secondaryControllerOffline (q : Sqe) (cntlid : BitVec 16)
  /-- SECONDARY_CONTROLLER_ASSIGN, R167. -/
  | secondaryControllerAssign (q : Sqe) (cntlid : BitVec 16) (nr : BitVec 16) (vi : Bool) (remove : Bool)
  /-- SECONDARY_CONTROLLER_ONLINE, R167. -/
  | secondaryControllerOnline (q : Sqe) (cntlid : BitVec 16)
  /-- FORMAT_NVM, R113. -/
  | formatNvm (q : Sqe) (nsid : BitVec 32) (lbaf : BitVec 4) (dps : BitVec 8) (ses : BitVec 3) (guard64 : Bool) (extended : Bool)
  /-- SECURITY_SEND, R104. -/
  | securitySend (q : Sqe) (secp : BitVec 8) (len : BitVec 32) (m : SpdmReq) (w : Walk)
  /-- SECURITY_RECEIVE, R104. -/
  | securityReceive (q : Sqe) (secp : BitVec 8) (len : BitVec 32) (w : Walk)
  /-- SANITIZE_CRYPTO_ERASE, R484. -/
  | sanitizeCryptoErase (q : Sqe)
  /-- SANITIZE_BLOCK_ERASE, R116. -/
  | sanitizeBlockErase (q : Sqe) (cdw10 : BitVec 10)
  /-- SANITIZE_DONE, R116. -/
  | sanitizeDone
  /-- GET_VERSION, R104. -/
  | spdmGetVersion (doe : Bool)
  /-- GET_CAPABILITIES, R104. -/
  | spdmGetCapabilities (doe : Bool)
  /-- NEGOTIATE_ALGORITHMS, R104. -/
  | spdmNegotiate (p384 : Bool) (sha384 : Bool) (doe : Bool)
  /-- GET_DIGESTS, R104. -/
  | spdmGetDigests (doe : Bool)
  /-- GET_CERTIFICATE, R104. -/
  | spdmGetCertificate (slot : BitVec 8) (offset : BitVec 16) (len : BitVec 16) (doe : Bool)
  /-- SPDM_CHALLENGE, R104. -/
  | spdmChallenge (slot : BitVec 8) (nonce : BitVec 256) (doe : Bool)
  /-- GET_MEASUREMENTS, R104. -/
  | spdmGetMeasurements (index : BitVec 8) (signed : Bool) (nonce : BitVec 256) (doe : Bool)
  /-- FLUSH, R117. -/
  | nvmFlush (q : Sqe) (nsid : BitVec 32)
  /-- NVM_WRITE, R139. -/
  | nvmWrite (q : Sqe) (nsid : BitVec 32) (lba : BitVec 64) (nlb : BitVec 16) (data : List Lba) (pr : PrInfo) (w : Walk)
  /-- NVM_READ, R277. -/
  | nvmRead (q : Sqe) (nsid : BitVec 32) (lba : BitVec 64) (nlb : BitVec 16) (pr : PrInfo) (w : Walk)
  /-- COMPARE, R117. -/
  | nvmCompare (q : Sqe) (nsid : BitVec 32) (lba : BitVec 64) (nlb : BitVec 16) (data : List Lba) (pr : PrInfo) (w : Walk)
  /-- WRITE_ZEROES, R117. -/
  | writeZeroes (q : Sqe) (nsid : BitVec 32) (lba : BitVec 64) (nlb : BitVec 16) (pr : PrInfo)
  /-- DATASET_MANAGEMENT, R292. -/
  | datasetManagement (q : Sqe) (nsid : BitVec 32) (ranges : List (BitVec 64 × BitVec 32)) (ad : Bool) (w : Walk)
  /-- VERIFY, R117. -/
  | nvmVerify (q : Sqe) (nsid : BitVec 32) (lba : BitVec 64) (nlb : BitVec 16) (pr : PrInfo)
  /-- RESERVATION_REGISTER, R117. -/
  | reservationRegister (q : Sqe) (nsid : BitVec 32) (action : BitVec 3) (iekey : Bool) (cptpl : BitVec 2) (crkey : BitVec 64) (nrkey : BitVec 64) (w : Walk)
  /-- RESERVATION_REPORT, R117. -/
  | reservationReport (q : Sqe) (nsid : BitVec 32) (numd : BitVec 32) (eds : Bool) (w : Walk)
  /-- RESERVATION_ACQUIRE, R117. -/
  | reservationAcquire (q : Sqe) (nsid : BitVec 32) (action : BitVec 3) (iekey : Bool) (type : BitVec 8) (crkey : BitVec 64) (prkey : BitVec 64) (w : Walk)
  /-- RESERVATION_RELEASE, R117. -/
  | reservationRelease (q : Sqe) (nsid : BitVec 32) (action : BitVec 3) (iekey : Bool) (type : BitVec 8) (crkey : BitVec 64) (w : Walk)
  /-- COPY, R117. -/
  | nvmCopy (q : Sqe) (nsid : BitVec 32) (sdlba : BitVec 64) (src : List CopyRange) (check : CopyPr) (pr : PrInfo) (w : Walk)
  /-- LOAD_PROGRAM, R418. -/
  | loadProgram (q : Sqe) (nsid : BitVec 32) (index : BitVec 16) (offset : BitVec 32) (data : List Byte) (w : Walk)
  /-- PROGRAM_UNLOAD, R420. -/
  | programUnload (q : Sqe) (nsid : BitVec 32) (index : BitVec 16) (w : Walk)
  /-- SLOT_UNLOADED, R420. -/
  | slotUnloaded (k : BitVec 8)
  /-- LOADING_TIMEOUT, R418. -/
  | loadingTimeout (k : BitVec 8)
  /-- PROGRAM_ACTIVATE, R419. -/
  | programActivate (q : Sqe) (nsid : BitVec 32) (index : BitVec 16) (w : Walk)
  /-- PROGRAM_DEACTIVATE, R419. -/
  | programDeactivate (q : Sqe) (nsid : BitVec 32) (index : BitVec 16) (w : Walk)
  /-- MEMORY_RANGE_SET_MANAGEMENT, R174. -/
  | memoryRangeSetManagement (q : Sqe) (nsid : BitVec 32) (drop : Option (BitVec 16)) (ranges : List (BitVec 64 × BitVec 64)) (w : Walk)
  /-- EXECUTE_PROGRAM, R422. -/
  | executeProgram (q : Sqe) (nsid : BitVec 32) (index : BitVec 16) (rangeSet : BitVec 16) (params : List Byte) (w : Walk)
  /-- MEMORY_READ, R174. -/
  | slmRead (q : Sqe) (nsid : BitVec 32) (offset : BitVec 64) (len : BitVec 32) (w : Walk)
  /-- MEMORY_WRITE, R174. -/
  | slmWrite (q : Sqe) (nsid : BitVec 32) (offset : BitVec 64) (data : List Byte) (w : Walk)
  /-- MEMORY_COPY, R118. -/
  | slmCopy (q : Sqe) (nsid : BitVec 32) (dst : BitVec 64) (src : BitVec 32) (ranges : List (BitVec 64 × BitVec 16)) (w : Walk)
  /-- RANGE_LOCK_ADMIT, R134. -/
  | rangeLockAdmit
  /-- FETCH_ENGINE_RESUME, R137. -/
  | fetchEngineResume (e : Fin 16)
  /-- CLASS0_TOKEN_REFILL, R155. -/
  | class0TokenRefill
  /-- SHARE_TOKEN_REFILL, R170. -/
  | shareTokenRefill (fn : BitVec 8)
  /-- STRIPE_MODE_CHANGE, R160. -/
  | stripeModeChange
  /-- NUMVFS_WRITE, R179. -/
  | numvfsWrite (n : BitVec 16)
  /-- VF_ENABLE, R179. -/
  | vfEnable
  /-- VF_DISABLE, R181. -/
  | vfDisable
  /-- FUNCTION_LEVEL_RESET, R181. -/
  | functionLevelReset (fn : BitVec 8)
  /-- FLR_READS_DRAINED, R181. -/
  | flrReadsDrained (fn : BitVec 8) (left : BitVec 16)
  /-- LATE_COMPLETION, R182. -/
  | lateCompletion (fn : BitVec 8)
  /-- TENANT_SCRUB_DONE, R187. -/
  | tenantScrubDone (fn : BitVec 8)
  /-- PORT_ENABLE, R196. -/
  | portEnable (c : Fin 32)
  /-- PORT_DISABLE, R194. -/
  | portDisable (c : Fin 32)
  /-- RING_RESET, R220. -/
  | ringReset (c : Fin 32)
  /-- RING_RESET_DONE, R220. -/
  | ringResetDone (c : Fin 32)
  /-- DESC_TAIL_DOORBELL, R197. -/
  | descTailDoorbell (c : Fin 32) (tail : BitVec 8)
  /-- MEDIA_DESC_FETCH, R200. -/
  | mediaDescFetch (c : Fin 32) (busErr : Bool)
  /-- READ, R201. -/
  | mediaRead (c : Fin 32) (l : Fin 32)
  /-- READ_CONT, R203. -/
  | mediaReadCont (c : Fin 32) (l : Fin 32)
  /-- PROGRAM, R212. -/
  | mediaProgram (c : Fin 32) (l : Fin 32) (ecc : Ecc)
  /-- ERASE, R213. -/
  | mediaErase (c : Fin 32) (l : Fin 32) (ecc : Ecc)
  /-- MEDIA_GET_FEATURES, R201. -/
  | mediaGetFeatures (c : Fin 32) (l : Fin 32) (die : Option (BitVec 32))
  /-- MEDIA_SET_FEATURES, R201. -/
  | mediaSetFeatures (c : Fin 32) (l : Fin 32) (ready : Bool)
  /-- READ_STATUS, R201. -/
  | mediaReadStatus (c : Fin 32) (l : Fin 32) (status : BitVec 8)
  /-- RESET_LUN, R201. -/
  | mediaResetLun (c : Fin 32) (l : Fin 32)
  /-- RAW, R204. -/
  | mediaRaw (c : Fin 32) (l : Fin 32) (die : List Byte) (waits : BitVec 8) (busErr : Bool)
  /-- SENSE_END, R209. -/
  | senseEnd (c : Fin 32) (l : Fin 32)
  /-- CHANNEL_TRANSFER_END, R161. -/
  | channelTransferEnd (c : Fin 32)
  /-- CODEWORD_DECODED, R217. -/
  | codewordDecoded (c : Fin 32) (l : Fin 32) (r : CwResult)
  /-- PROGRAM_END, R213. -/
  | programEnd (c : Fin 32) (l : Fin 32) (ok : Bool) (status : BitVec 8)
  /-- ERASE_END, R213. -/
  | eraseEnd (c : Fin 32) (l : Fin 32) (ok : Bool) (status : BitVec 8)
  /-- ERASE_SUSPENDED, R209. -/
  | eraseSuspended (c : Fin 32) (l : Fin 32)
  /-- MEDIA_OP_TIMEOUT, R210. -/
  | mediaOpTimeout (c : Fin 32) (l : Fin 32)
  /-- LUN_RECOVERY_END, R210. -/
  | lunRecoveryEnd (c : Fin 32) (l : Fin 32) (ready : Bool)
  /-- CHANNEL_CLAIM_LUN_WAIT, R216. -/
  | channelClaimLunWait (c : Fin 32) (l : Fin 32) (ready : Bool)
  /-- CHANNEL_TRAINING_DONE, R227. -/
  | channelTrainingDone (c : Fin 32) (disagree : BitVec 32) (spare : List (Fin 32 × Fin 8 × BitVec 16 × Byte × Byte))
      (copies : List (List Byte))
  /-- CHANNEL_RETRAIN, R227. -/
  | channelRetrain (c : Fin 32)
  /-- BAD_BLOCK_TABLE_REWRITE, R224. -/
  | badBlockTableRewrite (c : Fin 32)
  /-- CS_ENABLE, R235. -/
  | csEnable
  /-- QUEUE_RESET, R244. -/
  | csQueueReset
  /-- XIP_INVALIDATE, R234. -/
  | xipInvalidate
  /-- CS_DESC_TAIL_DOORBELL, R236. -/
  | csDescTailDoorbell (tail : Fin 64) (busErr : Bool)
  /-- CS_READ, R237. -/
  | csRead (b : Fin 2) (ecc : Ecc)
  /-- CS_PROGRAM, R238. -/
  | csProgram (b : Fin 2) (busErr : Bool)
  /-- CS_ERASE, R241. -/
  | csErase (b : Fin 2)
  /-- BLANK_CHECK, R237. -/
  | csBlankCheck (b : Fin 2)
  /-- CS_PROGRAM_END, R240. -/
  | csProgramEnd (b : Fin 2) (ok : Bool)
  /-- CS_ERASE_END, R240. -/
  | csEraseEnd (b : Fin 2) (ok : Bool)
  /-- CS_OP_TIMEOUT, R243. -/
  | csOpTimeout (b : Fin 2)
  /-- BANK_READY_TIMEOUT, R579. -/
  | csBankTimeout (b : Fin 2)
  /-- XIP_FETCH, R242. -/
  | xipFetch (n : Fin 132) (addr : BitVec 48) (wide : Bool) (ecc : Ecc)
  /-- SOW_ROW, R273. -/
  | sowRow (i : Fin 2) (g : BitVec 8)
  /-- ROW_CONFIRMED, R273. -/
  | rowConfirmed (i : Fin 2) (id : BitVec 32)
  /-- ROW_PROGRAM_FAILED, R274. -/
  | rowProgramFailed (i : Fin 2) (id : BitVec 32)
  /-- END_MARKER_WRITE, R283. -/
  | endMarkerWrite (i : Fin 2) (id : BitVec 32)
  /-- JOURNAL_PAGE_PROGRAMMED, R281. -/
  | journalPageProgrammed (i : Fin 2)
  /-- CHECKPOINT_START, R282. -/
  | checkpointStart (i : Fin 2)
  /-- CHECKPOINT_COMPLETE, R282. -/
  | checkpointComplete (i : Fin 2)
  /-- MAP_SEGMENT_RELOAD, R256. -/
  | mapSegmentReload (i : Fin 2) (seg : BitVec 64)
  /-- DIE_PARITY_REBUILD, R278. -/
  | dieParityRebuild (nsid : BitVec 32) (unit : BitVec 64) (ok : Bool)
  /-- GLEAN_START, R285. -/
  | gleanStart (i : Fin 2)
  /-- GLEAN_MAP_UPDATE, R286. -/
  | gleanMapUpdate (i : Fin 2)
  /-- FURROW_ERASE, R286. -/
  | furrowErase (i : Fin 2) (id : BitVec 32)
  /-- FURROW_ERASE_DONE, R270. -/
  | furrowEraseDone (i : Fin 2) (id : BitVec 32)
  /-- PATROL_READ, R289. -/
  | patrolRead (c : Fin 32) (l : Fin 32) (plane : Fin 8) (block : BitVec 16) (page : BitVec 16)
  /-- STATIC_SWAP, R290. -/
  | staticSwap (i : Fin 2)
  /-- LUN_RETIRED, R291. -/
  | lunRetired (c : Fin 32) (l : Fin 32)
  /-- PWR_FAIL, R296. -/
  | pwrFail (sense : BitVec 16)
  /-- FLUSH_SOWN, R299. -/
  | flushSown
  /-- FLUSH_END, R299. -/
  | flushEnd (sense : BitVec 16) (csAnswers : Bool)
  /-- POWER_RETURN, R312. -/
  | powerReturn (csAnswers : Bool)
  /-- DIRTY_RESERVATION_GRANTED, R303. -/
  | dirtyReservationGranted
  /-- CEILING_RAISE_EFFECTIVE, R304. -/
  | ceilingRaiseEffective
  /-- HU_MEASUREMENT_START, R305. -/
  | huMeasurementStart (sum : BitVec 32)
  /-- HU_TEST_END, R306. -/
  | huTestEnd (sum : BitVec 32)
  /-- HU_PERIOD_EXPIRY, R308. -/
  | huPeriodExpiry
  /-- HU_SERIES_RETRY, R308. -/
  | huSeriesRetry
  /-- HU_SHARED_TIMEOUT, R309. -/
  | huSharedTimeout
  /-- STRAIT_LINK_UP, R320. -/
  | straitLinkUp (tx : Fin 9) (rx : Fin 9) (order : BitVec 2) (invert : BitVec 16)
  /-- STRAIT_FRAME_ERROR, R323. -/
  | straitFrameError
  /-- STRAIT_NAK, R323. -/
  | straitNak (l : Link)
  /-- STRAIT_ACK_SEND, R323. -/
  | straitAckSend
  /-- STRAIT_NOP, R323. -/
  | straitNop (l : Link)
  /-- HELLO, R326. -/
  | hello (l : Link) (sameCode : Bool) (isle : Bool) (single : Bool) (serial : BitVec 64) (pair : BitVec 64) (state : BitVec 8)
  /-- HELLO_ACK, R326. -/
  | helloAck (l : Link)
  /-- MIRROR_SIZE, R328. -/
  | mirrorSize (l : Link) (bytes : BitVec 64) (confirm : Bool)
  /-- MIRROR_FLUSHED, R298. -/
  | mirrorFlushed (l : Link)
  /-- HU_RESULT, R309. -/
  | huResult (l : Link) (c : BitVec 32) (v0 : BitVec 32) (e : BitVec 32)
  /-- RESV_STATE, R327. -/
  | resvState (l : Link) (nsid : BitVec 32) (regs : List Registration) (holder : Option (BitVec 16)) (type : BitVec 8) (gen : BitVec 32) (ptpl : Bool)
  /-- REGION_HANDOVER, R343. -/
  | regionHandover (l : Link) (r : Fin 4) (channels : BitVec 32)
  /-- REGION_RECLAIM, R344. -/
  | regionReclaim (l : Link) (r : Fin 4) (channels : BitVec 32)
  /-- SET_RELEASED, R348. -/
  | setReleased (l : Link) (group : BitVec 8)
  /-- ECHO, R323. -/
  | echo (l : Link) (data : List Byte)
  /-- EVENT_FWD, R549. -/
  | eventFwd (l : Link) (slot : Fin 128)
  /-- UNKNOWN_FRAME, R324. -/
  | unknownFrame (l : Link) (cls : BitVec 8)
  /-- HEARTBEAT_SEND, R335. -/
  | heartbeatSend
  /-- HEARTBEAT, R335. -/
  | heartbeat (l : Link) (timebase : BitVec 64) (pair : BitVec 8) (regions : BitVec 4) (chown : BitVec 32) (shipped : BitVec 64) (applied : BitVec 64) (freeSlots : BitVec 32)
  /-- MIRROR_DESC, R329. -/
  | mirrorDesc (l : Link) (slot : BitVec 32) (nsid : BitVec 32) (unit : BitVec 56) (gen : BitVec 8) (seq : BitVec 64) (piece : BitVec 64) (units : BitVec 16) (crc : BitVec 64) (info : List Byte) (fwdTag : Option (BitVec 32))
  /-- MIRROR_DATA, R330. -/
  | mirrorData (l : Link) (slot : BitVec 32) (chunk : BitVec 8) (data : List Byte)
  /-- MIRROR_ACK, R330. -/
  | mirrorAck (l : Link) (slots : List (BitVec 32))
  /-- MIRROR_FREE, R331. -/
  | mirrorFree (l : Link) (slots : List (BitVec 32))
  /-- MIRROR_DISCARD, R331. -/
  | mirrorDiscard (l : Link) (slots : List (BitVec 32))
  /-- JOURNAL_RECORDS, R333. -/
  | journalRecords (l : Link) (i : Fin 2) (first : BitVec 64) (records : List (List Byte))
  /-- JOURNAL_ACK, R333. -/
  | journalAck (l : Link) (i : Fin 2) (seq : BitVec 64)
  /-- RESYNC_FROM, R334. -/
  | resyncFrom (l : Link) (i : Fin 2) (applied : BitVec 64)
  /-- SEGMENT, R334. -/
  | segment (l : Link) (i : Fin 2) (seg : BitVec 32) (offset : BitVec 32) (entries : List (BitVec 64))
  /-- PAIR_IN_STEP, R334. -/
  | pairInStep
  /-- FWD_CMD, R349. -/
  | fwdCmd (l : Link) (tag : BitVec 32) (cntlid : BitVec 16) (cls : BitVec 8) (nsid : BitVec 32) (q : FwdOp) (pr : PrInfo)
  /-- FWD_PULL, R349. -/
  | fwdPull (l : Link) (tag : BitVec 32) (offset : BitVec 32) (count : BitVec 32)
  /-- FWD_DATA, R349. -/
  | fwdData (l : Link) (tag : BitVec 32) (offset : BitVec 32) (data : List Byte)
  /-- FWD_CPL, R349. -/
  | fwdCpl (l : Link) (tag : BitVec 32) (dw0 : BitVec 32) (dw1 : BitVec 32) (status : BitVec 15) (lba : BitVec 64) (specific : BitVec 16)
  /-- FWD_STOP, R350. -/
  | fwdStop (l : Link) (tags : List (BitVec 32))
  /-- FWD_STOP_ACK, R350. -/
  | fwdStopAck (l : Link) (entries : List (BitVec 32 × BitVec 8))
  /-- MEDIA_REQ, R345. -/
  | mediaReq (l : Link) (c : Fin 32) (number : BitVec 32) (desc : BitVec 256)
  /-- MEDIA_DATA, R345. -/
  | mediaData (l : Link) (number : BitVec 32) (stream : BitVec 8) (offset : BitVec 32) (poisoned : Bool) (data : List Byte)
  /-- MEDIA_CPL, R345. -/
  | mediaCpl (l : Link) (number : BitVec 32) (status : BitVec 8)
  /-- STRAIT_SILENCE, R336. -/
  | straitSilence
  /-- TWIN_FAIL_ASSERTED, R336. -/
  | twinFailAsserted
  /-- TWIN_ALIVE_FALL, R336. -/
  | twinAliveFall
  /-- TAKEOVER_COMPLETE, R340. -/
  | takeoverComplete (found : List (List Byte))
  /-- FAILBACK_COMPLETE, R348. -/
  | failbackComplete
  /-- CHANNEL_CLAIM_MET, R338. -/
  | channelClaimMet (c : Fin 32)
  /-- SIMULTANEOUS_CLAIM, R338. -/
  | simultaneousClaim (c : Fin 32)
  /-- OWNERSHIP_CONFLICT, R338. -/
  | ownershipConflict (c : Fin 32)
  /-- CLAIM_TIMEOUT, R338. -/
  | claimTimeout (c : Fin 32)
  /-- LEAK_INTERVAL_EXPIRY, R357. -/
  | leakIntervalExpiry (cls : Fin 7)
  /-- DRAM_SCRUB_READ, R358. -/
  | dramScrubRead (addr : BitVec 48) (ecc : Ecc)
  /-- TERNARY_REFRESH, R356. -/
  | ternaryRefresh (i : BitVec 18) (ecc : Ecc)
  /-- MOV, R381. -/
  | mov (x : Issue) (d : Fin 16) (a : Fin 16)
  /-- ADD, R381. -/
  | add (x : Issue) (d : Fin 16) (a : Fin 16) (b : Fin 16)
  /-- SUB, R381. -/
  | sub (x : Issue) (d : Fin 16) (a : Fin 16) (b : Fin 16)
  /-- AND, R381. -/
  | and (x : Issue) (d : Fin 16) (a : Fin 16) (b : Fin 16)
  /-- OR, R381. -/
  | or (x : Issue) (d : Fin 16) (a : Fin 16) (b : Fin 16)
  /-- XOR, R381. -/
  | xor (x : Issue) (d : Fin 16) (a : Fin 16) (b : Fin 16)
  /-- ANDN, R381. -/
  | andn (x : Issue) (d : Fin 16) (a : Fin 16) (b : Fin 16)
  /-- SHL, R381. -/
  | shl (x : Issue) (d : Fin 16) (a : Fin 16) (b : Fin 16)
  /-- SHR, R381. -/
  | shr (x : Issue) (d : Fin 16) (a : Fin 16) (b : Fin 16)
  /-- SAR, R381. -/
  | sar (x : Issue) (d : Fin 16) (a : Fin 16) (b : Fin 16)
  /-- ROL, R381. -/
  | rol (x : Issue) (d : Fin 16) (a : Fin 16) (b : Fin 16)
  /-- MUL, R381. -/
  | mul (x : Issue) (d : Fin 16) (a : Fin 16) (b : Fin 16)
  /-- DIVU, R381. -/
  | divu (x : Issue) (d : Fin 16) (a : Fin 16) (b : Fin 16)
  /-- DIV, R381. -/
  | div (x : Issue) (d : Fin 16) (a : Fin 16) (b : Fin 16)
  /-- REMU, R381. -/
  | remu (x : Issue) (d : Fin 16) (a : Fin 16) (b : Fin 16)
  /-- REM, R381. -/
  | rem (x : Issue) (d : Fin 16) (a : Fin 16) (b : Fin 16)
  /-- MINU, R381. -/
  | minu (x : Issue) (d : Fin 16) (a : Fin 16) (b : Fin 16)
  /-- MAXU, R381. -/
  | maxu (x : Issue) (d : Fin 16) (a : Fin 16) (b : Fin 16)
  /-- MIN, R381. -/
  | min (x : Issue) (d : Fin 16) (a : Fin 16) (b : Fin 16)
  /-- MAX, R381. -/
  | max (x : Issue) (d : Fin 16) (a : Fin 16) (b : Fin 16)
  /-- SLT, R381. -/
  | slt (x : Issue) (d : Fin 16) (a : Fin 16) (b : Fin 16)
  /-- SLTU, R381. -/
  | sltu (x : Issue) (d : Fin 16) (a : Fin 16) (b : Fin 16)
  /-- SEQ, R381. -/
  | seq (x : Issue) (d : Fin 16) (a : Fin 16) (b : Fin 16)
  /-- CLZ, R381. -/
  | clz (x : Issue) (d : Fin 16) (a : Fin 16)
  /-- CTZ, R381. -/
  | ctz (x : Issue) (d : Fin 16) (a : Fin 16)
  /-- POPC, R381. -/
  | popc (x : Issue) (d : Fin 16) (a : Fin 16)
  /-- BSWAP, R381. -/
  | bswap (x : Issue) (d : Fin 16) (a : Fin 16)
  /-- CMOVNZ, R395. -/
  | cmovnz (x : Issue) (d : Fin 16) (a : Fin 16) (b : Fin 16)
  /-- ADDC, R381. -/
  | addc (x : Issue) (d : Fin 16) (a : Fin 16) (b : Fin 16)
  /-- SUBB, R381. -/
  | subb (x : Issue) (d : Fin 16) (a : Fin 16) (b : Fin 16)
  /-- MULW, R381. -/
  | mulw (x : Issue) (d : Fin 16) (a : Fin 16) (b : Fin 16)
  /-- MULWU, R381. -/
  | mulwu (x : Issue) (d : Fin 16) (a : Fin 16) (b : Fin 16)
  /-- ADDCC, R381. -/
  | addcc (x : Issue) (d : Fin 16) (a : Fin 16) (b : Fin 16)
  /-- SUBBC, R381. -/
  | subbc (x : Issue) (d : Fin 16) (a : Fin 16) (b : Fin 16)
  /-- MACX, R398. -/
  | macx (x : Issue) (k : Fin 4) (a : Fin 8) (b : Fin 8) (mode : BitVec 2) (postinc : Bool) (clear : Bool) (uns : Bool) (steps : Option (BitVec 16))
  /-- MACX_STEP, R399. -/
  | macxStep (cluster : Fin 16) (ea : LoadEcc) (eb : LoadEcc)
  /-- NOP, R383. -/
  | nop (x : Issue)
  /-- FENCE, R388. -/
  | fence (x : Issue)
  /-- CORE_SYNC, R403. -/
  | coreSync (x : Issue)
  /-- SVC, R383. -/
  | svc (x : Issue)
  /-- TEND, R428. -/
  | tend (x : Issue) (a : Fin 16)
  /-- BRK, R383. -/
  | brk (x : Issue)
  /-- ERET, R405. -/
  | eret (x : Issue)
  /-- JR, R383. -/
  | jr (x : Issue) (a : Fin 16)
  /-- CALLR, R390. -/
  | callr (x : Issue) (a : Fin 16)
  /-- RET, R390. -/
  | ret (x : Issue)
  /-- RPUSH, R390. -/
  | rpush (x : Issue) (a : Fin 16)
  /-- RPOP, R390. -/
  | rpop (x : Issue) (d : Fin 16)
  /-- PCHK, R366. -/
  | pchk (x : Issue) (a : Fin 16)
  /-- WAITEV, R383. -/
  | waitev (x : Issue)
  /-- IINV, R387. -/
  | iinv (x : Issue)
  /-- MOVA, R382. -/
  | mova (x : Issue) (d : Fin 8) (a : Fin 16)
  /-- MOVD, R382. -/
  | movd (x : Issue) (d : Fin 16) (a : Fin 8)
  /-- AADD, R382. -/
  | aadd (x : Issue) (d : Fin 8) (a : Fin 8) (b : Fin 16)
  /-- ASUB, R382. -/
  | asub (x : Issue) (d : Fin 8) (a : Fin 8) (b : Fin 16)
  /-- ADIFF, R382. -/
  | adiff (x : Issue) (d : Fin 16) (a : Fin 8) (b : Fin 8)
  /-- MFCR, R407. -/
  | mfcr (x : Issue) (d : Fin 16) (k : BitVec 12) (long : Bool)
  /-- MTCR, R407. -/
  | mtcr (x : Issue) (d : Fin 16) (k : BitVec 12) (long : Bool)
  /-- ADDI, R382. -/
  | addi (x : Issue) (d : Fin 16) (a : Fin 16) (i : Imm)
  /-- ANDI, R382. -/
  | andi (x : Issue) (d : Fin 16) (a : Fin 16) (i : Imm)
  /-- ORI, R382. -/
  | ori (x : Issue) (d : Fin 16) (a : Fin 16) (i : Imm)
  /-- XORI, R382. -/
  | xori (x : Issue) (d : Fin 16) (a : Fin 16) (i : Imm)
  /-- SHI, R382. -/
  | shi (x : Issue) (d : Fin 16) (a : Fin 16) (kind : Fin 4) (count : Fin 64)
  /-- INSHI, R382. -/
  | inshi (x : Issue) (d : Fin 16) (v : BitVec 32)
  /-- MOVI, R382. -/
  | movi (x : Issue) (d : Fin 16) (i : Imm)
  /-- LEA, R382. -/
  | lea (x : Issue) (d : Fin 8) (a : Fin 8) (i : Imm)
  /-- LD8U, R382. -/
  | ld8u (x : Issue) (d : Fin 16) (a : Fin 8) (i : Imm) (e : LoadEcc)
  /-- LD8S, R382. -/
  | ld8s (x : Issue) (d : Fin 16) (a : Fin 8) (i : Imm) (e : LoadEcc)
  /-- LD16U, R382. -/
  | ld16u (x : Issue) (d : Fin 16) (a : Fin 8) (i : Imm) (e : LoadEcc)
  /-- LD16S, R382. -/
  | ld16s (x : Issue) (d : Fin 16) (a : Fin 8) (i : Imm) (e : LoadEcc)
  /-- LD32U, R382. -/
  | ld32u (x : Issue) (d : Fin 16) (a : Fin 8) (i : Imm) (e : LoadEcc)
  /-- LD32S, R382. -/
  | ld32s (x : Issue) (d : Fin 16) (a : Fin 8) (i : Imm) (e : LoadEcc)
  /-- LD64, R382. -/
  | ld64 (x : Issue) (d : Fin 16) (a : Fin 8) (i : Imm) (e : LoadEcc)
  /-- LDP, R382. -/
  | ldp (x : Issue) (d : Fin 16) (a : Fin 8) (i : Imm) (e : LoadEcc)
  /-- ST8, R382. -/
  | st8 (x : Issue) (d : Fin 16) (a : Fin 8) (i : Imm) (e : LoadEcc)
  /-- ST16, R382. -/
  | st16 (x : Issue) (d : Fin 16) (a : Fin 8) (i : Imm) (e : LoadEcc)
  /-- ST32, R382. -/
  | st32 (x : Issue) (d : Fin 16) (a : Fin 8) (i : Imm) (e : LoadEcc)
  /-- ST64, R382. -/
  | st64 (x : Issue) (d : Fin 16) (a : Fin 8) (i : Imm) (e : LoadEcc)
  /-- STP, R382. -/
  | stp (x : Issue) (d : Fin 16) (a : Fin 8) (i : Imm) (e : LoadEcc)
  /-- LDA, R382. -/
  | lda (x : Issue) (d : Fin 8) (a : Fin 8) (i : Imm) (e : LoadEcc)
  /-- STA, R382. -/
  | sta (x : Issue) (d : Fin 8) (a : Fin 8) (i : Imm) (e : LoadEcc)
  /-- POST_INCREMENT_ACCESS, R382. -/
  | postIncrement (x : Issue) (o : MemOp) (a : Fin 8) (i : Imm) (e : LoadEcc)
  /-- CAS, R389. -/
  | cas (x : Issue) (d : Fin 16) (a : Fin 8) (b : Fin 16) (e : LoadEcc)
  /-- BEQ, R382. -/
  | beq (x : Issue) (a : Fin 16) (b : Fin 16) (i : Imm)
  /-- BNE, R382. -/
  | bne (x : Issue) (a : Fin 16) (b : Fin 16) (i : Imm)
  /-- BLT, R382. -/
  | blt (x : Issue) (a : Fin 16) (b : Fin 16) (i : Imm)
  /-- BGE, R382. -/
  | bge (x : Issue) (a : Fin 16) (b : Fin 16) (i : Imm)
  /-- BLTU, R382. -/
  | bltu (x : Issue) (a : Fin 16) (b : Fin 16) (i : Imm)
  /-- BGEU, R382. -/
  | bgeu (x : Issue) (a : Fin 16) (b : Fin 16) (i : Imm)
  /-- BZ, R382. -/
  | bz (x : Issue) (a : Fin 16) (i : Imm)
  /-- BNZ, R382. -/
  | bnz (x : Issue) (a : Fin 16) (i : Imm)
  /-- BAEQ, R382. -/
  | baeq (x : Issue) (a : Fin 8) (b : Fin 8) (i : Imm)
  /-- BANE, R382. -/
  | bane (x : Issue) (a : Fin 8) (b : Fin 8) (i : Imm)
  /-- BALTU, R382. -/
  | baltu (x : Issue) (a : Fin 8) (b : Fin 8) (i : Imm)
  /-- BDV, R393. -/
  | bdv (x : Issue) (a : Fin 16) (mode : Fin 2) (i : Imm)
  /-- JMP, R384. -/
  | jmp (x : Issue) (i : Imm)
  /-- CALL, R390. -/
  | call (x : Issue) (i : Imm)
  /-- DADD, R391. -/
  | dadd (x : Issue) (d : Fin 16) (a : Fin 16) (b : Fin 16)
  /-- DSUB, R391. -/
  | dsub (x : Issue) (d : Fin 16) (a : Fin 16) (b : Fin 16)
  /-- DADJ, R392. -/
  | dadj (x : Issue) (d : Fin 16) (a : Fin 16) (b : Fin 16)
  /-- PACK, R392. -/
  | pack (x : Issue) (d : Fin 16) (a : Fin 16) (b : Fin 16)
  /-- UNPK, R392. -/
  | unpk (x : Issue) (d : Fin 16) (a : Fin 16)
  /-- UNPKF, R392. -/
  | unpkf (x : Issue) (d : Fin 16) (a : Fin 16)
  /-- DSGN_GET, R391. -/
  | dsgnGet (x : Issue) (d : Fin 16) (a : Fin 16)
  /-- DSGN_STRIP, R391. -/
  | dsgnStrip (x : Issue) (d : Fin 16) (a : Fin 16)
  /-- DSGN_APPLY, R391. -/
  | dsgnApply (x : Issue) (d : Fin 16) (a : Fin 16) (b : Fin 16)
  /-- DSGN_NORM, R391. -/
  | dsgnNorm (x : Issue) (d : Fin 16) (a : Fin 16)
  /-- DCVT, R391. -/
  | dcvt (x : Issue) (d : Fin 16) (a : Fin 16)
  /-- DCVTU, R391. -/
  | dcvtu (x : Issue) (d : Fin 16) (a : Fin 16)
  /-- DACC, R391. -/
  | dacc (x : Issue) (k : Fin 4) (a : Fin 16)
  /-- MTAC, R391. -/
  | mtac (x : Issue) (k : Fin 4) (a : Fin 16)
  /-- MTACS, R391. -/
  | mtacs (x : Issue) (k : Fin 4) (a : Fin 16)
  /-- MTACZ, R391. -/
  | mtacz (x : Issue) (k : Fin 4) (a : Fin 16)
  /-- MTACD, R391. -/
  | mtacd (x : Issue) (k : Fin 4) (a : Fin 16)
  /-- MFAC, R391. -/
  | mfac (x : Issue) (d : Fin 16) (k : Fin 4)
  /-- MFACS, R391. -/
  | mfacs (x : Issue) (d : Fin 16) (k : Fin 4)
  /-- MFACU, R391. -/
  | mfacu (x : Issue) (d : Fin 16) (k : Fin 4)
  /-- MFACD, R391. -/
  | mfacd (x : Issue) (d : Fin 16) (k : Fin 4)
  /-- EVENT_EXCEPTION, R404. -/
  | eventException (n : Fin 132)
  /-- TASK_STOP, R404. -/
  | taskStop (n : Fin 132)
  /-- WSYNC, R403. -/
  | wsync (n : Fin 132)
  /-- CORE_RESTART, R408. -/
  | coreRestart (n : Fin 132)
  /-- TASK_ENQUEUE, R423. -/
  | taskEnqueue (tag : Option (BitVec 32)) (r : Fin 4) (t : Task)
  /-- ENQUEUE_RESUME, R443. -/
  | enqueueResume (r : Fin 4) (target : Bool)
  /-- TASK_DISPATCH, R439. -/
  | taskDispatch (r : Fin 4) (ecc : Ecc) (lost : Bool)
  /-- PREFETCH_FILL, R440. -/
  | prefetchFill (r : Fin 4) (ecc : Ecc) (lost : Bool)
  /-- ENGINE_ENABLE, R467. -/
  | engineEnable (r : Fin 4) (k : EngKind) (on : Bool)
  /-- ENGINE_DESC_DOORBELL, R456. -/
  | engineDescDoorbell (r : Fin 4) (k : EngKind) (q : Fin 64) (tail : Fin 64) (busErr : Bool)
  /-- CONTEXT_RING_RESET, R466. -/
  | contextRingReset (r : Fin 4) (q : Fin 64)
  /-- OPEN, R456. -/
  | compOpen (r : Fin 4) (pipe : Fin 2)
  /-- DATA, R453. -/
  | compData (r : Fin 4) (pipe : Fin 2)
  /-- RESUME, R459. -/
  | compResume (r : Fin 4) (pipe : Fin 2)
  /-- CLOSE, R456. -/
  | compClose (r : Fin 4) (pipe : Fin 2)
  /-- COMP_BOUNDARY, R463. -/
  | compBoundary (r : Fin 4) (pipe : Fin 2) (n : BitVec 16)
  /-- XTS_ENC, R475. -/
  | xtsEnc (r : Fin 4)
  /-- XTS_DEC, R475. -/
  | xtsDec (r : Fin 4)
  /-- GCM_ENC, R476. -/
  | gcmEnc (r : Fin 4)
  /-- GCM_DEC, R477. -/
  | gcmDec (r : Fin 4)
  /-- KW_WRAP, R473. -/
  | kwWrap (r : Fin 4)
  /-- KW_UNWRAP, R473. -/
  | kwUnwrap (r : Fin 4)
  /-- KEY_IMPORT, R481. -/
  | keyImport (r : Fin 4)
  /-- KEY_UNWRAP_LOAD, R481. -/
  | keyUnwrapLoad (r : Fin 4)
  /-- KEY_GENERATE, R481. -/
  | keyGenerate (r : Fin 4)
  /-- KEY_EXPORT, R481. -/
  | keyExport (r : Fin 4)
  /-- KEY_UNLOAD, R482. -/
  | keyUnload (r : Fin 4)
  /-- CIPHER_BOUNDARY, R472. -/
  | cipherBoundary (r : Fin 4) (digest : Bool) (pipe : Fin 2) (n : BitVec 16)
  /-- HASH, R487. -/
  | digestHash (r : Fin 4)
  /-- CTX_EXPORT, R490. -/
  | ctxExport (r : Fin 4)
  /-- CTX_IMPORT, R490. -/
  | ctxImport (r : Fin 4)
  /-- QUEUE_RING_RESET, R493. -/
  | queueRingReset (r : Fin 4) (k : EngKind) (q : Fin 64)
  /-- SEARCH, R499. -/
  | ternSearch (ecc : Ecc) (delayed : Bool)
  /-- NEXT, R500. -/
  | ternNext (ecc : Ecc) (delayed : Bool)
  /-- SEARCH_BATCH, R499. -/
  | ternSearchBatch (ecc : Ecc) (delayed : Bool)
  /-- TERN_WRITE, R501. -/
  | ternWrite (r : Fin 4) (q : Fin 64)
  /-- INVALIDATE, R501. -/
  | ternInvalidate (r : Fin 4) (q : Fin 64) (steps : BitVec 18)
  /-- MOVE_BLOCK, R502. -/
  | moveBlock (r : Fin 4) (q : Fin 64) (steps : BitVec 18)
  /-- TERN_READ, R501. -/
  | ternRead (r : Fin 4) (q : Fin 64)
  /-- SCAN, R509. -/
  | scanStart (r : Fin 4) (lane : Fin 4)
  /-- PATTERN_SET_LOADED, R508. -/
  | patternSetLoaded (r : Fin 4) (lane : Fin 4)
  /-- RESULT_RING_DRAINED, R510. -/
  | resultRingDrained (r : Fin 4) (q : Fin 64) (head : BitVec 32)
  /-- SCAN_BOUNDARY, R511. -/
  | scanBoundary (r : Fin 4) (lane : Fin 4)
  /-- DRAM_REQUEST, R524. -/
  | dramRequest (op : DramOp)
  /-- REQUEST_AGED, R525. -/
  | requestAged (c : Fin 8) (id : BitVec 32)
  /-- PANIC_ENTER, R527. -/
  | panicEnter (port : Fin 5) (level : BitVec 16)
  /-- PANIC_LEAVE, R527. -/
  | panicLeave (port : Fin 5) (level : BitVec 16)
  /-- ROW_TABLE_WINDOW_END, R530. -/
  | rowTableWindowEnd
  /-- DQS_TRACKING, R533. -/
  | dqsTracking (c : Fin 8)
  /-- DRAM_RETRAIN, R533. -/
  | dramRetrain (c : Fin 8) (last : Bool)
  /-- SELF_REFRESH_ENTRY, R533. -/
  | selfRefreshEntry (c : Fin 8)
  /-- ALLOC, R538. -/
  | bufferAlloc (n : Fin 132) (at_ : AllocAt) (lost : Bool)
  /-- HUB_CACHE_REFILL, R538. -/
  | hubCacheRefill (p : Fin 64)
  /-- REGION_CACHE_RECALL, R539. -/
  | regionCacheRecall
  /-- INC, R542. -/
  | bufferInc (n : Fin 132) (hub : Bool) (h : BitVec 32)
  /-- DEC, R542. -/
  | bufferDec (n : Fin 132) (hub : Bool) (h : BitVec 32)
  /-- QUERY, R545. -/
  | bufferQuery (n : Fin 132) (h : BitVec 32)
  /-- CLAIM, R550. -/
  | eventClaim (n : Fin 132) (t : Fin 137)
  /-- COMPLETE, R550. -/
  | eventComplete (n : Fin 132) (t : Fin 137) (src : BitVec 12)
  /-- CLAIM_SELF, R555. -/
  | eventClaimSelf (n : Fin 132)
  /-- COMPLETE_SELF, R555. -/
  | eventCompleteSelf (n : Fin 132) (src : BitVec 12)
  /-- PENDING_WRITE, R552. -/
  | pendingWrite (g : Fin 64) (v : BitVec 32)
  /-- HOLDOFF_EXPIRY, R551. -/
  | holdoffExpiry (g : Fin 64)
  /-- REGISTER_WRITE, R6. -/
  | registerWrite (n : Fin 132) (a : Addr) (wide : Bool) (v : Word)
  /-- POWER_COLLAPSE, R301. -/
  | powerCollapse
  /-- DIE_LINK_LOSS, R9. -/
  | dieLinkLoss (m : Fin 4)
  /-- DIE_LINK_RETRAINED, R9. -/
  | dieLinkRetrained (m : Fin 4)
  /-- STRAIT_LOCK_LOSS, R320. -/
  | straitLockLoss
  /-- PCIE_LINK_TRAINING_DONE, R96. -/
  | pcieLinkTrainingDone (rate : Fin 6) (width : Fin 5) (flit : Bool) (reversed : Bool)
  /-- AGGREGATION_TIME_EXPIRY, R121. -/
  | aggregationTimeExpiry (fn : BitVec 8)
  /-- DRAM_REFRESH, R529. -/
  | dramRefresh (c : Fin 8) (bank : Fin 128)
  /-- ILLEGAL_INSTRUCTION, R380. -/
  | illegalInstruction (x : Issue) (w : BitVec 32) (ext : BitVec 32)
  /-- INVALID_COMMAND_OPCODE, R113. -/
  | invalidCommandOpcode (q : Sqe)
  /-- DOE_DISCOVERY, R104. -/
  | doeDiscovery (index : BitVec 8)
  deriving DecidableEq, Repr

end Sys2Proof
end

