-- ==== Sys2Proof/WellFormed.lean ====
section
/-! DEFINITION. Which commands are well formed: what the types of their operands do not say, from the sizes the spec gives frames,
transfers and descriptors. A command's meaning does not ask for it; the queue of a package that is driven as the spec says holds
only well-formed commands. -/
namespace Sys2Proof

open Sys2Proof.Machine

/-- At most `n` of something. -/
def upTo {α : Type} (n : Nat) (l : List α) : Bool := decide (l.length ≤ n)

/-- A block of host data: 4,096 bytes of data and up to 16 of metadata, bytes past an end being 0 (R110, R111). -/
def blockWf (b : Lba) : Bool := upTo 4096 b.data && upTo 16 b.info

/-- The blocks of a command that names `nlb` + 1 (R117). -/
def blocksWf (nlb : BitVec 16) (l : List Lba) : Bool := upTo (nlb.toNat + 1) l && l.all blockWf

/-- Protection fields: a 16-bit application tag and mask, a reference tag of at most 48 bits (R111). -/
def Machine.PrInfo.wf (p : PrInfo) : Bool := decide (p.appTag < 2 ^ 16) && decide (p.appMask < 2 ^ 16) && decide (p.refTag < 2 ^ 48)

/-- Corrected bits fit the codeword of 36,864 bits (R217). -/
def Machine.CwResult.wf : CwResult → Bool
  | .decoded n => decide (n ≤ 36864)
  | .erased | .failed => true

/-- The data of a device command is at most 2 MiB (R108, R118). -/
def Machine.DevOp.wf : DevOp → Bool
  | .load _ _ b | .execute _ _ b | .memWrite _ b => upTo 2097152 b
  | .memCopy _ _ l => upTo 128 l
  | .makeSet l => upTo 128 l
  | .unload _ | .activate _ _ | .dropSet _ | .memRead _ _ => true

/-- A forwarded command's lists keep the limits of the command itself (R117, R349). -/
def Machine.FwdOp.wf : FwdOp → Bool
  | .deallocate l => !l.isEmpty && upTo 256 l
  | .copy _ l _ => !l.isEmpty && upTo 128 l
  | .device _ d => d.wf
  | .write _ _ | .read _ _ | .compare _ _ | .zeroes _ _ | .verify _ _ | .reservation _ _ => true

/-- A SYNC message's values are entries' values, of at most 8,192 bytes (R60, R88). -/
def Machine.SyncMsg.wf : SyncMsg → Bool
  | .strait _ _ _ l _ _ _ _ => l.all fun v => upTo 8192 v.value
  | .port _ _ b => upTo 65535 b

/-- A task descriptor's fields keep the widths of R434. -/
def Machine.Task.wf (t : Task) : Bool :=
  decide (t.id < 2 ^ 32) && decide (t.tag < 2 ^ 32) && decide (t.index < 2 ^ 32) && decide (t.count < 2 ^ 32) &&
  decide (t.program < 2 ^ 16) && decide (t.gen < 2 ^ 16) && decide (t.fn < 2 ^ 8) && decide (t.priority < 8) &&
  decide (t.entry < 2 ^ 48) && decide (t.param < 2 ^ 48) && upTo 16 t.wins

/-- A DRAM write carries at most the rest of its burst (R519, R524). -/
def Machine.DramOp.wf : DramOp → Bool
  | .arrive a (some b) .. => decide (a.toNat % 64 + b.length ≤ 64)
  | .arrive _ none .. | .issue .. => true

/-- Whether a command is well formed. -/
def Instr.wellFormed (i : Instr) : Bool :=
  match i with
  | .dictionaryWrite _ _ data _ => upTo 65536 data
  | .headerRead _ _ value => upTo 65535 value
  | .headerWrite _ _ value => upTo 65535 value
  | .headerCommit _ _ value => upTo 65535 value
  | .headerDiscard _ _ value => upTo 65535 value
  | .getEpoch _ _ value => upTo 65535 value
  | .challenge _ _ value => upTo 65535 value
  | .answer _ _ value => upTo 65535 value
  | .sync m => m.wf
  | .namespaceAttach _ _ ctrls _ => upTo 2047 ctrls
  | .namespaceDetach _ _ ctrls _ => upTo 2047 ctrls
  | .firmwareImageDownload _ _ numd data _ => upTo (4 * (numd.toNat + 1)) data
  | .nvmWrite _ _ _ nlb data pr _ => blocksWf nlb data && pr.wf
  | .nvmRead _ _ _ _ pr _ => pr.wf
  | .nvmCompare _ _ _ nlb data pr _ => blocksWf nlb data && pr.wf
  | .writeZeroes _ _ _ _ pr => pr.wf
  | .datasetManagement _ _ ranges _ _ => !ranges.isEmpty && upTo 256 ranges
  | .nvmVerify _ _ _ _ pr => pr.wf
  | .nvmCopy _ _ _ src _ pr _ => !src.isEmpty && upTo 128 src && pr.wf
  | .loadProgram _ _ _ _ data _ => upTo 2097152 data
  | .memoryRangeSetManagement _ _ drop ranges _ => drop.isNone || ranges.isEmpty
  | .executeProgram _ _ _ _ params _ => upTo 2097152 params
  | .slmWrite _ _ _ data _ => upTo 2097152 data
  | .mediaRaw _ _ die _ _ => upTo 65536 die
  | .codewordDecoded _ _ r => r.wf
  | .echo _ data => upTo 236 data
  | .mirrorDesc _ _ _ _ _ _ _ units _ info _ => upTo 64 info && decide (1 ≤ units.toNat) && decide (units.toNat ≤ 32)
  | .mirrorData _ _ chunk data => decide (chunk.toNat ≤ 71) && upTo 228 data
  | .mirrorAck _ slots => !slots.isEmpty && upTo 58 slots
  | .mirrorFree _ slots => !slots.isEmpty && upTo 58 slots
  | .mirrorDiscard _ slots => !slots.isEmpty && upTo 58 slots
  | .journalRecords _ _ _ records => !records.isEmpty && upTo 7 records && records.all fun b => b.length == 32
  | .segment _ _ _ _ entries => upTo 28 entries
  | .fwdCmd _ _ _ _ _ q pr => q.wf && pr.wf
  | .fwdData _ _ _ data => upTo 228 data
  | .fwdStop _ tags => !tags.isEmpty && upTo 58 tags
  | .fwdStopAck _ entries => !entries.isEmpty && upTo 38 entries
  | .mediaData _ _ _ _ _ data => upTo 224 data
  | .takeoverComplete found => found.all fun b => b.length == 32
  | .taskEnqueue _ _ t => t.wf
  | .dramRequest op => op.wf
  | .powerOn | .perstDeassert .. | .perstAssert .. | .hotReset .. | .configRequest .. | .persistentEntriesLoaded
  | .dieLinksTrained .. | .ddrTrainingDone .. | .firmwareCopyDone .. | .twinWaitTimeout | .liveMapLoaded .. | .cstsRdySet ..
  | .pfSlotErase | .timebaseTick | .tempoSample .. | .tempoCountExpiry | .refclkLossDetected | .hubWatchdogExpiry
  | .dieTempUpdate .. | .thermalTrip .. | .thermalHoldRelease .. | .flitReplay .. | .dieLinkDownTimeout ..
  | .regionWatchdogExpiry .. | .regionOnline .. | .dictionaryRead .. | .dictionaryCommit .. | .dictionaryDiscard ..
  | .nonceExpiry .. | .challengeLockoutExpiry .. | .reservedOpFrame .. | .commitProcess ..
  | .commitSharedApplied | .commitMarkerWritten .. | .domainTransferTimeout .. | .peerIdleTimeout .. | .i3cBusReset
  | .mctpEndpointRemoved .. | .poisonedTlpReceived .. | .hostReadFailed .. | .sqTailDoorbell .. | .cqHeadDoorbell ..
  | .controllerEnable .. | .controllerReset .. | .controllerResetDone .. | .deleteIoSq .. | .deleteIoCq .. | .createIoSq ..
  | .createIoCq .. | .getLogPage .. | .identify .. | .abort .. | .setFeatures .. | .getFeatures .. | .asynchronousEventRequest ..
  | .namespaceCreate .. | .namespaceDelete .. | .firmwareCommitWrite .. | .firmwareCommitWriteSelect .. | .firmwareCommitSelect ..
  | .deviceSelfTestShort .. | .deviceSelfTestExtended .. | .deviceSelfTestAbort .. | .selftestStepStart .. | .selftestTimeout
  | .keepAlive .. | .keepAliveExpiry .. | .primaryFlexibleAllocation .. | .secondaryControllerOffline ..
  | .secondaryControllerAssign .. | .secondaryControllerOnline .. | .formatNvm .. | .securitySend .. | .securityReceive ..
  | .sanitizeCryptoErase .. | .sanitizeBlockErase .. | .sanitizeDone | .spdmGetVersion .. | .spdmGetCapabilities ..
  | .spdmNegotiate .. | .spdmGetDigests .. | .spdmGetCertificate .. | .spdmChallenge .. | .spdmGetMeasurements .. | .nvmFlush ..
  | .reservationRegister .. | .reservationReport .. | .reservationAcquire .. | .reservationRelease .. | .programUnload ..
  | .slotUnloaded .. | .loadingTimeout .. | .programActivate .. | .programDeactivate .. | .slmRead .. | .slmCopy ..
  | .rangeLockAdmit | .fetchEngineResume .. | .class0TokenRefill | .shareTokenRefill .. | .stripeModeChange | .numvfsWrite ..
  | .vfEnable | .vfDisable | .functionLevelReset .. | .flrReadsDrained .. | .lateCompletion .. | .tenantScrubDone ..
  | .portEnable .. | .portDisable .. | .ringReset .. | .ringResetDone .. | .descTailDoorbell .. | .mediaDescFetch ..
  | .mediaRead .. | .mediaReadCont .. | .mediaProgram .. | .mediaErase .. | .mediaGetFeatures .. | .mediaSetFeatures ..
  | .patrolRead .. | .mediaReadStatus .. | .mediaResetLun .. | .senseEnd .. | .channelTransferEnd .. | .programEnd .. | .eraseEnd ..
  | .eraseSuspended .. | .mediaOpTimeout .. | .lunRecoveryEnd .. | .channelClaimLunWait .. | .channelTrainingDone ..
  | .channelRetrain .. | .badBlockTableRewrite .. | .csEnable | .csQueueReset | .xipInvalidate | .csDescTailDoorbell ..
  | .csRead .. | .csProgram .. | .csErase .. | .csBlankCheck .. | .csProgramEnd .. | .csEraseEnd .. | .csOpTimeout ..
  | .csBankTimeout .. | .xipFetch .. | .sowRow .. | .rowConfirmed .. | .rowProgramFailed .. | .endMarkerWrite ..
  | .journalPageProgrammed .. | .checkpointStart .. | .checkpointComplete .. | .mapSegmentReload .. | .dieParityRebuild ..
  | .gleanStart .. | .gleanMapUpdate .. | .furrowErase .. | .furrowEraseDone .. | .staticSwap .. | .lunRetired .. | .pwrFail ..
  | .flushSown | .flushEnd .. | .powerReturn .. | .dirtyReservationGranted | .ceilingRaiseEffective | .huMeasurementStart ..
  | .huTestEnd .. | .huPeriodExpiry | .huSeriesRetry | .huSharedTimeout | .straitLinkUp .. | .straitFrameError | .straitNak ..
  | .straitAckSend | .straitNop .. | .hello .. | .helloAck .. | .mirrorSize .. | .mirrorFlushed .. | .huResult .. | .resvState ..
  | .regionHandover .. | .regionReclaim .. | .setReleased .. | .eventFwd .. | .unknownFrame .. | .heartbeatSend | .heartbeat ..
  | .journalAck .. | .resyncFrom .. | .pairInStep | .fwdPull .. | .fwdCpl .. | .mediaReq .. | .mediaCpl .. | .straitSilence
  | .twinFailAsserted | .twinAliveFall | .failbackComplete | .channelClaimMet .. | .simultaneousClaim .. | .ownershipConflict ..
  | .claimTimeout .. | .leakIntervalExpiry .. | .dramScrubRead .. | .ternaryRefresh .. | .mov .. | .add .. | .sub .. | .and ..
  | .or .. | .xor .. | .andn .. | .shl .. | .shr .. | .sar .. | .rol .. | .mul .. | .divu .. | .div .. | .remu .. | .rem ..
  | .minu .. | .maxu .. | .min .. | .max .. | .slt .. | .sltu .. | .seq .. | .clz .. | .ctz .. | .popc .. | .bswap .. | .cmovnz ..
  | .addc .. | .subb .. | .mulw .. | .mulwu .. | .addcc .. | .subbc .. | .macx .. | .macxStep .. | .nop .. | .fence ..
  | .coreSync .. | .svc .. | .tend .. | .brk .. | .eret .. | .jr .. | .callr .. | .ret .. | .rpush .. | .rpop .. | .pchk ..
  | .waitev .. | .iinv .. | .mova .. | .movd .. | .aadd .. | .asub .. | .adiff .. | .mfcr .. | .mtcr .. | .addi .. | .andi ..
  | .ori .. | .xori .. | .shi .. | .inshi .. | .movi .. | .lea .. | .ld8u .. | .ld8s .. | .ld16u .. | .ld16s .. | .ld32u ..
  | .ld32s .. | .ld64 .. | .ldp .. | .st8 .. | .st16 .. | .st32 .. | .st64 .. | .stp .. | .lda .. | .sta .. | .postIncrement ..
  | .cas .. | .beq .. | .bne .. | .blt .. | .bge .. | .bltu .. | .bgeu .. | .bz .. | .bnz .. | .baeq .. | .bane .. | .baltu ..
  | .bdv .. | .jmp .. | .call .. | .dadd .. | .dsub .. | .dadj .. | .pack .. | .unpk .. | .unpkf .. | .dsgnGet .. | .dsgnStrip ..
  | .dsgnApply .. | .dsgnNorm .. | .dcvt .. | .dcvtu .. | .dacc .. | .mtac .. | .mtacs .. | .mtacz .. | .mtacd .. | .mfac ..
  | .mfacs .. | .mfacu .. | .mfacd .. | .eventException .. | .taskStop .. | .wsync .. | .coreRestart .. | .enqueueResume ..
  | .taskDispatch .. | .prefetchFill .. | .engineEnable .. | .engineDescDoorbell .. | .contextRingReset .. | .compOpen ..
  | .compData .. | .compResume .. | .compClose .. | .compBoundary .. | .xtsEnc .. | .xtsDec .. | .gcmEnc .. | .gcmDec ..
  | .kwWrap .. | .kwUnwrap .. | .keyImport .. | .keyUnwrapLoad .. | .keyGenerate .. | .keyExport .. | .keyUnload ..
  | .cipherBoundary .. | .digestHash .. | .ctxExport .. | .ctxImport .. | .queueRingReset .. | .ternSearch .. | .ternNext ..
  | .ternSearchBatch .. | .ternWrite .. | .ternInvalidate .. | .moveBlock .. | .ternRead .. | .scanStart .. | .patternSetLoaded ..
  | .resultRingDrained .. | .scanBoundary .. | .requestAged .. | .panicEnter .. | .panicLeave .. | .rowTableWindowEnd
  | .dqsTracking .. | .dramRetrain .. | .selfRefreshEntry .. | .bufferAlloc .. | .hubCacheRefill .. | .regionCacheRecall
  | .bufferInc .. | .bufferDec .. | .bufferQuery .. | .eventClaim .. | .eventComplete .. | .eventClaimSelf ..
  | .eventCompleteSelf .. | .pendingWrite .. | .holdoffExpiry .. | .registerWrite .. | .powerCollapse | .dieLinkLoss ..
  | .dieLinkRetrained .. | .straitLockLoss | .pcieLinkTrainingDone .. | .aggregationTimeExpiry .. | .dramRefresh ..
  | .illegalInstruction .. | .invalidCommandOpcode .. | .doeDiscovery .. => true

end Sys2Proof
end

