-- ==== Sys2Proof/Decode.lean ====
section
/-! DEFINITION. Words that spell commands. spec/opcode_table.json gives its rows no bits: the package is driven by register accesses,
frames and pins and not by words of one encoding, so no word spells a command. -/
namespace Sys2Proof

/-- The command that a word of the table's bits spells: none, as no row has bits. -/
def decodeTableWord (_nbits _w : Nat) : Option Instr := none

end Sys2Proof
end

