-- ==== Sys2Proof/Config.lean ====
section
/-! DEFINITION. The free values: constants with no body, which nothing in Lean can evaluate. Each stands for a value the spec
leaves open, and the assumption log names the entry. -/
namespace Sys2Proof

/-- The n-th fresh free value drawn (log 3): applied to the counter `State.free`. -/
opaque Config.freeValue : Nat → BitVec 64

/-- The n-th fresh string of random bytes of a given length (log 4): nonces, generated keys. -/
opaque Config.randomBytes : Nat → Nat → List Byte

/-- What a counter entry reads once its exact count no longer fits its type (log 5): entry key, exact count. -/
opaque Config.counterPast : Nat → Nat → Nat

/-- The format and the window of the storage contexts (log 6): whether DEFLATE, and the window's logarithm. -/
opaque Config.storageFormat : Bool × Nat

/-- The data and metadata bytes of a codeword that the twin programmed (log 7): PPN × 4 + codeword. -/
opaque Config.sownBytes : Nat → List Byte

/-- The row of a LUN that the address bytes of an ONFI cycle name: the dies' own, which the spec does not lay out (log 142). -/
opaque Config.onfiRow : List Nat → Nat

/-- The package's own factory serial and code-store option as tested (log 8). -/
opaque Config.factorySerial : Nat

/-- Whether the part is a CS4 (log 8). -/
opaque Config.isCS4 : Bool

/-- The tempo floor measured at test, per region, as its excess over 1,400 (log 8, R33). -/
opaque Config.tempoFloorExcess : Nat → Nat

/-- Whether an image's signature and format verify (log 9). -/
opaque Config.imageVerifies : List (Nat × Byte) → Nat → Bool

/-- The factory device certificate chain of slot 0 (log 8). -/
opaque Config.certChain : List Byte

/-- The signature a key makes over a message (log 10). -/
opaque Config.signature : List Byte → List Byte

/-- Where the firmware has put SLM in DRAM (log 20): as a place among the 16 KiB blocks. -/
opaque Config.slmPlace : Nat

/-- Where a program slot's image lies in DRAM (log 20): as a place among the 8 MiB blocks. -/
opaque Config.programPlace : Nat → Nat

/-- Where the code of a fixed program lies in DRAM (log 20): as a place among the 64-byte blocks. -/
opaque Config.fixedPlace : Nat → Nat

/-- Where an Execute Program's parameter block lies in DRAM (log 20): as a place among the 4 KiB blocks. -/
opaque Config.paramPlace : Nat → Nat

/-- Where pool 0 lies in DRAM (log 20): as a place among the 16 KiB blocks. -/
opaque Config.poolPlace : Nat

/-- Whether a signature over a message verifies under a P-384 public key (log 10): key, message, signature. -/
opaque Config.signatureVerifies : List Byte → List Byte → List Byte → Bool

/-- What the codec makes of all the input of a history (R449, log 41): the output; for each frame or member that ended, its check value as stored,
its status, `LEN_DIFF`, and where it ends in input and output; the ends of its blocks in input and output; the input used; and a
status for what follows the last frame. -/
structure Machine.Coded where
  out : List Byte
  frames : List (Nat × Nat × Bool × Nat × Nat)
  blocks : List (Nat × Nat)
  used : Nat
  status : Nat
  deriving DecidableEq, Repr, Inhabited

/-- The codec (log 41): a context's parameters, and the runs of input taken in with the flag that ended each. -/
opaque Config.codec : Nat → List (List Byte × Nat) → Machine.Coded

/-- The digest of the geometry entries in a LUN's identity record, whose algorithm the spec does not name (R223). -/
opaque Config.geometryDigest : List Nat → List Byte

/-- The window the fixed programs choose for Zstandard (log 145). -/
opaque Config.fixedWindow : Nat

/-- A byte of memory that a reset has left undefined (log 44): which reset, and the address. -/
opaque Config.undefinedByte : Nat → Nat → Byte

/-- The public key of a P-384 private key (log 42). -/
opaque Config.publicKey : List Byte → List Byte

/-- The ECDH shared secret of a private and a public key (log 42). -/
opaque Config.ecdh : List Byte → List Byte → List Byte

/-- What `LAST_RESET_KIND` reads after a power failure whose rails held (log 70). -/
opaque Config.heldResetKind : Nat

/-- Which of the contiguous runs that would do a function's engine queues take (log 72): queue key of the engine, function, queues asked for. -/
opaque Config.runPlace : Nat → Nat → Nat → Nat

/-- A doubleword of a capability whose contents the spec does not give (log 73): by its number. -/
opaque Config.configFree : Nat → BitVec 32

/-- The OUI that Septud is assigned (log 8). -/
opaque Config.ieee : BitVec 24

/-- The firmware revision that a code-store image's digest stands for (log 26). -/
opaque Config.firmwareName : List Byte → List Byte

/-- The NGUID made of a serial number and a namespace identifier (log 26): R120 gives no construction. -/
opaque Config.nguid : Nat → Nat → BitVec 128

/-- How many functions the twin has enabled (log 26): what the other Isle's virtual functions are, this one is not told. -/
opaque Config.twinVfs : BitVec 8

/-- Refreshes of a bank that may be postponed (log 53): the limit of JESD79-5, which the spec names and does not state. -/
opaque Config.refreshPostpone : Nat

end Sys2Proof
end

