-- ==== Sys2Proof/Machine/Bits.lean ====
section
/-! DEFINITION. Bit fields, byte strings, and the check sums and digests the spec names by their standards. -/
namespace Sys2Proof.Machine

/-- Bits `lo + len - 1` to `lo` of a number. -/
def bits (n lo len : Nat) : Nat := (n >>> lo) % 2 ^ len

/-- One bit of a number. -/
def bit (n i : Nat) : Bool := bits n i 1 == 1

/-- 1 for true. -/
def b2n (b : Bool) : Nat := if b then 1 else 0

/-- A number with one bit set or cleared. -/
def setBit (n i : Nat) (b : Bool) : Nat :=
  if b then n ||| (1 <<< i) else if bit n i then n - (1 <<< i) else n

/-- The `n` low bytes of a number, least significant first. -/
def leBytes : Nat → Nat → List Byte
  | 0, _ => []
  | n + 1, v => BitVec.ofNat 8 v :: leBytes n (v / 256)

/-- The number a byte string holds, least significant byte first. -/
def ofLe : List Byte → Nat
  | [] => 0
  | b :: r => b.toNat + 256 * ofLe r

/-- The `n` low bytes of a number, most significant first. -/
def beBytes (n v : Nat) : List Byte := (leBytes n v).reverse

/-- The number a byte string holds, most significant byte first. -/
def ofBe (l : List Byte) : Nat := ofLe l.reverse

/-- Byte `i` of a string, 0 past its end. -/
def byteAt (l : List Byte) (i : Nat) : Byte := (l[i]?).getD 0

/-- The `n` bytes of a string from byte `i`, 0 past its end. -/
def slice (l : List Byte) (i n : Nat) : List Byte := (List.range n).map fun j => byteAt l (i + j)

/-- A string cut or filled with zero to `n` bytes. -/
def padTo (n : Nat) (l : List Byte) : List Byte := (l.take n) ++ List.replicate (n - l.length) 0

/-- A string without its trailing zero bytes: the canonical form of bytes that read as 0 past the end. -/
def trimZeros (l : List Byte) : List Byte := (l.reverse.dropWhile (· == 0)).reverse

/-- Two strings with the second laid over the first from byte `i`. -/
def overlay (l : List Byte) (i : Nat) (x : List Byte) : List Byte :=
  padTo i l ++ x ++ l.drop (i + x.length)

/-- The number of one bits among the low `n`. -/
def popCount : Nat → Nat → Nat
  | 0, _ => 0
  | n + 1, v => v % 2 + popCount n (v / 2)

/-- The positions of the one bits among the low `n`. -/
def bitList (n v : Nat) : List Nat := (List.range n).filter fun i => bit v i

/-- `f` applied `n` times. -/
def iter {α : Type} (f : α → α) : Nat → α → α
  | 0, a => a
  | n + 1, a => iter f n (f a)

/-- The first element a test keeps. -/
def firstIn {α : Type} (p : α → Bool) (l : List α) : Option α := l.find? p

/-- A list with the elements a test keeps changed by `f`. -/
def updateIf {α : Type} (p : α → Bool) (f : α → α) (l : List α) : List α := l.map fun a => if p a then f a else a

/-- The sum of a list. -/
def sumOf {α : Type} (f : α → Nat) (l : List α) : Nat := l.foldl (fun n a => n + f a) 0

/-- Division rounded up. -/
def ceilDiv (a b : Nat) : Nat := (a + b - 1) / b

/-- One byte of a reflected CRC. -/
def crcByte (poly : Nat) (c : Nat) (b : Byte) : Nat :=
  iter (fun c => if c % 2 = 1 then (c / 2) ^^^ poly else c / 2) 8 (c ^^^ b.toNat)

/-- CRC-32C (the Castagnoli polynomial, reflected, all ones in and out). -/
def crc32c (l : List Byte) : Nat :=
  (l.foldl (crcByte 0x82F63B78) 0xFFFFFFFF) ^^^ 0xFFFFFFFF

/-- CRC-32 of IEEE 802.3, the frame check sequence of Ethernet (R82). -/
def crc32 (l : List Byte) : Nat :=
  (l.foldl (crcByte 0xEDB88320) 0xFFFFFFFF) ^^^ 0xFFFFFFFF

/-- The 64-bit guard CRC of the NVM Command Set (R257). -/
def crc64 (l : List Byte) : Nat :=
  (l.foldl (crcByte 0x9A6C9329AC4BC9B5) 0xFFFFFFFFFFFFFFFF) ^^^ 0xFFFFFFFFFFFFFFFF

/-- The 16-bit guard CRC of T10 protection information (R111), most significant bit first. -/
def crc16 (l : List Byte) : Nat :=
  l.foldl (fun c b => iter (fun c => if c ≥ 0x8000 then ((c * 2) % 65536) ^^^ 0x8BB7 else (c * 2) % 65536) 8
    (c ^^^ (b.toNat * 256))) 0

/-- The SHA-256 round constants. -/
def sha256K : List Nat :=
  [0x428a2f98, 0x71374491, 0xb5c0fbcf, 0xe9b5dba5, 0x3956c25b, 0x59f111f1, 0x923f82a4, 0xab1c5ed5] ++
  [0xd807aa98, 0x12835b01, 0x243185be, 0x550c7dc3, 0x72be5d74, 0x80deb1fe, 0x9bdc06a7, 0xc19bf174] ++
  [0xe49b69c1, 0xefbe4786, 0x0fc19dc6, 0x240ca1cc, 0x2de92c6f, 0x4a7484aa, 0x5cb0a9dc, 0x76f988da] ++
  [0x983e5152, 0xa831c66d, 0xb00327c8, 0xbf597fc7, 0xc6e00bf3, 0xd5a79147, 0x06ca6351, 0x14292967] ++
  [0x27b70a85, 0x2e1b2138, 0x4d2c6dfc, 0x53380d13, 0x650a7354, 0x766a0abb, 0x81c2c92e, 0x92722c85] ++
  [0xa2bfe8a1, 0xa81a664b, 0xc24b8b70, 0xc76c51a3, 0xd192e819, 0xd6990624, 0xf40e3585, 0x106aa070] ++
  [0x19a4c116, 0x1e376c08, 0x2748774c, 0x34b0bcb5, 0x391c0cb3, 0x4ed8aa4a, 0x5b9cca4f, 0x682e6ff3] ++
  [0x748f82ee, 0x78a5636f, 0x84c87814, 0x8cc70208, 0x90befffa, 0xa4506ceb, 0xbef9a3f7, 0xc67178f2]

/-- The SHA-512 round constants. -/
def sha512K : List Nat :=
  [0x428a2f98d728ae22, 0x7137449123ef65cd, 0xb5c0fbcfec4d3b2f, 0xe9b5dba58189dbbc, 0x3956c25bf348b538] ++
  [0x59f111f1b605d019, 0x923f82a4af194f9b, 0xab1c5ed5da6d8118, 0xd807aa98a3030242, 0x12835b0145706fbe] ++
  [0x243185be4ee4b28c, 0x550c7dc3d5ffb4e2, 0x72be5d74f27b896f, 0x80deb1fe3b1696b1, 0x9bdc06a725c71235] ++
  [0xc19bf174cf692694, 0xe49b69c19ef14ad2, 0xefbe4786384f25e3, 0x0fc19dc68b8cd5b5, 0x240ca1cc77ac9c65] ++
  [0x2de92c6f592b0275, 0x4a7484aa6ea6e483, 0x5cb0a9dcbd41fbd4, 0x76f988da831153b5, 0x983e5152ee66dfab] ++
  [0xa831c66d2db43210, 0xb00327c898fb213f, 0xbf597fc7beef0ee4, 0xc6e00bf33da88fc2, 0xd5a79147930aa725] ++
  [0x06ca6351e003826f, 0x142929670a0e6e70, 0x27b70a8546d22ffc, 0x2e1b21385c26c926, 0x4d2c6dfc5ac42aed] ++
  [0x53380d139d95b3df, 0x650a73548baf63de, 0x766a0abb3c77b2a8, 0x81c2c92e47edaee6, 0x92722c851482353b] ++
  [0xa2bfe8a14cf10364, 0xa81a664bbc423001, 0xc24b8b70d0f89791, 0xc76c51a30654be30, 0xd192e819d6ef5218] ++
  [0xd69906245565a910, 0xf40e35855771202a, 0x106aa07032bbd1b8, 0x19a4c116b8d2d0c8, 0x1e376c085141ab53] ++
  [0x2748774cdf8eeb99, 0x34b0bcb5e19b48a8, 0x391c0cb3c5c95a63, 0x4ed8aa4ae3418acb, 0x5b9cca4f7763e373] ++
  [0x682e6ff3d6b2b8a3, 0x748f82ee5defb2fc, 0x78a5636f43172f60, 0x84c87814a1f0ab72, 0x8cc702081a6439ec] ++
  [0x90befffa23631e28, 0xa4506cebde82bde9, 0xbef9a3f7b2c67915, 0xc67178f2e372532b, 0xca273eceea26619c] ++
  [0xd186b8c721c0c207, 0xeada7dd6cde0eb1e, 0xf57d4f7fee6ed178, 0x06f067aa72176fba, 0x0a637dc5a2c898a6] ++
  [0x113f9804bef90dae, 0x1b710b35131c471b, 0x28db77f523047d84, 0x32caab7b40c72493, 0x3c9ebe0a15c9bebc] ++
  [0x431d67c49c100d4c, 0x4cc5d4becb3e42b6, 0x597f299cfc657e2a, 0x5fcb6fab3ad6faec, 0x6c44198c4a475817]

/-- The parts of a SHA-2 function that depend on its word size: word bits, rotation amounts, constants. -/
structure ShaParams where
  w : Nat
  s0 : List Nat
  s1 : List Nat
  e0 : List Nat
  e1 : List Nat
  k : List Nat
  deriving Repr

/-- SHA-256's parameters. -/
def sha256P : ShaParams := ⟨32, [7, 18, 3], [17, 19, 10], [2, 13, 22], [6, 11, 25], sha256K⟩

/-- SHA-384's and SHA-512's parameters. -/
def sha512P : ShaParams := ⟨64, [1, 8, 7], [19, 61, 6], [28, 34, 39], [14, 18, 41], sha512K⟩

/-- Rotate right within `w` bits. -/
def rotr (w x n : Nat) : Nat := (x >>> n ||| x <<< (w - n)) % 2 ^ w

/-- The XOR of two rotations and a third, rotated or shifted. -/
def shaSigma (w : Nat) (r : List Nat) (shiftLast : Bool) (x : Nat) : Nat :=
  match r with
  | [a, b, c] => rotr w x a ^^^ rotr w x b ^^^ (if shiftLast then x >>> c else rotr w x c)
  | _ => 0

/-- The message schedule, newest word first. -/
def shaSchedule (p : ShaParams) : Nat → List Nat → List Nat
  | 0, l => l
  | n + 1, l =>
    let at_ (i : Nat) := (l[i]?).getD 0
    let x := (shaSigma p.w p.s1 true (at_ 1) + at_ 6 + shaSigma p.w p.s0 true (at_ 14) + at_ 15) % 2 ^ p.w
    shaSchedule p n (x :: l)

/-- One round on the eight working variables. -/
def shaRound (p : ShaParams) (st : List Nat) (kw : Nat × Nat) : List Nat :=
  match st with
  | [a, b, c, d, e, f, g, h] =>
    let ch := (e &&& f) ^^^ ((2 ^ p.w - 1 - e) &&& g)
    let t1 := h + shaSigma p.w p.e1 false e + ch + kw.1 + kw.2
    let t2 := shaSigma p.w p.e0 false a + ((a &&& b) ^^^ (a &&& c) ^^^ (b &&& c))
    [(t1 + t2) % 2 ^ p.w, a, b, c, (d + t1) % 2 ^ p.w, e, f, g]
  | _ => st

/-- Words of `n` bytes, most significant byte first. -/
def beWords (n : Nat) : Nat → List Byte → List Nat
  | 0, _ => []
  | c + 1, l => ofBe (l.take n) :: beWords n c (l.drop n)

/-- One block. -/
def shaBlock (p : ShaParams) (st : List Nat) (block : List Byte) : List Nat :=
  let ws := (shaSchedule p (p.k.length - 16) (beWords (p.w / 8) 16 block).reverse).reverse
  List.zipWith (fun a b => (a + b) % 2 ^ p.w) st ((p.k.zip ws).foldl (shaRound p) st)

/-- The blocks of a padded message, `c` of them. -/
def shaBlocks (p : ShaParams) : Nat → List Nat → List Byte → List Nat
  | 0, st, _ => st
  | c + 1, st, l => shaBlocks p c (shaBlock p st (l.take (2 * p.w))) (l.drop (2 * p.w))

/-- The padding for a message of `n` bytes. -/
def shaPad (p : ShaParams) (n : Nat) : List Byte :=
  let blk := 2 * p.w
  let lenB := p.w / 4
  let z := (2 * blk - 1 - lenB - n % blk) % blk
  0x80 :: List.replicate z 0 ++ beBytes lenB (8 * n)

/-- A SHA-2 digest: the whole state as bytes. -/
def sha2 (p : ShaParams) (iv : List Nat) (l : List Byte) : List Byte :=
  let m := l ++ shaPad p l.length
  (shaBlocks p (m.length / (2 * p.w)) iv m).flatMap (beBytes (p.w / 8))

/-- SHA-256 initial value. -/
def sha256Iv : List Nat :=
  [0x6a09e667, 0xbb67ae85, 0x3c6ef372, 0xa54ff53a, 0x510e527f, 0x9b05688c, 0x1f83d9ab, 0x5be0cd19]

/-- SHA-384 initial value. -/
def sha384Iv : List Nat :=
  [0xcbbb9d5dc1059ed8, 0x629a292a367cd507, 0x9159015a3070dd17, 0x152fecd8f70e5939] ++
  [0x67332667ffc00b31, 0x8eb44a8768581511, 0xdb0c2e0d64f98fa7, 0x47b5481dbefa4fa4]

/-- SHA-512 initial value. -/
def sha512Iv : List Nat :=
  [0x6a09e667f3bcc908, 0xbb67ae8584caa73b, 0x3c6ef372fe94f82b, 0xa54ff53a5f1d36f1] ++
  [0x510e527fade682d1, 0x9b05688c2b3e6c1f, 0x1f83d9abfb41bd6b, 0x5be0cd19137e2179]

/-- SHA-256. -/
def sha256 (l : List Byte) : List Byte := sha2 sha256P sha256Iv l

/-- SHA-384. -/
def sha384 (l : List Byte) : List Byte := (sha2 sha512P sha384Iv l).take 48

/-- SHA-512. -/
def sha512 (l : List Byte) : List Byte := sha2 sha512P sha512Iv l

/-- The XOR of a key block with a constant byte. -/
def xorConst (n : Nat) (k : List Byte) (c : Byte) : List Byte := (padTo n k).map (· ^^^ c)

/-- HMAC over a hash of a given block size. -/
def hmac (h : List Byte → List Byte) (block : Nat) (key msg : List Byte) : List Byte :=
  let k := if key.length > block then h key else key
  h (xorConst block k 0x5C ++ h (xorConst block k 0x36 ++ msg))

/-- HMAC-SHA-256. -/
def hmac256 (key msg : List Byte) : List Byte := hmac sha256 64 key msg

end Sys2Proof.Machine
end

