-- ==== Sys2Proof/Machine/DictTable.lean ====
section
/-! DEFINITION. The object dictionary as tables: one row for each entry the chapters define, with its type, access,
tier, default, fixed range and persistence (R49, R95, R129 and the other entry tables of spec/). -/
namespace Sys2Proof.Machine

/-- Value types (R51). -/
inductive EType where
  | bool | uint (bytes : Nat) | sint (bytes : Nat) | str (n : Nat) | octets (n : Nat) | domain (limit : Nat)
  deriving DecidableEq, Repr

/-- Access codes (R52). -/
inductive Access where
  | ro | wo | rw | rwc
  deriving DecidableEq, Repr

/-- Persistence (R53). -/
inductive Persist where
  | volatile | persistent | factory
  deriving DecidableEq, Repr

/-- Scope (R57): one instance, or one per function, perhaps self-readable. -/
inductive EScope where
  | package | function (selfReadable : Bool)
  deriving DecidableEq, Repr

/-- Defaults (R54): a value, a pair for PF and VF, pool 0's own, the host lines' 60 to 63, a text, one an entry table
names in words, or none settable. -/
inductive EDefault where
  | none | val (v : Nat) | pfVf (pf vf : Nat) | pool0 (v : Nat) | lines | text (s : String) | named (what : String)
  deriving DecidableEq, Repr

/-- The fixed range of an entry, checked when a write arrives (R60). `below n` admits only bits below `n`. -/
inductive ERange where
  | any | between (lo hi : Nat) | oneOf (l : List Nat) | multiple (m : Nat) | steps (lo hi step : Nat)
  | powerOfTwo (lo hi : Nat) | below (bits : Nat)
  deriving DecidableEq, Repr

/-- One row of an entry table. `count` records stand at `index`, `index + 1`, …; a row may give several subindexes. -/
structure EntryRow where
  index : Nat
  count : Nat
  sub : Nat
  subLast : Nat
  type : EType
  access : Access
  tier : Nat
  default : EDefault
  range : ERange
  persist : Persist
  scope : EScope
  shared : Bool
  deriving DecidableEq, Repr

/-- COMMIT to THERMAL_TRIPS. -/
def entries1 : List EntryRow := [
  ⟨0x1100, 1, 0x01, 0x01, .uint 1, .wo, 0, .none, .oneOf [1, 2], .volatile, .package, false⟩,
  ⟨0x1100, 1, 0x02, 0x02, .uint 8, .ro, 1, .val 0, .any, .volatile, .package, false⟩,
  ⟨0x1100, 1, 0x03, 0x03, .uint 8, .ro, 1, .val 0, .any, .volatile, .package, false⟩,
  ⟨0x1100, 1, 0x04, 0x04, .uint 2, .wo, 3, .none, .any, .volatile, .package, false⟩,
  ⟨0x1100, 1, 0x05, 0x05, .uint 2, .ro, 0, .val 0, .any, .volatile, .function false, false⟩,
  ⟨0x1100, 1, 0x06, 0x06, .uint 4, .rwc, 1, .val 0, .any, .volatile, .package, false⟩,
  ⟨0x1100, 1, 0x07, 0x07, .uint 4, .ro, 1, .none, .any, .volatile, .package, false⟩,
  ⟨0x1100, 1, 0x08, 0x08, .uint 4, .ro, 1, .none, .any, .persistent, .package, false⟩,
  ⟨0x1110, 4, 0x01, 0x01, .uint 8, .rwc, 1, .val 0, .any, .volatile, .package, false⟩,
  ⟨0x1110, 4, 0x02, 0x02, .uint 4, .rwc, 1, .val 0, .any, .volatile, .package, false⟩,
  ⟨0x1110, 4, 0x03, 0x03, .uint 4, .rwc, 1, .val 0, .any, .volatile, .package, false⟩,
  ⟨0x1110, 4, 0x04, 0x04, .uint 4, .rwc, 1, .val 0, .any, .volatile, .package, false⟩,
  ⟨0x1110, 4, 0x05, 0x05, .uint 4, .rwc, 1, .val 0, .any, .volatile, .package, false⟩,
  ⟨0x1110, 4, 0x06, 0x06, .uint 4, .rwc, 1, .val 0, .any, .volatile, .package, false⟩,
  ⟨0x1000, 1, 0x01, 0x01, .str 20, .ro, 0, .none, .any, .factory, .package, false⟩,
  ⟨0x1000, 1, 0x02, 0x02, .str 16, .ro, 0, .none, .any, .factory, .package, false⟩,
  ⟨0x1000, 1, 0x03, 0x03, .uint 1, .ro, 0, .val 0xA1, .any, .factory, .package, false⟩,
  ⟨0x1000, 1, 0x04, 0x04, .uint 1, .ro, 1, .none, .any, .volatile, .package, false⟩,
  ⟨0x1000, 1, 0x05, 0x05, .uint 1, .rw, 3, .none, .below 2, .persistent, .package, false⟩,
  ⟨0x1000, 1, 0x06, 0x06, .bool, .ro, 1, .val 0, .any, .volatile, .package, false⟩,
  ⟨0x1010, 1, 0x01, 0x04, .sint 4, .ro, 0, .none, .any, .volatile, .package, false⟩,
  ⟨0x1010, 1, 0x05, 0x05, .sint 4, .rwc, 1, .val 0, .any, .volatile, .package, false⟩,
  ⟨0x1010, 1, 0x06, 0x06, .uint 4, .ro, 1, .val 0, .any, .persistent, .package, false⟩]

/-- REGION_COUNT to CLUSTER_RESET. -/
def entries2 : List EntryRow := [
  ⟨0x2000, 1, 0x01, 0x01, .uint 1, .ro, 0, .val 4, .any, .factory, .package, false⟩,
  ⟨0x2000, 1, 0x02, 0x02, .uint 1, .ro, 0, .val 4, .any, .factory, .package, false⟩,
  ⟨0x2000, 1, 0x03, 0x03, .uint 1, .ro, 0, .val 8, .any, .factory, .package, false⟩,
  ⟨0x2000, 1, 0x04, 0x04, .uint 1, .ro, 1, .none, .any, .volatile, .package, false⟩,
  ⟨0x2000, 1, 0x05, 0x05, .uint 1, .ro, 1, .none, .any, .volatile, .package, false⟩,
  ⟨0x2010, 4, 0x01, 0x01, .uint 1, .ro, 1, .val 0, .any, .volatile, .package, false⟩,
  ⟨0x2010, 4, 0x02, 0x02, .uint 1, .ro, 1, .val 0, .any, .volatile, .package, false⟩,
  ⟨0x2010, 4, 0x03, 0x03, .uint 8, .ro, 1, .val 0, .any, .volatile, .package, false⟩,
  ⟨0x2010, 4, 0x04, 0x04, .uint 1, .wo, 3, .none, .oneOf [1, 2], .volatile, .package, false⟩,
  ⟨0x2010, 4, 0x05, 0x05, .uint 4, .rwc, 1, .val 0, .any, .volatile, .package, false⟩,
  ⟨0x2020, 4, 0x01, 0x01, .uint 4, .ro, 1, .none, .any, .volatile, .package, false⟩,
  ⟨0x2020, 4, 0x02, 0x02, .uint 4, .rwc, 1, .val 4294967295, .any, .volatile, .package, false⟩,
  ⟨0x2020, 4, 0x03, 0x03, .uint 4, .rw, 2, .val 1400, .any, .persistent, .package, false⟩,
  ⟨0x2020, 4, 0x04, 0x04, .uint 4, .rwc, 1, .val 0, .any, .volatile, .package, false⟩,
  ⟨0x2020, 4, 0x05, 0x05, .uint 4, .ro, 1, .none, .any, .factory, .package, false⟩,
  ⟨0x2030, 4, 0x01, 0x01, .uint 1, .ro, 1, .none, .any, .volatile, .package, false⟩,
  ⟨0x2030, 4, 0x02, 0x02, .uint 4, .rwc, 1, .val 0, .any, .volatile, .package, false⟩,
  ⟨0x2030, 4, 0x03, 0x03, .uint 8, .rwc, 1, .val 0, .any, .volatile, .package, false⟩,
  ⟨0x2040, 1, 0x01, 0x01, .uint 1, .ro, 1, .none, .any, .volatile, .package, false⟩,
  ⟨0x2040, 1, 0x02, 0x02, .uint 4, .ro, 1, .none, .any, .volatile, .package, false⟩,
  ⟨0x2040, 1, 0x03, 0x03, .bool, .ro, 1, .none, .any, .volatile, .package, false⟩,
  ⟨0x2050, 1, 0x01, 0x01, .uint 8, .ro, 0, .none, .any, .volatile, .package, false⟩,
  ⟨0x2060, 1, 0x01, 0x01, .uint 1, .wo, 3, .none, .oneOf [0xA5], .volatile, .package, false⟩,
  ⟨0x2070, 1, 0x01, 0x01, .uint 2, .wo, 3, .none, .any, .volatile, .package, false⟩]

/-- LINK_SPEED to SELFTEST_STEP_DEFERRALS. -/
def entries3 : List EntryRow := [
  ⟨0x3000, 1, 0x01, 0x01, .uint 1, .ro, 1, .none, .any, .volatile, .package, false⟩,
  ⟨0x3000, 1, 0x02, 0x02, .uint 1, .ro, 1, .none, .any, .volatile, .package, false⟩,
  ⟨0x3000, 1, 0x03, 0x03, .uint 4, .rwc, 1, .val 0, .any, .volatile, .package, false⟩,
  ⟨0x3000, 1, 0x04, 0x04, .uint 1, .rw, 2, .val 6, .between 1 6, .persistent, .package, false⟩,
  ⟨0x3000, 1, 0x05, 0x05, .uint 4, .rwc, 1, .val 0, .any, .volatile, .package, false⟩,
  ⟨0x3000, 1, 0x06, 0x06, .uint 4, .rwc, 1, .val 0, .any, .volatile, .package, false⟩,
  ⟨0x3000, 1, 0x07, 0x07, .uint 4, .rwc, 1, .val 0, .any, .volatile, .package, false⟩,
  ⟨0x3000, 1, 0x08, 0x08, .uint 4, .rwc, 1, .val 0, .any, .volatile, .package, false⟩,
  ⟨0x3010, 1, 0x01, 0x01, .uint 1, .rw, 1, .val 1, .between 1 7, .persistent, .package, false⟩,
  ⟨0x3010, 1, 0x02, 0x02, .uint 4, .rwc, 1, .val 0, .any, .volatile, .package, false⟩,
  ⟨0x3010, 1, 0x03, 0x03, .uint 2, .rw, 2, .val 0x1C7E, .any, .persistent, .package, false⟩,
  ⟨0x3010, 1, 0x04, 0x04, .uint 2, .rw, 2, .val 0x8240, .any, .persistent, .package, false⟩,
  ⟨0x3020, 1, 0x01, 0x01, .str 223, .rw, 1, .named "R108", .any, .persistent, .package, true⟩,
  ⟨0x3020, 1, 0x02, 0x02, .str 20, .ro, 0, .named "Isle 0 serial", .any, .persistent, .package, true⟩,
  ⟨0x3020, 1, 0x03, 0x03, .str 40, .ro, 0, .text "Septud Dexloth DXL-8240", .any, .factory, .package, true⟩,
  ⟨0x3020, 1, 0x04, 0x04, .uint 4, .rwc, 1, .val 0, .any, .volatile, .package, false⟩,
  ⟨0x3020, 1, 0x05, 0x05, .bool, .rw, 3, .val 1, .any, .persistent, .package, false⟩,
  ⟨0x3030, 1, 0x01, 0x01, .uint 4, .rwc, 0, .val 0, .any, .volatile, .function false, false⟩,
  ⟨0x3040, 1, 0x01, 0x01, .uint 1, .rw, 1, .val 2, .between 1 2, .persistent, .package, false⟩,
  ⟨0x3040, 1, 0x02, 0x02, .uint 4, .rw, 1, .val 3000000, .between 0 3000000, .persistent, .package, false⟩,
  ⟨0x3040, 1, 0x03, 0x03, .uint 1, .rw, 1, .val 16, .between 4 16, .persistent, .package, false⟩,
  ⟨0x3040, 1, 0x04, 0x04, .uint 2, .rw, 1, .val 1024, .between 0 2048, .persistent, .package, false⟩,
  ⟨0x3040, 1, 0x05, 0x05, .uint 1, .rw, 1, .val 16, .between 2 16, .persistent, .package, false⟩,
  ⟨0x3040, 1, 0x06, 0x06, .uint 8, .rwc, 1, .val 0, .any, .volatile, .package, false⟩,
  ⟨0x3040, 1, 0x07, 0x07, .uint 8, .rwc, 1, .val 0, .any, .volatile, .package, false⟩,
  ⟨0x3040, 1, 0x08, 0x08, .uint 2, .ro, 1, .none, .any, .volatile, .package, false⟩,
  ⟨0x3040, 1, 0x09, 0x09, .uint 4, .rwc, 1, .val 0, .any, .volatile, .package, false⟩,
  ⟨0x3040, 1, 0x0A, 0x0A, .uint 8, .rwc, 1, .val 0, .any, .volatile, .package, false⟩,
  ⟨0x3040, 1, 0x0B, 0x0B, .uint 4, .rwc, 1, .val 0, .any, .volatile, .package, false⟩]

/-- TRANSPORT_ENABLE to LATE_COMPLETIONS (log 158). -/
def entries4 : List EntryRow := [
  ⟨0x4F00, 1, 0x01, 0x01, .uint 1, .rw, 3, .val 15, .between 0 15, .persistent, .package, false⟩,
  ⟨0x4F00, 1, 0x02, 0x02, .uint 4, .rw, 3, .val 600, .between 10 86400, .persistent, .package, false⟩,
  ⟨0x4F10, 1, 0x01, 0x10, .uint 8, .rw, 3, .val 0, .below 34, .persistent, .package, false⟩,
  ⟨0x4F20, 1, 0x01, 0x01, .octets 32, .wo, 3, .val 0, .any, .persistent, .package, false⟩,
  ⟨0x4F20, 1, 0x02, 0x02, .octets 32, .wo, 3, .val 0, .any, .persistent, .package, false⟩,
  ⟨0x4F20, 1, 0x03, 0x03, .bool, .ro, 1, .val 0, .any, .persistent, .package, false⟩,
  ⟨0x4F20, 1, 0x04, 0x04, .uint 4, .rw, 3, .val 60, .between 1 3600, .persistent, .package, false⟩,
  ⟨0x4000, 1, 0x01, 0x01, .uint 8, .rw, 1, .val 8589934592, .steps 0 (64 * 2 ^ 30) (2 ^ 30), .persistent, .package, false⟩,
  ⟨0x4000, 1, 0x02, 0x02, .uint 4, .rwc, 1, .val 0, .any, .volatile, .package, false⟩,
  ⟨0x4000, 1, 0x03, 0x03, .uint 4, .rwc, 1, .val 0, .any, .volatile, .package, false⟩,
  ⟨0x4010, 1, 0x01, 0x01, .uint 1, .rw, 1, .pfVf 1 0, .between 0 63, .persistent, .function true, false⟩,
  ⟨0x4010, 1, 0x02, 0x02, .uint 4, .rw, 1, .pfVf 2097152 0, .between 0 2097152, .persistent, .function true, false⟩,
  ⟨0x4010, 1, 0x03, 0x03, .uint 8, .rw, 1, .pfVf 0 0, .multiple 4096, .persistent, .function true, false⟩,
  ⟨0x4010, 1, 0x04, 0x04, .uint 8, .rw, 1, .named "SLM_SIZE in force", .multiple 4096, .persistent, .function true, false⟩,
  ⟨0x4010, 1, 0x05, 0x05, .uint 1, .rw, 1, .pfVf 28 0, .between 0 32, .persistent, .function true, false⟩,
  ⟨0x4010, 1, 0x06, 0x06, .uint 2, .rw, 1, .pfVf 4096 0, .between 0 4096, .persistent, .function true, false⟩,
  ⟨0x4010, 1, 0x07, 0x07, .uint 4, .rw, 1, .pfVf 0 0, .between 0 262143, .persistent, .function true, false⟩,
  ⟨0x4010, 1, 0x08, 0x08, .uint 4, .rw, 1, .pfVf 262144 0, .between 0 262144, .persistent, .function true, false⟩,
  ⟨0x4010, 1, 0x09, 0x09, .uint 4, .rw, 1, .pfVf 3000000 0, .between 0 3000000, .persistent, .function true, false⟩,
  ⟨0x4010, 1, 0x0A, 0x0A, .uint 1, .rw, 1, .pfVf 16 16, .between 1 255, .persistent, .function true, false⟩,
  ⟨0x4010, 1, 0x0B, 0x0B, .bool, .rw, 1, .pfVf 1 0, .any, .persistent, .function true, false⟩,
  ⟨0x4010, 1, 0x0C, 0x0C, .uint 1, .wo, 1, .none, .oneOf [1], .volatile, .function true, false⟩,
  ⟨0x4020, 1, 0x01, 0x01, .uint 4, .ro, 0, .val 0, .any, .volatile, .function true, false⟩,
  ⟨0x4020, 1, 0x02, 0x02, .uint 4, .ro, 0, .val 0, .any, .volatile, .function true, false⟩,
  ⟨0x4020, 1, 0x03, 0x03, .uint 2, .ro, 0, .val 0, .any, .volatile, .function true, false⟩,
  ⟨0x4020, 1, 0x04, 0x04, .uint 4, .ro, 0, .val 0, .any, .volatile, .function true, false⟩,
  ⟨0x4020, 1, 0x05, 0x05, .uint 8, .rwc, 0, .val 0, .any, .volatile, .function true, false⟩,
  ⟨0x4020, 1, 0x06, 0x06, .uint 4, .ro, 0, .val 0, .any, .volatile, .function true, false⟩,
  ⟨0x4020, 1, 0x07, 0x07, .uint 4, .rwc, 0, .val 0, .any, .volatile, .function true, false⟩,
  ⟨0x4020, 1, 0x08, 0x08, .uint 1, .ro, 0, .val 0, .any, .volatile, .function true, false⟩,
  ⟨0x4020, 1, 0x09, 0x09, .uint 1, .ro, 1, .val 0, .any, .volatile, .function true, false⟩,
  ⟨0x4020, 1, 0x0A, 0x0A, .uint 4, .rwc, 1, .val 0, .any, .volatile, .function true, false⟩]

/-- INTERFACE to CHECK_REJECTS. -/
def entries5 : List EntryRow := [
  ⟨0x5000, 1, 0x01, 0x01, .uint 1, .rw, 2, .val 0, .between 0 1, .persistent, .package, true⟩,
  ⟨0x5000, 1, 0x02, 0x02, .uint 2, .rw, 2, .val 3200, .any, .persistent, .package, true⟩,
  ⟨0x5000, 1, 0x03, 0x03, .uint 1, .rw, 2, .val 8, .between 1 8, .persistent, .package, true⟩,
  ⟨0x5000, 1, 0x04, 0x04, .uint 1, .rw, 2, .val 4, .between 1 4, .persistent, .package, true⟩,
  ⟨0x5000, 1, 0x05, 0x05, .uint 1, .rw, 2, .val 4, .oneOf [1, 2, 4, 8], .persistent, .package, true⟩,
  ⟨0x5000, 1, 0x06, 0x06, .uint 2, .rw, 2, .val 1508, .between 1 16384, .persistent, .package, true⟩,
  ⟨0x5000, 1, 0x07, 0x07, .uint 2, .rw, 2, .val 2784, .between 1 8192, .persistent, .package, true⟩,
  ⟨0x5000, 1, 0x08, 0x08, .uint 2, .rw, 2, .val 2048, .between 2048 65535, .persistent, .package, true⟩,
  ⟨0x5000, 1, 0x09, 0x09, .uint 1, .rw, 2, .val 3, .between 1 4, .persistent, .package, true⟩,
  ⟨0x5000, 1, 0x0A, 0x0A, .uint 2, .rw, 2, .val 70, .any, .persistent, .package, true⟩,
  ⟨0x5000, 1, 0x0B, 0x0B, .uint 2, .rw, 2, .val 1600, .any, .persistent, .package, true⟩,
  ⟨0x5000, 1, 0x0C, 0x0C, .uint 2, .rw, 2, .val 2400, .any, .persistent, .package, true⟩,
  ⟨0x5000, 1, 0x0D, 0x0D, .uint 4, .rw, 2, .val 12000, .any, .persistent, .package, true⟩,
  ⟨0x5000, 1, 0x0E, 0x0E, .uint 2, .rw, 2, .val 40, .any, .persistent, .package, true⟩,
  ⟨0x5000, 1, 0x0F, 0x0F, .uint 1, .rw, 2, .val 167, .any, .persistent, .package, true⟩,
  ⟨0x5000, 1, 0x10, 0x10, .uint 1, .rw, 2, .val 168, .any, .persistent, .package, true⟩,
  ⟨0x5000, 1, 0x11, 0x11, .uint 1, .rw, 2, .val 137, .any, .persistent, .package, true⟩,
  ⟨0x5000, 1, 0x12, 0x12, .octets 3, .rw, 2, .val 0x030201, .any, .persistent, .package, true⟩,
  ⟨0x5000, 1, 0x13, 0x13, .uint 2, .ro, 1, .val 180, .any, .factory, .package, true⟩,
  ⟨0x5010, 1, 0x01, 0x10, .octets 4, .rw, 2, .val 0, .any, .persistent, .package, true⟩,
  ⟨0x5020, 1, 0x01, 0x01, .uint 1, .rw, 1, .val 16, .between 0 64, .persistent, .package, true⟩,
  ⟨0x5020, 1, 0x02, 0x02, .uint 4, .rw, 1, .val 200, .between 0 10000, .persistent, .package, true⟩,
  ⟨0x5020, 1, 0x03, 0x03, .bool, .ro, 1, .val 0, .any, .persistent, .package, true⟩,
  ⟨0x5020, 1, 0x04, 0x04, .bool, .rw, 3, .val 0, .any, .volatile, .package, true⟩,
  ⟨0x5030, 1, 0x01, 0x01, .uint 4, .ro, 1, .none, .any, .volatile, .package, false⟩,
  ⟨0x5030, 1, 0x02, 0x02, .domain (64 * 2 ^ 20), .ro, 1, .none, .any, .volatile, .package, false⟩,
  ⟨0x5030, 1, 0x03, 0x03, .bool, .ro, 1, .val 0, .any, .persistent, .package, false⟩,
  ⟨0x5100, 32, 0x01, 0x01, .uint 8, .rwc, 1, .val 0, .any, .volatile, .package, false⟩,
  ⟨0x5100, 32, 0x02, 0x02, .uint 8, .rwc, 1, .val 0, .any, .volatile, .package, false⟩,
  ⟨0x5100, 32, 0x03, 0x03, .uint 8, .rwc, 1, .val 0, .any, .volatile, .package, false⟩,
  ⟨0x5100, 32, 0x04, 0x04, .uint 8, .rwc, 1, .val 0, .any, .volatile, .package, false⟩,
  ⟨0x5100, 32, 0x05, 0x05, .uint 8, .rwc, 1, .val 0, .any, .volatile, .package, false⟩,
  ⟨0x5100, 32, 0x06, 0x06, .uint 8, .rwc, 1, .val 0, .any, .volatile, .package, false⟩,
  ⟨0x5100, 32, 0x07, 0x07, .uint 4, .rwc, 1, .val 0, .any, .volatile, .package, false⟩,
  ⟨0x5100, 32, 0x08, 0x08, .uint 4, .rwc, 1, .val 0, .any, .volatile, .package, false⟩,
  ⟨0x5100, 32, 0x09, 0x09, .uint 4, .rwc, 1, .val 0, .any, .volatile, .package, false⟩,
  ⟨0x5100, 32, 0x0A, 0x0A, .uint 8, .rwc, 1, .val 0, .any, .volatile, .package, false⟩,
  ⟨0x5100, 32, 0x0B, 0x0B, .uint 4, .rwc, 1, .val 0, .any, .volatile, .package, false⟩]

/-- MAP_UNIT_BYTES to POISONED_UNITS. -/
def entries6 : List EntryRow := [
  ⟨0x6000, 1, 0x01, 0x01, .uint 4, .ro, 0, .val 16384, .any, .factory, .package, false⟩,
  ⟨0x6000, 1, 0x02, 0x02, .uint 1, .rw, 1, .val 0, .between 0 1, .persistent, .package, false⟩,
  ⟨0x6000, 1, 0x03, 0x03, .uint 2, .rw, 2, .val 20, .between 10 100, .persistent, .package, false⟩,
  ⟨0x6000, 1, 0x04, 0x04, .uint 2, .rw, 2, .val 70, .between 20 500, .persistent, .package, false⟩,
  ⟨0x6000, 1, 0x05, 0x05, .uint 1, .rw, 2, .val 4, .between 2 16, .persistent, .package, false⟩,
  ⟨0x6000, 1, 0x06, 0x06, .uint 8, .ro, 1, .none, .any, .volatile, .package, false⟩,
  ⟨0x6000, 1, 0x07, 0x07, .uint 8, .ro, 1, .none, .any, .volatile, .package, false⟩,
  ⟨0x6010, 1, 0x01, 0x01, .uint 4, .ro, 1, .none, .any, .volatile, .package, false⟩,
  ⟨0x6010, 1, 0x02, 0x02, .uint 1, .rw, 1, .val 4, .between 2 32, .persistent, .package, false⟩,
  ⟨0x6010, 1, 0x03, 0x03, .uint 1, .rw, 1, .val 1, .between 1 31, .persistent, .package, false⟩,
  ⟨0x6010, 1, 0x04, 0x04, .uint 1, .ro, 1, .none, .any, .volatile, .package, false⟩,
  ⟨0x6010, 1, 0x05, 0x05, .uint 4, .ro, 1, .none, .any, .volatile, .package, false⟩,
  ⟨0x6010, 1, 0x06, 0x06, .uint 2, .rw, 1, .val 100, .between 0 1000, .persistent, .package, false⟩,
  ⟨0x6010, 1, 0x07, 0x07, .uint 8, .rwc, 1, .val 0, .any, .volatile, .package, false⟩,
  ⟨0x6010, 1, 0x08, 0x08, .uint 8, .rwc, 1, .val 0, .any, .volatile, .package, false⟩,
  ⟨0x6010, 1, 0x09, 0x09, .uint 8, .rwc, 1, .val 0, .any, .volatile, .package, false⟩,
  ⟨0x6020, 1, 0x01, 0x01, .uint 1, .rw, 1, .val 60, .between 30 90, .persistent, .package, false⟩,
  ⟨0x6020, 1, 0x02, 0x02, .uint 8, .rwc, 1, .val 0, .any, .volatile, .package, false⟩,
  ⟨0x6020, 1, 0x03, 0x03, .uint 4, .rw, 1, .val 604800, .between 86400 7776000, .persistent, .package, false⟩,
  ⟨0x6020, 1, 0x04, 0x04, .uint 2, .rw, 1, .val 500, .between 100 5000, .persistent, .package, false⟩,
  ⟨0x6020, 1, 0x05, 0x05, .uint 4, .ro, 1, .none, .any, .volatile, .package, false⟩,
  ⟨0x6020, 1, 0x06, 0x06, .uint 4, .ro, 1, .none, .any, .volatile, .package, false⟩,
  ⟨0x6020, 1, 0x07, 0x07, .uint 4, .ro, 1, .none, .any, .volatile, .package, false⟩,
  ⟨0x6020, 1, 0x08, 0x08, .uint 8, .rwc, 1, .val 0, .any, .volatile, .package, false⟩,
  ⟨0x6020, 1, 0x09, 0x09, .uint 2, .rw, 1, .val 50, .between 10 200, .persistent, .package, false⟩,
  ⟨0x6020, 1, 0x0A, 0x0A, .uint 2, .ro, 1, .none, .any, .volatile, .package, false⟩,
  ⟨0x6030, 1, 0x01, 0x01, .bool, .rwc, 1, .val 0, .any, .persistent, .package, false⟩,
  ⟨0x6030, 1, 0x02, 0x02, .uint 8, .ro, 1, .none, .any, .volatile, .package, false⟩,
  ⟨0x6030, 1, 0x03, 0x03, .uint 8, .ro, 1, .none, .any, .volatile, .package, false⟩,
  ⟨0x6030, 1, 0x04, 0x04, .uint 8, .rw, 1, .val 68719476736, .between (8 * 2 ^ 30) (256 * 2 ^ 30), .persistent, .package, false⟩,
  ⟨0x6030, 1, 0x05, 0x05, .uint 4, .rw, 1, .val 600, .between 60 3600, .persistent, .package, false⟩,
  ⟨0x6030, 1, 0x06, 0x06, .uint 8, .rwc, 1, .val 0, .any, .volatile, .package, false⟩,
  ⟨0x6030, 1, 0x07, 0x07, .uint 8, .ro, 1, .none, .any, .volatile, .package, false⟩,
  ⟨0x6030, 1, 0x08, 0x08, .uint 8, .ro, 1, .none, .any, .persistent, .package, false⟩,
  ⟨0x6030, 1, 0x09, 0x09, .uint 8, .ro, 1, .none, .any, .persistent, .package, false⟩,
  ⟨0x6030, 1, 0x0A, 0x0A, .uint 8, .ro, 1, .none, .any, .volatile, .package, false⟩]

/-- DIRTY_CEILING to PF_RECORD. -/
def entries7 : List EntryRow := [
  ⟨0x7000, 1, 0x01, 0x01, .uint 8, .ro, 1, .none, .any, .volatile, .package, false⟩,
  ⟨0x7000, 1, 0x02, 0x02, .uint 8, .rw, 2, .val 2147483648, .steps 0 (8 * 2 ^ 30) (64 * 2 ^ 20), .persistent, .package, false⟩,
  ⟨0x7000, 1, 0x03, 0x03, .uint 8, .ro, 1, .none, .any, .volatile, .package, false⟩,
  ⟨0x7000, 1, 0x04, 0x04, .bool, .ro, 1, .none, .any, .volatile, .package, false⟩,
  ⟨0x7000, 1, 0x05, 0x05, .uint 8, .rwc, 1, .val 0, .any, .volatile, .package, false⟩,
  ⟨0x7000, 1, 0x06, 0x06, .uint 4, .rw, 1, .val 64, .between 16 512, .persistent, .package, false⟩,
  ⟨0x7010, 1, 0x01, 0x01, .uint 2, .rw, 2, .val 10000, .between 1000 50000, .persistent, .package, false⟩,
  ⟨0x7010, 1, 0x02, 0x02, .uint 2, .rw, 2, .val 30, .between 1 100, .persistent, .package, false⟩,
  ⟨0x7010, 1, 0x03, 0x03, .uint 2, .rw, 2, .val 12000, .any, .persistent, .package, false⟩,
  ⟨0x7010, 1, 0x04, 0x04, .uint 4, .rw, 2, .val 20000, .any, .persistent, .package, false⟩,
  ⟨0x7010, 1, 0x05, 0x05, .uint 4, .rw, 2, .val 781, .any, .persistent, .package, false⟩,
  ⟨0x7010, 1, 0x06, 0x06, .uint 4, .rw, 2, .val 6345, .any, .persistent, .package, false⟩,
  ⟨0x7010, 1, 0x07, 0x07, .uint 4, .rw, 2, .val 86400, .between 3600 604800, .persistent, .package, false⟩,
  ⟨0x7010, 1, 0x08, 0x08, .bool, .rw, 2, .val 0, .any, .persistent, .package, true⟩,
  ⟨0x7010, 1, 0x09, 0x09, .uint 1, .wo, 1, .none, .oneOf [1], .volatile, .package, false⟩,
  ⟨0x7010, 1, 0x0A, 0x0A, .uint 2, .rw, 2, .val 30000, .any, .persistent, .package, false⟩,
  ⟨0x7020, 1, 0x01, 0x01, .uint 4, .ro, 1, .none, .any, .volatile, .package, false⟩,
  ⟨0x7020, 1, 0x02, 0x02, .uint 2, .ro, 1, .none, .any, .volatile, .package, false⟩,
  ⟨0x7020, 1, 0x03, 0x03, .uint 4, .ro, 1, .none, .any, .volatile, .package, false⟩,
  ⟨0x7020, 1, 0x04, 0x04, .uint 8, .ro, 1, .none, .any, .volatile, .package, false⟩,
  ⟨0x7020, 1, 0x05, 0x05, .uint 4, .rwc, 1, .val 0, .any, .volatile, .package, false⟩,
  ⟨0x7020, 1, 0x06, 0x06, .uint 8, .ro, 1, .none, .any, .volatile, .package, false⟩,
  ⟨0x7030, 1, 0x01, 0x01, .uint 4, .ro, 1, .none, .any, .persistent, .package, false⟩,
  ⟨0x7030, 1, 0x02, 0x02, .uint 4, .ro, 1, .none, .any, .volatile, .package, false⟩,
  ⟨0x7030, 1, 0x03, 0x03, .uint 8, .ro, 1, .none, .any, .volatile, .package, false⟩,
  ⟨0x7030, 1, 0x04, 0x04, .uint 8, .ro, 1, .none, .any, .volatile, .package, false⟩,
  ⟨0x7030, 1, 0x05, 0x05, .domain 256, .ro, 1, .none, .any, .volatile, .package, false⟩]

/-- PAIR_STATE to MIRROR_ENABLE. -/
def entries8 : List EntryRow := [
  ⟨0x8000, 1, 0x01, 0x01, .uint 1, .ro, 1, .none, .any, .volatile, .package, false⟩,
  ⟨0x8000, 1, 0x02, 0x02, .uint 1, .ro, 1, .none, .any, .volatile, .package, false⟩,
  ⟨0x8000, 1, 0x03, 0x03, .uint 8, .rwc, 1, .val 0, .any, .volatile, .package, false⟩,
  ⟨0x8000, 1, 0x04, 0x04, .uint 4, .rwc, 1, .val 0, .any, .volatile, .package, false⟩,
  ⟨0x8000, 1, 0x05, 0x05, .uint 4, .rwc, 1, .val 0, .any, .volatile, .package, false⟩,
  ⟨0x8000, 1, 0x06, 0x06, .uint 4, .rwc, 1, .val 0, .any, .volatile, .package, false⟩,
  ⟨0x8000, 1, 0x07, 0x07, .uint 4, .ro, 1, .none, .any, .volatile, .package, false⟩,
  ⟨0x8000, 1, 0x08, 0x08, .uint 4, .ro, 1, .none, .any, .volatile, .package, false⟩,
  ⟨0x8000, 1, 0x09, 0x09, .uint 4, .ro, 1, .none, .any, .volatile, .package, false⟩,
  ⟨0x8000, 1, 0x0A, 0x0A, .uint 4, .rwc, 1, .val 0, .any, .volatile, .package, false⟩,
  ⟨0x8000, 1, 0x0B, 0x0B, .uint 8, .ro, 1, .none, .any, .volatile, .package, false⟩,
  ⟨0x8000, 1, 0x0C, 0x0C, .uint 4, .ro, 1, .none, .any, .volatile, .package, false⟩,
  ⟨0x8000, 1, 0x0D, 0x0D, .uint 4, .rwc, 1, .val 0, .any, .volatile, .package, false⟩,
  ⟨0x8000, 1, 0x0E, 0x0E, .uint 4, .rwc, 1, .val 0, .any, .volatile, .package, false⟩,
  ⟨0x8000, 1, 0x0F, 0x0F, .uint 8, .rwc, 1, .val 0, .any, .volatile, .package, false⟩,
  ⟨0x8000, 1, 0x10, 0x10, .str 20, .ro, 1, .none, .any, .persistent, .package, false⟩,
  ⟨0x8000, 1, 0x11, 0x11, .uint 4, .rwc, 1, .val 0, .any, .volatile, .package, false⟩,
  ⟨0x8010, 1, 0x01, 0x01, .bool, .rw, 1, .val 1, .any, .persistent, .package, true⟩,
  ⟨0x8010, 1, 0x02, 0x02, .uint 1, .wo, 1, .none, .oneOf [1], .volatile, .package, true⟩,
  ⟨0x8010, 1, 0x03, 0x03, .bool, .rw, 3, .val 0, .any, .persistent, .package, true⟩,
  ⟨0x8010, 1, 0x04, 0x04, .uint 1, .wo, 3, .none, .oneOf [0x5A], .volatile, .package, true⟩,
  ⟨0x8010, 1, 0x05, 0x05, .bool, .rw, 3, .val 1, .any, .persistent, .package, true⟩]

/-- CE_MODE to BUCKET_LEVEL. -/
def entries9 : List EntryRow := [
  ⟨0x9000, 7, 0x01, 0x01, .uint 1, .rw, 2, .val 0, .between 0 1, .persistent, .package, false⟩,
  ⟨0x9000, 7, 0x02, 0x02, .uint 4, .rw, 2, .val 10000, .between 100 1000000, .persistent, .package, false⟩,
  ⟨0x9000, 7, 0x03, 0x03, .uint 2, .rw, 2, .val 64, .between 1 65535, .persistent, .package, false⟩,
  ⟨0x9080, 1, 0x01, 0x01, .uint 4, .rw, 2, .val 86400, .between 3600 604800, .persistent, .package, false⟩,
  ⟨0x9080, 1, 0x02, 0x02, .uint 2, .rw, 2, .val 100, .between 10 1000, .persistent, .package, false⟩,
  ⟨0x9080, 1, 0x03, 0x03, .uint 8, .rwc, 1, .val 0, .any, .volatile, .package, false⟩,
  ⟨0x9080, 1, 0x04, 0x04, .uint 8, .rwc, 1, .val 0, .any, .volatile, .package, false⟩,
  ⟨0x9080, 1, 0x05, 0x05, .uint 8, .rwc, 1, .val 0, .any, .volatile, .package, false⟩,
  ⟨0x9080, 1, 0x06, 0x06, .uint 4, .rwc, 1, .val 0, .any, .volatile, .package, false⟩,
  ⟨0x9090, 1, 0x01, 0x01, .domain (128 * 2 ^ 10), .ro, 1, .none, .any, .volatile, .package, false⟩,
  ⟨0x9090, 1, 0x02, 0x02, .uint 1, .wo, 1, .none, .oneOf [1], .volatile, .package, false⟩,
  ⟨0x9100, 227, 0x01, 0x01, .uint 8, .rwc, 1, .val 0, .any, .volatile, .package, false⟩,
  ⟨0x9100, 227, 0x02, 0x02, .uint 4, .rwc, 1, .val 0, .any, .volatile, .package, false⟩,
  ⟨0x9100, 227, 0x03, 0x03, .uint 4, .rwc, 1, .val 0, .any, .volatile, .package, false⟩,
  ⟨0x9100, 227, 0x04, 0x04, .uint 2, .ro, 1, .val 0, .any, .volatile, .package, false⟩]

/-- BASIZ_VERSION to PROGRAM_KEY. -/
def entriesA : List EntryRow := [
  ⟨0xA000, 1, 0x01, 0x01, .uint 2, .ro, 0, .val 256, .any, .factory, .package, false⟩,
  ⟨0xA000, 1, 0x02, 0x02, .uint 1, .ro, 0, .val 132, .any, .factory, .package, false⟩,
  ⟨0xA010, 1, 0x01, 0x0D, .uint 8, .rwc, 1, .val 0, .any, .volatile, .package, false⟩,
  ⟨0xA020, 1, 0x01, 0x01, .octets 17, .ro, 1, .none, .any, .volatile, .package, false⟩,
  ⟨0xA020, 1, 0x02, 0x02, .uint 4, .rwc, 1, .val 0, .any, .volatile, .package, false⟩,
  ⟨0xA020, 1, 0x03, 0x03, .uint 8, .rwc, 1, .val 0, .any, .volatile, .package, false⟩,
  ⟨0xA020, 1, 0x04, 0x04, .uint 8, .rwc, 1, .val 0, .any, .volatile, .package, false⟩,
  ⟨0xA020, 1, 0x05, 0x05, .uint 4, .rwc, 1, .val 0, .any, .volatile, .package, false⟩,
  ⟨0xA020, 1, 0x06, 0x06, .uint 4, .rwc, 1, .val 0, .any, .volatile, .package, false⟩,
  ⟨0xA030, 1, 0x01, 0x01, .uint 2, .ro, 1, .none, .any, .volatile, .package, false⟩,
  ⟨0xA030, 1, 0x02, 0x02, .uint 4, .rwc, 1, .val 0, .any, .volatile, .package, false⟩,
  ⟨0xA030, 1, 0x03, 0x03, .uint 8, .rwc, 1, .val 0, .any, .volatile, .package, false⟩,
  ⟨0xA030, 1, 0x04, 0x04, .uint 8, .rwc, 1, .val 0, .any, .volatile, .package, false⟩,
  ⟨0xA030, 1, 0x05, 0x05, .uint 8, .rwc, 1, .val 0, .any, .volatile, .package, false⟩,
  ⟨0xA030, 1, 0x06, 0x06, .uint 4, .rw, 1, .val 256, .between 16 2048, .persistent, .package, false⟩,
  ⟨0xA040, 1, 0x01, 0x01, .uint 1, .rw, 3, .val 1, .between 1 4, .persistent, .package, false⟩,
  ⟨0xA040, 1, 0x02, 0x02, .uint 2, .rw, 3, .val 256, .between 64 1024, .persistent, .package, false⟩,
  ⟨0xA040, 1, 0x03, 0x03, .uint 8, .rwc, 1, .val 0, .any, .volatile, .package, false⟩,
  ⟨0xA040, 1, 0x04, 0x04, .uint 4, .rwc, 1, .val 0, .any, .volatile, .package, false⟩,
  ⟨0xA040, 1, 0x05, 0x05, .uint 8, .rwc, 1, .val 0, .any, .volatile, .package, false⟩,
  ⟨0xA044, 4, 0x01, 0x01, .uint 2, .ro, 1, .none, .any, .volatile, .package, false⟩,
  ⟨0xA044, 4, 0x02, 0x02, .uint 2, .rwc, 1, .val 0, .any, .volatile, .package, false⟩,
  ⟨0xA050, 1, 0x01, 0x01, .bool, .rw, 1, .val 0, .any, .volatile, .package, false⟩,
  ⟨0xA050, 1, 0x02, 0x02, .uint 4, .rw, 1, .val 1048576, .powerOfTwo (64 * 2 ^ 10) (64 * 2 ^ 20), .persistent, .package, false⟩,
  ⟨0xA050, 1, 0x03, 0x03, .uint 8, .rwc, 1, .val 0, .any, .volatile, .package, false⟩,
  ⟨0xA054, 4, 0x01, 0x01, .domain (64 * 2 ^ 20), .ro, 1, .none, .any, .volatile, .package, false⟩,
  ⟨0xA054, 4, 0x02, 0x02, .uint 4, .wo, 1, .none, .any, .volatile, .package, false⟩,
  ⟨0xA110, 1, 0x01, 0x01, .octets 97, .rw, 1, .val 0, .any, .persistent, .function false, false⟩]

/-- COMP_FW_CONTEXTS to TERN_UPDATES. -/
def entriesBa : List EntryRow := [
  ⟨0xB000, 1, 0x01, 0x01, .uint 1, .rw, 3, .val 16, .between 8 32, .persistent, .package, false⟩,
  ⟨0xB010, 1, 0x01, 0x01, .uint 1, .rw, 1, .pfVf 4 0, .between 0 56, .persistent, .function false, false⟩,
  ⟨0xB010, 1, 0x02, 0x05, .uint 1, .ro, 0, .val 255, .any, .volatile, .function false, false⟩,
  ⟨0xB020, 4, 0x01, 0x01, .uint 8, .rwc, 1, .val 0, .any, .volatile, .package, false⟩,
  ⟨0xB020, 4, 0x02, 0x02, .uint 8, .rwc, 1, .val 0, .any, .volatile, .package, false⟩,
  ⟨0xB020, 4, 0x03, 0x03, .uint 8, .rwc, 1, .val 0, .any, .volatile, .package, false⟩,
  ⟨0xB020, 4, 0x04, 0x04, .uint 8, .rwc, 1, .val 0, .any, .volatile, .package, false⟩,
  ⟨0xB020, 4, 0x05, 0x05, .uint 4, .rwc, 1, .val 0, .any, .volatile, .package, false⟩,
  ⟨0xB020, 4, 0x06, 0x06, .uint 4, .rwc, 1, .val 0, .any, .volatile, .package, false⟩,
  ⟨0xB020, 4, 0x07, 0x07, .uint 8, .rwc, 1, .val 0, .any, .volatile, .package, false⟩,
  ⟨0xB020, 4, 0x08, 0x08, .uint 4, .rwc, 1, .val 0, .any, .volatile, .package, false⟩,
  ⟨0xB020, 4, 0x09, 0x09, .uint 4, .rwc, 1, .val 0, .any, .volatile, .package, false⟩,
  ⟨0xB100, 1, 0x01, 0x01, .uint 1, .rw, 3, .val 16, .between 8 32, .persistent, .package, false⟩,
  ⟨0xB110, 1, 0x01, 0x01, .uint 1, .rw, 1, .pfVf 4 0, .between 0 56, .persistent, .function false, false⟩,
  ⟨0xB110, 1, 0x02, 0x05, .uint 1, .ro, 0, .val 255, .any, .volatile, .function false, false⟩,
  ⟨0xB120, 4, 0x01, 0x01, .uint 8, .rwc, 1, .val 0, .any, .volatile, .package, false⟩,
  ⟨0xB120, 4, 0x02, 0x02, .uint 8, .rwc, 1, .val 0, .any, .volatile, .package, false⟩,
  ⟨0xB120, 4, 0x03, 0x03, .uint 4, .rwc, 1, .val 0, .any, .volatile, .package, false⟩,
  ⟨0xB120, 4, 0x04, 0x04, .uint 8, .rwc, 1, .val 0, .any, .volatile, .package, false⟩,
  ⟨0xB120, 4, 0x05, 0x05, .uint 4, .rwc, 1, .val 0, .any, .volatile, .package, false⟩,
  ⟨0xB120, 4, 0x06, 0x06, .uint 4, .rwc, 1, .val 0, .any, .volatile, .package, false⟩,
  ⟨0xB200, 1, 0x01, 0x01, .uint 1, .rw, 3, .val 16, .between 8 32, .persistent, .package, false⟩,
  ⟨0xB210, 1, 0x01, 0x01, .uint 1, .rw, 1, .pfVf 4 0, .between 0 56, .persistent, .function false, false⟩,
  ⟨0xB210, 1, 0x02, 0x05, .uint 1, .ro, 0, .val 255, .any, .volatile, .function false, false⟩,
  ⟨0xB220, 4, 0x01, 0x01, .uint 8, .rwc, 1, .val 0, .any, .volatile, .package, false⟩,
  ⟨0xB220, 4, 0x02, 0x02, .uint 8, .rwc, 1, .val 0, .any, .volatile, .package, false⟩,
  ⟨0xB220, 4, 0x03, 0x03, .uint 8, .rwc, 1, .val 0, .any, .volatile, .package, false⟩,
  ⟨0xB220, 4, 0x04, 0x04, .uint 4, .rwc, 1, .val 0, .any, .volatile, .package, false⟩,
  ⟨0xB300, 1, 0x01, 0x01, .uint 2, .ro, 1, .none, .any, .volatile, .package, false⟩,
  ⟨0xB300, 1, 0x02, 0x02, .octets 97, .ro, 0, .none, .any, .volatile, .package, false⟩,
  ⟨0xB300, 1, 0x03, 0x03, .uint 1, .rw, 1, .val 4, .oneOf [3, 4], .persistent, .package, true⟩,
  ⟨0xB300, 1, 0x04, 0x04, .uint 4, .rwc, 1, .val 0, .any, .volatile, .package, false⟩,
  ⟨0xB300, 1, 0x05, 0x05, .uint 4, .ro, 1, .none, .any, .persistent, .package, false⟩,
  ⟨0xB310, 1, 0x01, 0x01, .uint 1, .rw, 1, .pfVf 7 1, .below 3, .persistent, .function false, false⟩,
  ⟨0xB400, 1, 0x01, 0x01, .uint 1, .rw, 3, .val 16, .between 8 32, .persistent, .package, false⟩,
  ⟨0xB400, 1, 0x02, 0x02, .uint 1, .rw, 2, .val 16, .between 4 64, .persistent, .package, false⟩,
  ⟨0xB410, 1, 0x01, 0x01, .uint 1, .rw, 1, .pfVf 4 0, .between 0 56, .persistent, .function false, false⟩,
  ⟨0xB410, 1, 0x02, 0x05, .uint 1, .ro, 0, .val 255, .any, .volatile, .function false, false⟩,
  ⟨0xB420, 1, 0x01, 0x01, .uint 8, .rwc, 1, .val 0, .any, .volatile, .package, false⟩,
  ⟨0xB420, 1, 0x02, 0x02, .uint 8, .rwc, 1, .val 0, .any, .volatile, .package, false⟩]

/-- TERN_MOVES to AUT_SUSPENSIONS. -/
def entriesBb : List EntryRow := [
  ⟨0xB420, 1, 0x03, 0x03, .uint 4, .rwc, 1, .val 0, .any, .volatile, .package, false⟩,
  ⟨0xB420, 1, 0x04, 0x04, .uint 8, .rwc, 1, .val 0, .any, .volatile, .package, false⟩,
  ⟨0xB420, 1, 0x05, 0x05, .uint 4, .ro, 1, .none, .any, .volatile, .package, false⟩,
  ⟨0xB420, 1, 0x06, 0x06, .uint 8, .rwc, 1, .val 0, .any, .volatile, .package, false⟩,
  ⟨0xB430, 4, 0x01, 0x01, .uint 8, .rwc, 1, .val 0, .any, .volatile, .package, false⟩,
  ⟨0xB430, 4, 0x02, 0x02, .uint 8, .rwc, 1, .val 0, .any, .volatile, .package, false⟩,
  ⟨0xB430, 4, 0x03, 0x03, .uint 4, .rwc, 1, .val 0, .any, .volatile, .package, false⟩,
  ⟨0xB430, 4, 0x04, 0x04, .uint 4, .rwc, 1, .val 0, .any, .volatile, .package, false⟩,
  ⟨0xB430, 4, 0x05, 0x05, .uint 4, .rwc, 1, .val 0, .any, .volatile, .package, false⟩,
  ⟨0xB430, 4, 0x06, 0x06, .uint 8, .rwc, 1, .val 0, .any, .volatile, .package, false⟩]

/-- DDR_SPEED to MERGES. -/
def entriesC : List EntryRow := [
  ⟨0xC000, 1, 0x01, 0x01, .uint 2, .rw, 2, .val 6400, .oneOf [4800, 5600, 6400], .persistent, .package, false⟩,
  ⟨0xC000, 1, 0x02, 0x02, .uint 4, .rw, 1, .val 4, .between 1 100, .persistent, .package, false⟩,
  ⟨0xC000, 1, 0x03, 0x03, .uint 1, .rw, 2, .val 25, .between 5 50, .persistent, .package, false⟩,
  ⟨0xC000, 1, 0x04, 0x04, .uint 1, .rw, 2, .val 75, .between 50 95, .persistent, .package, false⟩,
  ⟨0xC000, 1, 0x05, 0x05, .uint 2, .rw, 2, .val 1024, .between 256 16384, .persistent, .package, false⟩,
  ⟨0xC000, 1, 0x06, 0x06, .uint 4, .rw, 1, .val 50, .between 10 10000, .persistent, .package, false⟩,
  ⟨0xC000, 1, 0x07, 0x07, .uint 4, .rw, 2, .val 100, .between 10 1000, .persistent, .package, false⟩,
  ⟨0xC000, 1, 0x08, 0x08, .uint 1, .rw, 2, .val 10, .between 2 20, .persistent, .package, false⟩,
  ⟨0xC010, 1, 0x01, 0x01, .uint 2, .ro, 1, .none, .any, .volatile, .package, false⟩,
  ⟨0xC010, 1, 0x02, 0x02, .uint 8, .ro, 1, .none, .any, .volatile, .package, false⟩,
  ⟨0xC010, 1, 0x03, 0x03, .uint 4, .ro, 1, .none, .any, .volatile, .package, false⟩,
  ⟨0xC010, 1, 0x04, 0x04, .uint 1, .ro, 1, .val 0, .any, .persistent, .package, false⟩,
  ⟨0xC100, 8, 0x01, 0x01, .uint 8, .rwc, 1, .val 0, .any, .volatile, .package, false⟩,
  ⟨0xC100, 8, 0x02, 0x02, .uint 8, .rwc, 1, .val 0, .any, .volatile, .package, false⟩,
  ⟨0xC100, 8, 0x03, 0x03, .uint 8, .rwc, 1, .val 0, .any, .volatile, .package, false⟩,
  ⟨0xC100, 8, 0x04, 0x04, .uint 8, .rwc, 1, .val 0, .any, .volatile, .package, false⟩,
  ⟨0xC100, 8, 0x05, 0x05, .uint 8, .rwc, 1, .val 0, .any, .volatile, .package, false⟩,
  ⟨0xC100, 8, 0x06, 0x06, .uint 4, .rwc, 1, .val 0, .any, .volatile, .package, false⟩,
  ⟨0xC100, 8, 0x07, 0x07, .uint 4, .rwc, 1, .val 0, .any, .volatile, .package, false⟩,
  ⟨0xC100, 8, 0x08, 0x08, .uint 4, .rwc, 1, .val 0, .any, .volatile, .package, false⟩,
  ⟨0xC100, 8, 0x09, 0x09, .uint 8, .rwc, 1, .val 0, .any, .volatile, .package, false⟩]

/-- BUF_LIMIT to HOLDOFF_WAITS. -/
def entriesD : List EntryRow := [
  ⟨0xD000, 1, 0x01, 0x01, .uint 4, .ro, 1, .val 2097152, .any, .factory, .package, false⟩,
  ⟨0xD010, 64, 0x01, 0x01, .uint 4, .rw, 2, .pool0 589824, .between 0 2097151, .persistent, .package, false⟩,
  ⟨0xD010, 64, 0x02, 0x02, .uint 8, .rw, 2, .val 0, .multiple 16384, .persistent, .package, false⟩,
  ⟨0xD010, 64, 0x03, 0x03, .uint 4, .rw, 1, .val 1024, .any, .persistent, .package, false⟩,
  ⟨0xD010, 64, 0x04, 0x04, .uint 4, .ro, 1, .none, .any, .volatile, .package, false⟩,
  ⟨0xD010, 64, 0x05, 0x05, .uint 1, .ro, 1, .none, .any, .volatile, .package, false⟩,
  ⟨0xD010, 64, 0x06, 0x06, .uint 8, .rwc, 1, .val 0, .any, .volatile, .package, false⟩,
  ⟨0xD010, 64, 0x07, 0x07, .uint 4, .rwc, 1, .val 0, .any, .volatile, .package, false⟩,
  ⟨0xD100, 64, 0x01, 0x01, .uint 2, .rw, 3, .val 0, .between 0 65535, .persistent, .package, false⟩,
  ⟨0xD180, 1, 0x01, 0x04, .uint 2, .rw, 1, .lines, .between 0 63, .persistent, .package, false⟩,
  ⟨0xD190, 1, 0x01, 0x01, .uint 8, .rwc, 1, .val 0, .any, .volatile, .package, false⟩,
  ⟨0xD190, 1, 0x02, 0x02, .uint 8, .rwc, 1, .val 0, .any, .volatile, .package, false⟩,
  ⟨0xD190, 1, 0x03, 0x03, .uint 4, .rwc, 1, .val 0, .any, .volatile, .package, false⟩,
  ⟨0xD190, 1, 0x04, 0x04, .uint 4, .rwc, 1, .val 0, .any, .volatile, .package, false⟩,
  ⟨0xD190, 1, 0x05, 0x05, .uint 8, .rwc, 1, .val 0, .any, .volatile, .package, false⟩]

/-- CS_OPTION to RECOVERY_IMAGE. -/
def entriesE : List EntryRow := [
  ⟨0xE000, 1, 0x01, 0x01, .uint 1, .ro, 1, .none, .any, .factory, .package, false⟩,
  ⟨0xE000, 1, 0x02, 0x02, .bool, .rw, 3, .val 1, .any, .volatile, .package, false⟩,
  ⟨0xE000, 1, 0x03, 0x03, .uint 1, .ro, 1, .none, .any, .volatile, .package, false⟩,
  ⟨0xE000, 1, 0x04, 0x04, .uint 1, .ro, 1, .none, .any, .volatile, .package, false⟩,
  ⟨0xE000, 1, 0x05, 0x05, .uint 2, .ro, 1, .none, .any, .volatile, .package, false⟩,
  ⟨0xE000, 1, 0x06, 0x06, .bool, .ro, 1, .val 0, .any, .volatile, .package, false⟩,
  ⟨0xE000, 1, 0x07, 0x07, .uint 4, .rwc, 1, .val 0, .any, .volatile, .package, false⟩,
  ⟨0xE000, 1, 0x08, 0x08, .uint 8, .rwc, 1, .val 0, .any, .volatile, .package, false⟩,
  ⟨0xE000, 1, 0x09, 0x09, .uint 4, .rwc, 1, .val 0, .any, .volatile, .package, false⟩,
  ⟨0xE000, 1, 0x0A, 0x0A, .uint 8, .ro, 1, .none, .any, .volatile, .package, false⟩,
  ⟨0xE000, 1, 0x0B, 0x0B, .uint 1, .ro, 1, .none, .any, .volatile, .package, false⟩,
  ⟨0xE000, 1, 0x0C, 0x0C, .bool, .rw, 3, .val 0, .any, .volatile, .package, false⟩,
  ⟨0xE000, 1, 0x0D, 0x0D, .bool, .ro, 1, .val 0, .any, .volatile, .package, false⟩,
  ⟨0xE010, 1, 0x01, 0x01, .domain (512 * 2 ^ 20), .wo, 3, .none, .any, .volatile, .package, false⟩]

/-- Every entry of the dictionary. -/
def entryRows : List EntryRow :=
  entries1 ++ entries2 ++ entries3 ++ entries4 ++ entries5 ++ entries6 ++ entries7 ++ entries8 ++ entries9 ++ entriesA ++ entriesBa ++ entriesBb ++ entriesC ++ entriesD ++ entriesE

end Sys2Proof.Machine
end

