-- ==== Sys2Proof/Machine/StateEng.lean ====
section
/-! DEFINITION. The state of the engines and their queues, of the key vault, the ternary table, the automaton arrays, the DRAM
controllers and the buffer pool manager (14 to 18 of spec/). -/
namespace Sys2Proof.Machine

/-- A range of a queue (R457, R467): base and last 64-byte block, with its rights. -/
structure QRange where
  base : Addr
  limit : Addr
  rd : Bool
  wr : Bool
  deriving DecidableEq, Repr

/-- What a queue's registers said when a descriptor was fetched (R467, R494, R516): writes to them apply to later ones. -/
structure QSetup where
  tenant : Bool
  fn : Nat
  ranges : Vector QRange 4
  histBase : Nat
  histLimit : Nat
  resBase : Nat
  deriving DecidableEq, Repr

/-- A descriptor fetched and not completed: its ring index, its 64 bytes as a number, whether its fetch met a bus error. -/
structure EDesc where
  slot : Nat
  raw : Nat
  busErr : Bool
  setup : QSetup
  deriving DecidableEq, Repr

/-- The states of a compression context (R451). -/
inductive CtxState where
  | closed | idle | running | suspended | outFull
  deriving DecidableEq, Repr

/-- A compression context (R453 to R459): its `OPEN` parameters, bytes 40 to 55; the input taken in since its history began, in
runs with the flag that ended each (1 `FLUSH`, 2 `END`); which of those bytes are poisoned; output bytes written and frames counted
since then; and the flag a stopped descriptor has still to apply. -/
structure CompCtx where
  state : CtxState
  params : Nat
  segs : List (List Byte × Nat)
  bad : List Nat
  emitted : Nat
  frames : Nat
  flag : Nat
  deriving DecidableEq, Repr

/-- An open message of a cipher or digest queue (R471, R476, R487, R490): its algorithm, or for GCM its opcode; whether it is keyed; for
GCM IV, tag length, additional data and, as `text`, the ciphertext so far; for a digest the bytes absorbed, the chaining state and, as
`text`, the partial block; poison; its context slot. -/
structure Message where
  algorithm : Nat
  keyed : Bool
  iv : List Byte
  tagLen : Nat
  aad : List Byte
  absorbed : Nat
  chain : List Nat
  text : List Byte
  poisoned : Bool
  slot : Option Nat
  deriving DecidableEq, Repr

/-- A search cursor (R500): key, tag selector, range as first and end, the count of its first search, the last entry reported, if any. -/
structure Cursor where
  key : Nat
  tagSel : Nat
  first : Nat
  stop : Nat
  count : Nat
  last : Option Nat
  deriving DecidableEq, Repr

/-- An open scan (R509): state, offset, record number, bytes in the record, and the program and set it runs. -/
structure ScanState where
  state : Nat
  offset : Nat
  rec_ : Nat
  inRec : Nat
  deriving DecidableEq, Repr

/-- A queue of an engine with its registers (R456, R467, R494, R516), its fetched descriptors in ring order, and what it holds
open. `headSince` orders the heads by how long they have waited; `slotWait` says that this head has been counted as waiting for a slot. -/
structure EQueue where
  assigned : Bool
  setup : QSetup
  descBase : Nat
  cplBase : Nat
  descTail : Nat
  descHead : Nat
  cplTail : Nat
  cplPhase : Bool
  cplHead : Nat
  eventEn : Bool
  resetBusy : Bool
  resetEnd : Nat
  resTail : Nat
  resHead : Nat
  queue : List EDesc
  headSince : Nat
  slotWait : Bool
  ctx : CompCtx
  message : Option Message
  cursor : Option Cursor
  scan : Option ScanState
  deriving DecidableEq, Repr

/-- Output written between two boundaries: address, bytes, poison mark. -/
structure Chunk where
  addr : Nat
  data : List Byte
  poison : Bool
  deriving DecidableEq, Repr

/-- How a descriptor ends: status, further bits of DW0, DW2 to DW7 of its completion but for `ELAPSED`, output written at the end,
and what its queue then holds. -/
structure Ending where
  status : Nat
  flags : Nat
  dws : List Nat
  writes : List Chunk
  ctx : Option CompCtx
  message : Option Message
  deriving DecidableEq, Repr

/-- A job in a pipe, or suspended (R463, R472). Its output is fixed when it starts; each boundary writes out one step of it. `slot` is
the context slot that holds its state while it is suspended. -/
structure Job where
  q : Nat
  pipe : Nat
  desc : EDesc
  startAt : Word
  steps : List (List Chunk)
  ending : Ending
  suspended : Bool
  everSuspended : Bool
  slot : Option Nat
  deriving DecidableEq, Repr

/-- A scan in a lane, or suspended (R509 to R511): what it runs, its input, bytes done, its state, result records formed and not yet
written, records written, whether its result ring is full, and whether it waits for its set. -/
structure ScanJob where
  q : Nat
  lane : Nat
  desc : EDesc
  startAt : Word
  done : Nat
  st : ScanState
  held : List (List Byte)
  written : Nat
  stalled : Bool
  waitSet : Bool
  suspended : Bool
  everSuspended : Bool
  deriving DecidableEq, Repr

/-- An engine of a region (R467, R494, R516): its control and counters, its jobs and scans. -/
structure Engine where
  enable : Bool
  saveBase : Nat
  suspensions : BitVec 32
  slotWaits : BitVec 32
  jobs : List Job
  scans : List ScanJob
  deriving DecidableEq, Repr

/-- A pattern set resident in an array (R508): slot or fixed program, set, load generation, the sizes it takes, last use. -/
structure Resident where
  program : Nat
  set : Nat
  gen : Nat
  states : Nat
  words : Nat
  accepts : Nat
  used : Nat
  deriving DecidableEq, Repr

/-- A key of the vault (R479): type, usage, owner, key material; an empty slot keeps its generation. -/
structure KeySlot where
  loaded : Bool
  type : Nat
  usage : Nat
  owner : Nat
  gen : BitVec 8
  key : List Byte
  deriving DecidableEq, Repr

/-- The key vault (R479 to R485): slots, the DRBG's request and reseed counts, the import and context keys of the present run,
the slot selected, and the table of namespace keys as the system furrows hold it, wrapped (R483). -/
structure Vault where
  slots : Tab KeySlot
  requests : Nat
  reseeds : BitVec 32
  importPrivate : List Byte
  importPublic : List Byte
  contextKey : List Byte
  storageLoaded : Bool
  slotSelect : Nat
  table : Tab KeySlot
  deriving DecidableEq, Repr

/-- A ternary entry with its shadow's word and owner (R496). -/
structure Tern where
  value : Nat
  mask : Nat
  tag : Nat
  wildcard : Bool
  valid : Bool
  moveTag : Bool
  word : Nat
  owner : Nat
  deriving DecidableEq, Repr

/-- A running `MOVE_BLOCK` (R502): the queue that issued it, span, steps done, and whether its completion is discarded. -/
structure Move where
  place : Nat
  q : Nat
  first : Nat
  count : Nat
  done : Nat
  startAt : Word
  discard : Bool
  deriving DecidableEq, Repr

/-- A batch or an invalidation in progress over several slots: its queue and how far it has come (R499, R501). -/
structure TableJob where
  q : Nat
  done : Nat
  startAt : Word
  deriving DecidableEq, Repr

/-- The ternary table (R496 to R503, R517). Entries by index, with their shadow; an unlisted one is invalid and zero. -/
structure Ternary where
  enable : Bool
  refreshEn : Bool
  shadowBase : Nat
  entries : Tab Tern
  moves : List Move
  jobs : List TableJob
  slotCount : BitVec 32
  updateCount : BitVec 32
  deriving DecidableEq, Repr

/-- The engines of all regions: engines by region × 4 + kind, queues by that × 64 + queue, the arrays' resident sets, and the
number the next head takes. -/
structure Engines where
  engines : Tab Engine
  queues : Tab EQueue
  resident : Vector (List Resident) 4
  nextOrder : Nat
  deriving DecidableEq, Repr

/-- A request at a DRAM controller (R524): arrival number and time, where it goes, its class, the real-time port it belongs to, data of a
write with its poison flag, and what it is for. A read, which has no data, asks for its whole burst. `back` marks the write-back of a
corrected burst (R358, R359); `bad` is the first copy of a journal record, found in error (R370). -/
structure DramReq where
  id : Nat
  at_ : Word
  addr : Nat
  write : Option (List Byte)
  poison : Bool
  cls : Nat
  port : Option Nat
  use_ : DramUse
  reqType : Nat
  reqNum : Nat
  aged : Bool
  back : Bool
  bad : Option Nat
  deriving DecidableEq, Repr

/-- A DDR5 channel (R524 to R533): requests in arrival order; self-refresh; when it last had a request, was tracked and trained;
the hub temperature it was trained at; the steps a retraining still takes; bursts that panic has taken in a row by subchannel;
refreshes postponed by bank; the controller's own writes that wait for an entry. -/
structure DramChan where
  reqs : List DramReq
  held : List DramReq
  selfRefresh : Bool
  lastReq : Word
  tracked : Word
  trainedTemp : BitVec 32
  retrainLeft : Nat
  panicRun : Vector Nat 2
  postponed : Tab Nat
  deriving DecidableEq, Repr

/-- The eight controllers: row tables by channel, subchannel, rank and bank, the start of their window, the ports in panic and
since when. -/
structure Dram where
  chans : Vector DramChan 8
  rows : Tab (List (Nat × Nat))
  windowAt : Word
  panic : Vector (Option Word) 5
  nextId : Nat
  trained : Bool
  deriving DecidableEq, Repr

/-- A buffer's state (R537). -/
structure Buf where
  count : Nat
  owner : Nat
  gen : Nat
  deriving DecidableEq, Repr

/-- A pool (R535, R538): base, size, state, the handles in its ring (those never issued stand as a range from `fresh`), and the
hub cache, the next handle to issue first. -/
structure Pool where
  base : Nat
  size : Nat
  state : Nat
  fresh : Nat
  ring : List Nat
  cache : List Nat
  deriving DecidableEq, Repr

/-- A core's buffer port (R540, R546). -/
structure BufPort where
  tenant : Bool
  fn : Nat
  pool : Nat
  select : Nat
  nulls : BitVec 32
  deriving DecidableEq, Repr

/-- An `ALLOC` that waits for a refill: the pool, and the core that reads. -/
structure AllocWait where
  pool : Nat
  core : Nat
  viaPort : Bool
  deriving DecidableEq, Repr

/-- The buffer pool manager (R535 to R546): pools, buffers by pool × 2^21 + index, region caches, ports by core. -/
structure Bpm where
  enable : Bool
  pools : Tab Pool
  bufs : Tab Buf
  caches : Vector (List Nat) 4
  ports : Tab BufPort
  waiting : List AllocWait
  query : Nat
  deriving DecidableEq, Repr

/-- The engines after a package reset. -/
def Engines.init : Engines := ⟨[], [], Vector.replicate 4 [], 0⟩

/-- The table after a package reset. -/
def Ternary.init : Ternary := ⟨false, false, 0, [], [], [], 0, 0⟩

/-- A channel as it is after start-up. -/
def DramChan.init : DramChan := ⟨[], [], false, 0, 0, 0, 0, Vector.replicate 2 0, []⟩

/-- The controllers before training. -/
def Dram.init : Dram := ⟨Vector.replicate 8 DramChan.init, [], 0, Vector.replicate 5 none, 0, false⟩


/-- The key vault before its keys are drawn (R481). -/
def Vault.init : Vault := ⟨[], 0, 0, [], [], [], false, 0, []⟩

/-- The buffer pool manager before its pools are built (R535). -/
def Bpm.init : Bpm := ⟨false, [], [], Vector.replicate 4 [], [], [], 0⟩

end Sys2Proof.Machine
end

