-- ==== Sys2Proof/Machine/StateFlash.lean ====
section
/-! DEFINITION. The state of the flash side: the array itself, the media ports, the code store and the translation
layer (06, 07 and 08 of spec/). -/
namespace Sys2Proof.Machine

/-- A codeword as stored: 4,096 data bytes, metadata bytes 0–30 and `POISON` (R192). Bytes past the list's end are 0. -/
structure Codeword where
  data : List Byte
  info : List Byte
  poison : Bool
  deriving DecidableEq, Repr

/-- What a page holds: the codewords programmed, or a page left undefined by an interrupted or failed operation (R215). An unlisted page is
erased. -/
inductive FlashPage where
  | raw (cws : List Codeword)
  | undefined
  deriving DecidableEq, Repr

/-- A stored map unit (R257 to R260): what its header names, its four logical blocks, whether poison travels with it, whether it is raw, the
slots it takes, the 32 bytes of its header, its encrypted frame or data, and its host metadata. -/
structure StoredUnit where
  nsid : Nat
  unit : Nat
  gen : Nat
  lbas : List Lba
  poison : Bool
  raw : Bool
  slots : Nat
  header : List Byte
  body : List Byte
  info : List Byte
  deriving DecidableEq, Repr

/-- An end marker on flash (R283): furrow, last confirmed wordline, durable sequence. -/
structure EndMark where
  furrow : Nat
  wordline : Nat
  durable : Nat
  deriving DecidableEq, Repr

/-- A bad-block table entry (R224): the block word's fields, the cause, the erase count at retirement and the sequence. -/
structure BadBlock where
  channel : Nat
  lun : Nat
  plane : Nat
  block : Nat
  cause : Nat
  erases : Nat
  seq : Nat
  deriving DecidableEq, Repr

/-- A LUN's identity record, in page 0 of its system block (R223): the serial of the Isle that first initialized the array, the LUN's place, a
digest of the geometry entries. -/
structure LunIdent where
  serial : Nat
  channel : Nat
  ce : Nat
  lun : Nat
  digest : List Byte
  deriving DecidableEq, Repr

/-- The flash array as this package last left it: pages by PPN (R254), units by PPN × 64 + slot, end markers by PPN, erase
counts by PPN / 2^13, factory marks; each channel's bad-block table with its sequence, as the firmware holds it; the copies of the tables by
channel × 4 + copy with the copy a rewrite has come to (R224); LUN identities by channel × 32 + LUN. -/
structure Flash where
  pages : Tab FlashPage
  units : Tab StoredUnit
  marks : Tab EndMark
  erases : Tab Nat
  factoryBad : List Nat
  bad : List BadBlock
  badSeq : Tab Nat
  initialized : Bool
  lunFeatures : Tab Nat
  tables : Tab (List Byte)
  tableNext : Tab Nat
  idents : Tab LunIdent
  deriving DecidableEq, Repr

/-- The opcodes of R201. -/
inductive MOpcode where
  | read | readCont | program | erase | getFeatures | setFeatures | readStatus | resetLun | raw
  deriving DecidableEq, Repr

/-- A checked descriptor (R199); `lun` is 4 × CE + LUN. -/
structure MDesc where
  opcode : MOpcode
  cls : Nat
  softLimit : Nat
  event : Bool
  planes : Nat
  lun : Nat
  tag : Nat
  block : Nat
  page : Nat
  retry : Nat
  count : Nat
  cwMask : Nat
  dataAddr : Nat
  metaAddr : Nat
  param : Nat
  deriving DecidableEq, Repr

/-- Whose work an operation is: a ring's slot, a host read, a read of a unit to be copied, a read for the rebuild of a unit's page (R278), a
patrol read, a column of a sown row, a furrow erase, or the twin's through `MEDIA_REQ` (R345). -/
inductive Origin where
  | ring (slot : Nat)
  | host (cmd unit : Nat)
  | glean (nsid unit : Nat)
  | rebuild (nsid unit page : Nat)
  | patrol
  | row (furrow wordline col : Nat)
  | furrowErase (furrow col : Nat)
  | proxied (transfer : Nat)
  deriving DecidableEq, Repr

/-- A `RAW` sequence that runs (R204): the steps left, how many data bytes it has moved, the wait-ready step it is at with its µs, the
command byte of the cycle it is in, the address bytes of that cycle, the rows it has gathered, and what the die runs for it: whether
an erase, and the rows. -/
structure RawRun where
  steps : List (Nat × Nat)
  moved : Nat
  wait : Option (Word × Nat)
  cmd : Nat
  addr : List Nat
  rows : List Nat
  busy : Option (Bool × List Nat)
  deriving DecidableEq, Repr

/-- An operation fetched and not yet completed, with how far it has come. `place` is its command's place in arrival order (R161). A read's
sense of stage `stage` began at `senseAt`; `again` says that it waits for an extra one. `left` are its codewords still to decode, each with
its stage (R217). -/
structure MOp where
  id : Nat
  channel : Nat
  desc : MDesc
  origin : Origin
  started : Bool
  startAt : Word
  place : Nat
  senseAt : Word
  stage : Nat
  again : Bool
  raw : Option RawRun
  sensed : Bool
  transferred : Bool
  inSuspension : Bool
  pagesDone : Nat
  failed : Nat
  erasedCws : Nat
  left : List (Nat × Nat)
  poisoned : Bool
  soft : Bool
  senses : Nat
  maxBits : Nat
  onfi : Nat
  deriving DecidableEq, Repr

/-- The LUN states of R209. -/
inductive LunState where
  | idle | reading | programming | erasing | suspending | suspended | suspRead | suspProgram
  deriving DecidableEq, Repr

/-- A running or suspended erase: how often suspended, when it last started to run, the erase time spent before that,
the operations the present suspension serves, and whether its one program has run (R208, R210). -/
structure EraseRun where
  op : MOp
  count : Nat
  runSince : Word
  spent : Nat
  served : List Nat
  programUsed : Bool
  deriving DecidableEq, Repr

/-- One LUN of a channel: its state, operations in ring order, erase, fault and recovery (R207, R209, R210, R216); the status byte last read
from it (R205), and what its read-retry feature held before a retry setting replaced it (R217). -/
structure Lun where
  state : LunState
  ops : List MOp
  erase : Option EraseRun
  fault : Bool
  recovering : Option Word
  faultTimes : List Word
  retired : Bool
  unobserved : Bool
  status : Nat
  retryOld : Option (Option Nat)
  deriving DecidableEq, Repr

/-- A channel's claim through the ownership interlock (R338). -/
inductive Claim where
  | none | waiting (since : Word) | owned | releasing
  deriving DecidableEq, Repr

/-- A media port and its channel (R193, R194, R195); `input` is the program whose data input is under way (R161). -/
structure Port where
  enable : Bool
  eventEn : Bool
  inputYield : Bool
  descBase : Nat
  descTail : Nat
  descHead : Nat
  cplBase : Nat
  cplTail : Nat
  cplPhase : Bool
  cplHead : Nat
  doorbellIgnored : BitVec 32
  ringError : Bool
  resetBusy : Bool
  resetEnd : Nat
  trained : Bool
  retraining : Bool
  claim : Claim
  chownI : Bool
  proxied : Bool
  byTwin : Bool
  trainedTemp : BitVec 32
  transfers : List Nat
  input : Option Nat
  deriving DecidableEq, Repr

/-- A write-pointer entry's state (R211). -/
inductive WpState where
  | opened | full | unknown | bad
  deriving DecidableEq, Repr

/-- A write-pointer entry (R211). -/
structure Wp where
  state : WpState
  next : Nat
  deriving DecidableEq, Repr

/-- The media engine of all four regions: 32 ports, LUNs by channel × 32 + 4 × CE + LUN, the operations the firmware has still to post, by
channel (R161), the number the next operation takes, and the ended operations of firmware work, which the step that ended them
consumes. The write-pointer tables lie in region staging (R211). -/
structure Media where
  ports : Tab Port
  luns : Tab Lun
  backlog : List (Nat × MDesc × Origin)
  nextId : Nat
  done : List (MOp × Nat)
  deriving DecidableEq, Repr

/-- The opcodes of R237. -/
inductive CsOpcode where
  | read | program | erase | blankCheck
  deriving DecidableEq, Repr

/-- A code-store descriptor fetched and not completed (R237). -/
structure CsOp where
  opcode : CsOpcode
  tag : Nat
  event : Bool
  urgent : Bool
  overwrite : Bool
  addr : Nat
  buf : Nat
  len : Nat
  slot : Nat
  started : Bool
  startAt : Word
  inSuspension : Bool
  deriving DecidableEq, Repr

/-- A bank of the array: the operation it runs, an erase it holds suspended with its count, run start and time spent,
whether that suspension's program has run, whether a reset of the bank is running, and whether a flush holds its erase
(R241, R243, R296). -/
structure Bank where
  running : Option CsOp
  suspended : Option CsOp
  suspCount : Nat
  runSince : Word
  spent : Nat
  programUsed : Bool
  resetting : Option Word
  deriving DecidableEq, Repr

/-- The code store: its array (unlisted bytes read 0xFF), undefined and uncorrectable lines (by offset / 32), controller
registers (R235), fetched descriptors, banks, execute-in-place cache lines (by offset / 128), the image being
downloaded, and the block words of the compact copy with the erase count of its sectors (R225, R231). -/
structure CodeStore where
  big : Bool
  array : Tab Byte
  undefinedLines : Tab Bool
  badLines : Tab Bool
  faulted : Bool
  enable : Bool
  eventEn : Bool
  descBase : Nat
  descTail : Nat
  descHead : Nat
  cplBase : Nat
  cplTail : Nat
  cplPhase : Bool
  cplHead : Nat
  ringError : Bool
  resetBusy : Bool
  resetEnd : Nat
  fetchStalls : BitVec 32
  doorbellIgnored : BitVec 32
  ops : List CsOp
  banks : Vector Bank 2
  cache : List Nat
  runningSlot : Nat
  image : Tab Byte
  imageLen : Nat
  markerOff : Nat
  nextPf : Nat
  compact : List Nat
  compactErases : Nat
  deriving DecidableEq, Repr

/-- A map entry (R253). -/
structure MapEntry where
  state : Nat
  len : Nat
  off : Nat
  gen : Nat
  ppn : Nat
  deriving DecidableEq, Repr

/-- The furrow states of R270. -/
inductive FurrowState where
  | fallow | sowing | full | gleaning | reclaimable | erasing
  deriving DecidableEq, Repr

/-- A column of a furrow: its index, channel, LUN, block and planes, its erase count, and whether it has left (R262, R274). -/
structure FCol where
  col : Nat
  channel : Nat
  lun : Nat
  block : Nat
  planes : Nat
  erases : Nat
  gone : Bool
  deriving DecidableEq, Repr

/-- A furrow that has been opened (R270, R271): rows opened and confirmed, the columns whose erase has not ended or failed,
the columns a refresh found in need of die parity (R288), the slots at the start of the next row that the last unit of the
row before takes (R259), and the last record that moved a unit out (R286). -/
structure Furrow where
  id : Nat
  group : Nat
  layout15 : Bool
  cols : List FCol
  state : FurrowState
  region : Nat
  nextRow : Nat
  confirmed : Nat
  fullAt : Word
  eraseLeft : List Nat
  eraseFailed : List Nat
  noErase : List Nat
  refresh : Bool
  carry : Nat
  movedAt : Nat
  deriving DecidableEq, Repr

/-- The bodies of journal records (R279). -/
inductive JBody where
  | unitMap (nsid unit : Nat) (e : MapEntry)
  | dealloc (nsid first count : Nat)
  | furrowOpen (furrow col block planes : Nat) (layout15 : Bool) (erases : Nat)
  | rowConfirmed (furrow wordline cols : Nat)
  | furrowState (furrow : Nat) (state : FurrowState) (at_ : Word)
  | blockBad (word cause erases : Nat)
  | lunRetired (channel lun cause : Nat)
  | checkpoint (end_ : Bool) (number start : Nat)
  | readOnly (set : Bool)
  deriving DecidableEq, Repr

/-- A journal record: its sequence, `LAST` and `MOVE` flags and body (R279). -/
structure JRec where
  seq : Nat
  last : Bool
  move : Bool
  body : JBody
  deriving DecidableEq, Repr

/-- A complete checkpoint (R282). -/
structure Checkpoint where
  number : Nat
  start : Nat
  map : Tab MapEntry
  furrows : List Furrow
  deriving DecidableEq, Repr

/-- A unit placed in a row being sown: where its new entry will point, for a moved unit the entry it was read from, and
whether it ends in the next row. -/
structure Placed where
  nsid : Nat
  unit : Nat
  order : Nat
  entry : MapEntry
  movedFrom : Option MapEntry
  stored : StoredUnit
  crosses : Bool
  deriving DecidableEq, Repr

/-- A wordline row being programmed (R273): its units, and its columns ended, failed, posted and still to be posted. -/
structure Row where
  furrow : Nat
  wordline : Nat
  units : List Placed
  ended : List Nat
  failed : List Nat
  posted : List Nat
  waiting : List Nat
  deriving DecidableEq, Repr

/-- A unit of a furrow being gleaned or refreshed that is still to be copied, how many reads of its pages have still to end well, and the pages
whose read failed (R286). -/
structure Glean where
  furrow : Nat
  nsid : Nat
  unit : Nat
  entry : MapEntry
  reads : Nat
  lost : List Nat
  deriving DecidableEq, Repr

/-- The rebuild of a page that a unit's read could not have: the codewords, the reads of the stripe's other pages that are out, those that
ended well, and how many of them the reconstruction takes (R278). -/
structure Mend where
  nsid : Nat
  unit : Nat
  page : Nat
  mask : Nat
  left : Nat
  got : Nat
  need : Nat
  deriving DecidableEq, Repr

/-- One ANA group's channel set as this Isle knows it: the live map or the shadow, the furrows, the journal in DRAM and on
flash, the checkpoints, the page rebuilds that run, and a static swap's furrow with the one it is sown into (R252, R261, R278 to R283, R290). -/
structure XSet where
  live : Bool
  current : Bool
  map : Tab MapEntry
  furrows : List Furrow
  openings : Tab Nat
  nextRegion : Nat
  rows : List Row
  crossing : List (Nat × Placed)
  moved : List Placed
  gleans : List Glean
  refreshes : List Nat
  seq : Nat
  programmed : Nat
  twinAck : Nat
  dram : List JRec
  flashLog : List JRec
  checkpoint : Option Checkpoint
  running : Option (Nat × Nat × Tab MapEntry × List Furrow)
  sinceCheckpoint : Nat
  checkpointAt : Word
  headland0 : Nat
  swapRunning : Option (Nat × Option Nat)
  badSegments : List Nat
  mending : List Mend
  deriving DecidableEq, Repr


/-- An array never initialized: every page erased. -/
def Flash.init : Flash := ⟨[], [], [], [], [], [], [], false, [], [], [], []⟩

/-- The media engine after reset: every port and LUN at its reset values, the write-pointer tables zero (R193, R214). -/
def Media.init : Media := ⟨[], [], [], 0, []⟩

/-- An idle bank. -/
def Bank.init : Bank := ⟨none, none, 0, 0, 0, false, none⟩

/-- The code-store controller after reset over a blank array (R235, log 8). -/
def CodeStore.init (big : Bool) : CodeStore where
  big := big
  array := []
  undefinedLines := []
  badLines := []
  faulted := false
  enable := false
  eventEn := false
  descBase := 0
  descTail := 0
  descHead := 0
  cplBase := 0
  cplTail := 0
  cplPhase := true
  cplHead := 0
  ringError := false
  resetBusy := false
  resetEnd := 0
  fetchStalls := 0
  doorbellIgnored := 0
  ops := []
  banks := Vector.replicate 2 Bank.init
  cache := []
  runningSlot := 0
  image := []
  imageLen := 0
  markerOff := 0
  nextPf := 0
  compact := []
  compactErases := 0

/-- A set with nothing known of it. -/
def XSet.init : XSet where
  live := false
  current := false
  map := []
  furrows := []
  openings := []
  nextRegion := 0
  rows := []
  crossing := []
  moved := []
  gleans := []
  refreshes := []
  seq := 0
  programmed := 0
  twinAck := 0
  dram := []
  flashLog := []
  checkpoint := none
  running := none
  sinceCheckpoint := 0
  checkpointAt := 0
  headland0 := 0
  swapRunning := none
  badSegments := []
  mending := []

end Sys2Proof.Machine
end

