-- ==== Sys2Proof/Machine/StatePkg.lean ====
section
/-! DEFINITION. The state of the package as a whole, of the object dictionary and its transports, and of the event
controller (01, 02, 18 and 19 of spec/). -/
namespace Sys2Proof.Machine

/-- A die-link module's state, in the coding of `0x2030.01` (R49). -/
inductive LinkState where
  | down | training | up
  deriving DecidableEq, Repr

/-- One die-link module: its state and when it last went down and came up (R9). -/
structure DieLink where
  state : LinkState
  downAt : Word
  upAt : Word
  deriving DecidableEq, Repr

/-- A region's state, in the coding of `0x2010.01` (R49). -/
inductive RegionState where
  | online | offline | admitting
  deriving DecidableEq, Repr

/-- Why a flush was entered, in the order of the codes of R314 byte 4. -/
inductive FlushEntry where
  | powerFail | packageReset | thermal
  deriving DecidableEq, Repr

/-- What `0x2040.01` records (R49); `powerFail` is the reset a power failure ends in, for which R49 gives no code (log 70). -/
inductive ResetKind where
  | powerOn | perst | hotReset | commanded | packageFault | thermalTrip | powerFail
  deriving DecidableEq, Repr

/-- Where the package stands: without rails; held in reset and why; running (start-up included); in a flush. -/
inductive Phase where
  | off
  | inReset
  | heldPowerFail
  | heldFault
  | heldThermal
  | running
  | flushing (e : FlushEntry)
  deriving DecidableEq, Repr

/-- The straps as sampled under R568. -/
structure Straps where
  isle : Bool
  twin : Bool
  bootBank : Bool
  deriving DecidableEq, Repr

/-- Which steps of R41 have ended. -/
structure Boot where
  configReady : Bool
  linksUp : Bool
  ddrUp : Bool
  firmwareUp : Bool
  twinWaitOver : Bool
  mapLoaded : Bool
  stopped : Bool
  rdySeen : Bool
  startAt : Word
  deriving DecidableEq, Repr

/-- The package: its pins, phase, timebase, die links, regions, sensors (R19, R20, R34, R38, R41, R46). `nextStraps` were sampled
last and take effect as start-up begins; `ticking` says that the timebase has started; `perstCycled` that PERST# has been asserted and
released in a thermal hold. -/
structure Pkg where
  phase : Phase
  perst : Bool
  perstCycled : Bool
  pwrFail : Bool
  refclk : Bool
  straps : Straps
  nextStraps : Straps
  ticking : Bool
  timebase : Word
  boot : Boot
  resetKind : ResetKind
  nextReset : ResetKind
  twinFailO : Bool
  thermTrip : Bool
  links : Vector DieLink 4
  regions : Vector RegionState 4
  reclaim : Vector (List Nat) 4
  dieTemp : Vector (BitVec 32) 4
  tempPeakValid : Bool
  startupUs : Nat
  unclean : Bool
  linkSpeed : Nat
  linkWidth : Nat
  linkFlit : Bool
  laneReversed : Bool
  slmSize : Nat
  deriving DecidableEq, Repr

/-- A dictionary session (R55): a controller, an MCTP endpoint, a 10BASE-T1S peer under either key, or the firmware. -/
inductive Session where
  | nvme (fn : Nat)
  | mctp (eid : Nat)
  | t1s (mac : Nat) (supervisor : Bool)
  | strait
  | firmware
  deriving DecidableEq, Repr

/-- A staged value: the entry's key, the bytes it holds and its value, little-endian. -/
structure Staged where
  key : Nat
  len : Nat
  val : Nat
  deriving DecidableEq, Repr

/-- A session's stage (R60, R61): values in the order first staged, and at most one DOMAIN value. -/
structure Stage where
  session : Session
  vals : List Staged
  domain : Option (Nat × List Byte)
  deriving DecidableEq, Repr

/-- An open DOMAIN transfer (R70, R71): a snapshot being read, or the bytes written so far. -/
structure Transfer where
  session : Session
  key : Nat
  write : Bool
  data : List Byte
  next : Nat
  last : Word
  deriving DecidableEq, Repr

/-- A dictionary access header (R79): operation, tag, entry, flags, offset, function and `SUPERVISOR`. -/
structure Hdr where
  op : Nat
  tag : Nat
  index : Nat
  sub : Nat
  flags : Nat
  offset : Nat
  function : Nat
  supervisor : Bool
  deriving DecidableEq, Repr

/-- The transport a header request came by: an MCTP endpoint with its `IC` bit, a 10BASE-T1S frame with its addresses,
sequence and key, the Strait (R80, R82, R83, R88). -/
inductive Via where
  | mctp (eid : Nat) (ic : Bool)
  | t1s (dst mac seq : Nat) (key : List Byte)
  | strait
  deriving DecidableEq, Repr

/-- Where a dictionary answer goes: a completion entry, a header response, or nowhere. -/
inductive Reply where
  | nvme (fn sq cid : Nat) (ptr : Walk)
  | header (via : Via) (h : Hdr)
  | none
  deriving DecidableEq, Repr

/-- A header request as it arrived: its header, `LENGTH` and value. -/
structure HdrReq where
  via : Via
  h : Hdr
  len : Nat
  value : List Byte
  deriving DecidableEq, Repr

/-- A commit waiting for the dictionary engine (R64). -/
structure CommitReq where
  session : Session
  reply : Reply
  deriving DecidableEq, Repr

/-- Where the commit being processed stands: step 4 waits for the twin, step 5 for the marker (R64). -/
inductive CommitPhase where
  | awaitTwin | awaitMarker
  deriving DecidableEq, Repr

/-- The commit in the dictionary engine: the stage as it was taken; `seq` is its pair commit sequence where this Isle has assigned one,
`answer` the status the twin has answered. -/
structure Committing where
  session : Session
  reply : Reply
  vals : List Staged
  seq : Nat
  domain : Option (Nat × List Byte)
  phase : CommitPhase
  shared : Bool
  persistent : Bool
  answer : Option Nat
  deriving DecidableEq, Repr

/-- An MCTP endpoint's session: its requests that wait behind a commit of its own (R81). -/
structure McSession where
  eid : Nat
  waiting : List HdrReq
  deriving DecidableEq, Repr

/-- A 10BASE-T1S peer entry (R84, R86). -/
structure Peer where
  mac : Nat
  high : Nat
  seen : BitVec 64
  last : Word
  nonce : Option (List Byte × Word)
  session : Option (List Byte)
  deriving DecidableEq, Repr

/-- The failed-ANSWER record of a MAC address (R86): consecutive mismatches, and the lockout's start. -/
structure AuthRecord where
  misses : Nat
  lockedAt : Option Word
  deriving DecidableEq, Repr

/-- The dictionary engine. `vals` lists every value that differs from its default; `store` is the persistent store's
marked records, `force` the values in force of the entries that change only at a package reset, and `unmarked` the records of the commit in hand whose marker is not yet written (R64, R67).
`storeLog` is the log of records in the eight parameter sectors, each a key with the bytes it takes (a marker has the key 0), and `storeOpen` the
open sector (R66); `owesAdopt` says that a commit lost its records after the twin had applied it, so that the twin's shared entries are
adopted at the next pairing (R64); `storeErases` are the erase counts in the sectors' headers (R231). -/
structure Dict where
  vals : Tab Nat
  store : Tab Nat
  unmarked : List (Nat × Nat)
  force : Tab Nat
  storeLog : Vector (List (Nat × Nat)) 8
  storeOpen : Nat
  storeErases : Vector Nat 8
  owesAdopt : Bool
  stages : List Stage
  transfers : List Transfer
  queue : List CommitReq
  current : Option Committing
  pairSeq : Nat
  mctp : List McSession
  peers : List Peer
  auth : Tab AuthRecord
  epoch : Word
  deriving DecidableEq, Repr

/-- The event controller (R546 to R555): 64 groups of 32 sources. -/
structure Events where
  latch : Vector (BitVec 32) 64
  level : Vector (BitVec 32) 64
  enable : Vector (BitVec 32) 64
  active : Vector (BitVec 32) 64
  waiting : Vector (BitVec 32) 64
  target : Tab (BitVec 32)
  nextTarget : Tab (BitVec 32)
  timer : Vector (Option Word) 64
  holdoff : Vector (BitVec 16) 64
  hostLine : Vector Bool 4
  deriving DecidableEq, Repr

/-- A fresh event controller (R554). -/
def Events.init : Events where
  latch := Vector.replicate 64 0
  level := Vector.replicate 64 0
  enable := Vector.replicate 64 0
  active := Vector.replicate 64 0
  waiting := Vector.replicate 64 0
  target := []
  nextTarget := []
  timer := Vector.replicate 64 none
  holdoff := Vector.replicate 64 0
  hostLine := Vector.replicate 4 false


/-- Start-up with no step ended (R41). -/
def Boot.init : Boot := ⟨false, false, false, false, false, false, false, false, 0⟩

/-- The package as its rails come up: held in reset with PERST# asserted, its die links down, nothing sampled yet. The regions read
`ONLINE`, the default of `0x2010.01`; die temperatures and the PCIe link's figures are design choices (log 69). -/
def Pkg.init : Pkg where
  phase := .inReset
  perst := true
  perstCycled := false
  pwrFail := false
  refclk := true
  straps := ⟨false, false, false⟩
  nextStraps := ⟨false, false, false⟩
  ticking := false
  timebase := 0
  boot := Boot.init
  resetKind := .powerOn
  nextReset := .powerOn
  twinFailO := false
  thermTrip := false
  links := Vector.replicate 4 ⟨.down, 0, 0⟩
  regions := Vector.replicate 4 .online
  reclaim := Vector.replicate 4 []
  dieTemp := Vector.replicate 4 0
  tempPeakValid := false
  startupUs := 0
  unclean := false
  linkSpeed := 0
  linkWidth := 0
  linkFlit := false
  laneReversed := false
  slmSize := 0

/-- A dictionary whose every entry holds its default and whose store holds no record. -/
def Dict.init : Dict where
  vals := []
  store := []
  unmarked := []
  force := []
  storeLog := Vector.replicate 8 []
  storeOpen := 0
  storeErases := Vector.replicate 8 0
  owesAdopt := false
  stages := []
  transfers := []
  queue := []
  current := none
  pairSeq := 0
  mctp := []
  peers := []
  auth := []
  epoch := 0

end Sys2Proof.Machine
end

