-- ==== Sys2Proof/Machine/StateHost.lean ====
section
/-! DEFINITION. The state of the NVMe front end, of tenants, of the dirty buffer and hold-up, of the twin pair and of error
counting (03, 04, 05, 09, 10 and 11 of spec/). -/
namespace Sys2Proof.Machine

/-- A submission queue: size, fetch position, tail, its completion queue, priority (R107, R112, R130), when its tail was last
moved, and the Delete I/O SQ command that waits for its commands (R145). -/
structure Sq where
  size : Nat
  head : Nat
  tail : Nat
  cq : Nat
  qprio : Nat
  bellAt : Word
  deleting : Option Nat
  deriving DecidableEq, Repr

/-- A completion queue: size, posting position and phase, host head, interrupt vector and enable. -/
structure Cq where
  size : Nat
  tail : Nat
  phase : Bool
  head : Nat
  vector : Nat
  ien : Bool
  deriving DecidableEq, Repr

/-- An Error Information entry (R125). -/
structure ErrorEntry where
  count : Nat
  sq : Nat
  cid : Nat
  status : Nat
  lba : Nat
  nsid : Nat
  specific : Nat
  param : Nat
  deriving DecidableEq, Repr

/-- An asynchronous event (R127): type, information, log page, and the bit of the Asynchronous Event Configuration that enables it. -/
structure AsyncEvent where
  type : Nat
  info : Nat
  log : Nat
  on : Option Nat
  deriving DecidableEq, Repr

/-- A controller, one for each function (R43, R127, R148, R165, R180, R181): its registers `CC`, `ASQ`, `ACQ` and the sizes of `AQA`; `events`
are those that wait for a request or for their type to unmask; `offlineCids` are the PF's Secondary Controller Offline commands that
wait for this function's reset (R172). -/
structure Ctrl where
  enabled : Bool
  ready : Bool
  cfs : Bool
  wrr : Bool
  cc : Nat
  asq : Nat
  acq : Nat
  online : Bool
  vq : Nat
  vi : Nat
  aqaSq : Nat
  aqaCq : Nat
  resetting : Bool
  flr : Option Word
  lateExpected : Nat
  offlineCids : List Nat
  aers : List Nat
  masked : List Nat
  events : List AsyncEvent
  features : Tab Nat
  errors : List ErrorEntry
  errorCount : Nat
  keepAliveMs : Nat
  keepAliveAt : Word
  coalesced : Tab Nat
  coalesceAt : Word
  resvLog : List (Nat × Nat)
  resvCount : Nat
  anaChanges : Nat
  tokens : Nat
  scrub : Nat
  deriving DecidableEq, Repr

/-- A registrant of a namespace's reservation. -/
structure Registrant where
  cntlid : Nat
  host : Nat
  key : Nat
  deriving DecidableEq, Repr

/-- A namespace (R109 to R111, R117); `extended` says that its metadata travels with its data, not in a buffer of its own. -/
structure Namespace where
  nsid : Nat
  lbas : Nat
  lbaf : Nat
  dps : Nat
  group : Nat
  attached : List Nat
  keyGen : Nat
  keyType : Nat
  registrants : List Registrant
  holder : Option Nat
  resvType : Nat
  ptpl : Bool
  resvGen : Nat
  nguid : Nat
  guard64 : Bool
  extended : Bool
  deriving DecidableEq, Repr

/-- A span of map units with its kind (R133, R134). -/
structure Span where
  nsid : Nat
  first : Nat
  count : Nat
  write : Bool
  deriving DecidableEq, Repr

/-- The I/O work of a command in flight. -/
inductive IoOp where
  | write (at_ : Extent) (data : List Lba)
  | zeroes (at_ : Extent)
  | read (at_ : Extent)
  | compare (at_ : Extent) (data : List Lba)
  | verify (at_ : Extent)
  | deallocate (ranges : List Extent)
  | copy (src : List Extent) (dst : Extent) (check : List PrInfo)
  | memCopy (src : List Extent) (dst : Nat)
  | device (op : DevOp)
  | other
  deriving DecidableEq, Repr

/-- A class-0 charge: a die, the senses it has still to make, and the codewords it has still to transfer (R154). -/
structure Charge where
  channel : Nat
  lun : Nat
  senses : Nat
  cws : Nat
  deriving DecidableEq, Repr

/-- A command in the front end, from fetch to completion (R134 to R136, R144, R145). `order` is its arrival order; `media`
lists its map units' flash reads in flight, each with the furrow it looked up; `lost` the units whose reads failed and wait
for die parity; `ptr` are its data and metadata pointers; `need` and `inbuf` hold what a forwarded command still lacks and has of its data; `status` is the first error met (SCT × 256 + SC); `fwdTag` marks a command the twin forwarded here; `judged` one that
has passed the class-0 admission (R154); `mirror` that mirroring was enabled as it was admitted (R352). -/
structure HostCmd where
  order : Nat
  fn : Nat
  sq : Nat
  cid : Nat
  cls : Nat
  nsid : Nat
  op : IoOp
  pr : PrInfo
  ptr : Walk
  spans : List Span
  admitted : Bool
  past : Bool
  silent : Bool
  waitDirty : Bool
  reserved : Nat
  media : List (Nat × Nat)
  lost : List (Nat × Nat)
  filled : Bool
  need : Nat
  inbuf : List Byte
  status : Nat
  errLba : Nat
  errSpecific : Nat
  errParam : Nat
  poisonOut : Bool
  spoilt : List Nat
  charges : List Charge
  judged : Bool
  mirror : Bool
  arrived : Word
  fwdTag : Option Nat
  deriving DecidableEq, Repr

/-- A command this Isle forwarded to the twin (R349): `arrived` when its doorbell was written, `ptr` its pointers, `apart` the metadata
bytes of a block that go to a buffer of their own, `failed` that host data it needed failed (R99, R100), `mute` that a reset of its function has squashed its host data (R181). -/
structure FwdCmd where
  tag : Nat
  fn : Nat
  sq : Nat
  cid : Nat
  cls : Nat
  nsid : Nat
  write : Bool
  count : Nat
  pieces : List Nat
  silent : Bool
  stopping : Bool
  data : List Byte
  arrived : Word
  ptr : Walk
  apart : Nat
  failed : Bool
  mute : Bool
  deriving DecidableEq, Repr

/-- A self-test in progress (R150 to R153). -/
structure SelfTest where
  extended : Bool
  fn : Nat
  segment : Nat
  startedAt : Word
  deriving DecidableEq, Repr

/-- A Sanitize operation in progress (R116): whether it erases blocks, whether this Isle's part still runs, and whether the twin's does. -/
structure Sanitize where
  block : Bool
  own : Bool
  twin : Bool
  deriving DecidableEq, Repr

/-- SPDM requester-visible progress (R104). -/
inductive SpdmStage where
  | none | version | capabilities | algorithms
  deriving DecidableEq, Repr

/-- A completion entry that waits for room in its completion queue, with its command's arrival and the range-lock entries it holds until
the entry is posted (R136). -/
structure HeldCpl where
  fn : Nat
  sq : Nat
  cid : Nat
  status : Nat
  dw0 : Nat
  dw1 : Nat
  urgent : Bool
  arrived : Word
  spans : List Span
  deriving DecidableEq, Repr

/-- A fetch engine's arbitration (R130, R131, R171): the functions served last in the admin and the class-0 tier, the function whose turn it
is and what each has left of its credit; the weights left to a controller's classes, and the queue each served last with what is left of
its burst, keyed by function × 8 + class, 4 for all classes under round robin. -/
structure Arb where
  adminLast : Nat
  urgentLast : Nat
  turn : Nat
  credit : Tab Nat
  weight : Tab Nat
  queue : Tab Nat
  burst : Tab Nat
  deriving DecidableEq, Repr

/-- The NVMe front end. Queues are keyed by function × 65536 + queue identifier, `config` by function × 1024 + doubleword, `msix` by
function × 8192 + doubleword, `msixPend` by function × 2048 + vector. `busyAt` is when host work was last queued for each region,
and a host command last outstanding on the package (R150). `modeWait` are
the programs posted before the last commit of B that have still to finish, by channel and operation number (R160). -/
structure Nvme where
  ctrls : Tab Ctrl
  sqs : Tab Sq
  cqs : Tab Cq
  numVfs : Nat
  vfEnable : Bool
  vc1 : Bool
  tcMap : BitVec 8
  namespaces : List Namespace
  saved : Tab Nat
  cmds : List HostCmd
  nextOrder : Nat
  stalledEngines : BitVec 16
  packageTokens : Nat
  modeOpen : Bool
  modeB : Nat
  urgentDone : Nat
  urgentBeyond : Nat
  urgentRebuilt : Nat
  urgentMax : Nat
  urgentArmed : Bool
  warnings : BitVec 8
  selfTest : Option SelfTest
  selfTestLog : List (Nat × Nat)
  sanitize : Option Sanitize
  sanitizeDone : Nat
  changedNs : List Nat
  fwdOut : List FwdCmd
  nextTag : Nat
  spdm : SpdmStage
  spdmOut : List Byte
  doeOut : List Byte
  heldCpl : List HeldCpl
  config : Tab Nat
  msix : Tab Nat
  msixPend : Tab Bool
  arbs : Vector Arb 16
  busyAt : Vector Word 5
  modeWait : List (Nat × Nat)
  pairKeyGen : Nat
  tableKeyGen : Nat
  nextKeyGen : Nat
  deriving DecidableEq, Repr

/-- A unit of the dirty write buffer (R273, R302, R329): `order` is its place in commit-point order and its `MIRROR_SEQ`;
`piece` the order of its piece's first unit; a `zero` unit is deallocated with its piece and never sown. -/
structure DirtyUnit where
  order : Nat
  set : Nat
  nsid : Nat
  unit : Nat
  gen : Nat
  lbas : List Lba
  poison : Bool
  piece : Nat
  pieceUnits : Nat
  cmd : Nat
  slot : Option Nat
  acked : Bool
  committed : Bool
  committedAt : Nat
  sowing : Bool
  confirmed : Bool
  recSeq : Nat
  superseded : Bool
  entry : Option MapEntry
  zero : Bool
  deriving DecidableEq, Repr

/-- A hold-up measurement series (R305, R306, R308). -/
structure Series where
  v0 : Nat
  asserted : Bool
  postpones : Nat
  invalids : Nat
  deriving DecidableEq, Repr

/-- A flush in progress (R299). -/
structure Flush where
  entry : FlushEntry
  t0 : Word
  dirty0 : Nat
  sense0 : Nat
  mirroring : Bool
  through : Bool
  dataDone : Bool
  closed : Nat
  durable : Nat
  endsAt : Word
  deriving DecidableEq, Repr

/-- The dirty buffer, its ceiling, and the hold-up measurement (R302 to R310). -/
structure Hold where
  dirty : List DirtyUnit
  nextOrder : Nat
  ceiling : Nat
  raise : Option Nat
  computed : Nat
  lastC : Nat
  lastV0 : Nat
  lastE : Nat
  lastTime : Word
  valid : Bool
  series : Option Series
  endedAt : Word
  needRetry : Bool
  sharedAt : Word
  huTest : Bool
  flush : Option Flush
  runNumber : Nat
  foundRun : Nat
  deriving DecidableEq, Repr

/-- The pair states, in the coding of `0x8000.01` (R327, R352). -/
inductive PairState where
  | alone | resync | inStep | split | takeover | sole | failback
  deriving DecidableEq, Repr

/-- A frame this Isle has queued on the Strait: class, type, payload bytes, and whether it belongs to a class-0 command
(R321, R322, R324). -/
structure TxFrame where
  cls : Nat
  type : Nat
  payload : List Byte
  urgent : Bool
  deriving DecidableEq, Repr

/-- A mirror slot held for the twin (R329 to R332). -/
structure Held where
  slot : Nat
  nsid : Nat
  unit : Nat
  gen : Nat
  seq : Nat
  piece : Nat
  pieceUnits : Nat
  crc : Nat
  info : List Byte
  fwdTag : Option Nat
  chunks : Tab (List Byte)
  acked : Bool
  recorded : Bool
  deriving DecidableEq, Repr

/-- What the last heartbeat of the twin said (R335). -/
structure TwinView where
  timebase : Nat
  pair : Nat
  regions : Nat
  chown : Nat
  shipped : Nat
  applied : Nat
  freeSlots : Nat
  deriving DecidableEq, Repr

/-- A takeover of a set in progress (R340, R347): its start, whether it is a restart takeover, and the claims it waits for. -/
structure Takeover where
  group : Nat
  startAt : Word
  restart : Bool
  channels : List Nat
  claimed : List Nat
  lossy : Bool
  deriving DecidableEq, Repr

/-- A failback in progress (R348): the group, whether this Isle hands it in (or out), and the steps done. -/
structure Failback where
  group : Nat
  handingOut : Bool
  released : Bool
  deriving DecidableEq, Repr

/-- A media operation this Isle has proxied through the twin (R345): transfer number, channel, descriptor, buffers. -/
structure Transfer345 where
  number : Nat
  channel : Nat
  op : MOp
  data : List Byte
  info : List Byte
  poisoned : List Nat
  got : Nat
  deriving DecidableEq, Repr

/-- The twin as this Isle holds it (R319 to R351). `laneOrder` and `laneInvert` are the reversal and inversion of the lanes found in training, of
what is sent and received (R319). -/
structure Twin where
  pair : PairState
  lanes : Nat
  laneOrder : BitVec 2
  laneInvert : BitVec 16
  session : Bool
  refused : Bool
  txSeq : BitVec 32
  rxNext : BitVec 32
  txAcked : BitVec 32
  nak : Bool
  unackedRx : Bool
  replay : List (BitVec 32 × TxFrame)
  resent : Nat
  waiting : List TxFrame
  credits : Vector Nat 6
  owed : Vector Nat 6
  aliveI : Bool
  failI : Bool
  silent : Bool
  twinSerial : Nat
  twinSole : Bool
  groupDown : Bool
  areaOut : Nat
  areaIn : Nat
  mirrorOn : Bool
  slotsOut : List Nat
  held : List Held
  view : TwinView
  shippedTo : Vector Nat 2
  resyncStart : Vector (Option Nat) 2
  takeover : Option Takeover
  failback : Option Failback
  fwdIn : Tab Nat
  mediaOut : List Transfer345
  mediaIn : List Transfer345
  nextTransfer : Nat
  adopt : Bool
  deriving DecidableEq, Repr

/-- One error record (R373). -/
structure ErrorRecord where
  time : Word
  kind : Nat
  cls : Nat
  instance_ : Nat
  reqType : Nat
  requester : Nat
  address : Nat
  extra : Nat
  deriving DecidableEq, Repr

/-- Leaky buckets by instance (R357, R374) and the error record ring, oldest first (R373). -/
structure Integ where
  buckets : Tab Nat
  records : List ErrorRecord
  deriving DecidableEq, Repr


/-- The front end with no queue, no namespace and no command. -/
def Nvme.init : Nvme where
  ctrls := []
  sqs := []
  cqs := []
  numVfs := 0
  vfEnable := false
  vc1 := false
  tcMap := 0
  namespaces := []
  saved := []
  cmds := []
  nextOrder := 0
  stalledEngines := 0
  packageTokens := 0
  modeOpen := true
  modeB := 16
  urgentDone := 0
  urgentBeyond := 0
  urgentRebuilt := 0
  urgentMax := 0
  urgentArmed := false
  warnings := 0
  selfTest := none
  selfTestLog := []
  sanitize := none
  sanitizeDone := 0
  changedNs := []
  fwdOut := []
  nextTag := 0
  spdm := .none
  spdmOut := []
  doeOut := []
  heldCpl := []
  config := []
  msix := []
  msixPend := []
  arbs := Vector.replicate 16 ⟨0, 0, 0, [], [], [], []⟩
  busyAt := Vector.replicate 5 0
  modeWait := []
  pairKeyGen := 0
  tableKeyGen := 0
  nextKeyGen := 0

/-- An empty dirty buffer and no measurement: the computed ceiling is 0 (R316). -/
def Hold.init : Hold where
  dirty := []
  nextOrder := 0
  ceiling := 0
  raise := none
  computed := 0
  lastC := 0
  lastV0 := 0
  lastE := 0
  lastTime := 0
  valid := false
  series := none
  endedAt := 0
  needRetry := false
  sharedAt := 0
  huTest := false
  flush := none
  runNumber := 0
  foundRun := 0

/-- No link, no twin known; its pins read as those of an unpowered package (R325). -/
def Twin.init : Twin where
  pair := .alone
  lanes := 0
  laneOrder := 0
  laneInvert := 0
  session := false
  refused := false
  txSeq := 0
  rxNext := 0
  txAcked := 0
  nak := false
  unackedRx := false
  replay := []
  resent := 0
  waiting := []
  credits := Vector.replicate 6 0
  owed := Vector.replicate 6 0
  aliveI := false
  failI := false
  silent := false
  twinSerial := 0
  twinSole := false
  groupDown := false
  areaOut := 0
  areaIn := 0
  mirrorOn := false
  slotsOut := []
  held := []
  view := ⟨0, 0, 0, 0, 0, 0, 0⟩
  shippedTo := Vector.replicate 2 0
  resyncStart := Vector.replicate 2 none
  takeover := none
  failback := none
  fwdIn := []
  mediaOut := []
  mediaIn := []
  nextTransfer := 0
  adopt := false

/-- No level in any bucket and no record. -/
def Integ.init : Integ := ⟨[], []⟩

end Sys2Proof.Machine
end

