-- ==== Sys2Proof/Machine/State.lean ====
section
/-! DEFINITION. The machine's state, whole, as plain data; the reasons a step can stop; the state after reset. -/
namespace Sys2Proof.Machine

/-- Reasons a step stops with a fault. No meaning of this model raises one: every access the spec calls an error ends in a
bus error, a status or an exception, which are next states. -/
inductive Fault where
  /-- Kept so that the type is inhabited; nobody raises it. Safe. -/
  | unreachable
  deriving DecidableEq, Repr

/-- Reasons a step is refused. -/
inductive Refusal where
  /-- A command whose meaning this model does not give yet; raised by Dispatch alone. Safe. -/
  | notModelled (mnemonic : String)
  deriving DecidableEq, Repr

/-- What the package sends out: completion entries, MSI-X messages, host data TLPs (`info` those of a metadata buffer, `ro` with Relaxed
Ordering), error messages, answers on the management transports,
configuration answers, and Strait frames. A log, newest last; the model's own field, not the spec's (log 11). -/
inductive Emit where
  | cqe (fn cq sq cid status dw0 dw1 : Nat) (vc1 : Bool)
  | msix (fn vector : Nat) (vc1 : Bool)
  | data (fn sq cid : Nat) (bytes : List Byte) (info ep vc1 ro : Bool)
  | errorMessage (fn severity : Nat)
  | mctp (eid : Nat) (bytes : List Byte)
  | t1s (bytes : List Byte)
  | config (value : Nat)
  | configRetry
  | doe (bytes : List Byte)
  | strait (frame : List Byte)
  | value (core : Nat) (v : Nat)
  | dram (id : Nat) (bytes : Option (List Byte)) (poison : Bool)
  deriving DecidableEq, Repr

/-- A range that a reset has left undefined: first byte, length, and which reset. -/
structure Fog where
  base : Nat
  len : Nat
  seed : Nat
  deriving DecidableEq, Repr

/-- The device memory: bytes by device address, sorted, none equal to what an unlisted byte reads as, which is 0, or a free value in
a range of `fog` (R13); and the granules that carry the poison mark (R363). A core's scratch lies at 2^48 + 2^15 × core. -/
structure Memory where
  cells : List Host.Cell
  poison : Tab Bool
  fog : List Fog
  deriving DecidableEq, Repr

/-- The whole package. `free` counts the free values drawn; `pending` is the queue of waiting commands. -/
structure State where
  pkg : Pkg
  dict : Dict
  ev : Events
  flash : Flash
  media : Media
  cs : CodeStore
  sets : Vector XSet 2
  nvme : Nvme
  hold : Hold
  twin : Twin
  integ : Integ
  cores : Tab Core
  sched : Sched
  eng : Engines
  vault : Vault
  tern : Ternary
  dram : Dram
  bpm : Bpm
  mem : Memory
  out : List Emit
  free : Nat
  pending : List Instr
  deriving DecidableEq, Repr

/-- A memory written with zeros throughout. -/
def Memory.init : Memory := ⟨[], [], []⟩

/-- The package right after its rails come up (R46, Power-on): every volatile state at its reset value, the timebase zero, PERST# still
asserted. What power-on keeps (R46) is that of a new part: an array never initialized, a persistent store with no record, and a blank
code store (log 8). `free` and `out` are the model's own (logs 3 and 11). -/
def State.reset : State where
  pkg := Pkg.init
  dict := Dict.init
  ev := Events.init
  flash := Flash.init
  media := Media.init
  cs := CodeStore.init Config.isCS4
  sets := Vector.replicate 2 XSet.init
  nvme := Nvme.init
  hold := Hold.init
  twin := Twin.init
  integ := Integ.init
  cores := []
  sched := Sched.init
  eng := Engines.init
  vault := Vault.init
  tern := Ternary.init
  dram := Dram.init
  bpm := Bpm.init
  mem := Memory.init
  out := []
  free := 0
  pending := []

end Sys2Proof.Machine
end

