-- ==== Sys2Proof/Machine/Tab.lean ====
section
/-! DEFINITION. Sparse tables: a sorted list of key and value pairs, in one canonical form, with what an
unlisted key reads as given by the caller. Every large numbered store of the part (memory, dictionary values,
cores, LUNs, ternary entries, vault slots) is one of these. -/
namespace Sys2Proof.Machine

/-- The value listed for a key, if any. -/
def Tab.find {α : Type} : Tab α → Nat → Option α
  | [], _ => none
  | (k, v) :: t, key => if k = key then some v else Tab.find t key

/-- The value a key reads as: the listed one, else `d`. -/
def Tab.get {α : Type} (t : Tab α) (d : α) (key : Nat) : α := (Tab.find t key).getD d

/-- The table without a key. -/
def Tab.erase {α : Type} : Tab α → Nat → Tab α
  | [], _ => []
  | (k, v) :: t, key => if k = key then Tab.erase t key else (k, v) :: Tab.erase t key

/-- A pair put in front of the first larger key. -/
def Tab.insert {α : Type} : Tab α → Nat → α → Tab α
  | [], key, x => [(key, x)]
  | (k, v) :: t, key, x => if key < k then (key, x) :: (k, v) :: t else (k, v) :: Tab.insert t key x

/-- The table with a key listed as `x`, whatever was listed before. -/
def Tab.put {α : Type} (t : Tab α) (key : Nat) (x : α) : Tab α := Tab.insert (Tab.erase t key) key x

/-- A write in canonical form: the value an unlisted key reads as is never listed. -/
def Tab.set {α : Type} [DecidableEq α] (t : Tab α) (d : α) (key : Nat) (x : α) : Tab α :=
  if x = d then Tab.erase t key else Tab.put t key x

/-- Several writes, in order. -/
def Tab.putAll {α : Type} : Tab α → List (Nat × α) → Tab α
  | t, [] => t
  | t, (k, v) :: r => Tab.putAll (Tab.put t k v) r

/-- The listed values. -/
def Tab.values {α : Type} (t : Tab α) : List α := t.map (·.2)

/-- The listed keys. -/
def Tab.keys {α : Type} (t : Tab α) : List Nat := t.map (·.1)

/-- Whether a key is listed. -/
def Tab.has {α : Type} (t : Tab α) (key : Nat) : Bool := (Tab.find t key).isSome

/-- The table with every listed value changed by `f`. -/
def Tab.mapVals {α : Type} (f : Nat → α → α) (t : Tab α) : Tab α := t.map fun p => (p.1, f p.1 p.2)

/-- The listed pairs a test keeps. -/
def Tab.keep {α : Type} (p : Nat → α → Bool) (t : Tab α) : Tab α := t.filter fun e => p e.1 e.2

/-- Keys rise strictly: `lo` is a bound all of them are at or above. -/
def Tab.sortedFrom {α : Type} : Nat → Tab α → Bool
  | _, [] => true
  | lo, (k, _) :: t => decide (lo ≤ k) && Tab.sortedFrom (k + 1) t

/-- The canonical form of a table whose unlisted keys read as `d`. -/
def Tab.canon {α : Type} [DecidableEq α] (d : α) (t : Tab α) : Bool :=
  Tab.sortedFrom 0 t && t.all fun p => decide (p.2 ≠ d)

end Sys2Proof.Machine
end

