-- ==== Sys2Proof/Machine/PciConfig.lean ====
section
/-! DEFINITION. Configuration space and the controller registers: the capabilities a function reports, what the host may write of them, CAP and
VS, the MSI-X table (R96 to R102, R105, R106). The spec names the capabilities and their values; where they lie, and where a value lies
in its capability, is PCI Express's (PRESUMED, log 73). -/
namespace Sys2Proof.Machine

/-- A doubleword of configuration space: its number, its value after reset, the bits the host may write, and those it clears by
writing 1. -/
structure CfgRow where
  dw : Nat
  reset : Nat
  rw : Nat
  w1c : Nat
  deriving DecidableEq, Repr

/-- An extended capability's header: identifier, version, the next capability's offset. -/
def extHeader (id version next : Nat) : Nat := id + version * 2 ^ 16 + next * 2 ^ 20

/-- Advanced Error Reporting at 0x100: every error reported, no TLP prefix log (R97). -/
def aerRows (next : Nat) : List CfgRow := [
  ⟨0x40, extHeader 0x0001 2 next, 0, 0⟩, ⟨0x41, 0, 0, 0x005FF010⟩, ⟨0x42, 0, 0x005FF010, 0⟩, ⟨0x43, 0x00462010, 0x005FF010, 0⟩,
  ⟨0x44, 0, 0, 0xF1C1⟩, ⟨0x45, 0x2000, 0xF1C1, 0⟩]

/-- MSI-X at 0x50: 2,048 entries, table and PBA in BAR2 (R97, R105). -/
def msixRows : List CfgRow := [⟨0x14, 0x07FF6011, 0xC0000000, 0⟩, ⟨0x15, 0x00000002, 0, 0⟩, ⟨0x16, 0x00008002, 0, 0⟩]

/-- The PF's header, Power Management and PCI Express capability (R97, R98, R105). -/
def pfHeadRows : List CfgRow := [
  ⟨0x00, 0x82401C7E, 0, 0⟩, ⟨0x01, 0x00100000, 0x0546, 0xF9000000⟩, ⟨0x02, 0x010802A1, 0, 0⟩, ⟨0x03, 0, 0xFF, 0⟩,
  ⟨0x04, 4, 0xFFFC0000, 0⟩, ⟨0x05, 0, 0xFFFFFFFF, 0⟩, ⟨0x06, 4, 0xFFFF0000, 0⟩, ⟨0x07, 0, 0xFFFFFFFF, 0⟩,
  ⟨0x0D, 0x40, 0, 0⟩, ⟨0x0F, 0, 0xFF, 0⟩, ⟨0x10, 0x00035001, 0, 0⟩, ⟨0x11, 0x8, 0x3, 0⟩,
  ⟨0x18, 0x00020010, 0, 0⟩, ⟨0x19, 0x10008022, 0, 0⟩, ⟨0x1A, 0x2910, 0x79FF, 0x000F0000⟩, ⟨0x1B, 0x00400900, 0, 0⟩,
  ⟨0x1C, 0, 0x00CB, 0⟩, ⟨0x21, 0x0003081F, 0, 0⟩, ⟨0x22, 0, 0x141F, 0⟩, ⟨0x24, 0, 0xFF9F, 0⟩]

/-- The PF's extended capabilities: serial number, virtual channels, ARI, SR-IOV, L1 PM substates, latency tolerance, the headers of those
that the rates of R96 require, the tag sizes of Flit mode, DOE (R97, R101, R104). -/
def pfExtRows : List CfgRow := [
  ⟨0x4C, extHeader 0x0003 1 0x140, 0, 0⟩,
  ⟨0x50, extHeader 0x0002 1 0x170, 0, 0⟩, ⟨0x51, 1, 0, 0⟩, ⟨0x55, 0x800000FF, 0xFE, 0⟩, ⟨0x58, 0, 0x870000FE, 0⟩,
  ⟨0x5C, extHeader 0x000E 1 0x178, 0, 0⟩,
  ⟨0x5E, extHeader 0x0010 1 0x1B8, 0, 0⟩, ⟨0x60, 0, 0x18, 0⟩, ⟨0x61, 0x00FF00FF, 0, 0⟩, ⟨0x63, 0x00010001, 0, 0⟩,
  ⟨0x64, 0x82410000, 0, 0⟩, ⟨0x65, 0x553, 0, 0⟩, ⟨0x66, 1, 0x553, 0⟩, ⟨0x67, 4, 0xFFFF8000, 0⟩, ⟨0x68, 0, 0xFFFFFFFF, 0⟩,
  ⟨0x69, 4, 0xFFFF0000, 0⟩, ⟨0x6A, 0, 0xFFFFFFFF, 0⟩,
  ⟨0x6E, extHeader 0x001E 1 0x1C8, 0, 0⟩, ⟨0x6F, 0x1F, 0, 0⟩, ⟨0x70, 0, 0xE3FFFF0F, 0⟩, ⟨0x71, 0, 0xFB, 0⟩,
  ⟨0x72, extHeader 0x0018 1 0x1D0, 0, 0⟩, ⟨0x73, 0, 0x1FFF1FFF, 0⟩, ⟨0x74, extHeader 0x0019 1 0x200, 0, 0⟩,
  ⟨0x80, extHeader 0x0026 1 0x230, 0, 0⟩, ⟨0x8C, extHeader 0x002A 1 0x260, 0, 0⟩, ⟨0x98, extHeader 0x0031 1 0x280, 0, 0⟩,
  ⟨0xA0, extHeader 0x0027 1 0x2D0, 0, 0⟩, ⟨0xB4, extHeader 0x0025 1 0x2E0, 0, 0⟩, ⟨0xB8, extHeader 0x0032 1 0x310, 0, 0⟩,
  ⟨0xC4, extHeader 0x002F 1 0x320, 0, 0⟩, ⟨0xC5, 0x6, 0, 0⟩, ⟨0xC6, 0, 0x2, 0⟩, ⟨0xC8, extHeader 0x002E 1 0, 0, 0⟩]

/-- The PF's configuration space. A doubleword no row names reads 0, or is free (R97). -/
def pfRows : List CfgRow := pfHeadRows ++ msixRows ++ aerRows 0x130 ++ pfExtRows

/-- A VF's configuration space: its identifiers are those of a VF header, and its BARs lie in the PF's SR-IOV capability (R98, R101). -/
def vfRows : List CfgRow := [
  ⟨0x00, 0xFFFFFFFF, 0, 0⟩, ⟨0x01, 0x00100000, 0x4, 0xF9000000⟩, ⟨0x02, 0x010802A1, 0, 0⟩, ⟨0x0D, 0x50, 0, 0⟩,
  ⟨0x18, 0x00020010, 0, 0⟩, ⟨0x19, 0x10008022, 0, 0⟩, ⟨0x1A, 0, 0, 0x000F0000⟩, ⟨0x1B, 0x00400900, 0, 0⟩, ⟨0x21, 0x0003081F, 0, 0⟩,
  ⟨0x5C, extHeader 0x000E 1 0, 0, 0⟩] ++ msixRows ++ aerRows 0x170

/-- The row of a function's doubleword. -/
def cfgRow (fn dw : Nat) : CfgRow := (((if fn = 0 then pfRows else vfRows).find? fun r => r.dw == dw)).getD ⟨dw, 0, 0, 0⟩

/-- A capability whose contents the spec leaves to the rates of R96: Secondary PCI Express to Flit Logging, past their headers. -/
def cfgFree (fn dw : Nat) : Bool :=
  fn == 0 && decide (0x74 < dw) && decide (dw < 0xC4) && !(pfExtRows.any fun r => r.dw == dw)

/-- A doubleword as it is held: what was last written to it, or its reset value. -/
def State.cfg (s : State) (fn dw : Nat) : Nat := Tab.get s.nvme.config (cfgRow fn dw).reset (1024 * fn + dw)

/-- A doubleword set. -/
def State.setCfg (s : State) (fn dw v : Nat) : State :=
  { s with nvme.config := Tab.set s.nvme.config (cfgRow fn dw).reset (1024 * fn + dw) (v % 2 ^ 32) }

/-- A doubleword after a write by the host. -/
def CfgRow.written (r : CfgRow) (old v : Nat) : Nat := ((old &&& (2 ^ 32 - 1 - r.rw)) &&& (2 ^ 32 - 1 - (r.w1c &&& v))) ||| (v &&& r.rw)

/-- Whether Relaxed Ordering is enabled, which the PF's Device Control says for its VFs too (R103). -/
def State.relaxed (s : State) : Bool := bit (s.cfg 0 0x1A) 4

/-- The payload of a TLP at most: Max_Payload_Size of the PF's Device Control, 512 bytes supported (R96, R97). -/
def State.maxPayload (s : State) : Nat := min 512 (128 * 2 ^ bits (s.cfg 0 0x1A) 5 3)

/-! ### Controller registers (R105, R106) -/

/-- CAP (R106). -/
def capValue : Nat := 4 * 2 ^ 52 + 0x41 * 2 ^ 37 + 0x10 * 2 ^ 24 + 1 * 2 ^ 17 + 1 * 2 ^ 16 + 0xFFFF

/-- VS (R106). -/
def vsValue : Nat := 0x00020000

/-- A controller register as a read of BAR0 below 0x1000 finds it. A shutdown that `CC` asks for is complete at once: no acknowledged write is
lost without one (log 137). -/
def Ctrl.register (c : Ctrl) (offset : Nat) : Nat :=
  match offset with
  | 0x00 => capValue % 2 ^ 32
  | 0x04 => capValue / 2 ^ 32
  | 0x08 => vsValue
  | 0x14 => c.cc
  | 0x1C => b2n c.ready + 2 * b2n c.cfs + (if bits c.cc 14 2 = 0 then 0 else 8)
  | 0x24 => (if c.aqaSq = 0 then 0 else c.aqaSq - 1) + 2 ^ 16 * (if c.aqaCq = 0 then 0 else c.aqaCq - 1)
  | 0x28 => c.asq % 2 ^ 32
  | 0x2C => c.asq / 2 ^ 32
  | 0x30 => c.acq % 2 ^ 32
  | 0x34 => c.acq / 2 ^ 32
  | _ => 0

/-- The memory page size of a controller (`CC.MPS`, R106). -/
def Ctrl.page (c : Ctrl) : Nat := 2 ^ (12 + bits c.cc 7 4)

/-! ### The MSI-X table (R102, R105) -/

/-- A doubleword of a function's MSI-X table: 0 to 3 of an entry are the address, the data and the vector control, whose mask bit is set
after reset (log 155). -/
def State.msixDw (s : State) (fn k : Nat) : Nat := Tab.get s.nvme.msix (if k % 4 = 3 then 1 else 0) (8192 * fn + k)

/-- A doubleword of the table written. -/
def State.setMsixDw (s : State) (fn k v : Nat) : State :=
  let d := if k % 4 = 3 then 1 else 0
  let w := if k % 4 = 3 then v % 2 else if k % 4 = 0 then v / 4 * 4 % 2 ^ 32 else v % 2 ^ 32
  { s with nvme.msix := Tab.set s.nvme.msix d (8192 * fn + k) w }

/-- Whether a vector may signal: MSI-X enabled, neither the function nor the vector masked, and the vector below the function's count. -/
def State.msixOpen (s : State) (fn vector vi : Nat) : Bool :=
  bits (s.cfg fn 0x14) 30 2 == 2 && s.msixDw fn (4 * vector + 3) == 0 && decide (vector < vi)

/-- A doubleword of the PBA: the vectors that wait for their masks to open. -/
def State.pbaDw (s : State) (fn k : Nat) : Nat :=
  sumOf (fun i => b2n (Tab.get s.nvme.msixPend false (2048 * fn + 32 * k + i)) * 2 ^ i) (List.range 32)

end Sys2Proof.Machine
end

