-- ==== Sys2Proof/Machine/Ops.lean ====
section
/-! DEFINITION. The named operations every block uses: free values, dictionary values and counters, the event controller,
what the package sends out, device memory with its poison marks, error counting and records. -/
namespace Sys2Proof.Machine

/-- How a command ends. Every meaning here answers a next state: errors are statuses, bus errors or exceptions, which are states. -/
abbrev Done := Host.Outcome State Fault Refusal

/-- A command's effect `t` on everything but the queue of waiting commands, which is no part of the package. -/
def State.done (s t : State) : Done := .next { t with pending := s.pending }

/-- Ticks of the timebase in a number of microseconds: one every 10 ns (R34). -/
def usTicks (us : Nat) : Nat := us * 100

/-- The timebase as a number. -/
def State.now (s : State) : Nat := s.pkg.timebase.toNat

/-- Timebase ticks since a stamp. -/
def State.since (s : State) (t : Word) : Nat := (s.pkg.timebase - t).toNat

/-- A fresh free value and the state that has drawn it. -/
def State.draw (s : State) : BitVec 64 × State :=
  (Config.freeValue s.free, { s with free := s.free + 1 })

/-- Fresh random bytes and the state that has drawn them. -/
def State.random (s : State) (n : Nat) : List Byte × State :=
  (Config.randomBytes s.free n, { s with free := s.free + 1 })

/-- Whether the fabric runs: the package is started up or starting, or in a flush. -/
def State.powered (s : State) : Bool :=
  match s.pkg.phase with
  | .running | .flushing _ => true
  | _ => false

/-- What travels over PCIe to host memory. -/
def Emit.toHost : Emit → Bool
  | .cqe .. | .msix .. | .data .. => true
  | _ => false

/-- Whether the host can still be reached: while the package runs, and for the first millisecond of a flush that has not begun
with the link going down (R47, R296). -/
def State.hostOpen (s : State) : Bool :=
  match s.pkg.phase with
  | .running => true
  | .flushing .packageReset => false
  | .flushing _ => match s.hold.flush with
    | some f => decide (s.since f.t0 < usTicks 1000)
    | none => false
  | _ => false

/-- Something the package sends out; nothing goes to the host once it cannot be reached. -/
def State.emit (s : State) (e : Emit) : State :=
  if e.toHost && !s.hostOpen then s else { s with out := s.out ++ [e] }

/-- An MSI-X message of a function with `vi` vectors: sent where the vector may signal, pending where it is masked, nothing above the
function's vectors or with MSI-X off (R102). -/
def State.signalAt (s : State) (fn vector vi : Nat) (vc1 : Bool) : State :=
  if s.msixOpen fn vector vi then s.emit (.msix fn vector vc1)
  else if vi ≤ vector || !bit (s.cfg fn 0x14) 31 then s
  else { s with nvme.msixPend := Tab.set s.nvme.msixPend false (2048 * fn + vector) true }

/-! ### Dictionary values (R50 to R54) -/

/-- The key of an entry's instance: function, index, subindex. -/
def ekey (fn idx sub : Nat) : Nat := fn * 2 ^ 24 + idx * 2 ^ 8 + sub

/-- The row that defines an entry. -/
def rowOf (idx sub : Nat) : Option EntryRow :=
  entryRows.find? fun r => r.index ≤ idx && idx < r.index + r.count && r.sub ≤ sub && sub ≤ r.subLast

/-- Bytes a value type takes; 0 for a DOMAIN. -/
def EType.size : EType → Nat
  | .bool => 1
  | .uint n => n
  | .sint n => n
  | .str n => n
  | .octets n => n
  | .domain _ => 0

/-- The package's serial as the 20 bytes of `0x1000.01`. -/
def serialBytes : List Byte := leBytes 20 Config.factorySerial

/-- The characters of a text as bytes. -/
def textBytes (t : String) : List Byte := t.toList.map fun c => BitVec.ofNat 8 c.toNat

/-- SUBNQN for a subsystem serial number (R108). -/
def subnqnOf (serial : Nat) : Nat := ofLe (textBytes "nqn.2023-01.com.septud:dexloth:" ++ leBytes 20 serial)

/-- The default of an entry's instance (R54). Tested values are constants of Config; the SUBNQN default follows R108. -/
def defaultOf (r : EntryRow) (fn idx sub : Nat) : Nat :=
  match r.default with
  | .val v => v
  | .pfVf pf vf => if fn = 0 then pf else vf
  | .pool0 v => if idx = r.index then v else 0
  | .lines => 60 + (sub - r.sub)
  | .text t => ofLe (textBytes t)
  | .named _ =>
    if idx = 0x3020 ∧ sub = 1 then subnqnOf Config.factorySerial
    else if idx = 0x3020 ∧ sub = 2 then Config.factorySerial
    else 0
  | .none =>
    if 0x2020 ≤ idx ∧ idx < 0x2024 ∧ sub = 5 then 1400 + Config.tempoFloorExcess (idx - 0x2020)
    else if idx = 0x1000 ∧ sub = 1 then Config.factorySerial
    else if idx = 0x1000 ∧ sub = 2 then
      ofLe (textBytes (if Config.isCS4 then "DXL8240-CS4-A1" else "DXL8240-CS2-A1"))
    else if idx = 0xE000 ∧ sub = 1 then (if Config.isCS4 then 4 else 2)
    else 0

/-- The default of an entry's instance, 0 for an entry no chapter defines. -/
def entryDefault (fn idx sub : Nat) : Nat :=
  match rowOf idx sub with
  | some r => defaultOf r fn idx sub
  | none => 0

/-- The subsystem's serial number, `0x3020.02`. -/
def State.subsysSerial (s : State) : Nat := (Tab.find s.dict.vals (ekey 0 0x3020 2)).getD Config.factorySerial

/-- The value an entry's instance holds; SUBNQN where none is listed follows the subsystem's serial number (R108). -/
def State.fval (s : State) (fn idx sub : Nat) : Nat :=
  match Tab.find s.dict.vals (ekey fn idx sub) with
  | some v => v
  | none => if idx = 0x3020 ∧ sub = 1 then subnqnOf s.subsysSerial else entryDefault fn idx sub

/-- The value of a package-scoped entry. -/
def State.val (s : State) (idx sub : Nat) : Nat := s.fval 0 idx sub

/-- Whether a BOOL entry is true. -/
def State.flag (s : State) (idx sub : Nat) : Bool := s.val idx sub != 0

/-- An entry's instance given a value. -/
def State.setFval (s : State) (fn idx sub v : Nat) : State :=
  { s with dict.vals := Tab.set s.dict.vals (entryDefault fn idx sub) (ekey fn idx sub) v }

/-- A package-scoped entry given a value. -/
def State.setVal (s : State) (idx sub v : Nat) : State := s.setFval 0 idx sub v

/-- The value in force of an entry that changes only at a package reset. -/
def State.force (s : State) (idx sub : Nat) : Nat :=
  match Tab.find s.dict.force (ekey 0 idx sub) with
  | some v => v
  | none => entryDefault 0 idx sub

/-- A counter increased. The spec does not say what a counter reads past its type: that is a free value (log 5). -/
def State.fbump (s : State) (fn idx sub n : Nat) : State :=
  let v := s.fval fn idx sub + n
  let w := match rowOf idx sub with
    | some r => r.type.size
    | none => 8
  s.setFval fn idx sub (if v < 2 ^ (8 * w) then v else Config.counterPast (ekey fn idx sub) v)

/-- A package-scoped counter increased by one. -/
def State.bump (s : State) (idx sub : Nat) : State := s.fbump 0 idx sub 1

/-! ### The persistent store (R66, R231) -/

/-- Bytes of a parameter sector that its records can take: 8 KiB less its header. -/
def sectorRoom : Nat := 8184

/-- Bytes that records take. -/
def recordsLen (l : List (Nat × Nat)) : Nat := sumOf (fun (r : Nat × Nat) => r.2) l

/-- A sector of the log. -/
def Dict.sector (d : Dict) (i : Nat) : List (Nat × Nat) := (d.storeLog[i % 8]?).getD []

/-- Those records of a sector that no later record replaces; markers are never among them. -/
def Dict.liveIn (d : Dict) (i : Nat) : List (Nat × Nat) :=
  let later := ((List.range 7).flatMap fun k => d.sector (i + 1 + k)).map fun (r : Nat × Nat) => r.1
  let rec last : List (Nat × Nat) → List (Nat × Nat)
    | [] => []
    | r :: l => if r.1 = 0 || later.contains r.1 || l.any fun q => q.1 == r.1 then last l else r :: last l
  last (d.sector i)

/-- The next sector opened: it takes the live records of the oldest one, which is retired and erased ahead of its turn. -/
def Dict.openNext (d : Dict) : Dict :=
  let next := (d.storeOpen + 1) % 8
  let old := (d.storeOpen + 2) % 8
  let moved := d.liveIn old
  { d with
    storeOpen := next, storeLog := (d.storeLog.setIfInBounds next moved).setIfInBounds old []
    storeErases := d.storeErases.setIfInBounds old ((d.storeErases[old]?).getD 0 + 1) }

/-- A record appended, with the number of sectors opened for it. -/
def Dict.append : Nat → Dict → Nat × Nat → Dict × Nat
  | 0, d, _ => (d, 0)
  | n + 1, d, r =>
    let l := d.sector d.storeOpen
    if recordsLen l + r.2 ≤ sectorRoom then ({ d with storeLog := d.storeLog.setIfInBounds d.storeOpen (l ++ [r]) }, 0)
    else
      let x := Dict.append n d.openNext r
      (x.1, x.2 + 1)

/-- Records appended one after another; each sector opened is one more erase of the store (`STORE_WRITES`, R95). -/
def State.logRecords (s : State) (l : List (Nat × Nat)) : State :=
  let x := l.foldl (fun (a : Dict × Nat) r => let b := Dict.append 8 a.1 r; (b.1, a.2 + b.2)) (s.dict, 0)
  let s := { s with dict := x.1 }
  if x.2 = 0 then s
  else
    let n := s.val 0x1100 8 + x.2
    let s := s.setVal 0x1100 8 n
    { s with dict.store := Tab.put s.dict.store (ekey 0 0x1100 8) n }

/-- The bytes free in the store: what the open sector still takes, and the sector that stands erased (log 74). -/
def Dict.free (d : Dict) : Nat := sectorRoom - recordsLen (d.sector d.storeOpen) + sectorRoom

/-- The record of an entry's instance: 8 bytes and its value (R66). -/
def entryRecord (k : Nat) : Nat × Nat := (k, 8 + ((rowOf (k / 256 % 65536) (k % 256)).map fun r => r.type.size).getD 0)

/-- A persistent entry that the device itself keeps: its value and its record change together. A code store that has faulted takes no
record (R17). -/
def State.setKept (s : State) (idx sub v : Nat) : State :=
  let t := s.setVal idx sub v
  if s.cs.faulted then t
  else { t with dict.store := Tab.put t.dict.store (ekey 0 idx sub) v }.logRecords [entryRecord (ekey 0 idx sub), (0, 8)]

/-! ### The event controller (R547 to R552) -/

/-- A source's number from its group and bit. -/
def evSrc (group b : Nat) : Nat := 32 * group + b

/-- Whether a source is a level source (R547). -/
def isLevel (src : Nat) : Bool :=
  let g := src / 32
  let b := src % 32
  (g < 40 && g % 10 == 0 && (b == 8 || b == 10)) || g == 40 || g == 41 || (g == 42 && b == 6)

/-- A 32-bit register of a group, 0 beyond the 64 groups. -/
def groupReg (v : Vector (BitVec 32) 64) (g : Nat) : Nat := ((v[g]?).getD 0).toNat

/-- A group's register given a value. -/
def setGroup (v : Vector (BitVec 32) 64) (g n : Nat) : Vector (BitVec 32) 64 := v.setIfInBounds g (BitVec.ofNat 32 n)

/-- One source's bit of a group register. -/
def srcBit (v : Vector (BitVec 32) 64) (src : Nat) : Bool := bit (groupReg v (src / 32)) (src % 32)

/-- A group register with one source's bit written. -/
def setSrc (v : Vector (BitVec 32) 64) (src : Nat) (b : Bool) : Vector (BitVec 32) 64 :=
  setGroup v (src / 32) (setBit (groupReg v (src / 32)) (src % 32) b)

/-- The target register in force for a source; its reset value names no target (R548). -/
def Events.targetReg (e : Events) (src : Nat) : Nat := (Tab.get e.target 0xFF src).toNat

/-- The target of a source. -/
def Events.targetOf (e : Events) (src : Nat) : Nat := bits (e.targetReg src) 0 8

/-- Whether a source ignores its group's hold-off. -/
def Events.noHold (e : Events) (src : Nat) : Bool := bit (e.targetReg src) 18

/-- A source's pending bit: its latch, or for a level source its condition (R547). -/
def Events.pendingBit (e : Events) (src : Nat) : Bool :=
  if isLevel src then srcBit e.level src else srcBit e.latch src

/-- Whether a source is claimable by its target (R549). -/
def Events.claimable (e : Events) (src : Nat) : Bool :=
  e.pendingBit src && srcBit e.enable src && !srcBit e.active src && (e.noHold src || !srcBit e.waiting src)

/-- The claimable sources of a target, from the target registers that name one. -/
def Events.claimables (e : Events) (target : Nat) : List Nat :=
  (Tab.keys e.target).filter fun src => e.targetOf src == target && e.claimable src

/-- Of the claimable sources of a target, the one `CLAIM` returns: highest priority, then lowest number (R550). -/
def Events.best (e : Events) (target : Nat) : Option Nat :=
  (e.claimables target).foldl (fun b src =>
    match b with
    | none => some src
    | some q => if bits (e.targetReg src) 8 4 > bits (e.targetReg q) 8 4 then some src else b) none

/-- The link priority of a frame (R322). -/
def TxFrame.priority (f : TxFrame) : Nat :=
  match f.cls with
  | 0 => 2
  | 1 => 1
  | 2 => 4
  | 3 => 3
  | 4 => if f.urgent then 2 else 5
  | _ => 6

/-- A credit count by class. -/
def Twin.credit (t : Twin) (cls : Nat) : Nat := (t.credits[cls]?).getD 0

/-- The waiting frame that goes next: of those whose class holds a credit, lowest priority number, then longest queued. -/
def Twin.nextFrame (t : Twin) : Option TxFrame :=
  t.waiting.foldl (fun b f =>
    if t.credit f.cls = 0 then b
    else match b with
      | none => some f
      | some g => if f.priority < g.priority then some f else b) none

/-- The 256 bytes of a frame as it goes out: `ACK`, `NAK` and the credits returned to a class are those of the moment (R321, log 150). -/
def TxFrame.bytes (f : TxFrame) (seq ack : BitVec 32) (nak : Bool) (cls n : Nat) : List Byte :=
  let b := padTo 252 ([BitVec.ofNat 8 (f.cls + 8 * b2n nak), BitVec.ofNat 8 f.type] ++ leBytes 2 f.payload.length ++ leBytes 4 seq.toNat ++
    leBytes 4 ack.toNat ++ leBytes 2 (n + cls * 2 ^ 12) ++ [0, 0] ++ f.payload)
  b ++ leBytes 4 (crc32c b)

/-- A frame sent, for the first time or again: it acknowledges what has been received and returns the credits owed to one class (R321 to
R323). -/
def State.sendFrame (s : State) (p : BitVec 32 × TxFrame) : State :=
  let t := s.twin
  let c := ((List.range 6).find? fun c => (t.owed[c]?).getD 0 != 0).getD 0
  let n := min 4095 ((t.owed[c]?).getD 0)
  { s with
    twin.owed := t.owed.setIfInBounds c ((t.owed[c]?).getD 0 - n), twin.unackedRx := false, twin.nak := false
    out := s.out ++ [.strait (p.2.bytes p.1 (t.rxNext - 1) t.nak c n)] }

/-- Waiting frames sent while credits and replay places last: each takes the next sequence number and stays in the replay
buffer until acknowledged (R322, R323). -/
def State.pumpN : Nat → State → State
  | 0, s => s
  | n + 1, s =>
    let t := s.twin
    if t.lanes = 0 || !t.session || decide (4096 ≤ t.replay.length) then s
    else match t.nextFrame with
      | none => s
      | some f =>
        State.pumpN n ({ s with
          twin.waiting := t.waiting.erase f
          twin.replay := t.replay ++ [(t.txSeq, f)]
          twin.txSeq := t.txSeq + 1
          twin.credits := t.credits.setIfInBounds f.cls (t.credit f.cls - 1) }.sendFrame (t.txSeq, f))

/-- The waiting frames sent as far as they can be. -/
def State.pump (s : State) : State := State.pumpN s.twin.waiting.length s

/-- A frame queued on the Strait and sent when it can be. -/
def State.strait (s : State) (cls type : Nat) (payload : List Byte) : State :=
  { s with twin.waiting := s.twin.waiting ++ [TxFrame.mk cls type payload false] }.pump

/-- A frame of a class-0 command. -/
def State.straitUrgent (s : State) (cls type : Nat) (payload : List Byte) : State :=
  { s with twin.waiting := s.twin.waiting ++ [TxFrame.mk cls type payload true] }.pump

/-- MSI-X messages to the PF for the host notification lines that have just gained a claimable source (R549). -/
def State.refreshLines (s : State) : State :=
  (List.range 4).foldl (fun s n =>
    let on := !(s.ev.claimables (132 + n)).isEmpty
    let was := (s.ev.hostLine[n]?).getD false
    let s := { s with ev.hostLine := s.ev.hostLine.setIfInBounds n on }
    if on && !was then s.signalAt 0 (s.val 0xD180 (n + 1)) 64 false else s) s

/-- A source that has become claimable is notified: a twin target is claimed, forwarded and completed at once (R549). -/
def State.notify (s : State) (src : Nat) : State :=
  if s.ev.targetOf src = 136 then
    let s := { s with ev.latch := setSrc s.ev.latch src false }
    match s.twin.pair with
    | .inStep | .resync | .failback =>
      s.strait 0 0x0B (leBytes 2 src ++ [BitVec.ofNat 8 (bits (s.ev.targetReg src) 12 6)])
    | _ => s.bump 0xD190 4
  else s.refreshLines

/-- A pending, enabled, inactive source becomes claimable, or waits for its group's hold-off (R551, log 162). -/
def State.arm (s : State) (src : Nat) : State :=
  if !(s.ev.pendingBit src && srcBit s.ev.enable src && !srcBit s.ev.active src) then s
  else
    let g := src / 32
    if s.ev.noHold src || (s.ev.holdoff[g]?).getD 0 == 0 then s.notify src
    else match (s.ev.timer[g]?).getD none with
      | none => { s with ev.timer := s.ev.timer.setIfInBounds g (some s.pkg.timebase) }.notify src
      | some _ => { s with ev.waiting := setSrc s.ev.waiting src true }.bump 0xD190 5

/-- A pulse source fires (R547, R550): pulses that fire while the latch is set merge into one. -/
def State.fire (s : State) (src : Nat) : State :=
  if srcBit s.ev.latch src then s
  else { s with ev.latch := setSrc s.ev.latch src true }.arm src

/-- A level source's condition takes a value. -/
def State.setLevel (s : State) (src : Nat) (on : Bool) : State :=
  let was := srcBit s.ev.level src
  let s := { s with ev.level := setSrc s.ev.level src on }
  if on && !was then s.arm src
  else if was && !on then { s with ev.waiting := setSrc s.ev.waiting src false }.refreshLines
  else s

/-! ### Device memory (R39, R40, R355, R363, R365) -/

/-- What lies at a device address. -/
inductive Area where
  | dram | staging (r : Nat) | cluster (c : Nat) | ingress | tables | xip | hubMmio | regionMmio (r : Nat) | scratch
  | none
  deriving DecidableEq, Repr

/-- Bytes of installed DRAM: `0xC010.02` (R520). -/
def State.dramSize (s : State) : Nat := s.val 0xC010 2

/-- The installed size of one code-store bank (R229). -/
def CodeStore.bankSize (c : CodeStore) : Nat := if c.big then 0x10000000 else 0x08000000

/-- The area of a device address (R39); unpopulated and reserved ranges are none. -/
def State.area (s : State) (a : Nat) : Area :=
  if a < 0x4000000000 then (if a < s.dramSize then .dram else .none)
  else if 0x100000000000 ≤ a ∧ a < 0x100004000000 then
    let r := (a - 0x100000000000) / 0x1000000
    let o := (a - 0x100000000000) % 0x1000000
    if o < 0x800000 then .staging r
    else if o < 0xC00000 then .cluster (4 * r + (o - 0x800000) / 0x100000)
    else .none
  else if 0x110000000000 ≤ a ∧ a < 0x110000C00000 then .ingress
  else if 0x110000C00000 ≤ a ∧ a < 0x110001000000 then .tables
  else if 0x120000000000 ≤ a ∧ a < 0x120000000000 + 2 * s.cs.bankSize then .xip
  else if 0x180000000000 ≤ a ∧ a < 0x180001000000 then .hubMmio
  else if 0x180001000000 ≤ a ∧ a < 0x180001400000 then .regionMmio ((a - 0x180001000000) / 0x100000)
  else if 0x1F0000000000 ≤ a ∧ a < 0x1F0000008000 then .scratch
  else .none

/-- Where a core's scratch lies in the model's memory. -/
def scratchBase (core : Nat) : Nat := 2 ^ 48 + 0x8000 * core

/-- The poison granule of an area: 64 bytes in DRAM, 8 in SRAM (R363). -/
def Area.granule : Area → Nat
  | .dram => 64
  | _ => 8

/-- Whether an area is memory that holds bytes. -/
def Area.isMem : Area → Bool
  | .dram | .staging _ | .cluster _ | .ingress | .tables | .scratch => true
  | _ => false

/-- Whether a range holds an address. -/
def Fog.holds (f : Fog) (a : Nat) : Bool := decide (f.base ≤ a) && decide (a < f.base + f.len)

/-- What an unlisted byte of memory reads as: 0, or a free value where a reset left memory undefined (log 44). -/
def Memory.base (m : Memory) (a : Nat) : Byte :=
  match m.fog.find? fun f => f.holds a with
  | some f => Config.undefinedByte f.seed a
  | none => 0

/-- One byte of memory. -/
def Memory.byte (m : Memory) (a : Nat) : Byte := Tab.get m.cells (m.base a) a

/-- One byte stored, in canonical form. -/
def Memory.setByte (m : Memory) (a : Nat) (b : Byte) : Memory := { m with cells := Tab.set m.cells (m.base a) a b }

/-- The canonical form of memory: addresses rise strictly, and no entry is what an unlisted byte reads as. -/
def Memory.wf (m : Memory) : Bool :=
  Tab.sortedFrom 0 m.cells && (m.cells.all fun p => decide (p.2 ≠ m.base p.1)) && Tab.canon false m.poison

/-- The parts of an undefined range outside a span. -/
def Fog.minus (f : Fog) (a n : Nat) : List Fog :=
  let lo := Fog.mk f.base (min f.len (a - f.base)) f.seed
  let hi := Fog.mk (max f.base (a + n)) (f.base + f.len - max f.base (a + n)) f.seed
  if f.base + f.len ≤ a ∨ a + n ≤ f.base then [f] else ([lo, hi].filter fun x => decide (0 < x.len))

/-- The entries of a table outside a span of keys. -/
def Tab.outside {α : Type} (t : Tab α) (a n : Nat) : Tab α := Tab.keep (fun k _ => !(decide (a ≤ k) && decide (k < a + n))) t

/-- A range of memory written with zeros and valid check bits. -/
def Memory.clear (m : Memory) (a n : Nat) : Memory where
  cells := Tab.outside m.cells a n
  poison := Tab.outside m.poison a n
  fog := m.fog.flatMap fun f => f.minus a n

/-- A range of memory left undefined. -/
def Memory.blur (m : Memory) (a n seed : Nat) : Memory :=
  let c := m.clear a n
  { c with fog := c.fog ++ [Fog.mk a n seed] }

/-- Consecutive bytes. -/
def Memory.read (m : Memory) (a n : Nat) : List Byte := (List.range n).map fun i => m.byte (a + i)

/-- Consecutive bytes stored. -/
def Memory.write : Memory → Nat → List Byte → Memory
  | m, _, [] => m
  | m, a, b :: r => Memory.write (m.setByte a b) (a + 1) r

/-- The granule size at a model address: DRAM lies below 2^38, everything else is SRAM. -/
def granuleAt (a : Nat) : Nat := if a < 0x4000000000 then 64 else 8

/-- The granules a range of bytes touches, by first byte. -/
def granules (a n : Nat) : List Nat :=
  if n = 0 then [] else
    let g := granuleAt a
    (List.range ((a + n - 1) / g + 1 - a / g)).map fun i => (a / g + i) * g

/-- Whether any byte of a range lies in a poisoned granule. -/
def Memory.poisoned (m : Memory) (a n : Nat) : Bool := (granules a n).any fun g => Tab.get m.poison false g

/-- A granule's mark set or cleared. -/
def Memory.mark (m : Memory) (g : Nat) (p : Bool) : Memory := { m with poison := Tab.set m.poison false g p }

/-- The marks after a store of `n` bytes at `a` (R364, R365): a poisoned store marks every granule it touches; a clean one
clears the granules it covers whole. -/
def Memory.markStore (m : Memory) (a n : Nat) (p : Bool) : Memory :=
  (granules a n).foldl (fun m g =>
    if p then m.mark g true
    else if a ≤ g ∧ g + granuleAt a ≤ a + n then m.mark g false else m) m

/-- A range of memory cleared. -/
def State.clearMem (s : State) (a n : Nat) : State := { s with mem := s.mem.clear a n }

/-- A range of memory left undefined by a reset. -/
def State.blurMem (s : State) (a n : Nat) : State := { s with mem := s.mem.blur a n s.free, free := s.free + 1 }

/-- The device width of the organization read at start-up, from `0xC010.01`. -/
def State.ddrWidth (s : State) : Nat := bits (s.val 0xC010 1) 0 4

/-- Its ranks. -/
def State.ddrRanks (s : State) : Nat := bits (s.val 0xC010 1) 4 2

/-- Where a device address lies in the devices (R521). -/
structure DramPlace where
  chan : Nat
  sub : Nat
  group : Nat
  bank : Nat
  rank : Nat
  row : Nat
  deriving DecidableEq, Repr

/-- The address mapping of R521 for a width and a number of ranks. -/
def dramPlace (width ranks a : Nat) : DramPlace :=
  let c := (a / 2 ^ 14) * 2 ^ 11 + a % 2 ^ 11
  let b := if width = 4 then 14 else 13
  let row := c >>> (if ranks = 2 then b + 6 else b + 5)
  ⟨bits a 11 3, bits c 6 1, bits c b 3 ^^^ row % 8, bits c (b + 3) 2, if ranks = 2 then bits c (b + 5) 1 else 0, row⟩

/-- The place of an address. -/
def State.placeOf (s : State) (a : Nat) : DramPlace := dramPlace s.ddrWidth s.ddrRanks a

/-- A bank's number within its channel: subchannel, rank, group, bank. -/
def DramPlace.bankNo (p : DramPlace) : Nat := p.sub * 64 + p.rank * 32 + p.group * 4 + p.bank

/-- A channel. -/
def State.dchan (s : State) (c : Nat) : DramChan := (s.dram.chans[c]?).getD DramChan.init

/-- A channel changed. -/
def State.setDchan (s : State) (c : Nat) (x : DramChan) : State := { s with dram.chans := s.dram.chans.setIfInBounds c x }

/-- The burst of an address. -/
def burstOf (a : Nat) : Nat := a / 64

/-- Whether a request is for a burst that a span of bytes touches. -/
def DramReq.touches (r : DramReq) (a n : Nat) : Bool := decide (a < (burstOf r.addr + 1) * 64) && decide (burstOf r.addr * 64 < a + n)

/-- A store accepted before a write-back reaches the memory cancels it (R360). -/
def Dram.stored (d : Dram) (a n : Nat) : Dram :=
  let keep (l : List DramReq) : List DramReq := l.filter fun r => !(r.back && r.touches a n)
  { d with chans := d.chans.map fun (x : DramChan) => { x with reqs := keep x.reqs, held := keep x.held } }

/-- Whether a request finds an entry it may use, by the levels of those queued: 48 for reads and 48 for writes, sixteen of them for panic
and class 0 only (R524). -/
def State.entryFor (s : State) (level : DramReq → Nat) (r : DramReq) : Bool :=
  let p := s.placeOf r.addr
  let l := (s.dchan p.chan).reqs.filter fun q => (s.placeOf q.addr).sub == p.sub && q.write.isSome == r.write.isSome
  let rest := l.filter fun q => 2 < level q
  decide (l.length < 48) && (decide (level r ≤ 2) || decide (rest.length < 32))

/-- A request's own level (R524, R525, R527). -/
def State.ownLevel (s : State) (r : DramReq) : Nat :=
  if (match r.port with
      | some p => ((s.dram.panic[p]?).getD none).isSome
      | none => false) then 1
  else if r.cls = 0 then 2
  else if r.aged then 3
  else if r.cls ≤ 3 then 4
  else 5

/-- Whether a request finds an entry it may use. -/
def State.queueRoom (s : State) (r : DramReq) : Bool := s.entryFor s.ownLevel r

/-- A request of the controller's own: queued, or held at its source while it finds no entry. -/
def State.dramQueue (s : State) (r : DramReq) : State :=
  let c := (s.placeOf r.addr).chan
  let x := s.dchan c
  let s := { s with dram.nextId := s.dram.nextId + 1 }
  let x := { x with selfRefresh := false, lastReq := s.pkg.timebase }
  s.setDchan c (if s.queueRoom r then { x with reqs := x.reqs ++ [r] } else { x with held := x.held ++ [r] })

/-- The write-back of a corrected burst, in a service class (R358 to R360, log 161). -/
def State.writeBack (s : State) (a cls : Nat) : State :=
  s.dramQueue ⟨s.dram.nextId, s.pkg.timebase, burstOf a * 64, some [], false, cls, none, .payload, 5, 0, false, true, none⟩

/-- A store of bytes with or without the poison mark; it cancels the write-backs it overtakes. -/
def State.store (s : State) (a : Nat) (bs : List Byte) (p : Bool) : State :=
  { s with mem := (s.mem.write a bs).markStore a bs.length p, dram := s.dram.stored a bs.length }

/-- A little-endian number in memory. -/
def State.load (s : State) (a n : Nat) : Nat := ofLe (s.mem.read a n)

/-- Whether a range lies wholly inside one area a test admits. -/
def State.within (s : State) (ok : Area → Bool) (a n : Nat) : Bool :=
  n == 0 || (ok (s.area a) && s.area a == s.area (a + n - 1))

/-! ### Error counting, poison and error records (R357 to R374) -/

/-- The memory class and instance of an address (R374): class, instance. -/
def memInstance (core channel : Nat) : Area → Nat × Nat
  | .dram => (0, channel)
  | .staging r => (1, 8 + r)
  | .cluster c => (2, 12 + c)
  | .scratch => (3, 28 + core)
  | .xip => (5, 161)
  | _ => (4, 160)

/-- Who met an error (R373 bytes 12–13). -/
structure Requester where
  type : Nat
  number : Nat
  deriving DecidableEq, Repr

/-- An error record written, or dropped and counted when the ring holds 4,096 (R373). -/
def State.record (s : State) (kind cls inst : Nat) (q : Requester) (addr extra : Nat) : State :=
  if s.integ.records.length < 4096 then
    { s with integ.records :=
        s.integ.records ++ [⟨s.pkg.timebase, kind, cls, inst, q.type, q.number, addr, extra⟩] }
  else (s.bump 0x9080 6).fire (evSrc 43 10)

/-- An instance's bucket level. -/
def State.bucket (s : State) (i : Nat) : Nat := Tab.get s.integ.buckets 0 i

/-- An access corrected an error (R357, R359): counted, and in native mode added to the bucket. -/
def State.corrected (s : State) (cls inst : Nat) (q : Requester) (addr : Nat) : State :=
  let s := s.bump (0x9100 + inst) 1
  if s.val (0x9000 + cls) 1 = 1 then s.record 1 cls inst q addr 1
  else
    let level := s.bucket inst + 1
    if level > s.val (0x9000 + cls) 3 then
      let s := { s with integ.buckets := Tab.set s.integ.buckets 0 inst 0 }
      ((s.bump (0x9100 + inst) 3).record 1 cls inst q addr level).fire (evSrc 43 cls)
    else { s with integ.buckets := Tab.set s.integ.buckets 0 inst level }

/-- A correction in an access of a service class: in compatibility mode a DRAM burst is written back at once (R4, R359). The corrected word of
an on-die memory reaches it within the access. -/
def State.correctedIn (s : State) (cls inst : Nat) (q : Requester) (addr service : Nat) : State :=
  let t := s.corrected cls inst q addr
  if cls = 0 ∧ s.val 0x9000 1 = 1 then t.writeBack addr service else t

/-- An uncorrectable error in payload counted and recorded (R364). -/
def State.payloadError (s : State) (cls inst : Nat) (q : Requester) (addr : Nat) : State :=
  ((s.bump (0x9100 + inst) 2).record 2 cls inst q addr 0).fire (evSrc 43 7)

/-- A payload read met an uncorrectable error (R364): the granule at a model address is marked, the error counted and recorded under its
device address. -/
def State.uncorrectableAt (s : State) (cls inst : Nat) (q : Requester) (place addr : Nat) : State :=
  let g := place / granuleAt place * granuleAt place
  { s with mem := s.mem.mark g true }.payloadError cls inst q (addr / granuleAt addr * granuleAt addr)

/-- The same where model and device address agree. -/
def State.uncorrectable (s : State) (cls inst : Nat) (q : Requester) (addr : Nat) : State := s.uncorrectableAt cls inst q addr addr

/-- Poison was consumed (R366). -/
def State.consumed (s : State) (q : Requester) (addr extra : Nat) : State :=
  ((s.bump 0x9080 3).record 3 0xFF 0 q addr extra).fire (evSrc 43 8)

/-- Poison left the device (R367, R368). -/
def State.exported (s : State) (q : Requester) (addr : Nat) : State :=
  (s.bump 0x9080 4).record 4 0xFF 0 q addr 0

/-- A bus error on control traffic or on an address that answers nothing (R369). -/
def State.busError (s : State) (cls inst : Nat) (q : Requester) (addr : Nat) : State :=
  ((s.bump 0x9080 5).record 5 cls inst q addr 0).fire (evSrc 43 9)

/-- An uncorrectable error in control traffic: the instance counts it too (R369, R375). -/
def State.controlError (s : State) (cls inst : Nat) (q : Requester) (addr : Nat) : State :=
  (s.bump (0x9100 + inst) 2).busError cls inst q addr

/-! ### Key slots (R479) -/

/-- A slot that was never loaded. -/
def KeySlot.init : KeySlot := ⟨false, 0, 0, 0, 0, []⟩

/-- A slot. -/
def State.keySlot (s : State) (k : Nat) : KeySlot := Tab.get s.vault.slots KeySlot.init k

end Sys2Proof.Machine
end

