-- ==== Sys2Proof/Machine/CodeStore.lean ====
section
/-! DEFINITION. The code store: sector map, protection, the descriptor queue, suspension and bank conflicts, the
execute-in-place window, markers and power-fail record slots (R229 to R249, R579, 07_code_store.md). -/
namespace Sys2Proof.Machine

/-! ### The array (R229 to R232) -/

/-- The bank of an array offset. -/
def CodeStore.bankOf (c : CodeStore) (a : Nat) : Fin 2 := if a < c.bankSize then 0 else 1

/-- The sector an array offset lies in: its first offset and length; none in a reserved range or past the array. -/
def CodeStore.sector (c : CodeStore) (a : Nat) : Option (Nat × Nat) :=
  let sz := c.bankSize
  let b := a / sz * sz
  let o := a % sz
  if 2 * sz ≤ a then none
  else if o < 0x10000 then some (b + o / 0x2000 * 0x2000, 0x2000)
  else if o < 0x40000 then none
  else if o < sz - 0x40000 then some (b + o / 0x40000 * 0x40000, 0x40000)
  else if o < sz - 0x10000 then none
  else some (b + o / 0x2000 * 0x2000, 0x2000)

/-- Whether a range lies in one bank and touches no reserved range. -/
def CodeStore.readable (c : CodeStore) (a n : Nat) : Bool :=
  let sz := c.bankSize
  let o := a % sz
  let e := o + n
  decide (a < 2 * sz) && decide (e ≤ sz) &&
    !(decide (o < 0x40000) && decide (0x10000 < e)) && !(decide (o < sz - 0x10000) && decide (sz - 0x40000 < e))

/-- One byte of the array as stored. -/
def CodeStore.byte (c : CodeStore) (a : Nat) : Byte := Tab.get c.array 0xFF a

/-- Consecutive bytes as stored. -/
def CodeStore.bytes (c : CodeStore) (a n : Nat) : List Byte := (List.range n).map fun i => c.byte (a + i)

/-- Whether a line decodes: it is neither undefined nor uncorrectable. -/
def CodeStore.lineOk (c : CodeStore) (line : Nat) : Bool :=
  !Tab.get c.undefinedLines false line && !Tab.get c.badLines false line

/-- Whether every line of a range decodes. -/
def CodeStore.rangeOk (c : CodeStore) (a n : Nat) : Bool :=
  (List.range ((a + n + 31) / 32 - a / 32)).all fun i => c.lineOk (a / 32 + i)

/-- Whether a line is erased, check bits included. -/
def CodeStore.lineBlank (c : CodeStore) (line : Nat) : Bool :=
  c.lineOk line && (c.bytes (32 * line) 32).all (· == 0xFF)

/-- A line written as whole, decodable content. -/
def CodeStore.setLine (c : CodeStore) (line : Nat) (d : List Byte) : CodeStore :=
  { c with
    array := ((List.range 32).zip d).foldl (fun t p => Tab.set t 0xFF (32 * line + p.1) p.2) c.array
    undefinedLines := Tab.set c.undefinedLines false line false
    badLines := Tab.set c.badLines false line false }

/-- Lines left undefined (R245). -/
def CodeStore.undefine (c : CodeStore) (a n : Nat) : CodeStore :=
  { c with undefinedLines :=
      (List.range (n / 32)).foldl (fun t i => Tab.put t (a / 32 + i) true) c.undefinedLines }

/-- A range erased. -/
def CodeStore.eraseRange (c : CodeStore) (a n : Nat) : CodeStore :=
  { c with
    array := Tab.keep (fun k _ => !(decide (a ≤ k) && decide (k < a + n))) c.array
    undefinedLines := Tab.keep (fun k _ => !(decide (a ≤ 32 * k) && decide (32 * k < a + n))) c.undefinedLines
    badLines := Tab.keep (fun k _ => !(decide (a ≤ 32 * k) && decide (32 * k < a + n))) c.badLines }

/-- A line programmed over its old content (R238): each cell becomes the AND; the line decodes only where it was erased or
holds the same content, and an undefined line stays undefined. -/
def CodeStore.programLine (c : CodeStore) (line : Nat) (d : List Byte) : CodeStore :=
  let old := c.bytes (32 * line) 32
  if Tab.get c.undefinedLines false line then c
  else if c.lineBlank line then c.setLine line d
  else if c.lineOk line && old == d then c
  else
    let t := c.setLine line (List.zipWith (· &&& ·) old d)
    { t with badLines := Tab.put t.badLines line true }

/-- Lines programmed from a string of bytes, a multiple of 32 long. -/
def CodeStore.programAt (c : CodeStore) (a : Nat) (d : List Byte) : CodeStore :=
  (List.range (d.length / 32)).foldl (fun c i => c.programLine (a / 32 + i) (slice d (32 * i) 32)) c

/-- The 8-byte header of a parameter sector of the persistent store or of the compact copy (R231). -/
def sectorHeader (erases : Nat) : List Byte := leBytes 4 0x53454354 ++ leBytes 4 erases

/-- The bytes of a sector of the compact copy: its header, the copy header in sector 0, whose layout is not given, and its share of the
block words (R225, R231). -/
def CodeStore.compactSector (c : CodeStore) (i : Nat) (copyHeader : List Byte) : List Byte :=
  let words := c.compact.flatMap (leBytes 4)
  let first := if i = 0 then 0 else 8168 + (i - 1) * 8184
  let room := if i = 0 then 8168 else 8184
  let used := (words.drop first).take room
  sectorHeader c.compactErases ++ (if i = 0 then padTo 16 copyHeader else []) ++ used ++ List.replicate (room - used.length) 0xFF

/-- A line of the persistent store's sectors or of the compact copy's. Where the store's records stand in a sector is not given: free bytes
(log 147). -/
def State.keptLine (s : State) (line : Nat) : Option (List Byte × State) :=
  let sz := s.cs.bankSize
  let a := 32 * line
  let o := a - sz
  if a < sz ∨ !s.cs.lineBlank line then none
  else if o < 0xC000 then
    let r := s.random 16
    some (slice (s.cs.compactSector (o / 0x2000) r.1) (o % 0x2000) 32, r.2)
  else if sz - 0x10000 ≤ o ∧ o < sz then
    let i := (o - (sz - 0x10000)) / 0x2000
    let r := s.random 32
    let used := !(s.dict.sector i).isEmpty
    let body := if used then padTo 32 r.1 else List.replicate 32 0xFF
    some (if o % 0x2000 = 0 then sectorHeader ((s.dict.storeErases[i]?).getD 0) ++ body.drop 8 else body, if used then r.2 else s)
  else none

/-- A line as a read delivers it, and whether it is uncorrectable; an undefined line delivers free bytes and may be
uncorrectable (R238, R245). -/
def State.csLine (s : State) (line : Nat) : List Byte × Bool × State :=
  if Tab.get s.cs.undefinedLines false line then
    let r := s.random 32
    let w := r.2.draw
    (r.1, w.1.toNat % 2 == 1, w.2)
  else match s.keptLine line with
  | some r => (r.1, false, r.2)
  | none => (s.cs.bytes (32 * line) 32, Tab.get s.cs.badLines false line, s)

/-- Lines delivered one after another: the bytes and the first uncorrectable line's offset. -/
def State.csLines : Nat → State → Nat → List Byte × Option Nat × State
  | 0, s, _ => ([], none, s)
  | n + 1, s, line =>
    let r := s.csLine line
    let t := State.csLines n r.2.2 (line + 1)
    (r.1 ++ t.1, if r.2.1 then some (32 * line) else t.2.1, t.2.2)

/-! ### Protection (R239) -/

/-- Whether a program or erase at an offset is refused: the boot range while `BOOT_LOCK` is true, and bank 0's top
parameter sectors 6 and 7 always. -/
def State.csLocked (s : State) (a : Nat) : Bool :=
  (decide (a < 0x10000) && s.flag 0xE000 2) ||
  (decide (s.cs.bankSize - 0x4000 ≤ a) && decide (a < s.cs.bankSize))

/-! ### The execute-in-place cache (R233, R234) -/

/-- The cache lines of a range emptied. -/
def CodeStore.forget (c : CodeStore) (a n : Nat) : CodeStore :=
  { c with cache := c.cache.filter fun l => !(decide (a / 128 ≤ l) && decide (128 * l < a + n)) }

/-- A missed line and the four that follow it in the bank enter the cache, which keeps its newest 1,024 lines. Which line
gives way is not stated (log 14). -/
def CodeStore.fill (c : CodeStore) (a : Nat) : CodeStore :=
  let l := a / 128
  let new := (List.range 5).map (l + ·) |>.filter fun k => c.bankOf (128 * k) == c.bankOf a && decide (128 * k < 2 * c.bankSize)
  { c with cache := (new ++ c.cache.filter fun k => !new.contains k).take 1024 }

/-! ### Descriptors and completions (R236, R237, R240) -/

/-- Status codes of R240. -/
def cOK : Nat := 0x00
def cNotBlank : Nat := 0x01
def cLocked : Nat := 0x02
def cProgFail : Nat := 0x03
def cEraseFail : Nat := 0x04
def cUncorrectable : Nat := 0x05
def cBadDesc : Nat := 0x06
def cTimeout : Nat := 0x07
def cFlushed : Nat := 0x08
def cBusError : Nat := 0x09
def cFaulted : Nat := 0x0A

/-- A bank of the array. -/
def CodeStore.bank (c : CodeStore) (b : Fin 2) : Bank := c.banks[b]

/-- A bank changed. -/
def State.setBank (s : State) (b : Fin 2) (k : Bank) : State := { s with cs.banks := s.cs.banks.set b k }

/-- Descriptors fetched and not completed: waiting, running, or suspended. -/
def CodeStore.queued (c : CodeStore) : Nat :=
  c.ops.length + sumOf (fun b => (if b.running.isSome then 1 else 0) + (if b.suspended.isSome then 1 else 0)) c.banks.toList

/-- A completion entry written (R240): the tail and the phase move, the event is raised. -/
def State.csPost (s : State) (o : CsOp) (status suspensions firstBad : Nat) : State :=
  let c := s.cs
  let entry :=
    leBytes 4 (o.tag + status * 2 ^ 16 + b2n c.cplPhase * 2 ^ 24 + b2n o.inSuspension * 2 ^ 26) ++
    leBytes 4 (o.slot + min suspensions 65535 * 2 ^ 16) ++ leBytes 4 firstBad ++
    leBytes 4 (if o.started then s.since o.startAt else 0)
  let s := s.store (c.cplBase + 16 * c.cplTail) entry false
  let s := { s with cs.cplTail := (c.cplTail + 1) % 64, cs.cplPhase := c.cplPhase != decide (c.cplTail = 63) }
  if c.eventEn && o.event then s.fire (evSrc 42 0) else s

/-- The opcode a code names. -/
def csOpcode : Nat → Option CsOpcode
  | 0x01 => some .read
  | 0x10 => some .program
  | 0x20 => some .erase
  | 0x21 => some .blankCheck
  | _ => none

/-- Where code-store buffers may lie: hub SRAM or populated DRAM. -/
def csBufferArea : Area → Bool
  | .dram | .ingress | .tables => true
  | _ => false

/-- The check of a descriptor's eight words (R229, R237, R238). -/
def State.csCheck (s : State) (slot : Nat) (w : Nat → Nat) : Option CsOp :=
  match csOpcode (bits (w 0) 0 8) with
  | none => none
  | some o =>
    let a := bits (w 1) 0 29
    let n := bits (w 4) 0 25
    let buf := w 2 + 2 ^ 32 * bits (w 3) 0 16
    let ovr := bit (w 0) 8
    let zero := bits (w 0) 11 5 == 0 && bits (w 1) 29 3 == 0 && bits (w 3) 16 16 == 0 && bits (w 4) 25 7 == 0 &&
      w 5 == 0 && w 6 == 0 && w 7 == 0
    let line := a % 32 == 0 && n % 32 == 0
    let ok := match o with
      | .read => decide (1 ≤ n) && decide (n ≤ 16777216) && s.cs.readable a n && s.within csBufferArea buf n && !ovr
      | .program => line && decide (32 ≤ n) && decide (a % 256 + n ≤ 256) && (s.cs.sector a).isSome &&
          s.within csBufferArea buf n && (!ovr || s.flag 0xE000 0xC)
      | .erase => n == 0 && buf == 0 && !ovr && (s.cs.sector a).any fun r => r.1 == a
      | .blankCheck => line && decide (1 ≤ n) && buf == 0 && !ovr &&
          (s.cs.sector a).any fun r => decide (a + n ≤ r.1 + r.2)
    if zero && ok then
      some ⟨o, bits (w 0) 16 16, bit (w 0) 10, bit (w 0) 9, ovr, a, buf, n, slot, false, 0, false⟩
    else none

/-- Whether the controller may fetch (R236). -/
def State.csCanFetch (s : State) : Bool :=
  let c := s.cs
  c.enable && !c.resetBusy && c.descHead != c.descTail &&
    decide (c.queued + (c.cplTail + 64 - c.cplHead) % 64 < 63)

/-- A descriptor that completes with no cycle. -/
def csReject (slot tag : Nat) (event : Bool) : CsOp :=
  ⟨.read, tag, event, false, false, 0, 0, 0, slot, false, 0, false⟩

/-- One descriptor fetched; a faulted store completes it `FAULTED` (R579). -/
def State.csFetch (s : State) (busErr : Bool) : State :=
  let slot := s.cs.descHead
  let a := s.cs.descBase + 32 * slot
  let s := { s with cs.descHead := (slot + 1) % 64 }
  if busErr then (s.controlError 4 160 ⟨3, 0⟩ a).csPost (csReject slot 0 false) cBusError 0 0
  else
    let w := fun i => s.load (a + 4 * i) 4
    if s.cs.faulted then s.csPost (csReject slot (bits (w 0) 16 16) (bit (w 0) 10)) cFaulted 0 0
    else match s.csCheck slot w with
      | none => s.csPost (csReject slot (bits (w 0) 16 16) (bit (w 0) 10)) cBadDesc 0 0
      | some o => { s with cs.ops := s.cs.ops ++ [o] }

/-- Every descriptor fetched that can be. -/
def State.csFetchAll (s : State) : Nat → State
  | 0 => s
  | n + 1 => if s.csCanFetch then State.csFetchAll (s.csFetch false) n else s

/-- CS_DESC_TAIL_DOORBELL: the tail moves and descriptors are fetched; ignored and counted during a queue reset (R236).
`busErr` says that the first fetch met an uncorrectable error. -/
def State.csDoorbell (s : State) (tail : Nat) (busErr : Bool) : State :=
  if s.cs.resetBusy then { s with cs.doorbellIgnored := s.cs.doorbellIgnored + 1 }
  else
    let s := { s with cs.descTail := tail % 64 }
    let s := if busErr && s.csCanFetch then s.csFetch true else s
    s.csFetchAll 64

/-- CS_ENABLE: the bases are checked and fetching starts, or `RING_ERROR` is set (R235, R236). -/
def State.csEnable (s : State) : State :=
  let c := s.cs
  let tables (a : Area) : Bool := a == .tables
  if c.descBase % 2048 == 0 && c.cplBase % 1024 == 0 && s.within tables c.descBase 2048 &&
      s.within tables c.cplBase 1024 then
    { s with cs.enable := true, cs.ringError := false }.csFetchAll 64
  else { s with cs.enable := false, cs.ringError := true }

/-! ### Order within a bank (R241) -/

/-- The waiting descriptors of a bank in the order they start: urgent ones first. -/
def CodeStore.order (c : CodeStore) (b : Fin 2) : List CsOp :=
  let l := c.ops.filter fun o => c.bankOf o.addr == b
  l.filter (·.urgent) ++ l.filter fun o => !o.urgent

/-- Whether two offsets lie in one sector. -/
def CodeStore.sameSector (c : CodeStore) (a b : Nat) : Bool :=
  match c.sector a, c.sector b with
  | some x, some y => x == y
  | _, _ => false

/-- What may run in a suspension of an erase: reads, programs of another sector, and what is urgent and no erase. -/
def CodeStore.nested (c : CodeStore) (e o : CsOp) : Bool :=
  match o.opcode with
  | .read => true
  | .program => !c.sameSector o.addr e.addr
  | .blankCheck => o.urgent
  | .erase => false

/-- The descriptor of a bank that may start now, if any. -/
def CodeStore.startable (c : CodeStore) (b : Fin 2) : Option CsOp :=
  let k := c.bank b
  let l := c.order b
  match k.running, k.suspended with
  | none, none => l.head?
  | some e, none =>
    if e.opcode == .erase && !c.resetBusy then
      let run := l.takeWhile fun o => c.nested e o
      run.head?.bind fun o => if o.opcode == .read || o.urgent then some o else none
    else none
  | none, some e =>
    if c.resetBusy then none
    else
      let run := l.takeWhile fun o => c.nested e o
      run.find? fun o => if k.programUsed then o.urgent && o.opcode != .program else true
  | some _, some _ => none

/-- A running erase suspended: counted once. -/
def State.csSuspend (s : State) (b : Fin 2) : State :=
  let k := s.cs.bank b
  match k.running with
  | some e =>
    if e.opcode == .erase then
      (s.setBank b { k with
        running := none
        suspended := some e
        suspCount := k.suspCount + 1
        spent := k.spent + s.since k.runSince
        programUsed := false }).bump 0xE000 8
    else s
  | none => s

/-- Whether a flush holds bank 1's erase suspended (R296). -/
def State.csHeld (s : State) (b : Fin 2) : Bool := b == 1 && s.hold.flush.isSome

/-- A suspended erase resumed when nothing it may serve waits. -/
def State.csResume (s : State) (b : Fin 2) : State :=
  let k := s.cs.bank b
  match k.running, k.suspended with
  | none, some e =>
    if (s.cs.startable b).isNone && !s.csHeld b then
      s.setBank b { k with running := some e, suspended := none, runSince := s.pkg.timebase }
    else s
  | _, _ => s

/-- A descriptor taken off the waiting list. -/
def State.csTake (s : State) (o : CsOp) : State := { s with cs.ops := s.cs.ops.filter fun q => q.slot != o.slot }

/-- A descriptor leaves the queue with a status and no cycle. -/
def State.csEnd (s : State) (o : CsOp) (status firstBad : Nat) : State := (s.csTake o).csPost o status 0 firstBad

/-- A short operation (a read or a blank check) done: in a suspension of its bank's erase where one runs. -/
def State.csServe (s : State) (b : Fin 2) (o : CsOp) (f : CsOp → State → State) : State :=
  let s := (s.csTake o).csSuspend b
  let k := s.cs.bank b
  let s := s.setBank b { k with resetting := none }
  (f { o with started := true, startAt := s.pkg.timebase, inSuspension := k.suspended.isSome } s).csResume b

/-- The startable descriptor of a bank when it has a given opcode; in a flush only an urgent one starts (R296). -/
def State.csNext (s : State) (b : Fin 2) (code : CsOpcode) : Option CsOp :=
  match s.cs.startable b with
  | some o => if o.opcode == code && (o.urgent || s.hold.flush.isNone) then some o else none
  | none => none

/-- CS_READ: array bytes go to the buffer; an uncorrectable line is placed as read (R232, R237). `ecc` is what the code found
on the first line: a correction is counted. -/
def State.csRead (s : State) (b : Fin 2) (ecc : Ecc) : State :=
  match s.csNext b .read with
  | none => s
  | some o => s.csServe b o fun o s =>
      let first := o.addr / 32
      let s := match ecc with
        | .clean => s
        | .corrected => s.corrected 5 (161 + b.val) ⟨3, 0⟩ (0x120000000000 + o.addr)
        | .uncorrectable => s.controlError 5 (161 + b.val) ⟨3, 0⟩ (0x120000000000 + o.addr)
      let r := State.csLines ((o.addr + o.len + 31) / 32 - first) s first
      let bad := if ecc == .uncorrectable then some (32 * first) else r.2.1
      let s := r.2.2.store o.buf (slice r.1 (o.addr % 32) o.len) false
      let s := match ecc, r.2.1 with
        | .uncorrectable, _ => s
        | _, some x => s.controlError 5 (161 + b.val) ⟨3, 0⟩ (0x120000000000 + x)
        | _, none => s
      match bad with
      | some x => s.csPost o cUncorrectable 0 x
      | none => s.csPost o cOK 0 0

/-- The first line of a range that is not blank. -/
def CodeStore.firstUsed (c : CodeStore) (a n : Nat) : Option Nat :=
  ((List.range (n / 32)).find? fun i => !c.lineBlank (a / 32 + i)).map fun i => a + 32 * i

/-- BLANK_CHECK: `OK` or `NOT_BLANK` (R237). -/
def State.csBlankCheck (s : State) (b : Fin 2) : State :=
  match s.csNext b .blankCheck with
  | none => s
  | some o => s.csServe b o fun o s =>
      match s.cs.firstUsed o.addr o.len with
      | some x => s.csPost o cNotBlank 0 x
      | none => s.csPost o cOK 0 0

/-- CS_PROGRAM: the lock and blank checks, then the program starts; an erase of the bank is suspended for an urgent one
(R238, R239, R241). `busErr` says that its buffer meets a bus error (R240). -/
def State.csProgram (s : State) (b : Fin 2) (busErr : Bool) : State :=
  match s.csNext b .program with
  | none => s
  | some o =>
    if s.csLocked o.addr then (s.csEnd o cLocked 0).csResume b
    else if o.overwrite && !s.flag 0xE000 0xC then (s.csEnd o cBadDesc 0).csResume b
    else match (if o.overwrite then none else s.cs.firstUsed o.addr o.len) with
      | some x => (s.csEnd o cNotBlank x).csResume b
      | none =>
        if busErr then
          let i := memInstance 0 (bits o.buf 11 3) (s.area o.buf)
          (((s.controlError i.1 i.2 ⟨3, 0⟩ o.buf)).csEnd o cBusError 0).csResume b
        else
        let s := ((s.csTake o).csSuspend b)
        let k := s.cs.bank b
        let o := { o with started := true, startAt := s.pkg.timebase, inSuspension := k.suspended.isSome }
        let s := s.setBank b { k with
          running := some o, resetting := none, programUsed := k.suspended.isSome }
        { s with cs := s.cs.forget o.addr o.len }

/-- CS_ERASE: the lock check, then the erase starts (R239, R241). -/
def State.csErase (s : State) (b : Fin 2) : State :=
  match s.csNext b .erase with
  | none => s
  | some o =>
    if s.csLocked o.addr then s.csEnd o cLocked 0
    else
      let s := s.csTake o
      let k := s.cs.bank b
      let s := s.setBank b { k with
        running := some { o with started := true, startAt := s.pkg.timebase }
        resetting := none, suspCount := 0, spent := 0, runSince := s.pkg.timebase, programUsed := false }
      { s with cs := s.cs.forget o.addr ((s.cs.sector o.addr).getD (0, 0)).2 }

/-- Whether a completion slot is free for one more descriptor (R236). -/
def CodeStore.slotFree (c : CodeStore) : Bool := decide (c.queued + (c.cplTail + 64 - c.cplHead) % 64 < 63)

/-- The slots from `DESC_HEAD` to the tail at the reset complete `FLUSHED` in ring order, as completion slots allow (R236, R244). -/
def State.csFlushSlots (s : State) : Nat → State
  | 0 => s
  | n + 1 =>
    let c := s.cs
    if c.descHead = c.resetEnd || !c.slotFree then s
    else
      let slot := c.descHead
      let w := s.load (c.descBase + 32 * slot) 4
      let s := { s with cs.descHead := (slot + 1) % 64 }
      State.csFlushSlots (s.csPost (csReject slot (bits w 16 16) (bit w 10)) cFlushed 0 0) n

/-- A queue reset ends once the rest of the ring is flushed and no issued operation is left. -/
def State.csResetDone (s : State) : State :=
  if !s.cs.resetBusy then s
  else
    let s := s.csFlushSlots 64
    if s.cs.queued == 0 && s.cs.descHead == s.cs.resetEnd then { s with cs.resetBusy := false } else s

/-- CS_PROGRAM_END: the program ends; its lines hold the AND of old and new, or are undefined when it failed (R238, R245). -/
def State.csProgramEnd (s : State) (b : Fin 2) (ok : Bool) : State :=
  let k := s.cs.bank b
  match k.running with
  | some o =>
    if o.opcode == .program then
      let s := s.setBank b { k with running := none }
      let page := o.addr / 256 * 256
      let cs := if ok then s.cs.programAt o.addr (s.mem.read o.buf o.len) else s.cs.undefine page 256
      let s := { s with cs := cs.forget o.addr o.len }
      let s := if ok then s else s.bump 0xE000 9
      ((s.csPost o (if ok then cOK else cProgFail) 0 0).csResume b).csResetDone
    else s
  | none => s

/-- CS_ERASE_END: the erase ends with its suspend count (R240). -/
def State.csEraseEnd (s : State) (b : Fin 2) (ok : Bool) : State :=
  let k := s.cs.bank b
  match k.running with
  | some o =>
    if o.opcode == .erase then
      let s := s.setBank b { k with running := none, suspCount := 0 }
      let n := ((s.cs.sector o.addr).getD (0, 0)).2
      let cs := if ok then s.cs.eraseRange o.addr n else s.cs.undefine o.addr n
      let s := { s with cs := cs.forget o.addr n }
      let s := if ok then s else s.bump 0xE000 9
      (s.csPost o (if ok then cOK else cEraseFail) k.suspCount 0).csResetDone
    else s
  | none => s

/-! ### Timeouts and the fault of the store (R243, R579) -/

/-- The limit of an operation, in ticks. -/
def CodeStore.limit (c : CodeStore) (o : CsOp) : Nat :=
  match o.opcode with
  | .erase => usTicks (if ((c.sector o.addr).getD (0, 0)).2 = 0x2000 then 800000 else 8000000)
  | _ => usTicks 4800

/-- What an operation abandoned in the array leaves undefined. -/
def CodeStore.spoil (c : CodeStore) (o : CsOp) : CodeStore :=
  match o.opcode with
  | .program => c.undefine (o.addr / 256 * 256) 256
  | .erase => c.undefine o.addr ((c.sector o.addr).getD (0, 0)).2
  | _ => c

/-- CS_OP_TIMEOUT: the bank is reset; its operation, then an erase it held suspended, completes `TIMEOUT` (R243). -/
def State.csTimeout (s : State) (b : Fin 2) : State :=
  let k := s.cs.bank b
  match k.running with
  | some o =>
    let used := if o.opcode == .erase then k.spent + s.since k.runSince else s.since o.startAt
    if used > s.cs.limit o then
      let s := s.setBank b { k with running := none, suspended := none, resetting := some s.pkg.timebase }
      let s := ({ s with cs := s.cs.spoil o }.bump 0xE000 9).csPost o cTimeout
        (if o.opcode == CsOpcode.erase then k.suspCount else 0) 0
      match k.suspended with
      | some e => (({ s with cs := s.cs.spoil e }.bump 0xE000 9).csPost e cTimeout k.suspCount 0).csResetDone
      | none => s.csResetDone
    else s
  | none => s

/-- The store faults: every descriptor fetched completes `FAULTED`; one that ran leaves its unit undefined (R579). -/
def State.csFault (s : State) : State :=
  let live := s.cs.banks.toList.flatMap fun k => k.running.toList ++ k.suspended.toList
  let all := live ++ s.cs.ops
  let idle : Bank := ⟨none, none, 0, 0, 0, false, none⟩
  let s := { s with cs := live.foldl CodeStore.spoil { s.cs with
    faulted := true, ops := [], banks := Vector.replicate 2 idle, cache := [] } }
  (all.foldl (fun s o => s.csPost o cFaulted 0 0) s).csResetDone

/-- BANK_READY_TIMEOUT: a bank is not ready within 10 ms of its reset and the store faults (R579). -/
def State.csBankTimeout (s : State) (b : Fin 2) : State :=
  match (s.cs.bank b).resetting with
  | some t => if usTicks 10000 ≤ s.since t then s.csFault else s
  | none => s

/-! ### Queue reset (R244) -/

/-- QUEUE_RESET: descriptors not issued complete `FLUSHED`; issued ones run to their end, a suspended erase resuming
(R244). -/
def State.csQueueReset (s : State) : State :=
  if s.cs.resetBusy then s
  else
    let waiting := s.cs.ops
    let s := { s with cs.resetBusy := true, cs.resetEnd := s.cs.descTail, cs.ops := [] }
    let s := waiting.foldl (fun s o => s.csPost o cFlushed 0 0) s
    ((s.csResume 0).csResume 1).csResetDone

/-- XIP_INVALIDATE: the cache is emptied (R234). -/
def State.xipInvalidate (s : State) : State := { s with cs.cache := [] }

/-! ### Window fetches and loads (R233, R242) -/

/-- What a window access of a core gives: bytes, a bus error, or a stall behind a program of its bank. -/
inductive XipResult where
  | bytes (l : List Byte) | busError | stalled
  deriving DecidableEq, Repr

/-- A read of the array for the window, once the bank serves it: its lines, or a bus error (R232). -/
def State.xipRead (s : State) (b : Fin 2) (a n : Nat) (ecc : Ecc) (q : Requester) : XipResult × State :=
  let inst := 161 + b.val
  if ecc == .uncorrectable then (.busError, s.controlError 5 inst q (0x120000000000 + a))
  else
    let s := if ecc == .corrected then s.corrected 5 inst q (0x120000000000 + a) else s
    let r := State.csLines ((a + n + 31) / 32 - a / 32) s (a / 32)
    match r.2.1 with
    | some x => (.busError, r.2.2.controlError 5 inst q (0x120000000000 + x))
    | none => (.bytes (slice r.1 (a % 32) n), { r.2.2 with cs := r.2.2.cs.fill a })

/-- Content of a sector while it is erased: free bytes, or a bus error (R242). -/
def State.xipUndefined (s : State) (b : Fin 2) (a n : Nat) (q : Requester) : XipResult × State :=
  let r := s.random n
  let w := r.2.draw
  if w.1.toNat % 2 = 1 then (.busError, w.2.controlError 5 (161 + b.val) q (0x120000000000 + a)) else (.bytes r.1, w.2)

/-- A fetch or load of `n` bytes through the window: a hit is served from the cache; a miss reads the array, suspending an
erase of the bank or stalling behind a program, or behind an erase that a queue reset lets run to its end (R233, R242, R244). -/
def State.xipAccess (s : State) (a n : Nat) (ecc : Ecc) (q : Requester) : XipResult × State :=
  let b := s.cs.bankOf a
  let k := s.cs.bank b
  let erasing (o : Option CsOp) : Bool := o.any fun e => e.opcode == .erase && s.cs.sameSector a e.addr
  let undefined := erasing k.running || erasing k.suspended
  if s.cs.faulted || decide (2 * s.cs.bankSize < a + n) then (.busError, s)
  else if !undefined && s.cs.cache.contains (a / 128) && s.cs.cache.contains ((a + n - 1) / 128) then
    let r := State.csLines ((a + n + 31) / 32 - a / 32) s (a / 32)
    (.bytes (slice r.1 (a % 32) n), r.2.2)
  else match k.running with
    | some o =>
      if o.opcode == .program then (.stalled, { s with cs.fetchStalls := s.cs.fetchStalls + 1 }.bump 0xE000 7)
      else if s.cs.resetBusy then (.stalled, s)
      else
        let s := s.csSuspend b
        let r := if undefined then s.xipUndefined b a n q else s.xipRead b a n ecc q
        (r.1, r.2.csResume b)
    | none => if undefined then s.xipUndefined b a n q else s.xipRead b a n ecc q

/-! ### Controller registers (R235) -/

/-- A controller register read, 4 bytes at an offset. -/
def State.csReg (s : State) (off : Nat) : Nat :=
  let c := s.cs
  let each (f : Bank → Bool) : Nat := b2n (f (c.bank 0)) + 2 * b2n (f (c.bank 1))
  match off with
  | 0x000 => b2n c.enable + 2 * b2n c.resetBusy + 4 * b2n c.eventEn
  | 0x004 => b2n c.enable + 2 * b2n c.resetBusy + 4 * b2n c.ringError + 8 * b2n (s.flag 0xE000 2)
      + 2 ^ 8 * min c.queued 127
  | 0x008 => c.descBase % 2 ^ 32
  | 0x00C => c.descBase / 2 ^ 32
  | 0x010 => c.descTail
  | 0x014 => c.descHead
  | 0x018 => c.cplBase % 2 ^ 32
  | 0x01C => c.cplBase / 2 ^ 32
  | 0x020 => c.cplTail + 64 * b2n c.cplPhase
  | 0x024 => c.cplHead
  | 0x028 => each fun k => k.running.isSome
  | 0x02C => each fun k => k.suspended.isSome
  | 0x030 => c.fetchStalls.toNat
  | 0x034 => c.doorbellIgnored.toNat
  | _ => 0

/-- Half of a 48-bit base register written. -/
def baseHalf (old off v : Nat) : Nat :=
  if off = 0 then old / 2 ^ 32 * 2 ^ 32 + v % 2 ^ 32 else (v % 2 ^ 16) * 2 ^ 32 + old % 2 ^ 32

/-- A controller register written, 4 bytes at an offset. -/
def State.setCsReg (s : State) (off v : Nat) : State :=
  let c := s.cs
  let free := !c.enable && c.queued == 0
  match off with
  | 0x000 =>
    let s := { s with cs.eventEn := bit v 2 }
    let s := if bit v 0 && !c.enable then s.csEnable else if bit v 0 then s else { s with cs.enable := false }
    let s := if bit v 1 then s.csQueueReset else s
    if bit v 3 then s.xipInvalidate else s
  | 0x008 => if free then { s with cs.descBase := baseHalf c.descBase 0 v } else s
  | 0x00C => if free then { s with cs.descBase := baseHalf c.descBase 4 v } else s
  | 0x010 => s.csDoorbell v false
  | 0x018 => if free then { s with cs.cplBase := baseHalf c.cplBase 0 v } else s
  | 0x01C => if free then { s with cs.cplBase := baseHalf c.cplBase 4 v } else s
  | 0x024 => ({ s with cs.cplHead := v % 64 }.csResetDone).csFetchAll 64
  | _ => s

/-! ### Commit markers (R247, R248) -/

/-- A commit marker as parsed: kind, slot, sequence, image length and digest. -/
structure Marker where
  kind : Nat
  slot : Nat
  seq : Nat
  len : Nat
  digest : List Byte
  deriving DecidableEq, Repr

/-- The first offset of the marker log: bank 0 top parameter sector 0. -/
def CodeStore.logBase (c : CodeStore) : Nat := c.bankSize - 0x10000

/-- The marker at index i of the log, if its lines decode and its CRC matches. -/
def CodeStore.marker (c : CodeStore) (i : Nat) : Option Marker :=
  let a := c.logBase + 128 * i
  let b := c.bytes a 128
  if c.rangeOk a 128 && ofLe (slice b 0 4) == 0x4D524B31 && ofLe (slice b 124 4) == crc32c (b.take 124) then
    some ⟨(byteAt b 4).toNat, (byteAt b 5).toNat, ofLe (slice b 8 8), ofLe (slice b 16 4), slice b 20 48⟩
  else none

/-- Every marker of the log: six sectors of 64. -/
def CodeStore.markers (c : CodeStore) : List Marker := (List.range 384).filterMap c.marker

/-- The marker of highest sequence a test keeps. -/
def latest (l : List Marker) : Option Marker :=
  l.foldl (fun b m => match b with
    | none => some m
    | some x => if m.seq > x.seq then some m else b) none

/-- The latest marker of a kind for a slot. -/
def CodeStore.lastOf (c : CodeStore) (kind slot : Nat) : Option Marker :=
  latest (c.markers.filter fun m => m.kind == kind && m.slot == slot)

/-- The highest sequence in the log, 0 for an empty log. -/
def CodeStore.markerSeq (c : CodeStore) : Nat := c.markers.foldl (fun n m => max n m.seq) 0

/-- Whether a slot is valid (R248). -/
def CodeStore.slotValid (c : CodeStore) (slot : Nat) : Bool :=
  match c.lastOf 2 slot, c.lastOf 1 slot with
  | some v, some i => decide (v.seq > i.seq)
  | some _, none => true
  | none, _ => false

/-- The slot the next package reset runs: the selected valid slot, else the one the strap names, else the other; 0 for
none (R248). `bootBank` is the strap. A selection whose slot is not valid falls back as no selection does (log 12). -/
def CodeStore.nextSlot (c : CodeStore) (bootBank : Bool) : Nat :=
  let strap := if bootBank then 2 else 1
  let other := if bootBank then 1 else 2
  let fallback := if c.slotValid strap then strap else if c.slotValid other then other else 0
  match latest (c.markers.filter fun m => m.kind == 3) with
  | some m => if c.slotValid m.slot then m.slot else fallback
  | none => fallback

/-- `SLOT_STATE` of one slot: 0 never written, 1 invalid, 2 valid. -/
def CodeStore.slotState (c : CodeStore) (slot : Nat) : Nat :=
  if c.slotValid slot then 2
  else if (c.lastOf 1 slot).isSome || (c.lastOf 2 slot).isSome then 1 else 0

/-- The bytes of a marker. -/
def markerBytes (m : Marker) : List Byte :=
  let b := leBytes 4 0x4D524B31 ++ [BitVec.ofNat 8 m.kind, BitVec.ofNat 8 m.slot, 0, 0] ++ leBytes 8 m.seq ++
    leBytes 4 m.len ++ padTo 48 m.digest ++ List.replicate 56 0
  b ++ leBytes 4 (crc32c b)

/-- Markers written one after another at the log's write position. -/
def CodeStore.appendRaw (c : CodeStore) (m : Marker) : CodeStore :=
  { c.programAt (c.logBase + 128 * c.markerOff) (markerBytes m) with markerOff := (c.markerOff + 1) % 384 }

/-- A marker appended: where it would open a new sector, that sector is erased and the latest marker of each kind for each
slot is rewritten there first (R247). -/
def CodeStore.addMarker (c : CodeStore) (kind slot len : Nat) (digest : List Byte) : CodeStore :=
  let seq := c.markerSeq + 1
  let c :=
    if c.markerOff % 64 = 0 && !c.markers.isEmpty then
      let keep := [(1, 1), (1, 2), (2, 1), (2, 2), (3, 1), (3, 2)].filterMap fun p => c.lastOf p.1 p.2
      let c := c.eraseRange (c.logBase + 128 * c.markerOff) 0x2000
      keep.foldl CodeStore.appendRaw c
    else c
  c.appendRaw ⟨kind, slot, seq, len, digest⟩

/-- The offset of a firmware slot's first byte: the first main sector of its bank. -/
def CodeStore.slotBase (c : CodeStore) (slot : Nat) : Nat := 0x40000 + (if slot = 2 then c.bankSize else 0)

/-- The largest image a slot holds (R229). -/
def CodeStore.slotSize (c : CodeStore) : Nat := (if c.big then 1022 else 510) * 0x40000

/-- A marker whose program fails: its page is undefined (R245). -/
def CodeStore.spoilMarker (c : CodeStore) : CodeStore :=
  { c.undefine ((c.logBase + 128 * c.markerOff) / 256 * 256) 256 with markerOff := (c.markerOff / 2 * 2 + 2) % 384 }

/-- Steps 1 to 6 of R249 as far as they succeed: `INVALID`, erase, program, read back, `VALID`, and `SELECT` when asked; step `fails` is the one
that fails, 0 none. What the step worked on is then undefined. -/
def CodeStore.writeSlot (c : CodeStore) (slot : Nat) (image : Tab Byte) (len fails : Nat) (select : Bool) : CodeStore :=
  let base := c.slotBase slot
  let span := (len + 0x3FFFF) / 0x40000 * 0x40000
  if fails = 1 then c.spoilMarker
  else
    let c := (c.addMarker 1 slot 0 []).eraseRange base span
    if fails = 2 ∨ fails = 3 then c.undefine base span
    else
      let part : Tab Byte := Tab.keep (fun k _ => decide (k < len)) image
      let c := { c with array := Tab.putAll c.array (part.map fun (p : Nat × Byte) => (base + p.1, p.2)) }
      let c := { c with array := Tab.keep (fun _ b => b != 0xFF) c.array }
      let digest := sha384 ((List.range len).map fun i => Tab.get image 0xFF i)
      if fails = 4 then c
      else if fails = 5 then c.spoilMarker
      else
        let c := c.addMarker 2 slot len digest
        if !select then c else if fails = 6 then c.spoilMarker else c.addMarker 3 slot 0 []

/-! ### Power-fail record slots (R246) -/

/-- The offset of a power-fail record slot: 64 slots of 256 bytes in bank 1 bottom parameter sectors 6 and 7. -/
def CodeStore.pfBase (c : CodeStore) (slot : Nat) : Nat := c.bankSize + 6 * 0x2000 + 256 * (slot % 64)

/-- Whether a slot is erased. -/
def CodeStore.pfErased (c : CodeStore) (slot : Nat) : Bool :=
  (List.range 8).all fun i => c.lineBlank (c.pfBase slot / 32 + i)

/-- The erased slots. -/
def CodeStore.pfErasedCount (c : CodeStore) : Nat := ((List.range 64).filter c.pfErased).length

/-- A record written to the next slot; a slot that is not erased takes nothing (R238, R246). -/
def CodeStore.pfWrite (c : CodeStore) (rec_ : List Byte) : CodeStore :=
  if c.pfErased c.nextPf then { c.programAt (c.pfBase c.nextPf) (padTo 256 rec_) with nextPf := (c.nextPf + 1) % 64 } else c

/-- The sector that PF_SLOT_ERASE erases: the one other than that of the last record written. -/
def CodeStore.pfErase (c : CodeStore) : CodeStore :=
  let last := (c.nextPf + 63) % 64
  let other := if last < 32 then 32 else 0
  c.eraseRange (c.pfBase other) 0x2000

end Sys2Proof.Machine
end

