-- ==== Sys2Proof/Machine/Cores.lean ====
section
/-! DEFINITION. The Basiz core: its registers, windows, return rstacks and the one exception entry all vectors share (12 of
spec/). -/
namespace Sys2Proof.Machine

/-- The registers a reset, a restart and a cluster reset leave (R407, R408). -/
def Core.cleared : Core where
  pc := 0
  d := Vector.replicate 16 0
  dp := Vector.replicate 16 false
  a := Vector.replicate 8 0
  ac := Vector.replicate 4 0
  acp := Vector.replicate 4 false
  owed := Vector.replicate 24 none
  rstacks := Vector.replicate 2 []
  rsmode := false
  eventEn := false
  exl := true
  sup := true
  halted := false
  waiting := false
  epc := 0
  estatus := 0
  ecause := 0
  eaddr := 0
  einst := 0
  vbar := 0
  wins := Vector.replicate 8 Window.init
  nextWins := Vector.replicate 8 Window.init
  winsPending := false
  draining := false
  discarded := false
  taskId := 0
  taskFn := 0
  sscratch := Vector.replicate 8 0
  retired := 0
  macSteps := 0
  macx := none
  task := none
  started := false
  stop := false
  prefetch := none
  lastFn := none
  lastGen := none
  icache := false
  stores := []

/-- A core after reset: halted, but for core 128, which starts at the boot block (R408). -/
def Core.init (n : Nat) : Core :=
  { Core.cleared with halted := n != 128, pc := if n = 128 then 0x120000000000 else 0 }

/-- A core. -/
def State.core (s : State) (n : Nat) : Core := Tab.get s.cores (Core.init n) n

/-- A core changed. -/
def State.setCore (s : State) (n : Nat) (c : Core) : State := { s with cores := Tab.put s.cores n c }

/-- A core changed by a function. -/
def State.onCore (s : State) (n : Nat) (f : Core → Core) : State := s.setCore n (f (s.core n))

/-- The region of an application core (R22). -/
def coreRegion (n : Nat) : Nat := n / 32

/-- The global cluster of an application core (R22). -/
def coreCluster (n : Nat) : Nat := n / 8

/-- Whether a core is a supervisor core (R22). -/
def isSupCore (n : Nat) : Bool := decide (128 ≤ n)

/-- The core as a requester (R373). -/
def coreReq (n : Nat) : Requester := ⟨0, n⟩

/-- Whether a core is a reserved unit in force (R444). -/
def State.isReserved (s : State) (n : Nat) : Bool := decide (n < 128) && decide (n % 8 < s.sched.reservedUnits)

/-! ### Registers (R376 to R378) -/

/-- A D register's value. -/
def Core.dv (c : Core) (i : Fin 16) : Word := c.d[i]

/-- Whether a D register is poisoned. -/
def Core.pv (c : Core) (i : Fin 16) : Bool := c.dp[i]

/-- An A register's value. -/
def Core.av (c : Core) (i : Fin 8) : Addr := c.a[i]

/-- A D register written with its poison bit; a load's bus error waiting there is gone. -/
def Core.setD (c : Core) (i : Fin 16) (v : Word) (p : Bool) : Core :=
  { c with d := c.d.set i v, dp := c.dp.set i p, owed := c.owed.setIfInBounds i.val none }

/-- An A register written. -/
def Core.setA (c : Core) (i : Fin 8) (v : Addr) : Core :=
  { c with a := c.a.set i v, owed := c.owed.setIfInBounds (16 + i.val) none }

/-- An accumulator written. -/
def Core.setAc (c : Core) (i : Fin 4) (v : BitVec 128) (p : Bool) : Core :=
  { c with ac := c.ac.set i v, acp := c.acp.set i p }

/-- The second register of a pair: d + 1 (R378). -/
def pairOf (d : Fin 16) : Fin 16 := d + 1

/-- Whether a register can name a pair. -/
def isPair (d : Fin 16) : Bool := d != 15

/-! ### Windows (R402, R403) -/

/-- A right of a window: read, write, execute. -/
inductive Right where
  | rd | wr | ex
  deriving DecidableEq, Repr

/-- The bit of a right in `WIN_RIGHTS`. -/
def Right.bit : Right → Nat
  | .rd => 0
  | .wr => 1
  | .ex => 2

/-- Whether an enabled window contains an address. -/
def Window.holds (w : Window) (a : Nat) : Bool :=
  w.rights.getLsbD 7 && decide (w.base.toNat ≤ a) && decide (a ≤ w.limit.toNat)

/-- The window that governs an access: the lowest-numbered enabled one containing its first byte. -/
def Core.window (c : Core) (a : Nat) : Option Window := c.wins.toList.find? fun w => w.holds a

/-- Whether a task-level access of `n` bytes with the rights it needs is covered by its governing window. -/
def Core.covered (c : Core) (a n : Nat) (rights : List Right) : Bool :=
  match c.window a with
  | some w => decide (a + n ≤ 2 ^ 48) && decide (a + n ≤ w.limit.toNat + 1) && rights.all fun r => w.rights.getLsbD r.bit
  | none => false

/-- Whether an access violates the windows: only task level is checked. -/
def Core.violates (c : Core) (a n : Nat) (rights : List Right) : Bool := !c.sup && !c.covered a n rights

/-- Whether a load is control traffic: its governing window says so, or there is none (R362, R402). -/
def Core.control (c : Core) (a : Nat) : Bool :=
  match c.window a with
  | some w => w.rights.getLsbD 3
  | none => true

/-- The windows last written apply, and the rewrite is over (R403). -/
def Core.applyWins (c : Core) : Core :=
  { c with wins := c.nextWins, winsPending := false }

/-- A `WIN_BASE` register written: bits 47–6. -/
def Core.writeBase (c : Core) (i : Fin 8) (v : Word) : Core :=
  let w := c.nextWins[i]
  { c with nextWins := c.nextWins.set i { w with base := (v.setWidth 48 >>> 6) <<< 6 }, winsPending := true, discarded := false }

/-- A `WIN_LIMIT` register written: bits 47–6; bits 5–0 read as ones. -/
def Core.writeLimit (c : Core) (i : Fin 8) (v : Word) : Core :=
  let w := c.nextWins[i]
  { c with nextWins := c.nextWins.set i { w with limit := v.setWidth 48 ||| 0x3F }, winsPending := true, discarded := false }

/-- A `WIN_RIGHTS` register written: reserved bits stay 0. -/
def Core.writeRights (c : Core) (i : Fin 8) (v : Word) : Core :=
  let w := c.nextWins[i]
  { c with nextWins := c.nextWins.set i { w with rights := v.setWidth 8 &&& 0x8F }, winsPending := true, discarded := false }

/-! ### Control registers (R407) -/

/-- The stack of the current level: 0 task, 1 supervisor. -/
def Core.level (c : Core) : Fin 2 := if c.sup then 1 else 0

/-- The return stack of the current level, newest first. -/
def Core.stack (c : Core) : List Addr := c.rstacks[c.level]

/-- `CORE_STATUS`. -/
def Core.status (c : Core) : Word :=
  BitVec.ofNat 64 (c.stack.length * 256 + b2n c.halted * 16 + b2n c.winsPending * 8 + b2n c.macx.isSome * 4 + b2n c.exl * 2 + b2n c.sup)

/-- `CORE_ID`. -/
def coreId (n : Nat) : Nat :=
  if isSupCore n then n + 2 ^ 15 else n + 2 ^ 8 * coreRegion n + 2 ^ 10 * coreCluster n

/-- The control registers readable at task level. -/
def crTask (k : Nat) : Bool := k ∈ [0x000, 0x030, 0x031, 0x032, 0x050, 0x051]

/-- The number of a window register within its group of eight. -/
def winNo (k : Nat) : Fin 8 := Fin.ofNat 8 k

/-- Whether a number names a control register. -/
def crListed (k : Nat) : Bool :=
  decide (k ≤ 0x008) || (decide (0x010 ≤ k) && decide (k ≤ 0x027)) || (decide (0x030 ≤ k) && decide (k ≤ 0x032)) ||
  (decide (0x040 ≤ k) && decide (k ≤ 0x047)) || k == 0x050 || k == 0x051

/-- A control register read. -/
def State.crRead (s : State) (n k : Nat) : Word :=
  let c := s.core n
  if k = 0x000 then BitVec.ofNat 64 (coreId n)
  else if k = 0x001 then BitVec.ofNat 64 (2 * b2n c.eventEn + b2n c.rsmode)
  else if k = 0x002 then c.status
  else if k = 0x003 then c.epc.setWidth 64
  else if k = 0x004 then c.estatus.setWidth 64
  else if k = 0x005 then c.ecause
  else if k = 0x006 then c.eaddr.setWidth 64
  else if k = 0x007 then c.einst.setWidth 64
  else if k = 0x008 then c.vbar.setWidth 64
  else if 0x010 ≤ k ∧ k ≤ 0x017 then (c.nextWins[winNo (k - 0x010)]).base.setWidth 64
  else if 0x018 ≤ k ∧ k ≤ 0x01F then (c.nextWins[winNo (k - 0x018)]).limit.setWidth 64
  else if 0x020 ≤ k ∧ k ≤ 0x027 then (c.nextWins[winNo (k - 0x020)]).rights.setWidth 64
  else if k = 0x030 then s.pkg.timebase
  else if k = 0x031 then c.taskId.setWidth 64
  else if k = 0x032 then c.taskFn.setWidth 64
  else if 0x040 ≤ k ∧ k ≤ 0x047 then c.sscratch[winNo (k - 0x040)]
  else if k = 0x050 then c.retired
  else if k = 0x051 then c.macSteps
  else 0

/-- `CORE_CTRL` written: `CLR_EXL` is a write-one action. -/
def Core.writeCtrl (c : Core) (v : Word) : Core :=
  { c with eventEn := v.getLsbD 1, rsmode := v.getLsbD 0, exl := c.exl && !v.getLsbD 7 }

/-- A control register written by `MTCR`; writes to read-only registers are ignored. -/
def Core.crWrite (c : Core) (k : Nat) (v : Word) : Core :=
  if k = 0x001 then c.writeCtrl v
  else if k = 0x003 then { c with epc := v.setWidth 48 }
  else if k = 0x004 then { c with estatus := v.setWidth 2 }
  else if k = 0x008 then { c with vbar := (v.setWidth 48 >>> 8) <<< 8 }
  else if 0x010 ≤ k ∧ k ≤ 0x017 then c.writeBase (winNo (k - 0x010)) v
  else if 0x018 ≤ k ∧ k ≤ 0x01F then c.writeLimit (winNo (k - 0x018)) v
  else if 0x020 ≤ k ∧ k ≤ 0x027 then c.writeRights (winNo (k - 0x020)) v
  else if 0x040 ≤ k ∧ k ≤ 0x047 then { c with sscratch := c.sscratch.set (winNo (k - 0x040)) v }
  else c

/-- A control register written through the remote block: only windows, `VBAR` and `CORE_CTRL` (R408). -/
def Core.remoteWrite (c : Core) (k : Nat) (v : Word) : Core :=
  if k = 0x001 ∨ k = 0x008 ∨ (0x010 ≤ k ∧ k ≤ 0x027) then c.crWrite k v else c

/-! ### The memory a core sees (R385) -/

/-- Where a core's access to an address lies in the model's memory: its scratch is its own. -/
def State.phys (s : State) (n a : Nat) : Nat :=
  if s.area a = .scratch then scratchBase n + (a - 0x1F0000000000) else a

/-- Whether a core may reach memory at an address: the ingress burst buffer is for supervisor level only (R39). -/
def State.memAt (s : State) (n a : Nat) : Bool :=
  match s.area a with
  | .ingress => (s.core n).sup
  | x => x.isMem

/-- Memory with one unfenced store performed. -/
def OwnStore.onto (m : Memory) (x : OwnStore) : Memory := (m.write x.addr x.data).markStore x.addr x.data.length x.poison

/-- Memory as a core sees it: with its own stores that no `FENCE` has yet followed (R12, R386). -/
def State.coreMem (s : State) (n : Nat) : Memory := (s.core n).stores.foldl (fun m x => x.onto m) s.mem

/-- Every earlier store of a core performed at its memory (R12, R388). -/
def State.fence (s : State) (n : Nat) : State :=
  { s with mem := s.coreMem n }.onCore n fun c => { c with stores := [] }

/-- A core's store of bytes at a model address: one to cluster memory waits for a `FENCE` to be visible to others (R12). -/
def State.coreStore (s : State) (n a : Nat) (data : List Byte) (p : Bool) : State :=
  match s.area a with
  | .cluster _ => s.onCore n fun c => { c with stores := c.stores ++ [OwnStore.mk a data p] }
  | _ => s.store a data p

/-- The bytes of the execute-in-place window. -/
def State.xipBytes (s : State) (a n : Nat) : List Byte :=
  (List.range n).map fun i => Tab.get s.cs.array 0xFF (a + i - 0x120000000000)

/-- Bytes a core reads for itself: from memory, or the execute-in-place window. -/
def State.coreBytes (s : State) (n a len : Nat) : List Byte :=
  if s.area a = .xip then s.xipBytes a len else (s.coreMem n).read (s.phys n a) len

/-- Whether instructions may be fetched from an address (R385). -/
def State.fetchable (s : State) (n a : Nat) : Bool :=
  decide (a % 4 = 0) &&
  match s.area a with
  | .dram | .staging _ | .cluster _ | .tables => true
  | .ingress => (s.core n).sup
  | .xip => !s.cs.faulted
  | _ => false

/-- The event source of a core's halt (R547). -/
def haltSource (n : Nat) : Nat :=
  if isSupCore n then evSrc 42 (8 + (n - 128)) else evSrc (10 * coreRegion n + 9) (n % 32)

/-! ### Exceptions (R404 to R406) -/

/-- What an exception brings with it: its vector, the addresses it saves, the further bits of `ECAUSE`, and the first word of the
instruction concerned. -/
structure Trap where
  vector : Nat
  epc : Addr
  eaddr : Addr
  cause : Nat
  einst : BitVec 32
  deriving DecidableEq, Repr

/-- A core halts under R406: the double fault is counted and its halt event raised. -/
def State.doubleFault (s : State) (n : Nat) : State :=
  ((s.onCore n fun c => { c with halted := true }).bump 0xA020 2).fire (haltSource n)

/-- The vector entry of a core: 8 bytes of the table at `VBAR`. -/
def State.vectorEntry (s : State) (n vector : Nat) : Nat :=
  ofLe (s.coreBytes n ((s.core n).vbar.toNat + 8 * vector) 8)

/-- Whether a vector entry can be entered. -/
def goodEntry (e : Nat) : Bool := decide (e ≠ 0) && decide (e % 4 = 0)

/-- EXCEPTION ENTRY, shared by all vectors (R405): `ESTATUS` takes the level and `EVENT_EN`; `EPC`, `EADDR`, `ECAUSE` and `EINST`
are written; supervisor level with `EXL`; the handler of the table. A synchronous exception with `EXL` set, or an entry that is zero or
misaligned, is a double fault (R406). The second component says whether the handler was entered. -/
def State.exceptionEntry (s : State) (n : Nat) (t : Trap) : State × Bool :=
  let c := s.core n
  if c.exl && decide (t.vector < 12) then (s.doubleFault n, false)
  else
    let e := s.vectorEntry n t.vector
    let s := s.setCore n { c with
      estatus := BitVec.ofNat 2 (b2n c.sup + 2 * b2n c.eventEn)
      epc := t.epc
      eaddr := t.eaddr
      ecause := BitVec.ofNat 64 (t.cause ||| t.vector)
      einst := t.einst
      sup := true
      exl := true
      waiting := false }
    if goodEntry e then
      let s := s.onCore n fun c => { c with pc := BitVec.ofNat 48 e }
      (if c.sup then s else s.bump 0xA010 t.vector, true)
    else (s.doubleFault n, false)

/-- The return from an exception (R405): level and `EVENT_EN` from `ESTATUS`, `EXL` clear, on at `EPC`. -/
def Core.exceptionReturn (c : Core) : Core :=
  { c with sup := c.estatus.getLsbD 0, eventEn := c.estatus.getLsbD 1, exl := false, pc := c.epc }

/-- Whether an event is pending for a core (R549). -/
def State.eventPending (s : State) (n : Nat) : Bool := !(s.ev.claimables n).isEmpty

/-! ### The MAC unit's hold on an accumulator (R398, R400) -/

/-- An unfinished `MACX` cancelled: its accumulator is then undefined, a free value (log 3). -/
def State.cancelMacx (s : State) (n : Nat) : State :=
  match (s.core n).macx with
  | none => s
  | some m =>
    let a := s.draw
    let b := a.2.draw
    let p := b.2.draw
    p.2.onCore n fun c => { c.setAc m.ac (a.1 ++ b.1) (p.1.getLsbD 0) with macx := none, draining := false }

/-! ### Rewrites of windows, restarts (R403, R408) -/

/-- 1 written to a core's `WSYNC`: the core is at an instruction boundary, so its pending windows apply at once; a `MACX` issued
before goes on under the old ones. -/
def State.wsync (s : State) (n : Nat) : State :=
  (s.bump 0xA020 5).onCore n fun c => { c.applyWins with draining := c.macx.isSome }

/-- 1 written to `CORE_RESTART` of a halted core: it starts at the handler of vector 0, every register zero but `VBAR`. -/
def State.restartCore (s : State) (n : Nat) : State :=
  let c := s.core n
  if !c.halted then s
  else
    let s := s.setCore n { Core.cleared with
      vbar := c.vbar, prefetch := c.prefetch, lastFn := c.lastFn, lastGen := c.lastGen, icache := c.icache }
    let e := s.vectorEntry n 0
    if goodEntry e then s.onCore n fun c => { c with pc := BitVec.ofNat 48 e } else s.doubleFault n

end Sys2Proof.Machine
end

