-- ==== Sys2Proof/Machine/BasizCode.lean ====
section
/-! DEFINITION. The encodings of Basiz instructions, and which words are instructions (R379 to R383, R391, R396). -/
namespace Sys2Proof.Machine

/-- Whether it takes an extension word (R379). -/
def Imm.ext (i : Imm) : Bool := i.long || decide (i.v.toInt < -32767) || decide (32767 < i.v.toInt)

/-- Its 16-bit field. -/
def Imm.field (i : Imm) : Nat := if i.ext then 0x8000 else i.v.toNat % 65536

/-- Its value, sign-extended. -/
def Imm.word (i : Imm) : Word := i.v.signExtend 64

/-- Its value as an A register takes it. -/
def Imm.addr (i : Imm) : Addr := i.v.signExtend 48

/-- The register field of a D, A and AC register (R380). -/
def fD (i : Fin 16) : Nat := i.val
def fA (i : Fin 8) : Nat := 16 + i.val
def fC (i : Fin 4) : Nat := 24 + i.val

/-- An RRR word. -/
def rrr (op dst a b func : Nat) : BitVec 32 := BitVec.ofNat 32 (op * 2 ^ 26 + dst * 2 ^ 21 + a * 2 ^ 16 + b * 2 ^ 11 + func)

/-- An RI word, and a B word with its fields in the same places. -/
def ri (op dst a imm : Nat) : BitVec 32 := BitVec.ofNat 32 (op * 2 ^ 26 + dst * 2 ^ 21 + a * 2 ^ 16 + imm)

/-- The fields of a word. -/
def wOp (w : BitVec 32) : Nat := bits w.toNat 26 6
def wDst (w : BitVec 32) : Nat := bits w.toNat 21 5
def wA (w : BitVec 32) : Nat := bits w.toNat 16 5
def wB (w : BitVec 32) : Nat := bits w.toNat 11 5
def wFunc (w : BitVec 32) : Nat := bits w.toNat 0 11
def wImm (w : BitVec 32) : Nat := bits w.toNat 0 16

/-- The classes of a register field. -/
def isFD (f : Nat) : Bool := decide (f < 16)
def isFA (f : Nat) : Bool := decide (16 ≤ f) && decide (f < 24)
def isFC (f : Nat) : Bool := decide (24 ≤ f) && decide (f < 28)
def isFP (f : Nat) : Bool := decide (f < 15)
def isF0 (f : Nat) : Bool := f == 0

/-- Three fields of given classes. -/
def fields (w : BitVec 32) (d a b : Nat → Bool) : Bool := d (wDst w) && a (wA w) && b (wB w)

/-- Op `0x00` (R381). -/
def legalInt (w : BitVec 32) : Bool :=
  let f := wFunc w
  if f = 0x00 ∨ (0x17 ≤ f ∧ f ≤ 0x1A) then fields w isFD isFD isF0
  else if f ≤ 0x1B then fields w isFD isFD isFD
  else if 0x20 ≤ f ∧ f ≤ 0x25 then fields w isFP isFD isFD
  else false

/-- Op `0x01` (R391). -/
def legalDec (w : BitVec 32) : Bool :=
  let f := wFunc w
  if f ≤ 0x01 then fields w isFP isFD isFD
  else if f = 0x02 ∨ f = 0x03 ∨ f = 0x08 then fields w isFD isFD isFD
  else if f = 0x04 ∨ f = 0x05 then fields w isFP isFD isF0
  else if f = 0x06 ∨ f = 0x07 ∨ (0x09 ≤ f ∧ f ≤ 0x0B) then fields w isFD isFD isF0
  else if f = 0x0C then fields w isFC isFD isF0
  else false

/-- Op `0x02` with the extension word that follows it (R396). -/
def legalMacx (w ext : BitVec 32) : Bool :=
  fields w isFC isFA isFA && wFunc w % 32 == 0 && (!bit (wFunc w) 10 || ext.toNat % 65536 != 0)

/-- Op `0x03` at a level (R383). -/
def legalSys (w : BitVec 32) (sup : Bool) : Bool :=
  let f := wFunc w
  if f ≤ 0x03 ∨ f = 0x05 ∨ f = 0x0A then fields w isF0 isF0 isF0
  else if f = 0x06 ∨ f = 0x0E ∨ f = 0x0F then fields w isF0 isF0 isF0 && sup
  else if f = 0x04 ∨ f = 0x08 ∨ f = 0x09 ∨ f = 0x0B ∨ f = 0x0D then fields w isF0 isFD isF0
  else if f = 0x0C then fields w isFD isF0 isF0
  else false

/-- Op `0x04` (R391). -/
def legalAc (w : BitVec 32) : Bool :=
  let f := wFunc w
  if f = 0x00 then fields w isFC isFP isF0
  else if 0x01 ≤ f ∧ f ≤ 0x03 then fields w isFC isFD isF0
  else if 0x08 ≤ f ∧ f ≤ 0x0B then fields w isFP isFC isF0
  else false

/-- Op `0x05` (R382). -/
def legalAddr (w : BitVec 32) : Bool :=
  let f := wFunc w
  if f = 0 then fields w isFA isFD isF0
  else if f = 1 then fields w isFD isFA isF0
  else if f = 2 ∨ f = 3 then fields w isFA isFA isFD
  else if f = 4 then fields w isFD isFA isFA
  else false

/-- The control register a word names: its immediate, or the extension word's low half. -/
def wCr (w ext : BitVec 32) : Nat := if wImm w = 0x8000 then ext.toNat % 65536 else wImm w

/-- The classes of the loads and stores, by op from `0x10` or `0x20` (R382). -/
def legalMem (k : Nat) (w : BitVec 32) : Bool :=
  if k = 0x7 ∨ k = 0xC then isFP (wDst w) && isFA (wA w)
  else if k ≤ 0xC then isFD (wDst w) && isFA (wA w)
  else isFA (wDst w) && isFA (wA w)

/-- Whether a word, with the extension word that follows it, is an instruction at a level (R380). -/
def legalWord (w ext : BitVec 32) (sup : Bool) : Bool :=
  let op := wOp w
  let d := wDst w
  let a := wA w
  if op = 0x00 then legalInt w
  else if op = 0x01 then legalDec w
  else if op = 0x02 then legalMacx w ext
  else if op = 0x03 then legalSys w sup
  else if op = 0x04 then legalAc w
  else if op = 0x05 then legalAddr w
  else if op = 0x06 then isFD d && isF0 a && crListed (wCr w ext) && (sup || crTask (wCr w ext))
  else if op = 0x07 then isFD d && isF0 a && crListed (wCr w ext) && sup
  else if op ≤ 0x0B then isFD d && isFD a
  else if op = 0x0C then isFD d && isFD a && decide (wImm w < 256)
  else if op = 0x0D then isFD d && isF0 a && wImm w == 0x8000
  else if op = 0x0E then isFD d && isF0 a
  else if op = 0x0F then isFA d && isFA a
  else if op ≤ 0x1E then legalMem (op - 0x10) w
  else if op = 0x1F then fields w isFD isFA isFD && wFunc w == 0
  else if op ≤ 0x2E then legalMem (op - 0x20) w && !(op == 0x2D && d == a)
  else if 0x30 ≤ op ∧ op ≤ 0x35 then isFD d && isFD a
  else if op = 0x36 ∨ op = 0x37 then isFD d && isF0 a
  else if 0x38 ≤ op ∧ op ≤ 0x3A then isFA d && isFA a
  else if op = 0x3B then isFD d && decide (a < 2)
  else if op = 0x3C ∨ op = 0x3D then isF0 d && isF0 a
  else false

end Sys2Proof.Machine
end

