-- ==== Sys2Proof/Machine/Crypto.lean ====
section
/-! DEFINITION. The ciphers and digests the spec names by their standards: AES (FIPS 197), XTS (IEEE 1619), GCM (SP 800-38D), key wrap
(RFC 3394), SHA3-256 (FIPS 202), HKDF (RFC 5869). The standards lie outside the spec (log 60). -/
namespace Sys2Proof.Machine

/-- Two strings XORed, as long as the shorter. -/
def xorBytes (a b : List Byte) : List Byte := List.zipWith (fun x y => x ^^^ y) a b

/-! ### AES -/

/-- Multiplication by x in GF(2^8). -/
def aesX (a : Nat) : Nat := if a < 128 then 2 * a else (2 * a - 256) ^^^ 0x1B

/-- Multiplication in GF(2^8), over `n` bits of the second factor. -/
def aesMul : Nat → Nat → Nat → Nat
  | 0, _, _ => 0
  | n + 1, a, b => (if b % 2 = 1 then a else 0) ^^^ aesMul n (aesX a) (b / 2)

/-- A product in GF(2^8). -/
def aesTimes (a b : Nat) : Nat := aesMul 8 a b

/-- The inverse in GF(2^8), 0 of 0: the 254th power. -/
def aesInv (a : Nat) : Nat :=
  let sq (x : Nat) := aesTimes x x
  let a2 := sq a
  let a3 := aesTimes a2 a
  let a12 := sq (sq a3)
  let a15 := aesTimes a12 a3
  let a240 := sq (sq (sq (sq a15)))
  aesTimes (aesTimes a240 a12) a2

/-- A byte rotated left. -/
def rotl8 (x n : Nat) : Nat := (x <<< n ||| x >>> (8 - n)) % 256

/-- The substitution of a byte, and its inverse. -/
def aesSub (x : Nat) : Nat :=
  let i := aesInv x
  i ^^^ rotl8 i 1 ^^^ rotl8 i 2 ^^^ rotl8 i 3 ^^^ rotl8 i 4 ^^^ 0x63
def aesUnsub (x : Nat) : Nat := aesInv (rotl8 x 1 ^^^ rotl8 x 3 ^^^ rotl8 x 6 ^^^ 0x05)

/-- Element `i` of a list of numbers. -/
def nth (l : List Nat) (i : Nat) : Nat := (l[i]?).getD 0

/-- Rows shifted left by their number, or right again. -/
def aesShift (st : List Nat) : List Nat := (List.range 16).map fun i => nth st (i % 4 + 4 * ((i / 4 + i % 4) % 4))
def aesUnshift (st : List Nat) : List Nat := (List.range 16).map fun i => nth st (i % 4 + 4 * ((i / 4 + 4 - i % 4) % 4))

/-- Each column multiplied by a polynomial. -/
def aesMix (m : List Nat) (st : List Nat) : List Nat :=
  (List.range 16).map fun i =>
    (List.range 4).foldl (fun x k => x ^^^ aesTimes (nth st (i / 4 * 4 + k)) (nth m ((k + 4 - i % 4) % 4))) 0

/-- The word of four bytes a key schedule makes of the last one. -/
def aesWord (i nk rcon : Nat) (w : List Nat) : List Nat :=
  if i % nk = 0 then
    let s := [nth w 1, nth w 2, nth w 3, nth w 0].map aesSub
    (nth s 0 ^^^ rcon) :: s.drop 1
  else if 6 < nk ∧ i % nk = 4 then w.map aesSub
  else w

/-- The key schedule, newest word first: words still to make, the number of the next, the round constant, the words so far. -/
def aesExpand (nk : Nat) : Nat → Nat → Nat → List (List Nat) → List (List Nat)
  | 0, _, _, ws => ws
  | n + 1, i, rcon, ws =>
    let w := List.zipWith (fun a b => a ^^^ b) ((ws[nk - 1]?).getD []) (aesWord i nk rcon ((ws[0]?).getD []))
    aesExpand nk n (i + 1) (if i % nk = 0 then aesX rcon else rcon) (w :: ws)

/-- Groups of four bytes. -/
def aesWords : Nat → List Nat → List (List Nat)
  | 0, _ => []
  | n + 1, l => l.take 4 :: aesWords n (l.drop 4)

/-- The round keys of a 16- or 32-byte key, 16 numbers each, in order. -/
def aesKeys (key : List Byte) : List (List Nat) :=
  let nk := key.length / 4
  let first := (aesWords nk (key.map fun b => b.toNat)).reverse
  let ws := (aesExpand nk (4 * (nk + 7) - nk) nk 1 first).reverse
  (List.range (nk + 7)).map fun r => ((ws.drop (4 * r)).take 4).flatten

/-- A round key added. -/
def addKey (a b : List Nat) : List Nat := List.zipWith (fun x y => x ^^^ y) a b

/-- One block encrypted under expanded keys. -/
def aesEncWith (ks : List (List Nat)) (b : List Byte) : List Byte :=
  let st := addKey (b.map fun x => x.toNat) ((ks[0]?).getD [])
  let n := ks.length - 1
  let st := ((ks.drop 1).take (n - 1)).foldl (fun st k => addKey (aesMix [2, 3, 1, 1] (aesShift (st.map aesSub))) k) st
  (addKey (aesShift (st.map aesSub)) ((ks[n]?).getD [])).map fun x => BitVec.ofNat 8 x

/-- One block decrypted under expanded keys. -/
def aesDecWith (ks : List (List Nat)) (b : List Byte) : List Byte :=
  let n := ks.length - 1
  let st := addKey (b.map fun x => x.toNat) ((ks[n]?).getD [])
  let st := ((ks.drop 1).take (n - 1)).reverse.foldl (fun st k =>
    aesMix [14, 11, 13, 9] (addKey ((aesUnshift st).map aesUnsub) k)) st
  (addKey ((aesUnshift st).map aesUnsub) ((ks[0]?).getD [])).map fun x => BitVec.ofNat 8 x

/-- One block encrypted, decrypted, under a key. -/
def aesEnc (key b : List Byte) : List Byte := aesEncWith (aesKeys key) b
def aesDec (key b : List Byte) : List Byte := aesDecWith (aesKeys key) b

/-- A string in blocks of `n` bytes, the last one perhaps shorter. -/
def cutBlocks (n : Nat) : Nat → List Byte → List (List Byte)
  | 0, _ => []
  | c + 1, l => if l.isEmpty then [] else l.take n :: cutBlocks n c (l.drop n)

/-! ### XTS (IEEE 1619) -/

/-- The tweak of the next block. -/
def xtsNext (t : Nat) : Nat := if t < 2 ^ 127 then 2 * t else (2 * t - 2 ^ 128) ^^^ 0x87

/-- One block of XTS with a tweak. -/
def xtsBlock (f : List Byte → List Byte) (t : Nat) (b : List Byte) : List Byte :=
  let m := leBytes 16 t
  xorBytes (f (xorBytes b m)) m

/-- Whole blocks of XTS, and the tweak that follows. -/
def xtsRun (f : List Byte → List Byte) : List (List Byte) → Nat → List Byte × Nat
  | [], t => ([], t)
  | b :: r, t =>
    let x := xtsRun f r (xtsNext t)
    (xtsBlock f t b ++ x.1, x.2)

/-- XTS over a data unit of at least 16 bytes, with ciphertext stealing: the key is two keys, the first for data. -/
def xts (enc : Bool) (key : List Byte) (tweak : Nat) (data : List Byte) : List Byte :=
  let h := key.length / 2
  let ks := aesKeys (key.take h)
  let f := if enc then aesEncWith ks else aesDecWith ks
  let t := ofLe (aesEnc (key.drop h) (leBytes 16 tweak))
  let n := data.length / 16
  let rest := data.length % 16
  let m := if rest = 0 then n else n - 1
  let x := xtsRun f (cutBlocks 16 m (data.take (16 * m))) t
  if rest = 0 then x.1
  else
    let full := slice data (16 * m) 16
    let part := data.drop (16 * m + 16)
    let t1 := if enc then x.2 else xtsNext x.2
    let t2 := if enc then xtsNext x.2 else x.2
    let c := xtsBlock f t1 full
    x.1 ++ xtsBlock f t2 (part ++ c.drop rest) ++ c.take rest

/-! ### GCM (SP 800-38D) -/

/-- Multiplication in GF(2^128), bit 0 leftmost: bits left, the first factor shifted up, the second shifted down. -/
def gcmMulAux : Nat → Nat → Nat → Nat → Nat
  | 0, _, _, z => z
  | n + 1, x, v, z =>
    gcmMulAux n (2 * x % 2 ^ 128) (if v % 2 = 1 then (v / 2) ^^^ (0xE1 <<< 120) else v / 2) (if 2 ^ 127 ≤ x then z ^^^ v else z)

/-- A product in GF(2^128). -/
def gcmMul (x y : Nat) : Nat := gcmMulAux 128 x y 0

/-- GHASH of a string, whose last block is filled with zeros, from a value. -/
def ghash (h y : Nat) (l : List Byte) : Nat :=
  (cutBlocks 16 (ceilDiv l.length 16) l).foldl (fun y b => gcmMul (y ^^^ ofBe (padTo 16 b)) h) y

/-- Counter-mode encryption from block number `i` of a message on. -/
def gcmStream (key iv : List Byte) (i : Nat) (data : List Byte) : List Byte :=
  let ks := aesKeys key
  let bs := cutBlocks 16 (ceilDiv data.length 16) data
  (List.zip (List.range bs.length) bs).flatMap fun p => xorBytes p.2 (aesEncWith ks (iv ++ beBytes 4 (i + p.1 + 2)))

/-- The whole tag of additional data and ciphertext. -/
def gcmTag (key iv aad text : List Byte) : List Byte :=
  let h := ofBe (aesEnc key (List.replicate 16 0))
  let s := ghash h (ghash h 0 aad) text
  let s := gcmMul (s ^^^ (8 * aad.length * 2 ^ 64 + 8 * text.length)) h
  xorBytes (beBytes 16 s) (aesEnc key (iv ++ beBytes 4 1))

/-! ### Key wrap (RFC 3394) -/

/-- The default initial value. -/
def kwIv : List Byte := List.replicate 8 0xA6

/-- One pass over the registers: `t` counts steps. -/
def kwPass (ks : List (List Nat)) : List (List Byte) → List Byte → Nat → List Byte × List (List Byte)
  | [], a, _ => (a, [])
  | r :: rs, a, t =>
    let b := aesEncWith ks (a ++ r)
    let x := kwPass ks rs (xorBytes (b.take 8) (beBytes 8 t)) (t + 1)
    (x.1, b.drop 8 :: x.2)

/-- The passes of a wrap. -/
def kwPasses (ks : List (List Nat)) : Nat → Nat → List Byte × List (List Byte) → List Byte × List (List Byte)
  | 0, _, x => x
  | n + 1, t, x => kwPasses ks n (t + x.2.length) (kwPass ks x.2 x.1 t)

/-- A wrap: 8 bytes longer than its input. -/
def kwWrap (key data : List Byte) : List Byte :=
  let x := kwPasses (aesKeys key) 6 1 (kwIv, cutBlocks 8 (data.length / 8) data)
  x.1 ++ x.2.flatten

/-- One pass of an unwrap, over the registers last first: `t` counts steps down. -/
def kwBack (ks : List (List Nat)) : List (List Byte) → List Byte → Nat → List Byte × List (List Byte)
  | [], a, _ => (a, [])
  | r :: rs, a, t =>
    let b := aesDecWith ks (xorBytes a (beBytes 8 t) ++ r)
    let x := kwBack ks rs (b.take 8) (t - 1)
    (x.1, b.drop 8 :: x.2)

/-- The passes of an unwrap. -/
def kwBacks (ks : List (List Nat)) : Nat → Nat → List Byte × List (List Byte) → List Byte × List (List Byte)
  | 0, _, x => x
  | n + 1, t, x => kwBacks ks n (t - x.2.length) (kwBack ks x.2 x.1 t)

/-- An unwrap: none when the integrity check fails. -/
def kwUnwrap (key data : List Byte) : Option (List Byte) :=
  let rs := (cutBlocks 8 (data.length / 8 - 1) (data.drop 8)).reverse
  let x := kwBacks (aesKeys key) 6 (6 * rs.length) (data.take 8, rs)
  if x.1 = kwIv then some x.2.reverse.flatten else none

/-! ### SHA3-256 (FIPS 202) -/

/-- A 64-bit rotation to the left. -/
def rotl64 (x n : Nat) : Nat := (x <<< (n % 64) ||| x >>> (64 - n % 64)) % 2 ^ 64

/-- The rotations of the lanes, by x + 5y. -/
def keccakRot : List Nat :=
  [0, 1, 62, 28, 27] ++ [36, 44, 6, 55, 20] ++ [3, 10, 43, 25, 39] ++ [41, 45, 15, 21, 8] ++ [18, 2, 61, 56, 14]

/-- The round constants. -/
def keccakRc : List Nat :=
  [0x0000000000000001, 0x0000000000008082, 0x800000000000808A, 0x8000000080008000] ++
  [0x000000000000808B, 0x0000000080000001, 0x8000000080008081, 0x8000000000008009] ++
  [0x000000000000008A, 0x0000000000000088, 0x0000000080008009, 0x000000008000000A] ++
  [0x000000008000808B, 0x800000000000008B, 0x8000000000008089, 0x8000000000008003] ++
  [0x8000000000008002, 0x8000000000000080, 0x000000000000800A, 0x800000008000000A] ++
  [0x8000000080008081, 0x8000000000008080, 0x0000000080000001, 0x8000000080008008]

/-- One round. -/
def keccakRound (a : List Nat) (rc : Nat) : List Nat :=
  let c := (List.range 5).map fun x => (List.range 5).foldl (fun n y => n ^^^ nth a (x + 5 * y)) 0
  let a := (List.range 25).map fun i => nth a i ^^^ nth c ((i % 5 + 4) % 5) ^^^ rotl64 (nth c ((i % 5 + 1) % 5)) 1
  let b := (List.range 25).map fun i =>
    let x := i % 5
    let y := i / 5
    let j := (x + 3 * y) % 5 + 5 * x
    rotl64 (nth a j) (nth keccakRot j)
  let a := (List.range 25).map fun i =>
    let y := 5 * (i / 5)
    nth b i ^^^ ((2 ^ 64 - 1 - nth b (y + (i % 5 + 1) % 5)) &&& nth b (y + (i % 5 + 2) % 5))
  (nth a 0 ^^^ rc) :: a.drop 1

/-- The permutation. -/
def keccakF (a : List Nat) : List Nat := keccakRc.foldl keccakRound a

/-- A 136-byte block absorbed. -/
def sha3Absorb (a : List Nat) (b : List Byte) : List Nat :=
  keccakF ((List.range 25).map fun i => nth a i ^^^ (if i < 17 then ofLe (slice b (8 * i) 8) else 0))

/-- SHA3-256. -/
def sha3_256 (l : List Byte) : List Byte :=
  let z := 136 - l.length % 136
  let pad : List Byte := if z = 1 then [0x86] else 0x06 :: List.replicate (z - 2) 0 ++ [0x80]
  let m := l ++ pad
  (((cutBlocks 136 (m.length / 136) m).foldl sha3Absorb (List.replicate 25 0)).take 4).flatMap fun w => leBytes 8 w

/-! ### HKDF-SHA-384 -/

/-- HMAC-SHA-384. -/
def hmac384 (key msg : List Byte) : List Byte := hmac sha384 128 key msg

/-- The first `n` bytes, at most 48, of the key derived from a secret with no salt. -/
def hkdf384 (secret info : List Byte) (n : Nat) : List Byte :=
  (hmac384 (hmac384 (List.replicate 48 0) secret) (info ++ [1])).take n

end Sys2Proof.Machine
end

