-- ==== Sys2Proof/Machine/Media.lean ====
section
/-! DEFINITION. The media engine: port registers, rings, descriptors, the LUN state table, erase suspension, the
write-pointer check, decode, timeouts, ring reset (R189 to R228, 06_flash_media.md). -/
namespace Sys2Proof.Machine

/-- A port after reset (R193). -/
def Port.init : Port where
  enable := false
  eventEn := false
  inputYield := false
  descBase := 0
  descTail := 0
  descHead := 0
  cplBase := 0
  cplTail := 0
  cplPhase := true
  cplHead := 0
  doorbellIgnored := 0
  ringError := false
  resetBusy := false
  resetEnd := 0
  trained := false
  retraining := false
  claim := .none
  chownI := false
  proxied := false
  byTwin := false
  trainedTemp := 0
  transfers := []
  input := none

/-- A LUN after reset. -/
def Lun.init : Lun where
  state := .idle
  ops := []
  erase := none
  fault := false
  recovering := none
  faultTimes := []
  retired := false
  unobserved := false
  status := 0
  retryOld := none

/-- The port of a channel. -/
def State.port (s : State) (c : Nat) : Port := Tab.get s.media.ports Port.init c

/-- A port changed. -/
def State.setPort (s : State) (c : Nat) (p : Port) : State :=
  { s with media.ports := Tab.set s.media.ports Port.init c p }

/-- A LUN of a channel, by 4 × CE + LUN. -/
def State.lun (s : State) (c l : Nat) : Lun := Tab.get s.media.luns Lun.init (32 * c + l)

/-- The programs posted or running, by channel and operation. -/
def State.programsOut (s : State) : List (Nat × Nat) :=
  (List.range 32).flatMap fun c => (List.range 32).flatMap fun l =>
    ((s.lun c l).ops.filter fun o => o.desc.opcode == .program).map fun o => (c, o.id)

/-- The stripe mode in force follows B, and `PGM_INPUT_YIELD` is set in strict mode (R160, R161). -/
def State.followB (s : State) : State :=
  let b := s.val 0x3040 5
  let s := { s with nvme.modeOpen := decide (3 ≤ b), nvme.modeB := b, nvme.modeWait := [] }
  (List.range 32).foldl (fun s c => s.setPort c { s.port c with inputYield := b == 2 }) s

/-- A LUN changed. -/
def State.setLun (s : State) (c l : Nat) (u : Lun) : State :=
  { s with media.luns := Tab.set s.media.luns Lun.init (32 * c + l) u }

/-- The geometry in force (R191): subindex of record `0x5000`. -/
def State.geom (s : State) (k : Nat) : Nat := s.force 0x5000 k

/-- The CEs, LUNs per CE, planes, blocks, pages and bits per cell in force. -/
def State.planes (s : State) : Nat := s.geom 5
def State.blocks (s : State) : Nat := s.geom 6
def State.pages (s : State) : Nat := s.geom 7
def State.bitsPerCell (s : State) : Nat := s.geom 9

/-- A PPN (R254) of a channel, 4 × CE + LUN, plane, block and page. -/
def ppnOf (c l plane block page : Nat) : Nat :=
  ((((c * 32 + l) * 8 + plane) * 2 ^ 14 + block) * 2 ^ 13) + page

/-- The block a PPN lies in, as a key. -/
def blockKey (c l plane block : Nat) : Nat := ppnOf c l plane block 0 / 2 ^ 13

/-- The bytes of a region's write-pointer table, rounded up to 64 KiB (R211). -/
def State.wpBytes (s : State) : Nat := ceilDiv (16 * (s.geom 3 * s.geom 4 * s.planes * s.blocks)) 65536 * 65536

/-- Where a region's write-pointer table begins: it lies at the top of the region's staging (R211). -/
def State.wpBase (s : State) (r : Nat) : Nat := 0x100000800000 + r * 0x1000000 - s.wpBytes

/-- The address of a block's entry: by channel, CE, LUN, plane and block, in that order (R211, log 141). -/
def State.wpAddr (s : State) (key : Nat) : Nat :=
  let c := key / 2 ^ 22
  let l := key / 2 ^ 17 % 32
  let lun := l / 4 * s.geom 4 + l % 4
  let n := (((c % 8 * (s.geom 3 * s.geom 4) + lun) * s.planes) + key / 2 ^ 14 % 8) * s.blocks + key % 2 ^ 14
  s.wpBase (c / 8) + 2 * n

/-- The entry 16 bits spell. -/
def Wp.ofBits (v : Nat) : Wp :=
  ⟨match v / 2 ^ 14 with
    | 0 => .opened
    | 1 => .full
    | 2 => .unknown
    | _ => .bad, v % 2 ^ 13⟩

/-- The 16 bits of an entry. -/
def Wp.toBits (w : Wp) : Nat :=
  (match w.state with
    | .opened => 0
    | .full => 1
    | .unknown => 2
    | .bad => 3) * 2 ^ 14 + w.next % 2 ^ 13

/-- The write-pointer entry of a block. -/
def State.wp (s : State) (key : Nat) : Wp := Wp.ofBits (s.load (s.wpAddr key) 2)

/-- A write-pointer entry changed. -/
def State.setWp (s : State) (key : Nat) (w : Wp) : State := s.store (s.wpAddr key) (leBytes 2 w.toBits) false

/-- The write-pointer table of a region zero: every block open at page 0 (R214). -/
def State.clearWp (s : State) (r : Nat) : State := s.clearMem (s.wpBase r) s.wpBytes

/-- The descriptors of a channel fetched and not completed. -/
def State.queued (s : State) (c : Nat) : Nat :=
  sumOf (fun l => (s.lun c l).ops.length + (if (s.lun c l).erase.isSome then 1 else 0)) (List.range 32)

/-- Whether the interlock grants the channel to this package (R195, R338). -/
def Port.owned (p : Port) : Bool := p.claim == .owned

/-! ### Rings (R196 to R198) -/

/-- A media status code (R206). -/
def mOK : Nat := 0x00
def mOkSoft : Nat := 0x01
def mErased : Nat := 0x02
def mUncorrectable : Nat := 0x03
def mProgFail : Nat := 0x04
def mEraseFail : Nat := 0x05
def mNotErased : Nat := 0x06
def mOutOfOrder : Nat := 0x07
def mBadBlock : Nat := 0x08
def mFlushed : Nat := 0x09
def mTimeout : Nat := 0x0A
def mBadDesc : Nat := 0x0B
def mNotOwner : Nat := 0x0C
def mDenied : Nat := 0x0D
def mBusError : Nat := 0x0E
def mLunFault : Nat := 0x0F

/-- DW2 of a completion (R205). -/
def MOp.dw2 (o : MOp) (suspensions : Nat) : Nat :=
  match o.desc.opcode with
  | .read => o.failed
  | .readCont => o.pagesDone * 2 ^ 24 + o.failed % 16
  | .erase => min suspensions 65535
  | _ => 0

/-- The 16 bytes of a completion entry (R205). -/
def mediaEntry (o : MOp) (slot status suspensions elapsed : Nat) (phase : Bool) : List Byte :=
  leBytes 4 (o.desc.tag + status * 2 ^ 16 + b2n phase * 2 ^ 24 + b2n o.poisoned * 2 ^ 25
    + b2n o.inSuspension * 2 ^ 26) ++
  leBytes 4 (slot + o.onfi * 2 ^ 8 + min o.maxBits 255 * 2 ^ 16 + o.senses * 2 ^ 24) ++
  leBytes 4 (o.dw2 suspensions) ++ leBytes 4 elapsed

/-- The event source of a port (R547). -/
def portSource (c : Nat) : Nat := evSrc (10 * (c / 8)) (c % 8)

/-- A completion entry written to the ring, the tail and phase moved, the event raised (R194, R198). -/
def State.postMedia (s : State) (c slot : Nat) (o : MOp) (status suspensions : Nat) : State :=
  let p := s.port c
  let elapsed := if o.started then s.since o.startAt else 0
  let s := s.store (p.cplBase + 16 * p.cplTail) (mediaEntry o slot status suspensions elapsed p.cplPhase) false
  let wraps := p.cplTail = 255
  let s := s.setPort c { p with cplTail := (p.cplTail + 1) % 256, cplPhase := p.cplPhase != decide wraps }
  if p.eventEn && o.desc.event then s.fire (portSource c) else s

/-- An operation ends with a status: a ring's operation in its completion ring, firmware's in `Media.done`. `ONFI_STATUS` of one that issued a
cycle is the status byte last read from the LUN (R205). -/
def State.endOp (s : State) (c : Nat) (o : MOp) (status suspensions : Nat) : State :=
  let o := if o.started then { o with onfi := (s.lun c o.desc.lun).status } else o
  match o.origin with
  | .ring slot => s.postMedia c slot o status suspensions
  | _ => { s with media.done := s.media.done ++ [(o, status)] }

/-! ### Descriptors (R199, R200) -/

/-- The opcode a code names (R201). -/
def mediaOpcode : Nat → Option MOpcode
  | 0x01 => some .read
  | 0x02 => some .readCont
  | 0x10 => some .program
  | 0x20 => some .erase
  | 0x30 => some .getFeatures
  | 0x31 => some .setFeatures
  | 0x40 => some .readStatus
  | 0x50 => some .resetLun
  | 0xF0 => some .raw
  | _ => none

/-- Where media buffers may lie: any region staging, a cluster memory or populated DRAM (R200). -/
def mediaBufferArea : Area → Bool
  | .dram | .staging _ | .cluster _ => true
  | _ => false

/-- The bytes an opcode moves to or from `DATA_ADDR` and `META_ADDR`; those of a `RAW` sequence depend on its steps. -/
def MDesc.moved (d : MDesc) (bpc : Nat) : Nat × Nat :=
  match d.opcode with
  | .read => let n := popCount 8 d.planes * popCount 4 d.cwMask; (4096 * n, 32 * n)
  | .readCont => (16384 * d.count, 128 * d.count)
  | .program => let n := popCount 8 d.planes * bpc; (16384 * n, 128 * n)
  | .getFeatures => (4, 0)
  | _ => (0, 0)

/-- The steps of a `RAW` sequence up to its end step, at most 64 (R204): type and argument. -/
def State.rawSteps (s : State) (a : Nat) : Nat → List (Nat × Nat)
  | 0 => []
  | n + 1 =>
    let w := s.load a 4
    if bits w 0 8 = 0 then [] else (bits w 0 8, bits w 8 24) :: s.rawSteps (a + 4) n

/-- The bytes the data steps of a sequence move. -/
def rawMoved (l : List (Nat × Nat)) : Nat := sumOf (fun x => if x.1 = 3 ∨ x.1 = 4 then x.2 else 0) l

/-- Whether the sequence a `RAW` descriptor names is in order: steps of R204, at most 65,536 data bytes, sequence and buffer in memory (R200). -/
def State.rawOk (s : State) (d : MDesc) : Bool :=
  let l := s.rawSteps d.dataAddr 64
  l.all (fun x => decide (x.1 ≤ 6)) && decide (rawMoved l ≤ 65536) &&
    s.within mediaBufferArea d.dataAddr (4 * min 64 (l.length + 1)) && s.within mediaBufferArea d.metaAddr (rawMoved l)

/-- Whether the fields an opcode does not use are zero (R200). -/
def unusedZero (o : MOpcode) (w : Nat → Nat) : Bool :=
  let planes := bits (w 1) 24 8
  let soft := bits (w 0) 10 2
  let retry := bits (w 3) 16 8
  let count := bits (w 3) 8 8
  let mask := bits (w 3) 0 4
  let blockPage := bits (w 2) 0 30
  let data := w 4 + 2 ^ 32 * w 5
  let meta_ := w 6 + 2 ^ 32 * w 7
  match o with
  | .read => count == 0
  | .readCont => mask == 0
  | .program => soft == 0 && retry == 0 && count == 0 && mask == 0
  | .erase => soft == 0 && retry == 0 && count == 0 && mask == 0 && data == 0 && meta_ == 0 && bits (w 2) 0 13 == 0
  | .getFeatures => soft == 0 && retry == 0 && count == 0 && mask == 0 && planes == 0 && blockPage == 0
      && bits (w 6) 8 24 == 0 && w 7 == 0
  | .setFeatures => soft == 0 && retry == 0 && count == 0 && mask == 0 && planes == 0 && blockPage == 0
      && data == 0 && bits (w 6) 8 24 == 0
  | .readStatus | .resetLun => soft == 0 && retry == 0 && count == 0 && mask == 0 && planes == 0
      && blockPage == 0 && data == 0 && meta_ == 0
  | .raw => soft == 0 && retry == 0 && count == 0 && mask == 0 && planes == 0 && blockPage == 0

/-- Whether the reserved fields are zero (R199). -/
def reservedZero (o : MOpcode) (w : Nat → Nat) : Bool :=
  bits (w 0) 19 13 == 0 && bits (w 0) 12 4 == 0 && bits (w 0) 8 1 == 0 && bits (w 1) 21 3 == 0 &&
  bits (w 2) 30 2 == 0 && bits (w 2) 13 3 == 0 && bits (w 3) 24 8 == 0 && bits (w 3) 4 4 == 0 &&
  bits (w 5) 16 16 == 0 &&
  (match o with
   | .getFeatures | .setFeatures => true
   | _ => bits (w 7) 16 16 == 0)

/-- The descriptor eight words spell (R199). -/
def mediaFields (o : MOpcode) (w : Nat → Nat) : MDesc where
  opcode := o
  cls := bits (w 0) 16 3
  softLimit := bits (w 0) 10 2
  event := bit (w 0) 9
  planes := bits (w 1) 24 8
  lun := 4 * bits (w 1) 16 3 + bits (w 1) 19 2
  tag := bits (w 1) 0 16
  block := bits (w 2) 16 14
  page := bits (w 2) 0 13
  retry := bits (w 3) 16 8
  count := bits (w 3) 8 8
  cwMask := bits (w 3) 0 4
  dataAddr := w 4 + 2 ^ 32 * bits (w 5) 0 16
  metaAddr := w 6 + 2 ^ 32 * bits (w 7) 0 16
  param := w 6 + 2 ^ 32 * w 7

/-- Whether a field lies in the geometry and the ranges of R199, R202 and R203. -/
def State.mediaRanges (s : State) (d : MDesc) : Bool :=
  let planesOk := d.planes != 0 && decide (d.planes < 2 ^ s.planes)
  let multi := decide (popCount 8 d.planes ≤ 1) || decide (1 < s.planes)
  let blockOk := decide (d.block < s.blocks)
  decide (d.cls ≤ 4) && decide (d.lun / 4 < s.geom 3) && decide (d.lun % 4 < s.geom 4) &&
  (match d.opcode with
   | .read => planesOk && multi && blockOk && decide (d.page < s.pages) && decide (d.retry ≤ 16) && d.cwMask != 0
   | .readCont => planesOk && popCount 8 d.planes == 1 && blockOk && decide (d.retry ≤ 16) &&
       decide (1 ≤ d.count) && decide (d.count ≤ 64) && decide (d.page + d.count ≤ s.pages)
   | .program => planesOk && multi && blockOk && decide (d.page < s.pages) && d.page % s.bitsPerCell == 0
   | .erase => planesOk && multi && blockOk
   | _ => true)

/-- The descriptor check at fetch (R200). -/
def State.checkMedia (s : State) (w : Nat → Nat) : Option MDesc :=
  match mediaOpcode (bits (w 0) 0 8) with
  | none => none
  | some o =>
    let d := mediaFields o w
    let mv := d.moved s.bitsPerCell
    if reservedZero o w && unusedZero o w && s.mediaRanges d &&
        s.within mediaBufferArea d.dataAddr mv.1 &&
        (match o with
         | .getFeatures | .setFeatures => true
         | .raw => s.rawOk d
         | _ => s.within mediaBufferArea d.metaAddr mv.2) then some d
    else none

/-- A fetched operation of a channel that has not started. -/
def freshOp (id c : Nat) (d : MDesc) (o : Origin) : MOp where
  id := id
  channel := c
  desc := d
  origin := o
  started := false
  startAt := 0
  place := 0
  senseAt := 0
  stage := 0
  again := false
  raw := none
  sensed := false
  transferred := false
  inSuspension := false
  pagesDone := 0
  failed := 0
  erasedCws := 0
  left := []
  poisoned := false
  soft := false
  senses := 0
  maxBits := 0
  onfi := 0

/-- A descriptor that completes without any cycle; `tag` 0 when it could not be read. -/
def rejectedOp (slot tag : Nat) (event : Bool) : MOp :=
  freshOp 0 0 ⟨.readStatus, 0, 0, event, 0, 0, tag, 0, 0, 0, 0, 0, 0, 0, 0⟩ (.ring slot)

/-- An operation queued on its LUN. Work that serves no host command takes its place after the commands that have arrived (R161). Host work
makes its region busy (R150). -/
def State.queueOp (s : State) (c : Nat) (d : MDesc) (o : Origin) : State :=
  let u := s.lun c d.lun
  let place := match o with
    | .host cmd _ => cmd
    | _ => s.nvme.nextOrder
  let s := s.setLun c d.lun { u with ops := u.ops ++ [{ freshOp s.media.nextId c d o with place := place }] }
  let s := { s with media.nextId := s.media.nextId + 1 }
  if d.cls ≤ 3 then { s with nvme.busyAt := s.nvme.busyAt.setIfInBounds (c / 8) s.pkg.timebase } else s

/-- Whether a port may fetch: enabled, no ring reset, a descriptor waiting and a completion slot free (R197). -/
def State.canFetch (s : State) (c : Nat) : Bool :=
  let p := s.port c
  p.enable && !p.resetBusy && p.descHead != p.descTail &&
    decide (s.queued c + (p.cplTail + 256 - p.cplHead) % 256 < 255)

/-- MEDIA_DESC_FETCH: the next descriptor of the ring is read and checked (R197, R200). `busErr` says that the fetch met an
uncorrectable error. A descriptor for a channel not owned is still queued and completes `NOT_OWNER` at issue (R578). -/
def State.mediaFetch (s : State) (c : Nat) (busErr : Bool) : State :=
  if !s.canFetch c then s
  else
    let p := s.port c
    let slot := p.descHead
    let a := p.descBase + 32 * slot
    let s := s.setPort c { p with descHead := (slot + 1) % 256 }
    if busErr then
      (s.controlError 1 (8 + c / 8) ⟨2, c⟩ a).postMedia c slot (rejectedOp slot 0 false) mBusError 0
    else
      let w := fun i => s.load (a + 4 * i) 4
      match s.checkMedia w with
      | none => s.postMedia c slot (rejectedOp slot (bits (w 1) 0 16) (bit (w 0) 9)) mBadDesc 0
      | some d => s.queueOp c d (.ring slot)

/-! ### Which descriptor may start (R207 to R209) -/

/-- Whether R201 lets an opcode run while an earlier erase of its LUN is suspended. -/
def runsInSuspension (e : MDesc) (d : MDesc) : Bool :=
  match d.opcode with
  | .read | .readCont | .readStatus => true
  | .program => !(d.block == e.block && (d.planes &&& e.planes) != 0)
  | _ => false

/-- Whether an operation is a read. -/
def MOp.isRead (o : MOp) : Bool :=
  match o.desc.opcode with
  | .read | .readCont => true
  | _ => false

/-- The run of operations behind an erase that R208 makes eligible. -/
def Lun.eligible (u : Lun) (e : MDesc) : List MOp := u.ops.takeWhile fun o => runsInSuspension e o.desc

/-- Whether an operation waits for the die: not started, or a read that needs an extra sense. -/
def MOp.waits (o : MOp) : Bool := !o.started || o.again

/-- Whether a read that has started occupies the die: it senses, its page waits for its transfer, or its sequence has pages left. -/
def MOp.holds (o : MOp) : Bool :=
  o.started && !o.again && o.isRead && (!o.transferred || (o.desc.opcode == .readCont && decide (o.pagesDone + 1 < o.desc.count)))

/-- The operation of a suspension that may start next: in ring order a served one that waits; after the suspension's program only class-0 reads
(R208). -/
def Lun.nextServed (u : Lun) (r : EraseRun) : Option MOp :=
  (u.eligible r.op.desc).find? fun o =>
    o.waits &&
      ((o.isRead && (if r.programUsed then o.desc.cls == 0 else r.served.contains o.id || o.desc.cls == 0)) ||
       (o.desc.opcode == .program && !r.programUsed))

/-- What a LUN that reads may sense next: the extra sense of a read once no page waits in its registers; else a `READ` that follows one
whose page is in the cache register (R207, R217). -/
def Lun.nextSense (u : Lun) : Option MOp :=
  let held := (u.ops.filter fun o => o.holds && o.sensed && !o.transferred).length
  if u.ops.any fun o => o.holds && (!o.sensed || o.desc.opcode == .readCont) then none
  else match u.ops.find? fun o => o.again with
    | some o => if held = 0 then some o else none
    | none =>
      match u.ops.dropWhile fun o => o.started with
      | o :: _ =>
        if o.desc.opcode == .read && decide (held ≤ 1) && u.ops.all (fun q => !q.started || q.desc.opcode == .read) then some o else none
      | [] => none

/-- The operation of a LUN that may start next (R207, R209); none on a LUN not yet seen ready since its channel was claimed (R216). -/
def Lun.next (u : Lun) : Option MOp :=
  if u.recovering.isSome || u.unobserved then none
  else match u.state, u.erase with
  | .idle, _ => (u.ops.head?).bind fun o => if o.started then none else some o
  | .reading, _ => u.nextSense
  | .suspended, some r => u.nextServed r
  | _, _ => none

/-- An operation of a LUN replaced. -/
def Lun.put (u : Lun) (o : MOp) : Lun := { u with ops := updateIf (fun q => q.id == o.id) (fun _ => o) u.ops }

/-- An operation taken off a LUN. -/
def Lun.drop (u : Lun) (o : MOp) : Lun := { u with ops := u.ops.filter fun q => q.id != o.id }

/-- The state a LUN is left in as its operations end: a suspension is left once the data of its read has left the die, reading once every read
has completed (R209). -/
def Lun.rest (u : Lun) : Lun :=
  match u.state with
  | .suspRead => if u.ops.any MOp.holds then u else { u with state := .suspended }
  | .reading => if u.ops.any (fun o => o.started) then u else { u with state := .idle }
  | _ => u

/-- The state of a LUN whose die is free again outside a suspension: reads may still decode. -/
def Lun.freed (u : Lun) : Lun := { u with state := if u.ops.any (fun o => o.started) then .reading else .idle }

/-- A status byte read from a LUN: what the die gives, a free value (R205, log 3). -/
def State.pollLun (s : State) (c l : Nat) : State :=
  let a := s.draw
  a.2.setLun c l { a.2.lun c l with status := a.1.toNat % 256 }

/-- The value of the read-retry feature for an entry of `0x5010` (R217): a LUN's first one replaces what it held, and 0 puts that back. -/
def State.setRetry (s : State) (c l entry : Nat) : State :=
  let u := s.lun c l
  let k := (c * 32 + l) * 256 + s.geom 0x11
  let put (s : State) (v : Option Nat) : State := { s with flash.lunFeatures := match v with
    | some x => Tab.put s.flash.lunFeatures k x
    | none => Tab.erase s.flash.lunFeatures k }
  if entry = 0 then
    match u.retryOld with
    | none => s
    | some v => (put s v).setLun c l { u with retryOld := none }
  else
    let u := if u.retryOld.isSome then u else { u with retryOld := some (Tab.find s.flash.lunFeatures k) }
    (put s (some (s.val 0x5010 entry))).setLun c l u

/-- A LUN resumes a suspended erase when nothing the suspension may serve waits or runs (R208, R209). -/
def State.settle (s : State) (c l : Nat) : State :=
  let u := s.lun c l
  match u.state, u.erase with
  | .suspended, some r =>
    if (u.nextServed r).isNone || (s.port c).resetBusy then
      s.setLun c l { u with state := .erasing, erase := some { r with runSince := s.pkg.timebase, served := [] } }
    else s
  | _, _ => s

/-- An erase is suspended for an eligible read when R208 allows: the suspend command is issued. -/
def State.trySuspend (s : State) (c l : Nat) : State :=
  let u := s.lun c l
  match u.state, u.erase with
  | .erasing, some r =>
    let reads := (u.eligible r.op.desc).filter fun o => o.isRead && o.waits
    let first := s.since r.runSince
    let ok := reads.any fun o => o.desc.cls == 0
    let limit := decide (r.count < s.val 0x5020 1) && decide (usTicks (s.val 0x5020 2) ≤ first)
    if !reads.isEmpty && !(s.port c).resetBusy && u.recovering.isNone && (ok || limit) then
      s.setLun c l { u with
        state := .suspending
        erase := some { r with spent := r.spent + first, served := reads.map (·.id), programUsed := false } }
    else s
  | _, _ => s

/-- An operation ends: its completion, and the ring's or firmware's answer. -/
def State.finishOp (s : State) (c l : Nat) (o : MOp) (status : Nat) : State :=
  (s.setLun c l ((s.lun c l).drop o).rest).endOp c o status 0

/-- A descriptor that reaches issue is turned away with no cycle when the channel is not owned or the LUN is in fault
(R206, R210, R578). -/
def State.turnedAway (s : State) (c l : Nat) (o : MOp) : Option Nat :=
  if !(s.port c).owned then some mNotOwner
  else if (s.lun c l).fault && o.desc.opcode != .resetLun then some mLunFault
  else none

/-- The codewords a read delivers of each plane: plane × 4 + codeword, each before its first decode stage. -/
def MDesc.codewords (d : MDesc) : List (Nat × Nat) :=
  (bitList 8 d.planes).flatMap fun p =>
    (bitList 4 (if d.opcode == .readCont then 15 else d.cwMask)).map fun k => (4 * p + k, 0)

/-- The read-retry entry of a sense: `RETRY_INDEX` at the first, then bytes 0 to 2 of `0x5000.12` (R217). -/
def State.retryEntry (s : State) (o : MOp) : Nat :=
  if o.stage = 0 then o.desc.retry else s.geom 0x12 / 256 ^ (o.stage - 1) % 256

/-- A sense of a read starts: its first, or an extra one for a decode stage. The retry setting of an earlier descriptor is put back first. -/
def State.startSense (s : State) (c l : Nat) (o : MOp) : State :=
  let susp := (s.lun c l).erase.isSome
  let o := if o.started then { o with again := false }
    else { o with started := true, startAt := s.pkg.timebase, left := o.desc.codewords }
  let o := { o with senseAt := s.pkg.timebase, sensed := false, transferred := false, inSuspension := o.inSuspension || susp }
  let s := s.setLun c l { ((s.lun c l).put o) with state := if susp then .suspRead else .reading }
  (if s.retryEntry o = 0 then s else s.setRetry c l 0).setRetry c l (s.retryEntry o)

/-- READ and READ_CONT: a read that may start senses; behind a running erase it may suspend it (R201, R208, R209). -/
def State.mediaRead (s : State) (c l : Nat) (code : MOpcode) : State :=
  match (s.lun c l).next with
  | some o =>
    if o.desc.opcode != code then s
    else match if o.started then none else s.turnedAway c l o with
      | some st => (s.finishOp c l o st).settle c l
      | none => s.startSense c l o
  | none => if (s.lun c l).ops.any fun o => o.desc.opcode == code && o.waits then s.trySuspend c l else s

/-! ### The write-pointer check (R211 to R213) -/

/-- The blocks a descriptor addresses. -/
def MDesc.blockKeys (d : MDesc) (c : Nat) : List Nat := (bitList 8 d.planes).map fun p => blockKey c d.lun p d.block

/-- The check of one block's entry: 2 bad, 1 not erased, 3 out of order, 0 passes (R212). -/
def wpVerdict (w : Wp) (page : Nat) : Nat :=
  match w.state with
  | .bad => mBadBlock
  | .full | .unknown => mNotErased
  | .opened => if page < w.next then mNotErased else if page > w.next then mOutOfOrder else mOK

/-- The status of a program's check over every addressed plane: bad block first, then not erased, then out of order. -/
def State.programCheck (s : State) (c : Nat) (d : MDesc) : Nat :=
  let v := (d.blockKeys c).map fun k => wpVerdict (s.wp k) d.page
  if v.contains mBadBlock then mBadBlock
  else if v.contains mNotErased then mNotErased
  else if v.contains mOutOfOrder then mOutOfOrder
  else mOK

/-- The entries a program issued advances (R213). -/
def State.advanceWp (s : State) (c : Nat) (d : MDesc) : State :=
  (d.blockKeys c).foldl (fun s k =>
    let n := d.page + s.bitsPerCell
    s.setWp k ⟨if n ≥ s.pages then .full else .opened, n⟩) s

/-- The entries of an operation's blocks set to a state (R213). -/
def State.wpState (s : State) (c : Nat) (d : MDesc) (w : WpState) : State :=
  (d.blockKeys c).foldl (fun s k => s.setWp k ⟨w, 0⟩) s

/-- The pages of a wordline a program addresses, plane-major (R202). -/
def State.programPages (s : State) (c : Nat) (d : MDesc) : List Nat :=
  (bitList 8 d.planes).flatMap fun p =>
    (List.range s.bitsPerCell).map fun k => ppnOf c d.lun p d.block (d.page + k)

/-- A page's content changed; none erases it. -/
def State.setPage (s : State) (ppn : Nat) (p : Option FlashPage) : State :=
  match p with
  | some x => { s with flash.pages := Tab.put s.flash.pages ppn x }
  | none => { s with flash.pages := Tab.erase s.flash.pages ppn }

/-- The page or block an interrupted or failed operation leaves undefined (R215). -/
def State.undefine (s : State) (c : Nat) (d : MDesc) : State :=
  match d.opcode with
  | .program => (s.programPages c d).foldl (fun s p => s.setPage p (some .undefined)) s
  | .erase =>
    (d.blockKeys c).foldl (fun s k =>
      let t := Tab.keep (fun p _ => p / 2 ^ 13 != k) s.flash.pages
      let u := Tab.keep (fun p _ => p / 2 ^ 19 != k) s.flash.units
      { s with
        flash.pages := (List.range s.pages).foldl (fun t i => Tab.put t (k * 2 ^ 13 + i) .undefined) t
        flash.units := u
        flash.marks := Tab.keep (fun p _ => p / 2 ^ 13 != k) s.flash.marks }) s
  | _ => s

/-- The rows of an interrupted `RAW` program or erase left undefined (R215). -/
def State.undefineRows (s : State) (b : Bool × List Nat) : State :=
  b.2.foldl (fun (s : State) p =>
    if b.1 then (List.range s.pages).foldl (fun (s : State) i => s.setPage (p / 2 ^ 13 * 2 ^ 13 + i) (some .undefined)) s
    else s.setPage p (some .undefined)) s

/-- A program or erase issued and not ended well leaves its blocks unknown and its unit undefined (R213, R215). -/
def State.spoil (s : State) (c : Nat) (d : MDesc) : State :=
  match d.opcode with
  | .program | .erase => (s.wpState c d .unknown).undefine c d
  | _ => s

/-- What an operation that ends in the middle leaves undefined: its unit, or what a `RAW` sequence has the die do. -/
def State.spoilOp (s : State) (c : Nat) (o : MOp) : State :=
  match o.raw.bind fun r => r.busy with
  | some b => s.undefineRows b
  | none => s.spoil c o.desc

/-! ### Transfers (R161) -/

/-- An operation of a channel by its number. -/
def State.findOp (s : State) (c id : Nat) : Option (Nat × MOp) :=
  (List.range 32).findSome? fun l => ((s.lun c l).ops.find? fun o => o.id == id).map fun o => (l, o)

/-- The class a transfer is ordered by: its own, raised to 0 when its LUN has a class-0 read posted behind it (R161). -/
def State.transferClass (s : State) (c id : Nat) : Nat :=
  match s.findOp c id with
  | some (l, o) => if (s.lun c l).ops.any (fun q => q.id > id && q.isRead && q.desc.cls == 0) then 0
                   else if o.desc.cls == 0 then 0 else if o.desc.cls == 4 then 2 else 1
  | none => 3

/-- Whether a transfer goes before another that came to the channel earlier: by class, and in class 0 by the arrival of their commands (R131, R161). -/
def State.transferBefore (s : State) (c a b : Nat) : Bool :=
  let ca := s.transferClass c a
  let cb := s.transferClass c b
  let place (id : Nat) : Nat := ((s.findOp c id).map fun p => p.2.place).getD 0
  decide (ca < cb) || (ca == 0 && cb == 0 && decide (place a < place b))

/-- The transfers of a channel that may go next: of each LUN the one that came first, since a later page leaves the die only after an
earlier one (R207). -/
def State.transferHeads (s : State) (c : Nat) : List Nat :=
  let lunOf (id : Nat) : Nat := ((s.findOp c id).map fun p => p.1).getD 32
  ((s.port c).transfers.foldl (fun (acc : List Nat × List Nat) id =>
    if acc.2.contains (lunOf id) then acc else (acc.1 ++ [id], lunOf id :: acc.2)) ([], [])).1

/-- The transfer in hand: the first by class and order; a program's data input that has begun goes on, unless the port yields to class 0
at its codeword boundaries (R131, R161, R194, log 160). -/
def State.nextTransfer (s : State) (c : Nat) : Option Nat :=
  let best := (s.transferHeads c).foldl (fun (b : Option Nat) id =>
    match b with
    | none => some id
    | some q => if s.transferBefore c id q then some id else b) none
  match (s.port c).input with
  | none => best
  | some id =>
    if (s.port c).inputYield && best.any (fun q => s.transferClass c q == 0) then best else some id

/-- The channel goes on to its next transfer: a program's data input begins. -/
def State.beginInput (s : State) (c : Nat) : State :=
  match s.nextTransfer c with
  | none => s
  | some id =>
    if (s.findOp c id).any (fun p => p.2.desc.opcode == .program) then s.setPort c { s.port c with input := some id } else s

/-- A transfer that waits for the channel; on an idle one it begins. -/
def State.addTransfer (s : State) (c id : Nat) : State :=
  let p := s.port c
  let s := s.setPort c { p with transfers := p.transfers ++ [id] }
  if p.transfers.isEmpty then s.beginInput c else s

/-- Transfers taken off a channel, which goes on to its next. -/
def State.dropTransfers (s : State) (c : Nat) (which : Nat → Bool) : State :=
  let p := s.port c
  let s := s.setPort c { p with
    transfers := p.transfers.filter fun id => !which id, input := if p.input.any which then none else p.input }
  if (s.port c).input.isNone then s.beginInput c else s

/-- PROGRAM: the write-pointer check at issue, then data input (R201, R212, R213). -/
def State.mediaProgram (s : State) (c l : Nat) : State :=
  match (s.lun c l).next with
  | some o =>
    if o.desc.opcode != .program then s
    else match s.turnedAway c l o with
      | some st => (s.finishOp c l o st).settle c l
      | none =>
        let v := s.programCheck c o.desc
        if v != mOK then ((s.bump (0x5100 + c) 0x0B).finishOp c l o v).settle c l
        else
          let u := s.lun c l
          let susp := u.erase.isSome
          let o' := { o with started := true, startAt := s.pkg.timebase, inSuspension := susp }
          let er := u.erase.map fun r => { r with programUsed := true }
          let s := (s.setLun c l { (u.put o') with state := if susp then .suspProgram else .programming, erase := er }).setRetry c l 0
          (s.addTransfer c o.id).advanceWp c o.desc
  | none => s

/-- ERASE: the bad-block check at issue, the block marked unknown, the erase started (R201, R212, R213). -/
def State.mediaErase (s : State) (c l : Nat) : State :=
  match (s.lun c l).next with
  | some o =>
    if o.desc.opcode != .erase then s
    else match s.turnedAway c l o with
      | some st => (s.finishOp c l o st).settle c l
      | none =>
        if (o.desc.blockKeys c).any fun k => (s.wp k).state == .bad then
          ((s.bump (0x5100 + c) 0x0B).finishOp c l o mBadBlock).settle c l
        else
          let u := (s.lun c l).drop o
          let o' := { o with started := true, startAt := s.pkg.timebase }
          ((s.setLun c l { u with
            state := .erasing
            erase := some ⟨o', 0, s.pkg.timebase, 0, [], false⟩ }).setRetry c l 0).wpState c o.desc .unknown
  | none => s

/-! ### Senses, transfers and the die (R161, R209) -/

/-- SENSE_END: the page enters the cache register and its transfer may start (R207, R209). -/
def State.senseEnd (s : State) (c l : Nat) : State :=
  match (s.lun c l).ops.find? fun o => o.holds && !o.sensed with
  | none => s
  | some o =>
    let s := s.pollLun c l
    (s.setLun c l ((s.lun c l).put { o with sensed := true })).addTransfer c o.id

/-- The transfer of a proxied operation of the twin (R345). -/
def State.proxyIn (s : State) (t : Nat) : Option Transfer345 := s.twin.mediaIn.find? fun x => x.number == t

/-- The codewords a program's buffers hold for one page, with the poison its granules carry (R202, R219); those of a proxied program came with
its frames (R345). -/
def State.pageFrom (s : State) (o : MOp) (i : Nat) : List Codeword :=
  match o.origin with
  | .proxied t =>
    match s.proxyIn t with
    | none => []
    | some x => (List.range 4).map fun k =>
      ⟨trimZeros ((x.data.drop (16384 * i + 4096 * k)).take 4096), trimZeros ((x.info.drop (128 * i + 32 * k)).take 31),
        x.poisoned.contains (4 * i + k)⟩
  | _ =>
    (List.range 4).map fun k =>
      let a := o.desc.dataAddr + 16384 * i + 4096 * k
      let m := o.desc.metaAddr + 128 * i + 32 * k
      ⟨trimZeros (s.mem.read a 4096), trimZeros (s.mem.read m 31), s.mem.poisoned a 4096 || s.mem.poisoned m 32⟩

/-- The columns of a furrow present at a plane: those whose plane set has it and whose die is still in (R263). -/
def State.present (s : State) (f : Furrow) (plane : Nat) : List FCol :=
  f.cols.filter fun k => bit k.planes plane && !k.gone && !(s.lun k.channel k.lun).retired

/-- The first `n` columns at or after a column, in cyclic order. -/
def cyclicFrom (cols : List FCol) (start n : Nat) : List Nat :=
  (((List.range 16).map fun k => (start + k) % 16).filter fun c => cols.any fun k => k.col == c).take n

/-- The parity columns of a wordline among those present (R263). -/
def parityCols (f : Furrow) (cols : List FCol) (w : Nat) : List Nat :=
  if f.layout15 then cyclicFrom cols (w % 16) 1 else cyclicFrom cols (2 * w % 16) 2

/-- The data pages of a row in data page order, as PPNs; a stripe with fewer than 8 data columns holds no unit (R263, R265). -/
def State.rowPages (s : State) (f : Furrow) (w : Nat) : List Nat :=
  (List.range s.planes).flatMap fun p =>
    let cols := s.present f p
    let par := parityCols f cols w
    let data := cols.filter fun k => !par.contains k.col
    (List.range s.bitsPerCell).flatMap fun k =>
      if data.length < 8 then []
      else data.map fun d => ppnOf d.channel d.lun p d.block (w * s.bitsPerCell + k)

/-- The bytes that stand in a unit's slots: header and frame, or the raw data alone (R258, R259). -/
def StoredUnit.image (u : StoredUnit) : List Byte := if u.raw then u.body else u.header ++ u.body

/-- A codeword of a stream of slots on which units stand, each at its first slot: 16 slots, zero where no unit is; of a raw unit, its header in
the metadata of the codeword it begins in and its host metadata in that of the next three (R259). -/
def streamCodeword (units : List (Nat × StoredUnit)) (cw : Nat) : Codeword :=
  let slot (n : Nat) : List Byte :=
    match units.find? fun u => decide (u.1 ≤ n) && decide (n < u.1 + u.2.slots) with
    | some u => padTo 256 (slice u.2.image (256 * (n - u.1)) 256)
    | none => List.replicate 256 0
  let info := units.findSome? fun u =>
    if u.2.raw && u.1 / 16 == cw then some (u.2.header.take 31)
    else if u.2.raw && decide (u.1 / 16 < cw) && decide (cw ≤ u.1 / 16 + 3) then some (slice u.2.info (31 * (cw - u.1 / 16 - 1)) 31)
    else none
  ⟨trimZeros ((List.range 16).flatMap fun k => slot (16 * cw + k)), trimZeros (info.getD []),
    units.any fun u => u.2.poison && decide (u.1 < 16 * cw + 16) && decide (16 * cw < u.1 + u.2.slots)⟩

/-- A byte times g = 2 in GF(2⁸) with the polynomial 0x11D (R264). -/
def gfDouble (b : Byte) : Byte := (b <<< (1 : Nat)) ^^^ (if b.getLsbD 7 then 0x1D else 0)

/-- P, the sum of the data, or Q, the sum of gⁱ times the i-th, of `n` bytes of a stripe's pages, byte by byte (R264): from the last page on,
each step doubles what it has for Q. -/
def parityBytes (q : Bool) (n : Nat) (pages : List (List Byte)) : List Byte :=
  (List.range n).map fun i =>
    pages.foldr (fun pg (acc : Byte) => (pg[i]?).getD 0 ^^^ (if q then gfDouble acc else acc)) 0

/-- A parity codeword of the stripe's data codewords: over the data and metadata bytes 0–30 (R264). -/
def parityCodeword (q : Bool) (l : List Codeword) : Codeword :=
  ⟨trimZeros (parityBytes q 4096 (l.map (·.data))), trimZeros (parityBytes q 31 (l.map (·.info))), false⟩

/-- The stream of slots of a row being sown, from the row before on: its pages in order, and the units at their first slots. -/
def State.rowStream (s : State) (x : XSet) (f : Furrow) (w : Nat) : List Nat × List (Nat × StoredUnit) :=
  let pages := (if w = 0 then [] else s.rowPages f (w - 1)) ++ s.rowPages f w
  let units := ((x.crossing.filter fun p => p.1 == f.id).map (·.2)) ++
    ((x.rows.find? fun r => r.furrow == f.id && r.wordline == w).map (·.units)).getD []
  (pages, units.map fun u => (64 * pages.idxOf u.entry.ppn + u.entry.off, u.stored))

/-- What a page of a sown row's column holds: units in their slots, the parity of its stripe's data pages, or zero data where the stripe holds
no unit (R25, R259, R263, R264). -/
def State.rowPage (s : State) (furrow w col ppn : Nat) : FlashPage :=
  match s.sets.toList.findSome? fun (x : XSet) => (x.furrows.find? fun f => f.id == furrow).map fun f => (x, f) with
  | none => .raw []
  | some (x, f) =>
    let plane := bits ppn 27 3
    let cols := s.present f plane
    let par := parityCols f cols w
    let data := cols.filter fun k => !par.contains k.col
    if data.length < 8 then .raw []
    else
      let st := s.rowStream x f w
      let codeword (q k : Nat) : Codeword := streamCodeword st.2 (4 * st.1.idxOf q + k)
      let mates := data.map fun k => ppnOf k.channel k.lun plane k.block (ppn % 2 ^ 13)
      .raw ((List.range 4).map fun k =>
        if par[0]? == some col then parityCodeword false (mates.map fun q => codeword q k)
        else if par[1]? == some col then parityCodeword true (mates.map fun q => codeword q k)
        else codeword ppn k)

/-- A codeword of a page as programmed. -/
def FlashPage.codeword (p : FlashPage) (k : Nat) : Codeword :=
  match p with
  | .raw cws => (cws[k]?).getD ⟨[], [], false⟩
  | .undefined => ⟨[], [], false⟩

/-- CHANNEL_TRANSFER_END: the transfer in hand ends. A read's data has left the die; a program's pages hold their data
from here on unless the program fails (R161, R202, R209). -/
def State.transferEnd (s : State) (c : Nat) : State :=
  match s.nextTransfer c with
  | none => s
  | some id =>
    let s := s.dropTransfers c fun k => k == id
    match s.findOp c id with
    | none => s
    | some (l, o) =>
      let u := s.lun c l
      if o.isRead then (s.setLun c l (u.put { o with transferred := true }).rest).settle c l
      else
        let pages := s.programPages c o.desc
        let content := ((List.range pages.length).zip pages).map fun p =>
          match o.origin with
          | .row furrow w col => (p.2, s.rowPage furrow w col p.2)
          | _ => (p.2, .raw (s.pageFrom o p.1))
        let poisoned := content.any fun p => (List.range 4).any fun k => (p.2.codeword k).poison
        let s := s.setLun c l (u.put { o with transferred := true, poisoned := poisoned })
        content.foldl (fun s p => s.setPage p.1 (some p.2)) s

/-- PROGRAM_END: the die's program ends (R209, R213). `status` is the die's status byte. -/
def State.programEnd (s : State) (c l : Nat) (ok : Bool) (status : Nat) : State :=
  let u := s.lun c l
  match u.ops.find? fun o => o.started && o.transferred && o.desc.opcode == .program with
  | none => s
  | some o =>
    let u := { u with status := status }
    let s := s.setLun c l (match u.state with
      | .suspProgram => { u with state := .suspended }
      | _ => u)
    let s := if ok then s else (s.bump (0x5100 + c) 7).spoil c o.desc
    let u := (s.lun c l).drop o
    ((s.setLun c l (if u.erase.isSome then u else u.freed)).endOp c o (if ok then mOK else mProgFail) 0).settle c l

/-- The pages, units and marks of a block gone, and its erase count up by one. -/
def State.eraseBlock (s : State) (k : Nat) : State :=
  { s with
    flash.pages := Tab.keep (fun p _ => p / 2 ^ 13 != k) s.flash.pages
    flash.units := Tab.keep (fun p _ => p / 2 ^ 19 != k) s.flash.units
    flash.marks := Tab.keep (fun p _ => p / 2 ^ 13 != k) s.flash.marks
    flash.erases := Tab.set s.flash.erases 0 k (Tab.get s.flash.erases 0 k + 1) }

/-- ERASE_END: the die's erase ends, with its suspend count (R209, R213). -/
def State.eraseEnd (s : State) (c l : Nat) (ok : Bool) (status : Nat) : State :=
  let u := s.lun c l
  match u.state, u.erase with
  | .erasing, some r =>
    let o := r.op
    let s := s.setLun c l { u with erase := none, status := status }.freed
    let s := (o.desc.blockKeys c).foldl (fun s k => s.eraseBlock k) s
    let s := if ok then s.wpState c o.desc .opened
      else ((s.bump (0x5100 + c) 8).undefine c o.desc).wpState c o.desc .bad
    s.endOp c o (if ok then mOK else mEraseFail) r.count
  | _, _ => s

/-- ERASE_SUSPENDED: the die is ready after the suspend command; the suspension is counted (R209). -/
def State.eraseSuspended (s : State) (c l : Nat) : State :=
  let u := s.lun c l
  match u.state, u.erase with
  | .suspending, some r =>
    ((s.setLun c l { u with state := .suspended, erase := some { r with count := r.count + 1 } }).bump
      (0x5100 + c) 0x0A).settle c l
  | _, _ => s

/-! ### Decode (R203, R217 to R219) -/

/-- The page of an operation's plane, for a sequence read the page it has come to. -/
def MOp.ppn (o : MOp) (c plane : Nat) : Nat := ppnOf c o.desc.lun plane o.desc.block (o.desc.page + o.pagesDone)

/-- Where a codeword goes among those a read delivers. -/
def MOp.place_ (o : MOp) (cw : Nat) : Nat :=
  if o.desc.opcode == .readCont then 4 * o.pagesDone + cw % 4
  else (o.desc.codewords.map (·.1)).idxOf cw

/-- A codeword's bytes as stored; an undefined page's are free values (log 3). -/
def State.codeword (s : State) (ppn k : Nat) : Codeword × State :=
  match Tab.find s.flash.pages ppn with
  | some .undefined | none => let r := s.random 4096; (⟨r.1, [], false⟩, r.2)
  | some p => (p.codeword k, s)

/-- A codeword delivered to the buffers, with or without the poison mark (R219). A proxied read's goes to its transfer, as zeros where it
carries the mark (R345). -/
def State.deliver (s : State) (o : MOp) (cw : Nat) (w : Codeword) (poison : Bool) : State :=
  let j := o.place_ cw
  let data := padTo 4096 w.data
  let info := padTo 31 w.info ++ [BitVec.ofNat 8 (b2n w.poison)]
  match o.origin with
  | .host _ _ | .glean _ _ | .rebuild _ _ _ | .patrol | .row _ _ _ | .furrowErase _ _ => s
  | .proxied t =>
    let lay (n : Nat) (b l : List Byte) : List Byte := overlay (padTo (max b.length (n + l.length)) b) n l
    { s with twin.mediaIn := updateIf (fun x => x.number == t) (fun x => { x with
        data := lay (4096 * j) x.data (if poison then List.replicate 4096 0 else data)
        info := lay (32 * j) x.info (if poison then List.replicate 32 0 else info)
        poisoned := if poison then x.poisoned ++ [j] else x.poisoned }) s.twin.mediaIn }
  | _ => (s.store (o.desc.dataAddr + 4096 * j) data poison).store (o.desc.metaAddr + 32 * j) info poison

/-- The requested codewords of the page in hand. -/
def MOp.requested (o : MOp) : List Nat := o.desc.codewords.map (·.1)

/-- Codewords that read as erased on a page not wholly erased are written as uncorrectable ones (R218, R219). -/
def State.deliverErased (s : State) (o : MOp) : State :=
  (o.requested.filter fun cw => bit o.erasedCws cw).foldl
    (fun s cw => s.deliver o cw ⟨List.replicate 4096 0xFF, List.replicate 31 0xFF, true⟩ true) s

/-- A read's completion once its page or pages are decided (R203, R206, R218). -/
def State.finishRead (s : State) (c l : Nat) (o : MOp) : State :=
  let allErased := o.requested.all fun cw => bit o.erasedCws cw
  let s := s.setLun c l ((s.lun c l).put o)
  if o.desc.opcode == .readCont then
    if allErased then s.finishOp c l { o with failed := 15 } mErased
    else
      let s := s.deliverErased o
      let o := { o with failed := ((o.failed ||| o.erasedCws) >>> (4 * ((bitList 8 o.desc.planes).head?.getD 0))) % 16
                        poisoned := o.poisoned || o.erasedCws != 0 }
      let done := { o with pagesDone := o.pagesDone + 1 }
      if o.failed != 0 then s.finishOp c l done mUncorrectable
      else if done.pagesDone = o.desc.count then s.finishOp c l done (if o.soft then mOkSoft else mOK)
      else
        s.startSense c l { done with left := o.desc.codewords, erasedCws := 0, stage := 0 }
  else if allErased then s.finishOp c l { o with failed := o.erasedCws } mErased
  else
    let s := s.deliverErased o
    let o := { o with failed := o.failed ||| o.erasedCws, poisoned := o.poisoned || o.erasedCws != 0 }
    s.finishOp c l o (if o.failed != 0 then mUncorrectable else if o.soft then mOkSoft else mOK)

/-- The histogram counters of a channel (R228). -/
def State.countDecode (s : State) (c n stage : Nat) : State :=
  let s := s.bump (0x5100 + c) 1
  if stage > 0 then s.bump (0x5100 + c) 5
  else if n < 64 then s.bump (0x5100 + c) 2
  else if n < 108 then s.bump (0x5100 + c) 3
  else s.bump (0x5100 + c) 4

/-- One furrow's column that holds a block. -/
def Furrow.holds (f : Furrow) (c l block : Nat) : Bool :=
  f.cols.any fun k => k.channel == c && k.lun == l && k.block == block

/-- A block scheduled for refresh in the set whose furrow holds it (R288). -/
def State.scheduleRefresh (s : State) (c l block : Nat) : State :=
  { s with sets := s.sets.map fun x =>
      if x.furrows.any (fun f => f.holds c l block) && !x.refreshes.contains (blockKey c l 0 block) then
        { x with refreshes := x.refreshes ++ [blockKey c l 0 block] }
      else x }

/-- The codewords that failed a stage need an extra sense of their page: at once while the read has the die, else when it may start (R217). -/
def State.senseAgain (s : State) (c l : Nat) (o : MOp) : State :=
  let u := s.lun c l
  if o.desc.opcode == .readCont && (u.state == .reading || u.state == .suspRead) then s.startSense c l o
  else
    let o := { o with again := true, sensed := false, transferred := false }
    s.setLun c l (u.put o).rest

/-- CODEWORD_DECODED: one decode stage of the next codeword of a transferred read of the LUN ends (R217, R218). -/
def State.codewordDecoded (s : State) (c l : Nat) (r : CwResult) : State :=
  let u := s.lun c l
  match u.ops.find? fun o => o.isRead && o.transferred && !o.left.isEmpty with
  | none => s
  | some o =>
    match o.left with
    | [] => s
    | (cw, stage) :: rest =>
      let ppn := o.ppn c (cw / 4)
      let r := if (Tab.find s.flash.pages ppn).isNone then CwResult.erased else r
      let step (s : State) (o : MOp) : State :=
        match o.left with
        | [] => (s.finishRead c l o).settle c l
        | (_, next) :: _ => if next ≤ o.stage then s.setLun c l ((s.lun c l).put o) else s.senseAgain c l { o with stage := next }
      match r with
      | .erased => step s { o with left := rest, erasedCws := setBit o.erasedCws cw true }
      | .decoded n =>
        let w := s.codeword ppn (cw % 4)
        let s := (w.2.countDecode c n stage).deliver o cw w.1 w.1.poison
        let s := if stage > 0 || decide (100 * n > s.val 0x6020 1 * s.val 0x5000 0x13)
          then s.scheduleRefresh c l o.desc.block else s
        step s { o with
          left := rest, soft := o.soft || decide (stage > 0), maxBits := max o.maxBits n
          poisoned := o.poisoned || w.1.poison }
      | .failed =>
        if stage < o.desc.softLimit then
          step s { o with left := rest ++ [(cw, stage + 1)], senses := max o.senses (stage + 1) }
        else
          let b := s.random 4096
          let s := (b.2.bump (0x5100 + c) 6).deliver o cw ⟨b.1, [], true⟩ true
          step s { o with left := rest, failed := setBit o.failed cw true, poisoned := true }

/-! ### Features, status, reset, raw (R201, R204) -/

/-- READ_STATUS: Read Status Enhanced runs at once, whatever the LUN does (R201, R207). -/
def State.mediaReadStatus (s : State) (c l status : Nat) : State :=
  match (s.lun c l).ops.find? fun o => o.desc.opcode == .readStatus with
  | none => s
  | some o =>
    match s.turnedAway c l o with
    | some st => s.finishOp c l o st
    | none =>
      let s := s.setLun c l { s.lun c l with status := status }
      s.finishOp c l { o with started := true, startAt := s.pkg.timebase } mOK

/-- Where a LUN's feature parameters are kept. -/
def featureKey (c l addr : Nat) : Nat := (c * 32 + l) * 256 + addr

/-- The operation of a code that a command carries on: one that runs, else one that may start. -/
def Lun.inHand (u : Lun) (code : MOpcode) : Option MOp :=
  if u.recovering.isSome then none
  else match u.ops.find? fun o => o.started && o.desc.opcode == code with
    | some o => some o
    | none => u.next.bind fun o => if o.desc.opcode == code then some o else none

/-- An operation of a code carried on: turned away at issue, or started and taken on by `f` (R200, R207). -/
def State.carryOn (s : State) (c l : Nat) (code : MOpcode) (f : State → MOp → State) : State :=
  match (s.lun c l).inHand code with
  | none => s
  | some o =>
    match if o.started then none else s.turnedAway c l o with
    | some st => s.finishOp c l o st
    | none =>
      let s := if o.started then s else s.setRetry c l 0
      let o := if o.started then o else { o with started := true, startAt := s.pkg.timebase }
      f (s.setLun c l ((s.lun c l).put o)) o

/-- MEDIA_GET_FEATURES: P1–P4 of a feature address go to `DATA_ADDR`; a feature never set here reads what the die gives. With no answer of the die
the access runs on, timed by R210. -/
def State.mediaGetFeatures (s : State) (c l : Nat) (die : Option (BitVec 32)) : State :=
  s.carryOn c l .getFeatures fun s o =>
    match die with
    | none => s
    | some v =>
      let s := s.pollLun c l
      let p := leBytes 4 ((Tab.find s.flash.lunFeatures (featureKey c l (bits o.desc.param 0 8))).getD v.toNat)
      let s := match o.origin with
        | .proxied t => { s with twin.mediaIn := updateIf (fun x => x.number == t) (fun x => { x with data := p }) s.twin.mediaIn }
        | _ => s.store o.desc.dataAddr p false
      s.finishOp c l o mOK

/-- MEDIA_SET_FEATURES: P1–P4 from `PARAM` go to the LUN; one that is not ready runs on, timed by R210. -/
def State.mediaSetFeatures (s : State) (c l : Nat) (ready : Bool) : State :=
  s.carryOn c l .setFeatures fun s o =>
    if !ready then s
    else
      let s := s.pollLun c l
      let v := bits o.desc.param 32 32
      { s with flash.lunFeatures := Tab.put s.flash.lunFeatures (featureKey c l (bits o.desc.param 0 8)) v }.finishOp c l o mOK

/-- RESET_LUN: `FFh` is issued and the LUN waited for; LUN_RECOVERY_END gives the outcome. -/
def State.mediaResetLun (s : State) (c l : Nat) : State :=
  s.carryOn c l .resetLun fun s _ => s.setLun c l { s.lun c l with recovering := some s.pkg.timebase }

/-- The page a row address names in a LUN: the ONFI rows of the die, which the spec does not lay out (log 142). -/
def State.rawPage (s : State) (c l : Nat) (addr : List Nat) : Nat :=
  let n := Config.onfiRow addr
  let page := n % s.pages
  let plane := n / s.pages % s.planes
  ppnOf c l plane (n / s.pages / s.planes % s.blocks) page

/-- A command byte of a `RAW` sequence: an erase or program is confirmed, or gathers a row of another plane; a reset ends what the die runs, whose
unit is then undefined; any other opens a cycle (R201, R204, R215, log 142). -/
def State.rawCommand (s : State) (c l : Nat) (r : RawRun) (b : Nat) : State × RawRun :=
  let row := s.rawPage c l r.addr
  let gathered := r.rows ++ [row]
  if b = 0xFF then
    let s := match r.busy with
      | some x => s.undefineRows x
      | none => s
    (s, { r with cmd := 0, addr := [], rows := [], busy := none })
  else if (b = 0x11 ∧ r.cmd = 0x80) ∨ (b = 0xD1 ∧ r.cmd = 0x60) then (s, { r with addr := [], rows := gathered })
  else if b = 0x10 ∧ r.cmd = 0x80 then
    (gathered.foldl (fun s p => s.setPage p (some .undefined)) s, { r with cmd := 0, addr := [], rows := [], busy := some (false, gathered) })
  else if b = 0xD0 ∧ r.cmd = 0x60 then
    (gathered.foldl (fun s p => s.eraseBlock (p / 2 ^ 13)) s, { r with cmd := 0, addr := [], rows := [], busy := some (true, gathered) })
  else
    (s, { r with cmd := b, addr := [], rows := if b = r.cmd && (b == 0x80 || b == 0x60) then r.rows else [] })

/-- A data-out step: with LUN Set Features open its bytes are the parameters of the feature its last address byte names (R201). -/
def State.rawOut (s : State) (c l : Nat) (r : RawRun) (bytes : List Byte) : State :=
  match r.cmd, r.addr.getLast? with
  | 0xD5, some fa => { s with flash.lunFeatures := Tab.put s.flash.lunFeatures (featureKey c l fa) (ofLe (bytes.take 4)) }
  | _, _ => s

/-- The steps of a sequence run until one waits for a die that is not ready; `waits` is how many of its wait steps find the die ready, and
`die` what it gives to data-in steps, the last byte of a status read being the LUN's status byte (R204, R205). Data bytes lie at
`META_ADDR` one step after another. -/
def State.rawRun (c l meta_ : Nat) : Nat → State → RawRun → Nat → List Byte → State × RawRun
  | 0, s, r, _, _ => (s, r)
  | fuel + 1, s, r, waits, die =>
    match r.steps with
    | [] => (s, r)
    | (t, n) :: rest =>
      let next := { r with steps := rest }
      match t with
      | 0x01 =>
        let q := s.rawCommand c l next (n % 256)
        State.rawRun c l meta_ fuel q.1 q.2 waits die
      | 0x02 => State.rawRun c l meta_ fuel s { next with addr := next.addr ++ [n % 256] } waits die
      | 0x03 =>
        let s := s.rawOut c l r (s.mem.read (meta_ + r.moved) n)
        State.rawRun c l meta_ fuel s { next with moved := r.moved + n } waits die
      | 0x04 =>
        let given := padTo n (die.take n)
        let s := s.store (meta_ + r.moved) given false
        let s := if r.cmd = 0x78 ∨ r.cmd = 0x70 then s.setLun c l { s.lun c l with status := ((given.getLast?).getD 0).toNat } else s
        State.rawRun c l meta_ fuel s { next with moved := r.moved + n } waits (die.drop n)
      | 0x05 =>
        match waits with
        | 0 => (s, { r with wait := some (((r.wait.map fun w => w.1).getD s.pkg.timebase), n) })
        | k + 1 => State.rawRun c l meta_ fuel s { next with wait := none, busy := none } k die
      | _ => State.rawRun c l meta_ fuel s next waits die

/-- RAW: denied unless `RAW_ENABLE`; else the sequence runs on (R204). A sequence that has become ill-formed since its fetch is a descriptor error.
The write-pointer table is not changed. -/
def State.mediaRaw (s : State) (c l : Nat) (die : List Byte) (waits : Nat) (busErr : Bool) : State :=
  match (s.lun c l).inHand .raw with
  | none => s
  | some o =>
    if !o.started && (s.turnedAway c l o).isNone && !s.flag 0x5020 4 then s.finishOp c l o mDenied
    else if !o.started && (s.turnedAway c l o).isNone && busErr then
      (s.controlError 1 (8 + c / 8) ⟨2, c⟩ o.desc.dataAddr).finishOp c l o mBusError
    else if !o.started && (s.turnedAway c l o).isNone && !s.rawOk o.desc then s.finishOp c l o mBadDesc
    else s.carryOn c l .raw fun s o =>
      let r := o.raw.getD ⟨s.rawSteps o.desc.dataAddr 64, 0, none, 0, [], [], none⟩
      let q := State.rawRun c l o.desc.metaAddr 65 s r waits die
      let o := { o with raw := some q.2 }
      if q.2.wait.isSome then q.1.setLun c l ((q.1.lun c l).put o) else q.1.finishOp c l o mOK

/-! ### Timeouts and recovery (R210) -/

/-- Whether an operation has run past its limit: four times the maximum for a sense or a program, 1 ms for a feature access, its own limit for a wait
step of a `RAW` sequence (R210). -/
def State.late (s : State) (o : MOp) : Bool :=
  let past (t : Word) (us : Nat) : Bool := decide (usTicks us < s.since t)
  match o.desc.opcode with
  | .read | .readCont => o.holds && !o.sensed && past o.senseAt (4 * s.geom 0x0A)
  | .program => past o.startAt (4 * s.geom 0x0C)
  | .getFeatures | .setFeatures => past o.startAt 1000
  | .raw => (o.raw.bind fun r => r.wait).any fun w => past w.1 w.2
  | .erase | .readStatus | .resetLun => false

/-- Whether an operation of a LUN, or its running erase, has run past its limit. -/
def State.timed (s : State) (c l : Nat) : Bool :=
  let u := s.lun c l
  u.ops.any (fun o => o.started && s.late o) ||
    match u.state, u.erase with
    | .erasing, some r => decide (usTicks (4 * s.geom 0x0D) < r.spent + s.since r.runSince)
    | _, _ => false

/-- MEDIA_OP_TIMEOUT: the port issues `FFh` to the LUN (R210 step 1). -/
def State.mediaTimeout (s : State) (c l : Nat) : State :=
  let u := s.lun c l
  if u.recovering.isSome || !s.timed c l then s
  else
    let s := (s.setLun c l { u with recovering := some s.pkg.timebase }).bump (0x5100 + c) 9
    s.pollLun c l

/-- Operations of a LUN that are completed without a cycle. -/
def State.endAll (s : State) (c : Nat) (ops : List MOp) (status : Nat) : State :=
  ops.foldl (fun s o => s.endOp c o status 0) s

/-- Whether `FFh` ends an operation: one that has started, but for a read whose page has left the die. -/
def MOp.running (o : MOp) : Bool := o.started && !o.again && !(o.isRead && o.transferred)

/-- LUN_RECOVERY_END: the LUN is ready within 10 ms of `FFh` or it is not (R201 RESET_LUN, R210 steps 2 and 3). The running
operation ends first, then an erase it was suspended for. In a fault the operations that wait end too, up to a `RESET_LUN`, which may
find the LUN ready. -/
def State.recoveryEnd (s : State) (c l : Nat) (ready : Bool) : State :=
  match (s.lun c l).recovering with
  | none => s
  | some _ =>
    let s := s.pollLun c l
    let u := s.lun c l
    let running := u.ops.filter MOp.running
    let rest := u.ops.filter fun o => !o.running
    let decoding := rest.filter fun o => o.started && !o.again
    let faulted := (rest.filter MOp.waits).takeWhile fun o => o.desc.opcode != .resetLun
    let kept := (rest.filter MOp.waits).dropWhile fun o => o.desc.opcode != .resetLun
    let reset := running.any fun o => o.desc.opcode == .resetLun
    let status := if ready then (if reset then mOK else mTimeout) else mLunFault
    let s := s.setLun c l { u with
      erase := none, recovering := none, fault := !ready
      faultTimes := if ready then u.faultTimes else s.pkg.timebase :: u.faultTimes
      ops := if ready then rest else decoding ++ kept }.freed
    let s := s.dropTransfers c fun id => running.any fun o => o.id == id
    let s := running.foldl (fun s o => (s.spoilOp c o).endOp c o status 0) s
    let s := match u.erase with
      | some r => (s.spoil c r.op.desc).endOp c r.op (if ready then mTimeout else mLunFault) r.count
      | none => s
    if ready then s else s.endAll c faulted mLunFault

/-! ### Port control, ring reset (R194, R196, R220) -/

/-- PORT_ENABLE: writing 1 to `ENABLE` starts descriptor fetch, or is refused with `RING_ERROR` (R196). -/
def State.portEnable (s : State) (c : Nat) : State :=
  let p := s.port c
  let mine (a : Area) : Bool := a == .staging (c / 8)
  if p.descBase % 8192 == 0 && p.cplBase % 4096 == 0 && s.within mine p.descBase 8192 &&
      s.within mine p.cplBase 4096 then
    s.setPort c { p with enable := true, ringError := false }
  else s.setPort c { p with enable := false, ringError := true }

/-- PORT_DISABLE: fetching stops; operations already fetched continue (R194). -/
def State.portDisable (s : State) (c : Nat) : State :=
  s.setPort c { s.port c with enable := false }

/-- DESC_TAIL: the doorbell, ignored and counted during a ring reset (R197). -/
def State.mediaDoorbell (s : State) (c tail : Nat) : State :=
  let p := s.port c
  if p.resetBusy then s.setPort c { p with doorbellIgnored := p.doorbellIgnored + 1 }
  else s.setPort c { p with descTail := tail % 256 }

/-- Operations by their numbers, which is the order they were fetched in. -/
def sortOps (l : List MOp) : List MOp :=
  l.foldr (fun o acc => (acc.takeWhile fun q => decide (q.id < o.id)) ++ o :: acc.dropWhile fun q => decide (q.id < o.id)) []

/-- RING_RESET: `RESET_BUSY` is set, fetched operations not yet issued complete `FLUSHED` in ring order, and a suspended erase is resumed
at once (R220). The unfetched slots are flushed at RING_RESET_DONE. -/
def State.ringReset (s : State) (c : Nat) : State :=
  let p := s.port c
  if p.resetBusy then s
  else
    let s := s.setPort c { p with resetBusy := true, resetEnd := p.descTail }
    let waiting := (List.range 32).flatMap fun l => (s.lun c l).ops.filter fun o => !o.started
    let s := (List.range 32).foldl (fun (s : State) l =>
      let u := s.lun c l
      (s.setLun c l { u with ops := u.ops.filter fun o => o.started }).settle c l) s
    s.endAll c (sortOps waiting) mFlushed

/-- Whether a completion slot is free for one more descriptor (R197). -/
def State.slotFree (s : State) (c : Nat) : Bool :=
  let p := s.port c
  decide (s.queued c + (p.cplTail + 256 - p.cplHead) % 256 < 255)

/-- Slots from `DESC_HEAD` up to the tail at the reset complete `FLUSHED` in ring order, as completion slots allow (R197, R220 step 2). -/
def State.flushSlots (s : State) (c : Nat) : Nat → State
  | 0 => s
  | n + 1 =>
    let p := s.port c
    if p.descHead = p.resetEnd || !s.slotFree c then s
    else
      let slot := p.descHead
      let a := p.descBase + 32 * slot
      let tag := s.load (a + 4) 2
      let ev := bit (s.load a 4) 9
      let s := s.setPort c { p with descHead := (slot + 1) % 256 }
      State.flushSlots (s.postMedia c slot (rejectedOp slot tag ev) mFlushed 0) c n

/-- RING_RESET_DONE: the rest of the ring is flushed as completion slots allow; once that is done and every issued operation has ended,
`RESET_BUSY` clears. -/
def State.ringResetDone (s : State) (c : Nat) : State :=
  if !(s.port c).resetBusy then s
  else
    let s := s.flushSlots c 256
    let p := s.port c
    if s.queued c = 0 ∧ p.descHead = p.resetEnd then s.setPort c { p with resetBusy := false } else s

/-- A region reset ends a port's rings without completions; operations in flight are abandoned (R215, R221). -/
def State.dropPort (s : State) (c : Nat) : State :=
  let s := (List.range 32).foldl (fun s l =>
    let u := s.lun c l
    let s := (u.ops.filter fun o => o.started).foldl (fun s o => s.spoilOp c o) s
    let s := match u.erase with
      | some r => s.spoil c r.op.desc
      | none => s
    s.setLun c l { Lun.init with
      retired := u.retired
      faultTimes := u.faultTimes
      unobserved := u.unobserved || u.erase.isSome || u.ops.any (fun o => o.started) }) s
  let p := s.port c
  s.setPort c { Port.init with
    claim := p.claim, chownI := p.chownI, trained := p.trained, retraining := p.retraining, trainedTemp := p.trainedTemp
    proxied := p.proxied, byTwin := p.byTwin }

/-! ### Port registers (R193 to R195) -/

/-- Whether a LUN runs an operation. -/
def Lun.busy (u : Lun) : Bool :=
  (u.state != .idle && u.state != .suspended) || u.recovering.isSome || u.ops.any fun o => o.started && !o.isRead

/-- A port register read, 4 bytes at an offset (R193). -/
def State.portReg (s : State) (c off : Nat) : Nat :=
  let p := s.port c
  let lunBits (f : Lun → Bool) : Nat := sumOf (fun l => if f (s.lun c l) then 2 ^ l else 0) (List.range 32)
  match off with
  | 0x00 => b2n p.enable + 2 * b2n p.resetBusy + 4 * b2n p.eventEn + 8 * b2n p.inputYield
  | 0x04 => b2n p.enable + 2 * b2n p.owned + 4 * b2n p.trained + 8 * b2n p.resetBusy + 16 * b2n p.ringError
      + 2 ^ 16 * min (s.queued c) 255
  | 0x08 => p.descBase % 2 ^ 32
  | 0x0C => p.descBase / 2 ^ 32
  | 0x10 => p.descTail
  | 0x14 => p.descHead
  | 0x18 => p.cplBase % 2 ^ 32
  | 0x1C => p.cplBase / 2 ^ 32
  | 0x20 => p.cplTail + 256 * b2n p.cplPhase
  | 0x24 => p.cplHead
  | 0x28 => lunBits Lun.busy
  | 0x2C => lunBits fun u => u.state == .suspended || u.state == .suspRead || u.state == .suspProgram
  | 0x30 => p.doorbellIgnored.toNat
  | _ => 0

/-- Half of a 48-bit base register written. -/
def setHalf (old off v : Nat) : Nat :=
  if off = 0 then old / 2 ^ 32 * 2 ^ 32 + v % 2 ^ 32 else (v % 2 ^ 16) * 2 ^ 32 + old % 2 ^ 32

/-- A port register written, 4 bytes at an offset (R193, R194, R196). -/
def State.setPortReg (s : State) (c off v : Nat) : State :=
  let p := s.port c
  let free := !p.enable && s.queued c == 0
  match off with
  | 0x00 =>
    let s := s.setPort c { p with eventEn := bit v 2, inputYield := bit v 3 }
    let s := if bit v 0 && !p.enable then s.portEnable c else if !bit v 0 then s.portDisable c else s
    if bit v 1 then s.ringReset c else s
  | 0x08 => if free then s.setPort c { p with descBase := setHalf p.descBase 0 v } else s
  | 0x0C => if free then s.setPort c { p with descBase := setHalf p.descBase 4 v } else s
  | 0x10 => s.mediaDoorbell c v
  | 0x18 => if free then s.setPort c { p with cplBase := setHalf p.cplBase 0 v } else s
  | 0x1C => if free then s.setPort c { p with cplBase := setHalf p.cplBase 4 v } else s
  | 0x24 => s.setPort c { p with cplHead := v % 256 }
  | _ => s

end Sys2Proof.Machine
end

