-- ==== Sys2Proof/Machine/Journal.lean ====
section
/-! DEFINITION. Map entries and journal records as bits, the journal of a set, shipping to the twin, and the application of
records to a map (R252 to R256, R279 to R281, R333, 08_translation.md and 10_twin.md). -/
namespace Sys2Proof.Machine

/-- The map entry of a unit that was never written (R253). -/
def MapEntry.unmapped : MapEntry := ⟨0, 0, 0, 0, 0⟩

/-- An entry as its 64 bits (R253). -/
def MapEntry.bits (e : MapEntry) : Nat :=
  e.state * 2 ^ 62 + e.len * 2 ^ 56 + e.off * 2 ^ 50 + e.gen * 2 ^ 40 + e.ppn

/-- The entry 64 bits spell. -/
def MapEntry.ofBits (n : Nat) : MapEntry :=
  ⟨Machine.bits n 62 2, Machine.bits n 56 6, Machine.bits n 50 6, Machine.bits n 40 8, Machine.bits n 0 40⟩

/-- The slots a mapped unit takes: `LEN` 0 means 64. -/
def MapEntry.slots (e : MapEntry) : Nat := if e.len = 0 then 64 else e.len

/-- The key of a map unit. -/
def unitKey (nsid unit : Nat) : Nat := nsid * 2 ^ 56 + unit

/-- A set's entry of a unit. -/
def XSet.entry (x : XSet) (nsid unit : Nat) : MapEntry := Tab.get x.map MapEntry.unmapped (unitKey nsid unit)

/-- A set's entry written. -/
def XSet.setEntry (x : XSet) (nsid unit : Nat) (e : MapEntry) : XSet :=
  { x with map := Tab.set x.map MapEntry.unmapped (unitKey nsid unit) e }

/-- The 1 MiB map segment of a unit: 131,072 entries (R282). -/
def segmentOf (nsid unit : Nat) : Nat := unitKey nsid unit / 131072

/-- A furrow's code in a record (R270): its state's number. -/
def FurrowState.code : FurrowState → Nat
  | .fallow => 0
  | .sowing => 1
  | .full => 2
  | .gleaning => 3
  | .reclaimable => 4
  | .erasing => 5

/-- The state a code names. -/
def furrowStateOf : Nat → FurrowState
  | 1 => .sowing
  | 2 => .full
  | 3 => .gleaning
  | 4 => .reclaimable
  | 5 => .erasing
  | _ => .fallow

/-- `TYPE`, `A`, `B` and `C` of a record (R279). -/
def JBody.fields : JBody → Nat × Nat × Nat × Nat
  | .unitMap n u e => (0x01, n, u, e.bits)
  | .dealloc n f c => (0x02, n, f, c)
  | .furrowOpen f col block planes lay er => (0x10, f, col + block * 2 ^ 4 + planes * 2 ^ 18 + b2n lay * 2 ^ 26, er)
  | .rowConfirmed f w cols => (0x11, f, w, cols)
  | .furrowState f st t => (0x12, f, st.code, t.toNat)
  | .blockBad w c e => (0x20, w, c, e)
  | .lunRetired c l k => (0x21, c * 32 + l, k, 0)
  | .checkpoint e n st => (0x30, b2n e, n, st)
  | .readOnly b => (0x40, b2n b, 0, 0)

/-- The body `TYPE`, `A`, `B` and `C` spell. -/
def JBody.ofFields (t a b c : Nat) : Option JBody :=
  match t with
  | 0x01 => some (.unitMap a b (MapEntry.ofBits c))
  | 0x02 => some (.dealloc a b c)
  | 0x10 => some (.furrowOpen a (bits b 0 4) (bits b 4 14) (bits b 18 8) (bit b 26) c)
  | 0x11 => some (.rowConfirmed a b c)
  | 0x12 => some (.furrowState a (furrowStateOf b) (BitVec.ofNat 64 c))
  | 0x20 => some (.blockBad a b c)
  | 0x21 => some (.lunRetired (a / 32) (a % 32) b)
  | 0x30 => some (.checkpoint (a == 1) b c)
  | 0x40 => some (.readOnly (a == 1))
  | _ => none

/-- The 32 bytes of a record (R279). -/
def JRec.bytes (r : JRec) : List Byte :=
  let f := r.body.fields
  let b := [BitVec.ofNat 8 f.1, BitVec.ofNat 8 (b2n r.last + 2 * b2n r.move), 0, 0] ++ leBytes 4 f.2.1 ++ leBytes 8 f.2.2.1 ++
    leBytes 8 f.2.2.2 ++ leBytes 4 r.seq
  b ++ leBytes 4 (crc32c b)

/-- The record 32 bytes spell under a sequence, if its CRC matches. -/
def JRec.ofBytes (seq : Nat) (b : List Byte) : Option JRec :=
  if ofLe (slice b 28 4) = crc32c (slice b 0 28) then
    (JBody.ofFields (byteAt b 0).toNat (ofLe (slice b 4 4)) (ofLe (slice b 8 8)) (ofLe (slice b 16 8))).map fun y =>
      ⟨seq, bit (byteAt b 1).toNat 0, bit (byteAt b 1).toNat 1, y⟩
  else none

/-! ### Records applied to a set (R282, R284, R332, R333) -/

/-- A furrow newly opened, before its columns are listed. -/
def Furrow.opened (id : Nat) (layout15 : Bool) : Furrow where
  id := id
  group := id / 2 ^ 26
  layout15 := layout15
  cols := []
  state := .sowing
  region := 0
  nextRow := 0
  confirmed := 0
  fullAt := 0
  eraseLeft := []
  eraseFailed := []
  noErase := []
  refresh := false
  carry := 0
  movedAt := 0

/-- A furrow of a set changed. -/
def XSet.onFurrow (x : XSet) (id : Nat) (f : Furrow → Furrow) : XSet :=
  { x with furrows := updateIf (fun y => y.id == id) f x.furrows }

/-- A furrow of a set. -/
def XSet.furrow (x : XSet) (id : Nat) : Option Furrow := x.furrows.find? fun f => f.id == id

/-- The channel of column `col` of stripe group `g` of set `x`: sets are the even and the odd channels; in single topology
the one set holds groups 0–31 on the even and 32–63 on the odd channels (R261, log 15). -/
def columnChannel (twin : Bool) (x g col : Nat) : Nat := 2 * col + (if twin then x else g / 32)

/-- One record applied: an entry is replaced whole; a deallocation clears a run of units; furrow records follow R270. -/
def XSet.apply (twin : Bool) (xi : Nat) (x : XSet) (r : JRec) : XSet :=
  let x := { x with seq := max x.seq r.seq }
  match r.body with
  | .unitMap n u e => x.setEntry n u e
  | .dealloc n first count =>
    (List.range count).foldl (fun x i =>
      let e := x.entry n (first + i)
      x.setEntry n (first + i) ⟨0, 0, 0, (e.gen + 1) % 256, 0⟩) x
  | .furrowOpen id col block planes lay er =>
    let g := id / 2 ^ 26
    let k : FCol := ⟨col, columnChannel twin xi g col, g % 32, block, planes, er, false⟩
    let x := if (x.furrow id).isNone then { x with furrows := x.furrows ++ [Furrow.opened id lay] } else x
    let x := { x with openings := Tab.put x.openings g (id % 2 ^ 26 + 1) }
    x.onFurrow id fun f => { f with cols := f.cols.filter (fun c => c.col != col) ++ [k] }
  | .rowConfirmed id w _ => x.onFurrow id fun f => { f with confirmed := w + 1, nextRow := max f.nextRow (w + 1) }
  | .furrowState id st t =>
    if st == .fallow then { x with furrows := x.furrows.filter fun f => f.id != id }
    else x.onFurrow id fun f => { f with state := st, fullAt := if st == .full then t else f.fullAt }
  | .blockBad .. | .lunRetired .. | .checkpoint .. | .readOnly .. => x

/-- Complete groups at the front of a list of records: replay applies a group whole or not at all (R280, R284). -/
def wholeGroups (l : List JRec) : List JRec := (l.reverse.dropWhile fun r => !r.last).reverse

/-! ### The journal of a live set (R279 to R281, R333) -/

/-- Set `i` changed. -/
def State.onSet (s : State) (i : Fin 2) (f : XSet → XSet) : State := { s with sets := s.sets.set i (f s.sets[i]) }

/-- Set `i`. -/
def State.xset (s : State) (i : Fin 2) : XSet := s.sets[i]

/-- Whether records of a set are shipped: the pair is together and the twin has asked from where (R333, R334). -/
def State.shipping (s : State) (i : Fin 2) : Bool :=
  s.twin.session && (s.twin.resyncStart[i]).isSome && (s.xset i).live &&
    (match s.twin.pair with
     | .resync | .inStep | .failback => true
     | _ => false) &&
    s.hold.flush.isNone

/-- Up to seven records in a `JOURNAL_RECORDS` frame (R333). -/
def journalFrame (i : Fin 2) (l : List JRec) : List Byte :=
  [BitVec.ofNat 8 i.val, BitVec.ofNat 8 l.length, 0, 0] ++ leBytes 8 ((l.head?.map (·.seq)).getD 0) ++ l.flatMap JRec.bytes

/-- Records shipped in sequence order, seven to a frame. -/
def State.ship (i : Fin 2) : Nat → State → List JRec → State
  | 0, s, _ => s
  | n + 1, s, l =>
    if l.isEmpty then s
    else
      let s := s.strait 3 0x00 (journalFrame i (l.take 7))
      let s := { s with twin.shippedTo := s.twin.shippedTo.set i ((((l.take 7).getLast?).map (·.seq)).getD 0) }
      State.ship i n s (l.drop 7)

/-- A record group written to the journal of a set and, when the pair is together, shipped. -/
def State.journal (s : State) (i : Fin 2) (move : Bool) (bodies : List JBody) : State :=
  let x := s.xset i
  let n := bodies.length
  let recs := (List.range n).zip bodies |>.map fun p => (⟨x.seq + 1 + p.1, p.1 + 1 == n, move, p.2⟩ : JRec)
  let s := s.onSet i fun x => { x with seq := x.seq + n, dram := x.dram ++ recs }
  if s.shipping i then State.ship i n s recs else s

/-- Whether mirroring is on (R330). -/
def State.mirroring (s : State) : Bool := s.twin.mirrorOn && s.flag 0x8010 5

/-- The durable sequence of a set (R281). -/
def State.durable (s : State) (i : Fin 2) : Nat :=
  let x := s.xset i
  if s.mirroring then min x.programmed x.twinAck else x.programmed

/-- The set that holds a namespace's group. -/
def setOfGroup (group : Nat) : Fin 2 := if group = 2 then 1 else 0

/-- Whether the package is in twin topology (the strap of R568). -/
def State.isTwin (s : State) : Bool := s.pkg.straps.twin

end Sys2Proof.Machine
end

