-- ==== Sys2Proof/Machine/Xlat.lean ====
section
/-! DEFINITION. The translation layer: capacity, bad blocks, furrows and their rows, sowing, confirmation, the journal pages,
checkpoints, gleaning, refresh, wear and die retirement (R222 to R225, R251 to R294, 08_translation.md). -/
namespace Sys2Proof.Machine

/-! ### The array's division (R223, R262, R267 to R269) -/

/-- Whether a region is online. -/
def State.regionOnline (s : State) (r : Nat) : Bool := (s.pkg.regions[r]?).getD .offline == .online

/-- Whether the firmware can use a channel: it has received it, trained, through an online region, or the twin proxies it (R216, R227). A channel
that trains again stays with the firmware. -/
def State.reachable (s : State) (c : Nat) : Bool :=
  let p := s.port c
  (p.owned && (p.trained || p.retraining) && s.regionOnline (c / 8)) || p.proxied

/-- Whether the geometry has a LUN at 4 × CE + LUN. -/
def State.hasLun (s : State) (l : Nat) : Bool := decide (l / 4 < s.geom 3) && decide (l % 4 < s.geom 4)

/-- The dies of a channel that are not retired. -/
def State.diesOf (s : State) (c : Nat) : List Nat :=
  (List.range 32).filter fun l => s.hasLun l && !(s.lun c l).retired

/-- Whether a block is in the bad-block table. -/
def State.isBad (s : State) (c l plane block : Nat) : Bool :=
  s.flash.bad.any fun b => b.channel == c && b.lun == l && b.plane == plane && b.block == block && b.cause != 5

/-- A LUN's system block: the first block of plane 0 that is not factory bad (R223). -/
def State.systemBlock (s : State) (c l : Nat) : Nat :=
  ((List.range s.blocks).find? fun b => !s.flash.factoryBad.contains (blockKey c l 0 b)).getD 0

/-- Table blocks of a die: only a channel with fewer than three LUNs has them, on LUN 0 of CE 0 (R223). -/
def State.tableBlocks (s : State) (c l : Nat) : List Nat :=
  let luns := s.geom 3 * s.geom 4
  if luns < 3 ∧ l = 0 then
    (((List.range s.blocks).filter fun b =>
      b != s.systemBlock c 0 && !s.flash.factoryBad.contains (blockKey c 0 0 b)).take (3 - luns))
  else []

/-- The block numbers of the system furrows: the first ones after the system and table blocks (log 16). -/
def State.systemFurrowBlocks (s : State) (c l : Nat) : List Nat :=
  ((List.range s.blocks).filter fun b =>
    b != s.systemBlock c l && !(s.tableBlocks c l).contains b).take (s.force 0x6000 5)

/-- Whether a block number of a die may join a furrow. -/
def State.dataBlock (s : State) (c l block : Nat) : Bool :=
  block != s.systemBlock c l && !(s.tableBlocks c l).contains block && !(s.systemFurrowBlocks c l).contains block

/-- The plane mask of a plane set: its good blocks (R262). -/
def State.planeMask (s : State) (c l block : Nat) : Nat :=
  sumOf (fun p => if s.isBad c l p block then 0 else 2 ^ p) (List.range s.planes)

/-- Blocks of a die. -/
def State.dieBlocks (s : State) : Nat := s.planes * s.blocks

/-- Blocks of a die kept from data: the system plane set with the table blocks' sets, and the system furrows'. -/
def State.systemBlocks (s : State) (c l : Nat) : Nat :=
  s.planes * (1 + (s.tableBlocks c l).length + s.force 0x6000 5)

/-- Data blocks of a die at first initialization (R267). -/
def State.dataBlocks (s : State) (c l : Nat) : Nat :=
  s.dieBlocks - s.systemBlocks c l - ceilDiv (s.force 0x6000 3 * s.dieBlocks) 1000

/-- Good blocks of a die. -/
def State.goodBlocks (s : State) (c l : Nat) : Nat :=
  s.dieBlocks - (s.flash.bad.filter fun b => b.channel == c && b.lun == l && b.cause != 5).length

/-- The headland of a die, 0 when spent (R269); a retired die has none and takes its data blocks away (R291). -/
def State.dieHeadland (s : State) (c l : Nat) : Nat :=
  s.goodBlocks c l - s.systemBlocks c l - s.dataBlocks c l

/-- The channels this package owns. -/
def State.ownedChannels (s : State) : List Nat :=
  (List.range 32).filter fun c => (s.port c).owned || (s.port c).proxied

/-- The package headland (R269, R291 step 4). -/
def State.headland (s : State) : Nat :=
  let all := sumOf (fun c => sumOf (s.dieHeadland c) (s.diesOf c)) s.ownedChannels
  let lost := sumOf (fun c => sumOf (fun l => if (s.lun c l).retired && s.hasLun l then s.dataBlocks c l else 0)
    (List.range 32)) s.ownedChannels
  all - lost

/-- The usable capacity of this Isle in bytes, from the good blocks that remain, in whole map units (R267, R293). -/
def State.usableBytes (s : State) : Nat :=
  let blocks := sumOf (fun c => sumOf (fun l => min (s.dataBlocks c l) (s.goodBlocks c l - s.systemBlocks c l))
    (s.diesOf c)) s.ownedChannels
  let cols := if s.val 0x6000 2 = 1 then 15 else 14
  blocks * s.pages * 16384 * cols * (1000 - s.force 0x6000 4) / 16000 / 16384 * 16384

/-! ### Bad blocks (R222, R224) -/

/-- A block word. -/
def BadBlock.word (b : BadBlock) : Nat := b.channel * 2 ^ 27 + b.lun * 2 ^ 22 + b.plane * 2 ^ 19 + b.block * 2 ^ 5 + b.cause * 2 ^ 2

/-- An entry by its block word, erase count and sequence. -/
def BadBlock.ofWord (w erases seq : Nat) : BadBlock := ⟨bits w 27 5, bits w 22 5, bits w 19 3, bits w 5 14, bits w 2 3, erases, seq⟩

/-- An entry's 16 bytes. -/
def BadBlock.bytes (b : BadBlock) : List Byte := leBytes 4 b.word ++ leBytes 4 b.erases ++ leBytes 8 b.seq

/-- Whether two entries are for the same block, or the same LUN. -/
def BadBlock.same (a b : BadBlock) : Bool :=
  a.channel == b.channel && a.lun == b.lun && a.plane == b.plane && a.block == b.block && (a.cause == 5) == (b.cause == 5)

/-- A channel's bad-block table. -/
def State.badTable (s : State) (c : Nat) : List Byte :=
  let entries := (s.flash.bad.filter fun b => b.channel == c).flatMap BadBlock.bytes
  leBytes 4 0x48424C44 ++ leBytes 2 1 ++ leBytes 2 c ++ leBytes 8 (Tab.get s.flash.badSeq 0 c) ++ leBytes 4 (entries.length / 16) ++
    sha256 entries ++ List.replicate 12 0 ++ entries

/-- The sequence and the entries of a copy of a channel's table whose digest verifies. -/
def parseTable (c : Nat) (l : List Byte) : Option (Nat × List BadBlock) :=
  let f (i n : Nat) : Nat := ofLe (slice l i n)
  let n := f 16 4
  if f 0 4 = 0x48424C44 ∧ f 4 2 = 1 ∧ f 6 2 = c ∧ 64 + 16 * n ≤ l.length ∧ slice l 20 32 = sha256 (slice l 64 (16 * n)) then
    some (f 8 8, (List.range n).map fun k => BadBlock.ofWord (f (64 + 16 * k) 4) (f (68 + 16 * k) 4) (f (72 + 16 * k) 8))
  else none

/-- The copy of a channel's table that verifies with the highest sequence: of those this package last wrote, and those read where the twin
has written since. -/
def State.bestTable (s : State) (c : Nat) (read : List (List Byte)) : Option (List Byte × Nat × List BadBlock) :=
  let l := ((List.range 3).filterMap fun k => Tab.find s.flash.tables (4 * c + k)) ++ read
  l.foldl (fun (o : Option (List Byte × Nat × List BadBlock)) b =>
    match parseTable c b, o with
    | none, o => o
    | some x, none => some (b, x)
    | some x, some y => if y.2.1 < x.1 then some (b, x) else some y) none

/-- The three copies of a channel's table written with the same bytes. -/
def State.putTables (s : State) (c : Nat) (b : List Byte) : State :=
  let l := (List.range 3).foldl (fun (t : Tab (List Byte)) k => Tab.put t (4 * c + k) b) s.flash.tables
  { s with flash.tables := l, flash.tableNext := Tab.erase s.flash.tableNext c }

/-- A channel's table read at start-up or at a claim: the best copy joins what is known, and the other copies are rewritten from it; with
none that verifies they are rebuilt from the compact copy (R224, R225, log 146). -/
def State.readTable (s : State) (c : Nat) (read : List (List Byte)) : State :=
  match s.bestTable c read with
  | some (b, seq, l) =>
    let known := s.flash.bad.filter fun x => !l.any fun y => y.same x
    let marks := (l.filter fun x => x.cause == 1).map fun x => blockKey x.channel x.lun x.plane x.block
    ({ s with
      flash.bad := known ++ l, flash.badSeq := Tab.put s.flash.badSeq c (max seq (Tab.get s.flash.badSeq 0 c))
      flash.factoryBad := s.flash.factoryBad ++ marks.filter fun k => !s.flash.factoryBad.contains k }).putTables c b
  | none =>
    if s.flash.bad.any fun x => x.channel == c then
      let s := { s with flash.badSeq := Tab.put s.flash.badSeq c (Tab.get s.flash.badSeq 0 c + 1) }
      s.putTables c (s.badTable c)
    else s

/-- The compact copy follows the grown entries of the owned channels; entries past its 12,272 are kept in flash alone, and `COMPACT_FULL`
says so. Words that no longer stand cost an erase of the copy's sectors (R225, R231, log 147). -/
def State.compactCheck (s : State) : State :=
  let grown := s.flash.bad.filter fun b => decide (2 ≤ b.cause) && (s.port b.channel).owned
  let l := (grown.map BadBlock.word).take 12272
  let s := { s with
    cs.compact := l, cs.compactErases := s.cs.compactErases + (if l.take s.cs.compact.length = s.cs.compact then 0 else 1) }
  if grown.length ≤ 12272 || s.flag 0x5030 3 then s else s.setKept 0x5030 3 1

/-- The grown bad blocks a package knows at start-up, before it has read its tables (R225). -/
def Flash.fromCompact (f : Flash) (l : List Nat) : Flash :=
  { f with tableNext := [], bad := l.map fun w => BadBlock.ofWord w (Tab.get f.erases 0 (blockKey (bits w 27 5) (bits w 22 5) (bits w 19 3) (bits w 5 14))) 0 }

/-- A block entered in its channel's table, its write-pointer entry bad, and the change journaled in the set it serves. -/
def State.markBad (s : State) (i : Fin 2) (c l plane block cause : Nat) : State :=
  let k := blockKey c l plane block
  if s.isBad c l plane block then s
  else
    let e := Tab.get s.flash.erases 0 k
    let entry : BadBlock := ⟨c, l, plane, block, cause, e, Tab.get s.flash.badSeq 0 c + 1⟩
    let s := { s with flash.bad := s.flash.bad ++ [entry] }.compactCheck
    let s := s.setWp k ⟨.bad, 0⟩
    if (s.xset i).live then s.journal i false [.blockBad entry.word cause e] else s

/-- The set a channel belongs to. -/
def State.setOfChannel (s : State) (c : Nat) : Fin 2 := if s.isTwin && c % 2 = 1 then 1 else 0

/-- BAD_BLOCK_TABLE_REWRITE: the next copy of a channel's table is written; the first of the three takes the table as it stands under a new
sequence, and the others follow it in turn (R224). -/
def State.rewriteTable (s : State) (c : Nat) : State :=
  let k := Tab.get s.flash.tableNext 0 c
  if !(s.port c).owned then s
  else
    let s := if k = 0 then { s with flash.badSeq := Tab.put s.flash.badSeq c (Tab.get s.flash.badSeq 0 c + 1) } else s
    let b := if k = 0 then s.badTable c else (Tab.find s.flash.tables (4 * c)).getD []
    { s with flash.tables := Tab.put s.flash.tables (4 * c + k) b, flash.tableNext := Tab.set s.flash.tableNext 0 c ((k + 1) % 3) }

/-! ### Furrows (R261 to R266, R270 to R272) -/

/-- The channel of a column of a group of a set. -/
def State.colChannel (s : State) (i : Fin 2) (g col : Nat) : Nat := columnChannel s.isTwin i.val g col

/-- The columns of a group that can be sown: reachable channels and dies not retired (R263, R274, R291). -/
def State.groupCols (s : State) (i : Fin 2) (g : Nat) : List Nat :=
  (List.range 16).filter fun col =>
    let c := s.colChannel i g col
    s.reachable c && s.hasLun (g % 32) && !(s.lun c (g % 32)).retired

/-- Whether a plane set is in a furrow of a set. -/
def XSet.uses (x : XSet) (c l block : Nat) : Bool := x.furrows.any fun f => f.holds c l block

/-- A plane set's erase count: the highest of its blocks (R290). -/
def State.planeSetErases (s : State) (c l block : Nat) : Nat :=
  (List.range s.planes).foldl (fun m p => max m (Tab.get s.flash.erases 0 (blockKey c l p block))) 0

/-- The fallow plane sets of a column, by block number; never more than the division of R267 leaves. -/
def State.fallowSets (s : State) (i : Fin 2) (g col : Nat) : List Nat :=
  let c := s.colChannel i g col
  let l := g % 32
  let x := s.xset i
  let used := (x.furrows.filter fun f => f.group == g && f.cols.any (fun k => k.col == col)).length
  let free := (List.range s.blocks).filter fun b =>
    s.dataBlock c l b && s.planeMask c l b != 0 && !x.uses c l b
  free.take (s.dataBlocks c l / s.planes - used)

/-- Fallow furrows of a group: as many as its poorest column has plane sets. -/
def State.fallowOf (s : State) (i : Fin 2) (g : Nat) : Nat :=
  let cols := s.groupCols i g
  if cols.length < 10 then 0
  else (cols.map fun col => (s.fallowSets i g col).length).foldl min s.blocks

/-- The stripe groups of a set: 32 in twin topology, 64 in single (R261). -/
def State.groups (s : State) : List Nat :=
  (List.range (if s.isTwin then 32 else 64)).filter fun g => s.hasLun (g % 32)

/-- Fallow furrows of a set, reserve included. -/
def State.fallow (s : State) (i : Fin 2) : Nat := sumOf (s.fallowOf i) s.groups

/-- Pages of one block and column that hold data in a furrow, in bytes: its data capacity (R266). -/
def State.furrowBytes (s : State) (layout15 : Bool) : Nat :=
  s.pages * s.planes * 16384 * (if layout15 then 15 else 14)

/-- The flush reserve in furrows (R272). -/
def State.flushReserve (s : State) (ceiling : Nat) : Nat :=
  ceilDiv ceiling (max 1 (s.furrowBytes (s.val 0x6000 2 == 1))) + 1

/-- Whether a furrow may open now: the reserve opens only in a flush or a takeover's replay (R272, R340 step 8). -/
def State.mayOpen (s : State) (i : Fin 2) : Bool :=
  s.hold.flush.isSome || s.twin.takeover.isSome || decide (s.flushReserve s.hold.ceiling < s.fallow i)

/-- The best plane set of a column: the lowest erase count, or the highest in a static swap (R271, R290). -/
def State.pickSet (s : State) (i : Fin 2) (g col : Nat) (highest : Bool) : Option Nat :=
  let c := s.colChannel i g col
  let count (b : Nat) := s.planeSetErases c (g % 32) b
  (s.fallowSets i g col).foldl (fun best b =>
    match best with
    | none => some b
    | some q => if (if highest then count b > count q else count b < count q) then some b else best) none

/-- The highest erase count among the fallow plane sets of a group. -/
def State.mostWorn (s : State) (i : Fin 2) (g : Nat) : Nat :=
  (s.groupCols i g).foldl (fun m col =>
    (s.fallowSets i g col).foldl (fun m b => max m (s.planeSetErases (s.colChannel i g col) (g % 32) b)) m) 0

/-- Whether a group's next furrow is the one of a static swap that has none yet: no group has a more worn plane set fallow (R290). -/
def State.swapGroup (s : State) (i : Fin 2) (g : Nat) : Bool :=
  (match (s.xset i).swapRunning with
   | some (_, none) => true
   | _ => false) && s.groups.all fun h => decide (s.mostWorn i h ≤ s.mostWorn i g)

/-- The next online region in rotation (R25, R271). -/
def State.rotate (s : State) (i : Fin 2) : Option Nat :=
  let n := (s.xset i).nextRegion
  ((List.range 4).map fun k => (n + k) % 4).find? s.regionOnline

/-- FURROW_OPEN: a furrow of a group opened and journaled, one record for each column (R271, R280). -/
def State.openFurrow (s : State) (i : Fin 2) (g : Nat) : State :=
  let x := s.xset i
  let cols := s.groupCols i g
  match s.rotate i with
  | none => s
  | some r =>
    if cols.length < 10 || s.fallowOf i g == 0 || !s.mayOpen i then s
    else
      let swap := s.swapGroup i g
      let n := Tab.get x.openings 0 g
      let id := g * 2 ^ 26 + n % 2 ^ 26
      let lay := s.val 0x6000 2 == 1
      let picks : List FCol := cols.filterMap fun col =>
        (s.pickSet i g col swap).map fun b =>
          let c := s.colChannel i g col
          ⟨col, c, g % 32, b, s.planeMask c (g % 32) b, s.planeSetErases c (g % 32) b, false⟩
      let s := s.onSet i fun x => { x with
        furrows := x.furrows ++ [{ Furrow.opened id lay with cols := picks, region := r }]
        openings := Tab.put x.openings g (n + 1)
        nextRegion := (r + 1) % 4
        swapRunning := if swap then x.swapRunning.map fun p => (p.1, some id) else x.swapRunning }
      s.journal i false (picks.map fun k => .furrowOpen id k.col k.block k.planes lay k.erases)

/-- Whether so many dies of a group are out that it opens no further furrows and its data is gleaned out (R291). -/
def State.spentGroup (s : State) (i : Fin 2) (g : Nat) : Bool :=
  decide (((List.range 16).filter fun col => s.hasLun (g % 32) && !(s.lun (s.colChannel i g col) (g % 32)).retired).length < 10)

/-- A furrow's state changed and journaled (R270); a `FULL` furrow of a group that is gleaned out is next for that (R291). -/
def State.setFurrowState (s : State) (i : Fin 2) (id : Nat) (st : FurrowState) : State :=
  let s := s.onSet i fun x => x.onFurrow id fun f =>
    { f with state := st, fullAt := if st == .full then s.pkg.timebase else f.fullAt }
  let s := if st == .full && s.spentGroup i (id / 2 ^ 26) then s.onSet i fun x => { x with refreshes := x.refreshes ++ [2 ^ 40 + id] } else s
  s.journal i false [.furrowState id st s.pkg.timebase]

/-- The columns of a furrow that a row programs, in the order of R276: from the first parity column of the row. -/
def State.rowCols (s : State) (f : Furrow) (w : Nat) : List Nat :=
  let cols := f.cols.filter fun k => !k.gone && !(s.lun k.channel k.lun).retired
  cyclicFrom cols (((parityCols f cols w).head?).getD 0) 16

/-- Wordlines of a block. -/
def State.wordlines (s : State) : Nat := s.pages / max 1 s.bitsPerCell

/-! ### Stored units (R257 to R260) -/

/-- Host metadata bytes of a map unit: 8 or 16 for each LBA by format (R109, R258). -/
def Namespace.unitMeta (n : Namespace) : Nat :=
  match n.lbaf with
  | 1 => 32
  | 2 => 64
  | _ => 0

/-- The plaintext of a unit: its 16,384 data bytes, then its host metadata. -/
def unitBytes (lbas : List Lba) (metaLen : Nat) : List Byte :=
  (List.range 4).flatMap (fun i => padTo 4096 (((lbas[i]?).getD ⟨[], []⟩).data)) ++
  (List.range 4).flatMap fun i => padTo (metaLen / 4) (((lbas[i]?).getD ⟨[], []⟩).info)

/-- The parameters of the storage contexts: level 1; the format and the window are free values (R260, R453, log 6). -/
def storageParams : Nat :=
  2 ^ 16 * b2n Config.storageFormat.1 + 2 ^ 24 + 2 ^ 32 * (10 + Config.storageFormat.2 % 14) + 2 ^ 64 * (2 ^ 64 - 1)

/-- The frame of a unit's bytes, filled up to whole blocks of 16 bytes (R258, R453). -/
def unitFrame (plain : List Byte) : List Byte :=
  let l := (Config.codec storageParams [(plain, 2)]).out
  padTo ((l.length + 15) / 16 * 16) l

/-- The stored form of a unit (R257 to R260): compressed when 32 + `FRAME_LEN` is at most 16,128, else raw; encrypted under the namespace data
key with the tweak of the unit, and `CHECK` with that of the field (R475). -/
def State.storeUnit (s : State) (nsid unit gen metaLen : Nat) (lbas : List Lba) (poison : Bool) : StoredUnit :=
  let plain := unitBytes lbas metaLen
  let frame := unitFrame plain
  let raw := decide (16128 < 32 + frame.length)
  let len := if raw then 0 else frame.length
  let key := (s.keySlot (3071 + nsid)).key
  let tweak := unit + 2 ^ 64 * nsid
  let clear := [BitVec.ofNat 8 (if raw then 2 else 1), BitVec.ofNat 8 gen] ++ leBytes 2 len ++ leBytes 4 nsid
  let check := xts true key (tweak + 2 ^ 127) (leBytes 8 (crc64 (plain.take 16384)) ++ clear)
  { nsid := nsid, unit := unit, gen := gen, lbas := lbas, poison := poison, raw := raw
    slots := if raw then 64 else ceilDiv (32 + len) 256
    header := clear ++ leBytes 7 unit ++ check ++ [0]
    body := xts true key tweak (if raw then plain.take 16384 else frame)
    info := plain.drop 16384 }

/-- The entry of a stored unit at a slot (R253). -/
def entryFor (u : StoredUnit) (ppn off : Nat) : MapEntry :=
  ⟨if u.raw then 1 else 2, if u.raw then 0 else u.slots, off, u.gen, ppn⟩

/-- Where stored units lie on flash: by page and slot. -/
def flashKey (e : MapEntry) : Nat := e.ppn * 64 + e.off

/-- The stored unit an entry points to. -/
def State.storedAt (s : State) (e : MapEntry) : Option StoredUnit := Tab.find s.flash.units (flashKey e)

/-- The namespace of an identifier. -/
def State.namespace? (s : State) (nsid : Nat) : Option Namespace := s.nvme.namespaces.find? fun n => n.nsid == nsid

/-- The newest dirty version of a unit. -/
def State.dirtyUnit (s : State) (nsid unit : Nat) : Option DirtyUnit :=
  (s.hold.dirty.reverse).find? fun d => d.nsid == nsid && d.unit == unit && !d.superseded

/-- The generation a unit's contents now carry: that of its newest dirty version, else its entry's. -/
def State.genOf (s : State) (i : Fin 2) (nsid unit : Nat) : Nat :=
  match s.dirtyUnit nsid unit with
  | some d => d.gen
  | none => ((s.xset i).entry nsid unit).gen

/-! ### Posting media work (R161, R273, R276) -/

/-- The bytes of a descriptor, with a transfer number in place of its buffers (R199, R345). -/
def MDesc.frame (d : MDesc) (transfer : Nat) : List Byte :=
  let code := match d.opcode with
    | .read => 0x01
    | .readCont => 0x02
    | .program => 0x10
    | .erase => 0x20
    | .getFeatures => 0x30
    | .setFeatures => 0x31
    | .readStatus => 0x40
    | .resetLun => 0x50
    | .raw => 0xF0
  leBytes 4 (code + b2n d.event * 2 ^ 9 + d.softLimit * 2 ^ 10 + d.cls * 2 ^ 16) ++
  leBytes 4 (d.tag + (d.lun / 4) * 2 ^ 16 + (d.lun % 4) * 2 ^ 19 + d.planes * 2 ^ 24) ++
  leBytes 4 (d.page + d.block * 2 ^ 16) ++
  leBytes 4 (d.cwMask + d.count * 2 ^ 8 + d.retry * 2 ^ 16) ++
  leBytes 8 transfer ++ leBytes 8 (if d.opcode == .getFeatures || d.opcode == .setFeatures then d.param else 0)

/-- `MEDIA_DATA` frames of a stream from an offset, 224 bytes to a frame (R345). -/
def State.sendMedia (t stream : Nat) (poison : Bool) : Nat → State → Nat → List Byte → State
  | 0, s, _, _ => s
  | n + 1, s, off, l =>
    if l.isEmpty then s
    else
      let p := l.take 224
      let f := leBytes 4 t ++ [BitVec.ofNat 8 stream, BitVec.ofNat 8 (b2n poison)] ++ leBytes 2 p.length ++
        leBytes 4 off ++ p
      State.sendMedia t stream poison n (s.strait 4 0x11 f) (off + p.length) (l.drop 224)

/-- The data and metadata of a transfer codeword by codeword, so that the frames of a poisoned one, and no others, say so (R345). -/
def State.sendCodewords (s : State) (t : Nat) (data info : List Byte) (bad : Nat → Bool) : State :=
  let s := (List.range (ceilDiv data.length 4096)).foldl (fun (s : State) k =>
    State.sendMedia t 0 (bad k) 19 s (4096 * k) (slice data (4096 * k) (min 4096 (data.length - 4096 * k)))) s
  (List.range (ceilDiv info.length 32)).foldl (fun (s : State) k =>
    State.sendMedia t 1 (bad k) 1 s (32 * k) (slice info (32 * k) (min 32 (info.length - 32 * k)))) s

/-- The codewords of the pages a row's proxied program carries. -/
def State.columnPages (s : State) (c : Nat) (d : MDesc) (o : Origin) : List Codeword :=
  (s.programPages c d).flatMap fun ppn => (List.range 4).map fun k =>
    match o with
    | .row furrow w col => (s.rowPage furrow w col ppn).codeword k
    | _ => ⟨[], [], false⟩

/-- A descriptor of firmware work. -/
def firmwareDesc (op : MOpcode) (cls planes lun block page mask : Nat) : MDesc :=
  ⟨op, cls, 2, false, planes, lun, 0, block, page, 0, 0, mask, 0, 0, 0⟩

/-- Whether a die holds a class-0 charge (R154, R158). -/
def State.charged (s : State) (c l : Nat) : Bool :=
  s.nvme.cmds.any fun k => k.charges.any fun g => g.channel == c && g.lun == l && g.senses != 0

/-- Whether programs posted now keep the rules of strict mode: it is in force, or B of 2 is committed (R157, R158, R160, log 140). -/
def State.strictPosting (s : State) : Bool := !s.nvme.modeOpen || s.val 0x3040 5 == 2

/-- Operations of classes 1 to 4 posted to a LUN, one that runs among them, through its own port or the twin's (R161). -/
def State.postedTo (s : State) (c l : Nat) : Nat :=
  let u := s.lun c l
  (u.ops.filter fun o => o.desc.cls != 0).length + (if u.erase.any fun r => r.op.desc.cls != 0 then 1 else 0) +
    (s.twin.mediaOut.filter fun t => t.channel == c && t.op.desc.lun == l && t.op.desc.cls != 0).length

/-- Whether the firmware may post an operation now: one of classes 1 to 4 while its LUN has fewer than one of them in strict mode, two in
open mode; in strict mode no program to a die that holds a class-0 charge (R158, R161, R299). -/
def State.mayPost (s : State) (c : Nat) (d : MDesc) : Bool :=
  let flush := s.hold.flush.isSome
  d.cls == 0 ||
    (decide (s.postedTo c d.lun < (if s.nvme.modeOpen || flush then 2 else 1)) &&
      !(d.opcode == .program && s.strictPosting && !flush && s.charged c d.lun))

/-- A firmware operation posted to its channel's port, or sent to the twin where that proxies the channel (R343, R345). -/
def State.postNow (s : State) (c : Nat) (d : MDesc) (o : Origin) : State :=
  if (s.port c).proxied && !(s.port c).owned then
    let t := s.twin.nextTransfer
    let op := freshOp s.media.nextId c d o
    let s := { s with
      twin.nextTransfer := (t + 1) % 2 ^ 32
      twin.mediaOut := s.twin.mediaOut ++ [Transfer345.mk t c op [] [] [] 0]
      media.nextId := s.media.nextId + 1 }
    let s := s.strait 4 0x10 ([BitVec.ofNat 8 c, 0, 0, 0] ++ d.frame t)
    if d.opcode == .program then
      let l := s.columnPages c d o
      s.sendCodewords t (l.flatMap fun w => padTo 4096 w.data) (l.flatMap fun w => padTo 31 w.info ++ [BitVec.ofNat 8 (b2n w.poison)])
        fun k => ((l[k]?).map (·.poison)).getD false
    else s
  else s.queueOp c d o

/-- Whether an operation that waits to be posted goes before another of its LUN: classes 1 to 3 go before class 4 (R131). -/
def backlogBefore (c : Nat) (d : MDesc) (e : Nat × MDesc × Origin) : Bool :=
  e.1 == c && e.2.1.lun == d.lun && (decide (e.2.1.cls ≤ 3) || d.cls == 4)

/-- An operation of the firmware: posted, or kept until its LUN may take it (R161). -/
def State.postOp (s : State) (c : Nat) (d : MDesc) (o : Origin) : State :=
  if s.mayPost c d && (d.cls == 0 || !(s.media.backlog.any (backlogBefore c d))) then s.postNow c d o
  else { s with media.backlog := s.media.backlog ++ [(c, d, o)] }

/-- The first operation kept that may be posted now, with those before and after it. -/
def State.readyWork (s : State) : List (Nat × MDesc × Origin) → List (Nat × MDesc × Origin) →
    Option ((Nat × MDesc × Origin) × List (Nat × MDesc × Origin))
  | _, [] => none
  | seen, e :: rest =>
    let better := rest.any fun q => q.1 == e.1 && q.2.1.lun == e.2.1.lun && e.2.1.cls == 4 && decide (q.2.1.cls ≤ 3)
    if s.mayPost e.1 e.2.1 && !seen.any (backlogBefore e.1 e.2.1) && !better then some (e, seen ++ rest)
    else s.readyWork (seen ++ [e]) rest

/-- The operations kept that may be posted now are. -/
def State.postWork : Nat → State → State
  | 0, s => s
  | n + 1, s =>
    match s.readyWork [] s.media.backlog with
    | none => s
    | some p => State.postWork n ({ s with media.backlog := p.2 }.postNow p.1.1 p.1.2.1 p.1.2.2)

/-- The stripe busy limit for programs posted now: 16 in a flush; one for a 15+1 group in strict mode (R157, R160, R299). -/
def State.busyLimit (s : State) (layout15 : Bool) : Nat :=
  if s.hold.flush.isSome then 16
  else if s.strictPosting && layout15 then 1
  else s.val 0x3040 5

/-- The class gleaning runs in: 3 when too few furrows are fallow, else 4 (R285). -/
def State.gleanClass (s : State) (i : Fin 2) : Nat :=
  if s.fallow i < s.flushReserve s.hold.ceiling + s.val 0x6010 3 * s.groups.length then 3 else 4

/-- The class of a row's programs: 4, but 1 for dirty units while there is more dirty data than the ceiling allows, and gleaning's where the
row holds copies (R27, R285, R304, log 143). -/
def State.rowClass (s : State) (i : Fin 2) (r : Row) : Nat :=
  let dirty := sumOf (fun (d : DirtyUnit) => b2n (!d.zero)) s.hold.dirty
  if decide (s.hold.ceiling < 16384 * dirty) && r.units.any (fun u => u.movedFrom.isNone) then 1
  else if r.units.any (fun u => u.movedFrom.isSome) then s.gleanClass i
  else 4

/-- Programs of a set's group posted and not ended. -/
def XSet.busy (x : XSet) (g : Nat) : Nat :=
  sumOf (fun r => if r.furrow / 2 ^ 26 = g then r.posted.length - r.ended.length - r.failed.length else 0) x.rows

/-- The row of a furrow being programmed. -/
def XSet.row (x : XSet) (id : Nat) : Option Row := x.rows.find? fun r => r.furrow == id

/-- A row of a set changed. -/
def XSet.onRow (x : XSet) (id : Nat) (f : Row → Row) : XSet := { x with rows := updateIf (fun r => r.furrow == id) f x.rows }

/-- Programs of a row's waiting columns posted in order up to the busy limit (R276); in strict mode none to a die that holds a class-0
charge (R158, log 165). -/
def State.postColumns (i : Fin 2) (id : Nat) : Nat → State → State
  | 0, s => s
  | n + 1, s =>
    match (s.xset i).furrow id, (s.xset i).row id with
    | some f, some r =>
      match r.waiting with
      | [] => s
      | col :: rest =>
        match f.cols.find? fun k => k.col == col with
        | none => State.postColumns i id n (s.onSet i fun x => x.onRow id fun r => { r with waiting := rest })
        | some k =>
          if decide (s.busyLimit f.layout15 ≤ (s.xset i).busy f.group) ||
              (s.strictPosting && s.hold.flush.isNone && s.charged k.channel k.lun) then s
          else
            let s := s.onSet i fun x => x.onRow id fun r => { r with waiting := rest, posted := r.posted ++ [col] }
            let d := firmwareDesc .program (s.rowClass i r) k.planes k.lun k.block (r.wordline * s.bitsPerCell) 0
            State.postColumns i id n (s.postOp k.channel d (.row id r.wordline col))
    | _, _ => s

/-- What ended work makes room for: operations kept are posted, and rows go on with the columns that wait (R161, R276). -/
def State.postMore (s : State) : State :=
  let s := State.postWork s.media.backlog.length s
  ([0, 1] : List (Fin 2)).foldl (fun (s : State) i =>
    ((s.xset i).rows.filter fun r => !r.waiting.isEmpty).foldl (fun (s : State) r => State.postColumns i r.furrow 16 s) s) s

/-! ### Sowing (R273, R276) -/

/-- Units placed one after another at absolute slots of a row's pages: each unit, its slot, while they fit. A unit may end in
the next row where there is one. -/
def placeUnits (pages : List Nat) (limit : Nat) (crossOk : Bool) :
    Nat → Nat → List (StoredUnit × Nat × Option MapEntry) → List Placed × Nat
  | 0, pos, _ => ([], pos)
  | _ + 1, pos, [] => ([], pos)
  | n + 1, pos, (u, order, from_) :: rest =>
    let fits := decide (pos + u.slots ≤ limit)
    if decide (pos < limit) && (fits || crossOk) then
      let e := entryFor u ((pages[pos / 64]?).getD 0) (pos % 64)
      let t := placeUnits pages limit crossOk n (pos + u.slots) rest
      (⟨u.nsid, u.unit, order, e, from_, u, !fits⟩ :: t.1, t.2)
    else ([], pos)

/-- A dirty unit put in its place by commit point. -/
def insertCommit (d : DirtyUnit) : List DirtyUnit → List DirtyUnit
  | [] => [d]
  | x :: r => if d.committedAt ≤ x.committedAt then d :: x :: r else x :: insertCommit d r

/-- The dirty units of a set that wait to be sown, in the order of their commit points, as stored units (R273 step 1). -/
def State.toSow (s : State) (i : Fin 2) : List (StoredUnit × Nat × Option MapEntry) :=
  let l := s.hold.dirty.filter fun d => d.set == i.val && d.committed && !d.sowing && !d.confirmed && !d.superseded
  (l.foldr insertCommit []).map fun d =>
    let m := ((s.namespace? d.nsid).map Namespace.unitMeta).getD 0
    (s.storeUnit d.nsid d.unit d.gen m d.lbas d.poison, d.order, none)

/-- The gleaned copies that wait to be sown into a furrow, with the entries they were read from (R286 step 1); those of a static swap go into
the furrow opened for it alone (R290). -/
def State.toMove (s : State) (i : Fin 2) (furrow : Nat) : List (StoredUnit × Nat × Option MapEntry) :=
  let swap := (s.xset i).swapRunning
  let mine (g : Glean) : Bool := (swap.map (·.1)) != some g.furrow || (swap.bind (·.2)) == some furrow
  ((s.xset i).gleans.filter fun g => g.reads == 0 && mine g).filterMap fun g => (s.storedAt g.entry).map fun u => (u, 0, some g.entry)

/-- The sowing furrow of a group. -/
def XSet.sowing (x : XSet) (g : Nat) : Option Furrow := x.furrows.find? fun f => f.group == g && f.state == .sowing

/-- SOW_ROW: the group's furrow, opened if need be, takes the next wordline row: dirty units in commit-point order, then gleaned copies;
what is left stays zero. The command itself stands for the row being full or forced (R273, log 17, log 165). -/
def State.sowRow (s : State) (i : Fin 2) (g : Nat) : State :=
  let any_ := !(s.toSow i).isEmpty || (s.xset i).gleans.any fun g => g.reads == 0
  if !any_ || !(s.xset i).live || !s.groups.contains g then s
  else
    let s := if ((s.xset i).sowing g).isNone then s.openFurrow i g else s
    match (s.xset i).sowing g with
    | none => s
    | some f =>
      let work := s.toSow i ++ s.toMove i f.id
      if ((s.xset i).row f.id).isSome || !s.regionOnline f.region || decide (s.wordlines ≤ f.nextRow) || work.isEmpty then s
      else
        let w := f.nextRow
        let pages := s.rowPages f w
        let next := f.nextRow + 1
        let crossOk := decide (next < s.wordlines) && !(s.rowPages f next).isEmpty
        let p := placeUnits pages (64 * pages.length) crossOk work.length f.carry work
        let cols := s.rowCols f w
        let placed := p.1
        let own := placed.filter fun u => u.movedFrom.isNone
        let moves := placed.filter fun u => u.movedFrom.isSome
        let dirty := updateIf (fun d => own.any fun u => u.order == d.order) (fun d => { d with sowing := true }) s.hold.dirty
        let s := { s with hold.dirty := dirty }
        let s := s.onSet i fun x => { x with
          rows := x.rows ++ [⟨f.id, w, placed, [], [], [], cols⟩]
          gleans := x.gleans.filter fun q => !moves.any fun u => u.nsid == q.nsid && u.unit == q.unit }
        let s := s.onSet i fun x => x.onFurrow f.id fun f => { f with nextRow := next, carry := p.2 - 64 * pages.length }
        let bytes := 16384 * sumOf (fun c => popCount 8 (((f.cols.find? fun k => k.col == c).map (·.planes)).getD 0)
          * s.bitsPerCell) cols
        State.postColumns i f.id 16 (s.setKept 0x6030 9 (s.val 0x6030 9 + bytes))

/-! ### Confirmation, map writes and release (R273 steps 4 to 6, R274) -/

/-- The columns a row programmed, as a bitmap. -/
def colMask (l : List Nat) : Nat := sumOf (fun c => 2 ^ c) l

/-- Units whose row is confirmed: their stored bytes are readable where their entries will point. -/
def State.landUnits (s : State) (l : List Placed) : State :=
  { s with flash.units := l.foldl (fun t u => Tab.put t (flashKey u.entry) u.stored) s.flash.units }

/-- The furrow a page lies in. -/
def XSet.furrowAt (x : XSet) (ppn : Nat) : Option Furrow :=
  let ch := ppn / 2 ^ 35
  x.furrows.find? fun f => f.holds ch (bits ppn 30 5) (bits ppn 13 14)

/-- A map entry written; the furrow the old entry pointed into notes the record that moved the unit out (R286). -/
def State.mapWrite (s : State) (i : Fin 2) (nsid unit : Nat) (e : MapEntry) (seq : Nat) : State :=
  let old := (s.xset i).entry nsid unit
  let s := s.onSet i fun x => x.setEntry nsid unit e
  if old.state = 1 ∨ old.state = 2 then
    match (s.xset i).furrowAt old.ppn with
    | some f => s.onSet i fun x => x.onFurrow f.id fun f => { f with movedAt := seq }
    | none => s
  else s

/-- Rising numbers as contiguous runs: first and count. -/
def runsOf (l : List Nat) : List (Nat × Nat) :=
  (l.foldl (fun (acc : List (Nat × Nat)) u =>
    match acc with
    | (f, n) :: rest => if u = f + n then (f, n + 1) :: rest else (u, 1) :: acc
    | [] => [(u, 1)]) []).reverse

/-- Pieces whose units are all confirmed or superseded are journaled as groups, and their entries written (R141, R273 step
5, R274). -/
def State.journalPieces (i : Fin 2) : Nat → State → State
  | 0, s => s
  | n + 1, s =>
    let ready (d : DirtyUnit) : Bool :=
      d.set == i.val && d.confirmed && !d.superseded && d.recSeq == 0 &&
        (s.hold.dirty.filter fun q => q.piece == d.piece && q.set == d.set).all fun q => q.confirmed || q.superseded
    match s.hold.dirty.find? ready with
    | none => s
    | some d =>
      let group := s.hold.dirty.filter fun q => q.piece == d.piece && q.set == d.set && !q.superseded
      let bodies := (group.filter fun q => !q.zero).map (fun q => JBody.unitMap q.nsid q.unit (q.entry.getD MapEntry.unmapped)) ++
        (runsOf ((group.filter (·.zero)).map (·.unit))).map fun r => JBody.dealloc d.nsid r.1 r.2
      let s := s.journal i false bodies
      let last := (s.xset i).seq
      let s := group.foldl (fun s q => s.mapWrite i q.nsid q.unit (q.entry.getD MapEntry.unmapped) last) s
      let mine (q : DirtyUnit) : Bool := q.piece == d.piece && q.set == d.set
      let s := { s with hold.dirty := updateIf mine (fun q => { q with recSeq := last }) s.hold.dirty }
      State.journalPieces i n s

/-- `MIRROR_FREE` or `MIRROR_DISCARD` for slots, 58 to a frame (R330, R331). -/
def State.slotFrames (type : Nat) : Nat → State → List Nat → State
  | 0, s, _ => s
  | n + 1, s, l =>
    if l.isEmpty then s
    else
      let p := l.take 58
      State.slotFrames type n
        (s.strait 2 type ([BitVec.ofNat 8 p.length, 0, 0, 0] ++ p.flatMap (leBytes 4))) (l.drop 58)

/-- Whether a dirty unit's buffer may be released (R273 step 6, R274). -/
def State.releasable (s : State) (d : DirtyUnit) : Bool :=
  let i : Fin 2 := if d.set = 0 then 0 else 1
  if d.superseded then !d.sowing || d.confirmed
  else d.recSeq != 0 && (!s.mirroring || decide (d.recSeq ≤ (s.xset i).twinAck)) &&
    (decide (d.recSeq ≤ (s.xset i).programmed) || !(s.nvme.cmds.any fun k => k.order == d.cmd))

/-- DIRTY_BUFFER_RELEASE: buffers whose record groups are in the journal and acknowledged are released, and the twin's slots
freed (R273 step 6, R331). Units of a write not past its commit point stay, and units a write-through command waits for stay
until their records are on flash. -/
def State.releaseDirty (s : State) : State :=
  let gone := s.hold.dirty.filter fun d => d.committed && s.releasable d
  let slots := gone.filterMap (·.slot)
  let s := { s with
    hold.dirty := s.hold.dirty.filter fun d => !(d.committed && s.releasable d)
    twin.slotsOut := s.twin.slotsOut.filter fun k => !slots.contains k }
  if s.mirroring then State.slotFrames 0x03 (slots.length / 58 + 1) s slots else s

/-- Furrows being gleaned that no entry points into and no copy waits for become `RECLAIMABLE` (R286 step 4). -/
def State.reclaim (s : State) (i : Fin 2) : State :=
  let x := s.xset i
  let pointed (f : Furrow) : Bool :=
    x.map.any fun p => (p.2.state == 1 || p.2.state == 2) && ((x.furrowAt p.2.ppn).map (·.id)) == some f.id
  let idle (f : Furrow) : Bool :=
    f.state == .gleaning && !(x.gleans.any fun g => g.furrow == f.id) && !pointed f
  (x.furrows.filter idle).foldl (fun s f => (s.setFurrowState i f.id .reclaimable).bump 0x6010 7) s

/-- ROW_CONFIRMED: every column program of a row ended `OK`: the record is journaled, the row's units and a unit that ended in
it become confirmed, whole pieces are journaled and their entries written, buffers released (R273 steps 4 to 6). -/
def State.rowConfirmed (s : State) (i : Fin 2) (id : Nat) : State :=
  match (s.xset i).row id, (s.xset i).furrow id with
  | some r, some f =>
    if !r.waiting.isEmpty || !r.failed.isEmpty || decide (r.ended.length < r.posted.length) then s
    else
      let s := s.journal i false [.rowConfirmed id r.wordline (colMask r.posted)]
      let tail := ((s.xset i).crossing.filter fun p => p.1 == id).map (·.2)
      let done := tail ++ r.units.filter fun u => !u.crosses
      let tail2 := (r.units.filter (·.crosses)).map fun u => (id, u)
      let s := s.onSet i fun x => { x with
        rows := x.rows.filter fun q => q.furrow != id
        crossing := (x.crossing.filter fun p => p.1 != id) ++ tail2
        moved := x.moved ++ done.filter fun u => u.movedFrom.isSome }
      let s := s.onSet i fun x => x.onFurrow id fun f => { f with confirmed := r.wordline + 1 }
      let s := s.landUnits done
      let s := { s with hold.dirty := s.hold.dirty.map fun d =>
        match done.find? fun u => u.movedFrom.isNone && u.order == d.order with
        | some u => { d with confirmed := true, entry := some u.entry }
        | none => d }
      let s := State.journalPieces i s.hold.dirty.length s
      let s := if f.confirmed < s.wordlines ∧ s.wordlines ≤ r.wordline + 1 then s.setFurrowState i id .full else s
      s.releaseDirty
  | _, _ => s

/-- Units of an unconfirmed row, and one that was to end in it, wait to be sown again (R274). -/
def State.unsow (s : State) (i : Fin 2) (l : List Placed) : State :=
  let mine (d : DirtyUnit) : Bool := d.set == i.val && l.any fun u => u.movedFrom.isNone && u.order == d.order
  let s := { s with hold.dirty := updateIf mine (fun d => { d with sowing := false }) s.hold.dirty }
  s.onSet i fun x => { x with gleans := x.gleans ++ l.filterMap fun u => u.movedFrom.map fun e =>
    ⟨((x.furrowAt e.ppn).map (·.id)).getD 0, u.nsid, u.unit, e, 0, []⟩ }

/-- The units of a furrow that no confirmed row holds. -/
def XSet.loose (x : XSet) (id : Nat) : List Placed :=
  ((x.crossing.filter fun p => p.1 == id).map (·.2)) ++ ((x.row id).map (·.units)).getD []

/-- ROW_PROGRAM_FAILED: the failed columns' blocks go bad and leave the furrow, and the row's units are sown again in the
next row (R274). -/
def State.rowFailed (s : State) (i : Fin 2) (id : Nat) : State :=
  match (s.xset i).row id, (s.xset i).furrow id with
  | some r, some f =>
    if r.failed.isEmpty || !r.waiting.isEmpty || decide (r.ended.length + r.failed.length < r.posted.length) then s
    else
      let s := s.unsow i ((s.xset i).loose id)
      let s := s.onSet i fun x => { x with
        rows := x.rows.filter fun q => q.furrow != id
        crossing := x.crossing.filter fun p => p.1 != id }
      let s := s.onSet i fun x => x.onFurrow id fun f => { f with
        carry := 0, cols := updateIf (fun k => r.failed.contains k.col) (fun k => { k with gone := true }) f.cols }
      let bad := f.cols.filter fun k => r.failed.contains k.col
      bad.foldl (fun s k => (bitList 8 k.planes).foldl (fun s p => s.markBad i k.channel k.lun p k.block 2) s) s
  | _, _ => s

/-- The page of a furrow's end marker: the wordline after its last confirmed one, the row's first column, the lowest plane
present (R283, log 18). -/
def State.markerPage (s : State) (f : Furrow) : Option Nat :=
  match (s.rowCols f f.nextRow).head? with
  | none => none
  | some col =>
    (f.cols.find? fun k => k.col == col).bind fun k =>
      ((bitList 8 k.planes).head?).map fun p => ppnOf k.channel k.lun p k.block (f.nextRow * s.bitsPerCell)

/-- The page of an end marker: a unit header with `KIND` 0xE5, then the furrow identifier, the last confirmed wordline and the durable sequence
(R283, log 18). -/
def EndMark.page (m : EndMark) : FlashPage :=
  .raw [⟨trimZeros (padTo 32 [0xE5] ++ leBytes 4 m.furrow ++ leBytes 4 m.wordline ++ leBytes 8 m.durable), [], false⟩]

/-- A sowing furrow closed early: its loose units wait again, the marker is written, the furrow is `FULL` (R274, R283). -/
def State.closeFurrow (s : State) (i : Fin 2) (id : Nat) : State :=
  match (s.xset i).furrow id with
  | none => s
  | some f =>
    if f.state != .sowing then s
    else
      let s := s.unsow i ((s.xset i).loose id)
      let s := s.onSet i fun x => { x with
        rows := x.rows.filter fun q => q.furrow != id
        crossing := x.crossing.filter fun p => p.1 != id }
      let s := match s.markerPage f with
        | some ppn => if f.nextRow < s.wordlines then
            let m : EndMark := ⟨id, f.confirmed, s.durable i⟩
            { s with flash.pages := Tab.put s.flash.pages ppn m.page, flash.marks := Tab.put s.flash.marks ppn m }
          else s
        | none => s
      let s := s.onSet i fun x => x.onFurrow id fun f => { f with carry := 0 }
      s.setFurrowState i id .full

/-- END_MARKER_WRITE: a furrow whose region has gone offline, or whose row is not in hand, is closed early (R274, R283). -/
def State.endMarkerWrite (s : State) (i : Fin 2) (id : Nat) : State :=
  match (s.xset i).furrow id with
  | some f => if ((s.xset i).row id).isNone || !s.regionOnline f.region then s.closeFurrow i id else s
  | none => s

/-- JOURNAL_PAGE_PROGRAMMED: whole groups of up to 512 records leave the DRAM journal for a page, and the durable sequence
may advance (R280, R281). -/
def State.journalPage (s : State) (i : Fin 2) : State :=
  let x := s.xset i
  let page := wholeGroups (x.dram.take 512)
  match page.getLast? with
  | none => s
  | some r =>
    let s := s.onSet i fun x => { x with
      flashLog := x.flashLog ++ page
      dram := x.dram.drop page.length
      programmed := r.seq }
    (s.setKept 0x6030 9 (s.val 0x6030 9 + 16384)).releaseDirty

/-! ### Checkpoints (R282) -/

/-- A checkpoint begins, where none runs. -/
def State.checkpointBegin (s : State) (i : Fin 2) : State :=
  let x := s.xset i
  if x.live && x.running.isNone then
    let n := ((x.checkpoint.map (·.number)).getD 0) + 1
    let s := s.journal i false [.checkpoint false n (x.seq + 1)]
    s.onSet i fun x => { x with
      running := some (n, x.seq, x.map, x.furrows), sinceCheckpoint := 0, checkpointAt := s.pkg.timebase }
  else s

/-- CHECKPOINT_START: due by bytes or by time and none running: the begin record fixes the start sequence. -/
def State.checkpointStart (s : State) (i : Fin 2) : State :=
  let x := s.xset i
  let due := decide (s.val 0x6030 4 ≤ x.sinceCheckpoint) ||
    decide (usTicks (1000000 * s.val 0x6030 5) ≤ s.since x.checkpointAt)
  if due then s.checkpointBegin i else s

/-- Bytes of page data that a checkpoint programs: each 1 MiB segment of the set's map, and the index page (R282, log 149). -/
def State.checkpointBytes (s : State) (i : Fin 2) : Nat :=
  16384 + 2 ^ 20 * sumOf (fun (n : Namespace) =>
    if decide (n.nsid ≤ 1020) && setOfGroup n.group == i then ceilDiv ((n.lbas + 3) / 4) 131072 else 0) s.nvme.namespaces

/-- CHECKPOINT_COMPLETE: the index is programmed and the end record durable; older journal pages are let go. -/
def State.checkpointComplete (s : State) (i : Fin 2) : State :=
  match (s.xset i).running with
  | none => s
  | some (n, start, map, furrows) =>
    let s := s.journal i false [.checkpoint true n start]
    let s := s.onSet i fun x => { x with
      running := none
      checkpoint := some ⟨n, start, map, furrows⟩
      flashLog := x.flashLog.filter fun r => decide (start ≤ r.seq) }
    ((s.setKept 0x6030 9 (s.val 0x6030 9 + s.checkpointBytes i)).bump 0x6030 6).setVal 0x6030 7 s.now

/-- The set replayed from its latest checkpoint over a journal (R282, R284). -/
def XSet.replayed (twin : Bool) (i : Fin 2) (x : XSet) (log : List JRec) : XSet :=
  let base := match x.checkpoint with
    | some c => { x with map := c.map, furrows := c.furrows }
    | none => { x with map := [], furrows := [] }
  let start := (x.checkpoint.map (·.start)).getD 0
  (wholeGroups (log.filter fun r => decide (start ≤ r.seq))).foldl (fun x r => x.apply twin i.val r) base

/-- MAP_SEGMENT_RELOAD: a segment with an uncorrectable entry is loaded from the last checkpoint and the journal replayed
over it (R256). -/
def State.segmentReload (s : State) (i : Fin 2) (seg : Nat) : State :=
  let x := s.xset i
  if x.badSegments.contains seg then
    let y := x.replayed s.isTwin i (x.flashLog ++ x.dram)
    let keep := Tab.keep (fun k _ => k / 131072 != seg) x.map
    let back := Tab.keep (fun k _ => k / 131072 == seg) y.map
    s.onSet i fun x => { x with map := Tab.putAll keep back, badSegments := x.badSegments.filter (· != seg) }
  else s

/-! ### Gleaning, erasing, refresh, wear (R285 to R290) -/

/-- The valid units of a furrow. -/
def XSet.validIn (x : XSet) (id : Nat) : List Glean :=
  (x.map.filter fun p => (p.2.state == 1 || p.2.state == 2) && ((x.furrowAt p.2.ppn).map (·.id)) == some id).map fun p =>
    ⟨id, p.1 / 2 ^ 56, p.1 % 2 ^ 56, p.2, 0, []⟩

/-- The valid bytes of a furrow. -/
def XSet.validBytes (x : XSet) (id : Nat) : Nat := 256 * sumOf (fun g => g.entry.slots) (x.validIn id)

/-- Whether a furrow's score (1 − u) × a / (1 + u) is above another's, as cross products (R285). -/
def scoreAbove (a b : Nat × Nat × Nat) : Bool :=
  decide ((b.1 - b.2.1) * b.2.2 * (a.1 + a.2.1) < (a.1 - a.2.1) * a.2.2 * (b.1 + b.2.1))

/-- A furrow's capacity, valid bytes and seconds since `FULL`. -/
def State.score (s : State) (i : Fin 2) (f : Furrow) : Nat × Nat × Nat :=
  (s.furrowBytes f.layout15, (s.xset i).validBytes f.id, s.since f.fullAt / usTicks 1000000)

/-- The furrow a test keeps that no other is better than. -/
def bestFurrow (better : Furrow → Furrow → Bool) (l : List Furrow) : Option Furrow :=
  l.foldl (fun b f => match b with
    | none => some f
    | some g => if better f g then some f else b) none

/-- The pages a unit's slots lie on: its start page, and the next data page of its furrow when it passes the end. -/
def State.unitPages (s : State) (i : Fin 2) (e : MapEntry) : List Nat :=
  if e.off + e.slots ≤ 64 then [e.ppn]
  else match (s.xset i).furrowAt e.ppn with
    | none => [e.ppn]
    | some f =>
      let w := bits e.ppn 0 13 / max 1 s.bitsPerCell
      let pages := s.rowPages f w ++ s.rowPages f (w + 1)
      let k := pages.idxOf e.ppn
      match pages[k + 1]? with
      | some q => [e.ppn, q]
      | none => [e.ppn]

/-- The codewords a page gives of a unit: a mask over the four (R277). -/
def cwMaskOf (first n : Nat) : Nat :=
  sumOf (fun k => if first < 16 * (k + 1) ∧ 16 * k < first + n then 2 ^ k else 0) (List.range 4)

/-- The pages and codewords a unit's read takes (R277). -/
def State.unitReads (s : State) (i : Fin 2) (e : MapEntry) : List (Nat × Nat) :=
  match s.unitPages i e with
  | [p] => [(p, cwMaskOf e.off (min e.slots (64 - e.off)))]
  | [p, q] => [(p, cwMaskOf e.off (64 - e.off)), (q, cwMaskOf 0 (e.off + e.slots - 64))]
  | _ => []

/-- The channel of a page, and its 4 × CE + LUN. -/
def pageChannel (ppn : Nat) : Nat := ppn / 2 ^ 35
def pageLun (ppn : Nat) : Nat := bits ppn 30 5

/-- Units set out for copying: their pages are read in gleaning's class (R27, R286 step 1). -/
def State.copyUnits (s : State) (i : Fin 2) (units : List Glean) : State :=
  let cls := s.gleanClass i
  units.foldl (fun (s : State) g =>
    let l := s.unitReads i g.entry
    let s := s.onSet i fun x => { x with gleans := x.gleans ++ [{ g with reads := l.length }] }
    l.foldl (fun (s : State) r =>
      s.postOp (pageChannel r.1) (firmwareDesc .read cls (2 ^ bits r.1 27 3) (pageLun r.1) (bits r.1 13 14) (bits r.1 0 13) r.2)
        (.glean g.nsid g.unit)) s) s

/-- A furrow's units set out for copying. -/
def State.gleanFurrow (s : State) (i : Fin 2) (f : Furrow) (units : List Glean) (refresh : Bool) : State :=
  let s := if f.state == .full then s.setFurrowState i f.id .gleaning else s
  let s := s.onSet i fun x => x.onFurrow f.id fun f => { f with refresh := refresh }
  (s.copyUnits i units).reclaim i

/-- GLEAN_START: refresh work first; else, with too few fallow furrows, the `FULL` furrow of highest score (R285, R288). -/
def State.gleanStart (s : State) (i : Fin 2) : State :=
  let x := s.xset i
  if !x.live then s
  else match x.refreshes with
    | k :: rest =>
      let s := s.onSet i fun x => { x with refreshes := rest }
      if 2 ^ 40 ≤ k then
        match x.furrow (k - 2 ^ 40) with
        | some f => if f.state == .full then s.gleanFurrow i f (x.validIn f.id) true else s
        | none => s
      else
        match x.furrowAt (k * 2 ^ 13) with
        | some f =>
          if f.state == .full || f.state == .gleaning then
            let hit (g : Glean) : Bool :=
              (s.unitPages i g.entry).any (fun p => p / 2 ^ 30 == k / 2 ^ 17 && bits p 13 14 == k % 2 ^ 14) &&
                !x.gleans.any (fun q => q.nsid == g.nsid && q.unit == g.unit)
            (s.gleanFurrow i f ((x.validIn f.id).filter hit) true).bump 0x6020 2
          else s
        | none => s
    | [] =>
      let few := decide (s.fallow i < s.flushReserve s.hold.ceiling + s.val 0x6010 2 * s.groups.length)
      let can (f : Furrow) : Bool :=
        f.state == .full || (f.state == .gleaning && f.refresh && !x.gleans.any fun g => g.furrow == f.id)
      if !few then s
      else match bestFurrow (fun a b => scoreAbove (s.score i a) (s.score i b)) (x.furrows.filter can) with
        | some f => s.gleanFurrow i f (x.validIn f.id) false
        | none => s

/-- One moved unit's entry compared and set (R286 step 3). -/
def State.moveUnit (s : State) (i : Fin 2) (u : Placed) : State :=
  let now := (s.xset i).entry u.nsid u.unit
  let from_ := u.movedFrom.getD MapEntry.unmapped
  if now.state = from_.state ∧ now.off = from_.off ∧ now.ppn = from_.ppn ∧ now.gen = from_.gen then
    let s := s.journal i true [.unitMap u.nsid u.unit u.entry]
    (s.mapWrite i u.nsid u.unit u.entry (s.xset i).seq).bump 0x6010 8
  else s.bump 0x6010 9

/-- GLEAN_MAP_UPDATE: the confirmed copies' entries are compared and set and journaled with `MOVE` (R286 steps 3, 4). -/
def State.gleanMapUpdate (s : State) (i : Fin 2) : State :=
  let l := (s.xset i).moved
  let s := s.onSet i fun x => { x with moved := [] }
  (l.foldl (fun s u => s.moveUnit i u) s).reclaim i

/-- Whether a host read that looked up an entry into a furrow is still in flight. -/
def State.furrowRead (s : State) (id : Nat) : Bool := s.nvme.cmds.any fun k => k.media.any fun m => m.2 == id

/-- FURROW_ERASE: a `RECLAIMABLE` furrow whose moves are durable and whose reads have ended is erased (R281, R286 step 5). -/
def State.furrowErase (s : State) (i : Fin 2) (id : Nat) : State :=
  match (s.xset i).furrow id with
  | some f =>
    if f.state == .reclaimable && decide (f.movedAt ≤ s.durable i) && !s.furrowRead id then
      let cols := f.cols.filter fun k => s.reachable k.channel && !f.noErase.contains k.col && !(s.lun k.channel k.lun).retired
      let s := s.setFurrowState i id .erasing
      let s := s.onSet i fun x => x.onFurrow id fun f => { f with eraseLeft := cols.map (·.col), eraseFailed := [] }
      cols.foldl (fun s k =>
        s.postOp k.channel (firmwareDesc .erase (s.gleanClass i) k.planes k.lun k.block 0 0) (.furrowErase id k.col)) s
    else s
  | none => s

/-- FURROW_ERASE_DONE: all plane-set erases have ended; failed plane sets leave, blocks a refresh found failing go bad with
cause 4 without being erased, and the furrow is `FALLOW` (R270, R288). -/
def State.furrowEraseDone (s : State) (i : Fin 2) (id : Nat) : State :=
  match (s.xset i).furrow id with
  | some f =>
    if f.state == .erasing && f.eraseLeft.isEmpty then
      let bad (cause : Nat) (cols : List Nat) (s : State) : State :=
        (f.cols.filter fun k => cols.contains k.col).foldl (fun s k =>
          (bitList 8 k.planes).foldl (fun s p => s.markBad i k.channel k.lun p k.block cause) s) s
      let s := bad 4 f.noErase (bad 3 f.eraseFailed s)
      let s := s.setFurrowState i id .fallow
      s.onSet i fun x => { x with
        furrows := x.furrows.filter fun f => f.id != id
        swapRunning := if x.swapRunning.map (·.1) == some id then none else x.swapRunning }
    else s
  | none => s

/-- PATROL_READ: a programmed page of owned media is read in class 4; what its decode shows schedules refreshes under R288 (R27, R289). -/
def State.patrolRead (s : State) (c l plane block page : Nat) : State :=
  if !(s.port c).owned || (Tab.find s.flash.pages (ppnOf c l plane block page)).isNone then s
  else s.postOp c (firmwareDesc .read 4 (2 ^ plane) l block page 15) .patrol

/-- The plane-set erase counts of fallow and `FULL` furrows of a set: with the furrow each belongs to, if any. -/
def State.wearCounts (s : State) (i : Fin 2) : List Nat :=
  let x := s.xset i
  let fullCols := (x.furrows.filter fun f => f.state == .full).flatMap (·.cols)
  let fallow := s.groups.flatMap fun g => (s.groupCols i g).flatMap fun col =>
    (s.fallowSets i g col).map fun b => s.planeSetErases (s.colChannel i g col) (g % 32) b
  fallow ++ fullCols.map fun k => s.planeSetErases k.channel k.lun k.block

/-- A furrow's erase count: the highest of its plane sets (R290). -/
def State.furrowErases (s : State) (f : Furrow) : Nat :=
  f.cols.foldl (fun m k => max m (s.planeSetErases k.channel k.lun k.block)) 0

/-- STATIC_SWAP: with the spread beyond its limit and no swap running, the coldest `FULL` furrow is gleaned into the most worn
fallow one (R290). -/
def State.staticSwap (s : State) (i : Fin 2) : State :=
  let x := s.xset i
  let l := s.wearCounts i
  let hi := l.foldl max 0
  let lo := l.foldl min hi
  if x.live && x.swapRunning.isNone && decide (s.val 0x6020 4 < hi - lo) then
    match bestFurrow (fun a b => decide (s.furrowErases a < s.furrowErases b)) (x.furrows.filter fun f => f.state == .full) with
    | some f =>
      let s := s.onSet i fun x => { x with swapRunning := some (f.id, none) }
      (s.gleanFurrow i f (x.validIn f.id) false).bump 0x6020 8
    | none => s
  else s

/-- A unit set to `STATE` 11 by a journaled record, keeping its page and generation (R253, R278). -/
def State.poisonUnit (s : State) (i : Fin 2) (nsid unit : Nat) : State :=
  let e := (s.xset i).entry nsid unit
  let p : MapEntry := { e with state := 3, len := 0, off := 0 }
  let s := s.journal i false [.unitMap nsid unit p]
  s.mapWrite i nsid unit p (s.xset i).seq

/-- A LUN leaves its group: the record, the bad-block entry, and refresh of every `FULL` furrow with pages on it (R291). -/
def State.retireLun (s : State) (c l : Nat) : State :=
  let u := s.lun c l
  if u.retired then s
  else
    let i := s.setOfChannel c
    let s := s.setLun c l { u with retired := true }
    let entry : BadBlock := ⟨c, l, 0, 0, 5, 0, Tab.get s.flash.badSeq 0 c + 1⟩
    let s := { s with flash.bad := s.flash.bad ++ [entry] }.compactCheck
    let s := if (s.xset i).live then s.journal i false [.lunRetired c l 5] else s
    let hit (f : Furrow) : Bool := f.state == .full &&
      ((f.cols.any fun k => k.channel == c && k.lun == l) ||
        (s.spentGroup i f.group && s.colChannel i f.group (c / 2) == c && f.group % 32 == l))
    s.onSet i fun x => { x with refreshes := x.refreshes ++ (x.furrows.filter hit).map fun f => 2 ^ 40 + f.id }

/-- LUN_RETIRED: a LUN is retired for its grown bad blocks, or for a third fault within 24 hours (R291). -/
def State.lunRetired (s : State) (c l : Nat) : State :=
  let u := s.lun c l
  let grown := (s.flash.bad.filter fun b => b.channel == c && b.lun == l && 2 ≤ b.cause && b.cause ≤ 4).length
  let many := decide (s.val 0x6020 9 * s.dieBlocks < 1000 * grown)
  let day := usTicks (24 * 3600 * 1000000)
  let thrice := decide (3 ≤ (u.faultTimes.filter fun t => decide (s.since t ≤ day)).length)
  if many || thrice then s.retireLun c l else s

/-! ### The write-pointer tables (R214, R284) -/

/-- What the write-pointer entry of a block in a furrow is loaded with: its next page while the furrow is sowing, full once every row is
confirmed, else unknown. -/
def State.furrowWp (s : State) (f : Furrow) : Wp :=
  match f.state with
  | .sowing => ⟨.opened, f.nextRow * s.bitsPerCell⟩
  | .erasing => ⟨.unknown, 0⟩
  | _ => if s.wordlines ≤ f.confirmed then ⟨.full, 0⟩ else ⟨.unknown, 0⟩

/-- The write-pointer entries of the channels a test keeps, loaded from the translation state and the bad-block tables. -/
def State.loadWp (s : State) (mine : Nat → Bool) : State :=
  let s := ([0, 1] : List (Fin 2)).foldl (fun (s : State) (i : Fin 2) =>
    (s.xset i).furrows.foldl (fun (s : State) f =>
      (f.cols.filter fun k => mine k.channel && !k.gone).foldl (fun (s : State) k =>
        (bitList 8 k.planes).foldl (fun (s : State) p => s.setWp (blockKey k.channel k.lun p k.block) (s.furrowWp f)) s) s) s) s
  (s.flash.bad.filter fun b => mine b.channel && b.cause != 5).foldl (fun (s : State) b =>
    s.setWp (blockKey b.channel b.lun b.plane b.block) ⟨.bad, 0⟩) s

end Sys2Proof.Machine
end

