-- ==== Sys2Proof/Machine/HostOps.lean ====
section
/-! DEFINITION. The front end's shared operations: controllers, queues, fetching, completions with coalescing and virtual
channels, asynchronous events, the Error Information log, ANA states (R100 to R113, R121 to R128, R180, R351). -/
namespace Sys2Proof.Machine

/-- A controller after reset: no queues, nothing enabled. -/
def Ctrl.init : Ctrl where
  enabled := false
  ready := false
  cfs := false
  wrr := false
  cc := 0
  asq := 0
  acq := 0
  online := false
  vq := 0
  vi := 0
  aqaSq := 0
  aqaCq := 0
  resetting := false
  flr := none
  lateExpected := 0
  offlineCids := []
  aers := []
  masked := []
  events := []
  features := []
  errors := []
  errorCount := 0
  keepAliveMs := 0
  keepAliveAt := 0
  coalesced := []
  coalesceAt := 0
  resvLog := []
  resvCount := 0
  anaChanges := 0
  tokens := 0
  scrub := 0

/-- The PF's controller after reset: its 128 private queue and 64 private interrupt resources (R102, R112). -/
def Ctrl.pf : Ctrl := { Ctrl.init with online := true, vq := 128, vi := 64 }

/-- What a function's controller reads as when nothing is listed for it. -/
def Ctrl.base (fn : Nat) : Ctrl := if fn = 0 then Ctrl.pf else Ctrl.init

/-- A function's controller. -/
def State.ctrl (s : State) (fn : Nat) : Ctrl := Tab.get s.nvme.ctrls (Ctrl.base fn) fn

/-- A function's controller changed. -/
def State.setCtrl (s : State) (fn : Nat) (c : Ctrl) : State :=
  { s with nvme.ctrls := Tab.set s.nvme.ctrls (Ctrl.base fn) fn c }

/-- The functions there are: the PF, and while VF Enable is set the VFs. -/
def State.functions (s : State) : List Nat := 0 :: if s.nvme.vfEnable then (List.range s.nvme.numVfs).map (· + 1) else []

/-- The key of a queue. -/
def qkey (fn q : Nat) : Nat := fn * 65536 + q

/-- A submission queue, if it exists. -/
def State.sq? (s : State) (fn q : Nat) : Option Sq := Tab.find s.nvme.sqs (qkey fn q)

/-- A completion queue, if it exists. -/
def State.cq? (s : State) (fn q : Nat) : Option Cq := Tab.find s.nvme.cqs (qkey fn q)

/-- A submission queue put. -/
def State.putSq (s : State) (fn q : Nat) (x : Sq) : State := { s with nvme.sqs := Tab.put s.nvme.sqs (qkey fn q) x }

/-- A completion queue put. -/
def State.putCq (s : State) (fn q : Nat) (x : Cq) : State := { s with nvme.cqs := Tab.put s.nvme.cqs (qkey fn q) x }

/-- The CNTLID of a function of this Isle (R108). -/
def State.cntlid (s : State) (fn : Nat) : Nat := (if s.pkg.straps.isle then 0x0101 else 0x0001) + fn

/-- A status code: SCT and SC. -/
def sc (sct code : Nat) : Nat := sct * 256 + code

/-! ### Class and virtual channel (R103, R130) -/

/-- The service class of a submission queue (R130). -/
def State.classOf (s : State) (fn q : Nat) : Nat :=
  if q = 0 then 1
  else if (s.ctrl fn).wrr then ((s.sq? fn q).map (·.qprio)).getD 2
  else 2

/-- Whether a class travels on VC1 (R103). -/
def State.onVc1 (s : State) (cls : Nat) : Bool := cls == 0 && s.nvme.vc1 && s.nvme.tcMap.getLsbD (s.val 0x3010 1)

/-! ### Configuration space as read (R96 to R98, R101) -/

/-- A doubleword as a read finds it: link speeds by the target, the link as trained, the subsystem identifiers in force, the serial
number, VF Enable and NumVFs (R96 to R98, R101). -/
def State.configValue (s : State) (fn dw : Nat) : Nat :=
  let v := s.cfg fn dw
  let target := s.val 0x3000 4
  if cfgFree fn dw then (Config.configFree dw).toNat
  else match dw with
    | 0x0B => s.force 0x3010 3 + 2 ^ 16 * s.force 0x3010 4
    | 0x1B => v + target
    | 0x1C => if fn = 0 then v + 2 ^ 16 * (s.pkg.linkSpeed + 16 * s.pkg.linkWidth) else v
    | 0x23 => if fn = 0 then 2 * (2 ^ target - 1) else v
    | 0x24 => if fn = 0 ∧ v % 16 = 0 then v + target else v
    | 0x4D => if fn = 0 then Config.factorySerial % 2 ^ 32 else v
    | 0x4E => if fn = 0 then Config.factorySerial / 2 ^ 32 % 2 ^ 32 else v
    | 0x60 => if fn = 0 then v + b2n s.nvme.vfEnable else v
    | 0x62 => if fn = 0 then s.nvme.numVfs else v
    | _ => v

/-! ### Data pointers (R122, R123) -/

/-- What the front end finds of a walked pointer: the lengths it describes, each with whether it is memory or a bit bucket, the descriptors
read so far, and the first fault. -/
structure SglWalk where
  pieces : List (Nat × Bool)
  count : Nat
  fault : Nat
  deriving DecidableEq, Repr

/-- A walk that ends in a fault. -/
def SglWalk.stop (fault : Nat) : SglWalk := ⟨[], 0, fault⟩

/-- The fault of a descriptor by its type and its offset form; a bit bucket belongs to a read. -/
def SglDesc.fault (d : SglDesc) (write : Bool) : Nat :=
  if d.sub = 1 ∧ d.addr ≠ 0 then sc 0 0x16
  else if d.sub ≠ 0 ∨ 3 < d.type.toNat ∨ (d.type = 1 ∧ write) then sc 0 0x11
  else 0

/-- Whether a descriptor leads to a segment. -/
def SglDesc.leads (d : SglDesc) : Bool := d.type == 2 || d.type == 3

/-- A descriptor's length, and whether it names memory. -/
def SglDesc.piece (d : SglDesc) : Nat × Bool := (d.len.toNat, d.type == 0)

/-- A segment's descriptors: what they describe, the first fault, and the descriptor that leads on. -/
def segmentWalk (write last : Bool) : List SglDesc → List (Nat × Bool) × Nat × Option SglDesc
  | [] => ([], 0, none)
  | d :: rest =>
    if d.fault write ≠ 0 then ([], d.fault write, none)
    else if d.leads then
      if !rest.isEmpty then ([], if d.type = 3 then sc 0 0x0D else sc 0 0x11, none)
      else if last then ([], sc 0 0x11, none)
      else ([], 0, some d)
    else
      let r := segmentWalk write last rest
      (d.piece :: r.1, r.2)

/-- The segments a descriptor leads to, `n` descriptors after the command's first. -/
def segmentsWalk (write : Bool) : List (List SglDesc) → SglDesc → Nat → SglWalk
  | [], _, _ => .stop (sc 0 0x0E)
  | g :: more, d, n =>
    let k := d.len.toNat / 16
    if k = 0 ∨ 1024 < n + k then .stop (sc 0 0x0E)
    else
      let r := segmentWalk write (d.type == 3) (g.take k)
      if r.2.1 ≠ 0 then .stop r.2.1
      else match r.2.2 with
        | none => ⟨r.1, n + k, 0⟩
        | some e =>
          let t := segmentsWalk write more e (n + k)
          { t with pieces := r.1 ++ t.pieces }

/-- The walk of an SGL from its first descriptor, `n` descriptors after those of the command read before. -/
def sglWalk (write : Bool) (first : SglDesc) (segments : List (List SglDesc)) (n : Nat) : SglWalk :=
  if first.fault write ≠ 0 then .stop (first.fault write)
  else if 1024 < n + 1 then .stop (sc 0 0x0E)
  else if first.leads then segmentsWalk write segments first (n + 1)
  else ⟨[first.piece], n + 1, 0⟩

/-- The PRP entries after the first that a transfer needs, which carry no offset. -/
def prpNeeded (page need : Nat) (entries : List (BitVec 64)) : List (BitVec 64) :=
  let off := ((entries.head?).map (·.toNat % page)).getD 0
  (entries.drop 1).take (ceilDiv (off + need) page - 1)

/-- The walk of a data pointer for `need` bytes. -/
def DataPtr.walk (p : DataPtr) (page need : Nat) (write : Bool) : SglWalk :=
  match p with
  | .prp es => if (prpNeeded page need es).any fun e => e.toNat % page != 0 then .stop (sc 0 0x13) else ⟨[(need, true)], 0, 0⟩
  | .sgl first segs =>
    let r := sglWalk write first segs 0
    if r.fault ≠ 0 then r else if sumOf (·.1) r.pieces < need then .stop (sc 0 0x0F) else r

/-- The walk of a metadata pointer for `need` bytes. -/
def MetaPtr.walk (p : MetaPtr) (need n : Nat) (write : Bool) : SglWalk :=
  match p with
  | .buffer a => if a.toNat % 4 ≠ 0 then .stop (sc 0 0x02) else ⟨[(need, true)], n, 0⟩
  | .sgl first segs =>
    let r := sglWalk write first segs n
    if r.fault ≠ 0 then r else if sumOf (·.1) r.pieces < need then .stop (sc 0 0x10) else r

/-- The status of the walk of a command that moves `need` data bytes and `info` bytes of separate metadata: the first fault found (R123)
(log 154). -/
def Walk.status (w : Walk) (page need info : Nat) (write : Bool) : Nat :=
  if need = 0 then 0
  else
    let d := w.data.walk page need write
    if d.fault ≠ 0 then d.fault else if info = 0 then 0 else (w.info.walk info d.count write).fault

/-- What a run of bytes leaves in memory: the bytes that fall in no bit bucket, the pieces described from the run's start on. -/
def keptBytes : List (Nat × Bool) → List Byte → List Byte
  | [], _ => []
  | p :: rest, b => (if p.2 then b.take p.1 else []) ++ keptBytes rest (b.drop p.1)

/-- The pieces from a byte of the transfer on. -/
def piecesFrom : List (Nat × Bool) → Nat → List (Nat × Bool)
  | [], _ => []
  | p :: rest, n => if p.1 ≤ n then piecesFrom rest (n - p.1) else (p.1 - n, p.2) :: rest

/-- The bytes of a read's run from `first` on that reach host memory (R122). -/
def DataPtr.lands (p : DataPtr) (first : Nat) (b : List Byte) : List Byte :=
  match p with
  | .prp _ => b
  | .sgl d segs => keptBytes (piecesFrom (sglWalk false d segs 0).pieces first) b

/-- The bytes of a metadata run that reach host memory. -/
def MetaPtr.lands (p : MetaPtr) (first : Nat) (b : List Byte) : List Byte :=
  match p with
  | .buffer _ => b
  | .sgl d segs => keptBytes (piecesFrom (sglWalk false d segs 0).pieces first) b

/-- A run of a transfer's bytes divided: of every 4,096 and `apart` bytes the last `apart` are metadata of a buffer of its own. -/
def divided (apart first : Nat) (b : List Byte) : List Byte × List Byte :=
  if apart = 0 then (b, [])
  else
    let l := (List.range b.length).zip b
    ((l.filter fun p => (first + p.1) % (4096 + apart) < 4096).map (·.2),
     (l.filter fun p => 4096 ≤ (first + p.1) % (4096 + apart)).map (·.2))

/-- Read data sent to the host: what of a run from `first` on lands in its data buffer, and in its metadata buffer where it has one of its
own. The TLPs carry Relaxed Ordering when it is enabled (R103, R111, R122). -/
def State.hostData (s : State) (fn sq cid : Nat) (w : Walk) (apart first : Nat) (b : List Byte) (ep vc1 : Bool) : State :=
  let d := divided apart first b
  let at_ := if apart = 0 then first else first / (4096 + apart) * 4096 + min 4096 (first % (4096 + apart))
  let s := s.emit (.data fn sq cid (w.data.lands at_ d.1) false ep vc1 s.relaxed)
  if d.2.isEmpty then s
  else s.emit (.data fn sq cid (w.info.lands (first / (4096 + apart) * apart + (first % (4096 + apart) - 4096)) d.2) true ep vc1 s.relaxed)

/-! ### Completions (R102, R103, R121) -/

/-- An MSI-X message of a function (R102). -/
def State.signal (s : State) (fn vector : Nat) (vc1 : Bool) : State := s.signalAt fn vector (s.ctrl fn).vi vc1

/-- Pending vectors whose masks are open now sent. -/
def State.signalPending (s : State) (fn : Nat) : State :=
  ((Tab.keys s.nvme.msixPend).filter fun k => k / 2048 == fn && s.msixOpen fn (k % 2048) (s.ctrl fn).vi).foldl (fun (s : State) k =>
    { s with nvme.msixPend := Tab.set s.nvme.msixPend false k false }.emit (.msix fn (k % 2048) false)) s

/-- A class-0 completion posted: counted, and its time from the doorbell's arrival kept where it is the highest (R126, R163). -/
def State.urgentPosted (s : State) (arrived : Word) : State :=
  { s with nvme.urgentDone := s.nvme.urgentDone + 1, nvme.urgentMax := max s.nvme.urgentMax (s.since arrived) }

/-- A completion entry in its queue; the phase turns when the tail wraps. A full queue keeps it waiting. A controller in a fatal state posts
nothing (R180). -/
def State.postCqe (s : State) (h : HeldCpl) : State :=
  let cqid := if h.sq = 0 then 0 else ((s.sq? h.fn h.sq).map (·.cq)).getD 0
  match s.cq? h.fn cqid with
  | none => s
  | some q =>
    if (s.ctrl h.fn).cfs then s
    else if (q.tail + 1) % q.size = q.head then { s with nvme.heldCpl := s.nvme.heldCpl ++ [h] }
    else
      let vc1 := s.onVc1 (if h.urgent then 0 else 1)
      let s := s.emit (.cqe h.fn cqid h.sq h.cid (h.status * 2 + b2n q.phase) h.dw0 h.dw1 vc1)
      let s := if h.urgent then s.urgentPosted h.arrived else s
      let tail := (q.tail + 1) % q.size
      let s := s.putCq h.fn cqid { q with tail := tail, phase := q.phase != (tail == 0) }
      if !q.ien then s
      else
        let c := s.ctrl h.fn
        let f := Tab.get c.features 0 0x08
        let off := bit (Tab.get c.features 0 (0x10000 + q.vector)) 16
        if h.urgent || cqid = 0 || bits f 8 8 = 0 || off then s.signal h.fn q.vector vc1
        else
          let n := Tab.get c.coalesced 0 q.vector + 1
          if bits f 0 8 < n then
            (s.setCtrl h.fn { c with coalesced := Tab.set c.coalesced 0 q.vector 0 }).signal h.fn q.vector false
          else
            s.setCtrl h.fn { c with
              coalesced := Tab.set c.coalesced 0 q.vector n
              coalesceAt := if c.coalesced.isEmpty then s.pkg.timebase else c.coalesceAt }

/-- A completion of a function's command that holds range-lock entries until it is posted: dropped where the controller is in reset or
fatal (R136, R180, R181). -/
def State.completionOf (s : State) (h : HeldCpl) : State :=
  let c := s.ctrl h.fn
  if c.cfs || c.flr.isSome || !c.enabled then s else s.postCqe h

/-- A completion of a function's command that holds no entries. -/
def State.completion (s : State) (fn sq cid status dw0 dw1 : Nat) (urgent : Bool) : State :=
  s.completionOf ⟨fn, sq, cid, status, dw0, dw1, urgent, ((s.sq? fn sq).map (·.bellAt)).getD s.pkg.timebase, []⟩

/-! ### Asynchronous events (R127) -/

/-- Whether an event is enabled in a controller's Asynchronous Event Configuration (FID 0x0B). -/
def Ctrl.eventOn (c : Ctrl) (e : AsyncEvent) : Bool :=
  match e.on with
  | some b => bit (Tab.get c.features 0x09FF 0x0B) b
  | none => true

/-- Whether an event's type waits for its log page to be read. -/
def Ctrl.eventMasked (c : Ctrl) (e : AsyncEvent) : Bool := c.masked.any fun m => m / 256 == e.type

/-- An enabled event delivered where a request is outstanding and its type is not masked; none else. -/
def State.tryEvent (s : State) (fn : Nat) (e : AsyncEvent) : Option State :=
  let c := s.ctrl fn
  match c.aers with
  | [] => none
  | cid :: rest =>
    if c.eventMasked e then none
    else
      let s := s.setCtrl fn { c with aers := rest, masked := (e.type * 256 + e.log) :: c.masked }
      some (s.completion fn 0 cid 0 (e.type + e.info * 2 ^ 8 + e.log * 2 ^ 16) 0 false)

/-- An asynchronous event raised on one controller: delivered, or kept until a request is there and its type unmasked (log 135). -/
def State.raiseOn (s : State) (fn : Nat) (e : AsyncEvent) : State :=
  let c := s.ctrl fn
  if !c.eventOn e then s
  else match s.tryEvent fn e with
    | some t => t
    | none => if c.events.contains e then s else s.setCtrl fn { c with events := c.events ++ [e] }

/-- An event that is lost where it cannot be delivered at once: those of doorbell writes (R107). -/
def State.raiseNow (s : State) (fn : Nat) (e : AsyncEvent) : State :=
  if (s.ctrl fn).eventOn e then (s.tryEvent fn e).getD s else s

/-- Kept events delivered as far as requests and masks let them. -/
def State.deliverKept (s : State) (fn : Nat) : State :=
  (s.ctrl fn).events.foldl (fun (s : State) e =>
    match s.tryEvent fn e with
    | some t => let c := t.ctrl fn
      t.setCtrl fn { c with events := c.events.erase e }
    | none => s) s

/-- An asynchronous event raised on every controller. -/
def State.raiseAll (s : State) (e : AsyncEvent) : State := s.functions.foldl (fun s fn => s.raiseOn fn e) s

/-- The events of R127. -/
def evBadDoorbell : AsyncEvent := ⟨0, 0, 0x01, none⟩
def evBadDoorbellValue : AsyncEvent := ⟨0, 1, 0x01, none⟩
def evInternal : AsyncEvent := ⟨0, 3, 0x01, none⟩
def evTemperature : AsyncEvent := ⟨1, 1, 0x02, some 1⟩
def evSpare : AsyncEvent := ⟨1, 2, 0x02, some 0⟩
def evReliability (b : Nat) : AsyncEvent := ⟨1, 0, 0x02, some b⟩
def evNamespace : AsyncEvent := ⟨2, 0, 0x04, some 8⟩
def evAna : AsyncEvent := ⟨2, 3, 0x0C, some 11⟩
def evReservation : AsyncEvent := ⟨6, 0, 0x80, none⟩
def evSanitize : AsyncEvent := ⟨6, 1, 0x81, none⟩
def evBudget : AsyncEvent := ⟨7, 0, 0xC0, none⟩

/-- A critical warning bit set, with its SMART / Health event (R124, R127). -/
def State.warn (s : State) (b : Nat) : State :=
  if bit s.nvme.warnings.toNat b then s
  else
    let s := { s with nvme.warnings := s.nvme.warnings ||| BitVec.ofNat 8 (2 ^ b) }
    s.raiseAll (if b = 0 then evSpare else if b = 1 then evTemperature else evReliability b)

/-- A critical warning bit cleared. -/
def State.unwarn (s : State) (b : Nat) : State :=
  { s with nvme.warnings := s.nvme.warnings &&& ~~~BitVec.ofNat 8 (2 ^ b) }

/-- Bit 0 follows the headland against its threshold (R269). -/
def State.checkHeadland (s : State) : State :=
  let first := (s.xset 0).headland0 + (s.xset 1).headland0
  if 1000 * s.headland < s.val 0x6010 6 * first then s.warn 0 else s

/-! ### Errors and completions of commands -/

/-- An Error Information entry: the newest 256 are kept (R120 ELPE, R125). -/
def State.logErrorAt (s : State) (fn sq cid status lba nsid specific param : Nat) : State :=
  let c := s.ctrl fn
  let n := c.errorCount + 1
  s.setCtrl fn { c with
    errorCount := n, errors := (⟨n, sq, cid, status, lba, nsid, specific, param⟩ :: c.errors).take 256 }

/-- An Error Information entry that names no field. -/
def State.logError (s : State) (fn sq cid status lba nsid specific : Nat) : State :=
  s.logErrorAt fn sq cid status lba nsid specific 0

/-- A Delete I/O SQ that waits completes once every fetched command of its queue has posted its entry (R147). -/
def State.deleteCheck (s : State) (fn q : Nat) : State :=
  match s.sq? fn q with
  | none => s
  | some x =>
    match x.deleting with
    | none => s
    | some cid =>
      if (s.nvme.cmds.any fun k => k.fn == fn && k.sq == q && k.fwdTag.isNone && !k.silent) ||
          (s.nvme.fwdOut.any fun k => k.fn == fn && k.sq == q && !k.silent) ||
          (s.nvme.heldCpl.any fun k => k.fn == fn && k.sq == q) then s
      else { s with nvme.sqs := Tab.erase s.nvme.sqs (qkey fn q) }.completion fn 0 cid 0 0 0 false

/-- An admin command's completion; an error is logged. -/
def State.answer (s : State) (r : Sqe) (status dw0 : Nat) : State :=
  let fn := r.fn.toNat
  let s := if status = 0 then s else s.logError fn r.sq.toNat r.cid.toNat status 0 0 0
  s.completion fn r.sq.toNat r.cid.toNat status dw0 0 (s.classOf fn r.sq.toNat == 0)

/-- A function takes a fatal error: `CSTS.CFS`, its cause, the count; entries that waited to be posted never are (R180). -/
def State.fatal (s : State) (fn cause : Nat) : State :=
  let c := s.ctrl fn
  let held := s.nvme.heldCpl.filter fun (h : HeldCpl) => h.fn != fn
  ((({ s with nvme.heldCpl := held }.setCtrl fn { c with cfs := true }).setFval fn 0x4020 8 cause).bump 0x4000 3).fire (evSrc 44 18)

/-! ### ANA states (R351) -/

/-- The ANA states, in the coding of the log page. -/
inductive Ana where
  | optimized | nonOptimized | inaccessible | persistentLoss | transition
  deriving DecidableEq, Repr

/-- The group this Isle owns by default. -/
def State.ownGroup (s : State) : Nat := if s.isTwin && s.pkg.straps.isle then 2 else 1

/-- The ANA state of a group as this Isle reports it. -/
def State.ana (s : State) (g : Nat) : Ana :=
  let mine := g == s.ownGroup
  if !s.isTwin then .optimized
  else match s.twin.pair with
    | .alone => if mine then .optimized else .inaccessible
    | .resync =>
      if s.twin.twinSole then .nonOptimized
      else if (s.xset (setOfGroup g)).live then .optimized else .nonOptimized
    | .inStep => if (s.xset (setOfGroup g)).live then .optimized else .nonOptimized
    | .split => if mine then .optimized else if s.twin.groupDown then .persistentLoss else .inaccessible
    | .takeover => if mine then .optimized else .transition
    | .sole => .optimized
    | .failback => if ((s.twin.failback.map (·.group)) == some g) then .transition
      else if (s.xset (setOfGroup g)).live then .optimized else .nonOptimized

/-- The status of an access through a state that serves nothing (R128). -/
def Ana.status : Ana → Option Nat
  | .persistentLoss => some (sc 3 1)
  | .inaccessible => some (sc 3 2)
  | .transition => some (sc 3 3)
  | _ => none

/-- An ANA change: the count in each controller's log and the notice (R127, R351). -/
def State.anaChange (s : State) : State :=
  let s := s.functions.foldl (fun s fn => let c := s.ctrl fn; s.setCtrl fn { c with anaChanges := c.anaChanges + 1 }) s
  s.raiseAll evAna

/-! ### Fetching (R107, R135, R137, R180) -/

/-- Whether the package serves hosts: running and not in a flush. -/
def State.serving (s : State) : Bool := s.pkg.phase == .running

/-- Whether a submission queue is held by one of its own commands waiting in the front end (R135, R303). -/
def State.held (s : State) (fn q : Nat) : Bool :=
  s.nvme.cmds.any fun c => c.fn == fn && c.sq == q && c.fwdTag.isNone && (!c.admitted || c.waitDirty)

/-- Whether a submission queue has an entry that may be fetched now. -/
def State.sqReady (s : State) (fn q : Nat) (x : Sq) : Bool :=
  let c := s.ctrl fn
  s.serving && c.enabled && c.ready && !c.cfs && c.flr.isNone && !c.resetting && x.deleting.isNone && x.head != x.tail &&
    !s.held fn q && !(s.nvme.stalledEngines.getLsbD (q % 16))

/-! ### Arbitration of an engine (R112, R130, R131, R171) -/

/-- The queues of an engine that may be fetched from: function, queue identifier. -/
def State.ready (s : State) (e : Nat) : List (Nat × Nat) :=
  s.nvme.sqs.filterMap fun p =>
    let fn := p.1 / 65536
    let q := p.1 % 65536
    if q % 16 == e && s.sqReady fn q p.2 then some (fn, q) else none

/-- The next of a rising list after the one served last, in turn. -/
def roundRobin (l : List Nat) (last : Nat) : Option Nat :=
  match l.find? fun n => last < n with
  | some n => some n
  | none => l.head?

/-- The functions of a list of queues, in rising order. -/
def functionsOf (l : List (Nat × Nat)) : List Nat :=
  l.foldl (fun (m : List Nat) p => if m.contains p.1 then m else m ++ [p.1]) []

/-- A queue chosen among a controller's by round robin, each served a burst at a time. -/
def Arb.pickQueue (a : Arb) (key burst : Nat) (l : List Nat) : Option (Nat × Arb) :=
  let last := Tab.get a.queue 0 key
  let left := Tab.get a.burst 0 key
  if l.contains last && left != 0 then some (last, { a with burst := Tab.set a.burst 0 key (left - 1) })
  else (roundRobin l last).map fun q => (q, { a with queue := Tab.set a.queue 0 key q, burst := Tab.set a.burst 0 key (burst - 1) })

/-- The Arbitration Burst of a controller's Arbitration feature: commands at a time, 7 for no limit. -/
def fetchBurst (f : Nat) : Nat := if bits f 0 3 = 7 then 65536 else 2 ^ bits f 0 3

/-- The weight of class 1, 2 or 3 (HPW, MPW, LPW). -/
def weightOf (f cls : Nat) : Nat := 1 + (if cls = 1 then bits f 24 8 else if cls = 2 then bits f 16 8 else bits f 8 8)

/-- The class of a controller that weighted round robin serves next, among those with entries. -/
def Arb.pickClass (a : Arb) (fn f : Nat) (l : List Nat) : Option (Nat × Arb) :=
  match l.find? fun c => Tab.get a.weight 0 (8 * fn + c) != 0 with
  | some c => some (c, { a with weight := Tab.set a.weight 0 (8 * fn + c) (Tab.get a.weight 0 (8 * fn + c) - 1) })
  | none =>
    (l.head?).map fun c => (c, { a with weight := [1, 2, 3].foldl (fun t k =>
      Tab.set t 0 (8 * fn + k) (weightOf f k - (if k = c then 1 else 0))) a.weight })

/-- A function's turn under deficit round robin: it goes on while it has credit and entries; the next function earns its weight as its
turn begins, and one that had no entry left loses what it had. -/
def State.turnOf (s : State) (a : Arb) (e : Nat) (fns : List Nat) : Option (Nat × Arb) :=
  let credit (a : Arb) (fn : Nat) : Nat := Tab.get a.credit 0 fn
  let spend (a : Arb) (fn : Nat) : Arb := { a with turn := fn, credit := Tab.set a.credit 0 fn (credit a fn - 1) }
  if fns.contains a.turn && credit a a.turn != 0 then some (a.turn, spend a a.turn)
  else
    let waits := s.nvme.sqs.any fun p => p.1 / 65536 == a.turn && p.1 % 16 == e && p.2.head != p.2.tail
    let a := if waits then a else { a with credit := Tab.set a.credit 0 a.turn 0 }
    (roundRobin fns a.turn).map fun fn =>
      (fn, spend { a with credit := Tab.set a.credit 0 fn (credit a fn + max 1 (s.fval fn 0x4010 0x0A)) } fn)

/-- The queue an engine fetches from next: admin queues first, class 0 second, both by round robin over the functions; classes 1 to 3 by deficit
round robin over the functions, and within one by its Arbitration feature. -/
def State.pick (s : State) (e : Nat) : Option ((Nat × Nat) × Arb) :=
  let a := (s.nvme.arbs[e]?).getD ⟨0, 0, 0, [], [], [], []⟩
  let l := s.ready e
  let admin := l.filter fun p => p.2 == 0
  let urgent := l.filter fun p => p.2 != 0 && s.classOf p.1 p.2 == 0
  let rest := l.filter fun p => p.2 != 0 && s.classOf p.1 p.2 != 0
  let of (m : List (Nat × Nat)) (fn : Nat) : List Nat := (m.filter fun p => p.1 == fn).map (·.2)
  if !admin.isEmpty then (roundRobin (functionsOf admin) a.adminLast).map fun fn => ((fn, 0), { a with adminLast := fn })
  else if !urgent.isEmpty then
    (roundRobin (functionsOf urgent) a.urgentLast).bind fun fn =>
      (Arb.pickQueue { a with urgentLast := fn } (8 * fn) 1 (of urgent fn)).map fun p => ((fn, p.1), p.2)
  else
    (s.turnOf a e (functionsOf rest)).bind fun t =>
      let f := Tab.get (s.ctrl t.1).features 0 0x01
      let mine := of rest t.1
      if (s.ctrl t.1).wrr then
        let classes := [1, 2, 3].filter fun c => mine.any fun q => s.classOf t.1 q == c
        (t.2.pickClass t.1 f classes).bind fun k =>
          (k.2.pickQueue (8 * t.1 + k.1) (fetchBurst f) (mine.filter fun q => s.classOf t.1 q == k.1)).map fun p => ((t.1, p.1), p.2)
      else (t.2.pickQueue (8 * t.1 + 4) (fetchBurst f) mine).map fun p => ((t.1, p.1), p.2)

/-- A command taken from its submission queue; none when its engine's arbitration does not come to that queue. -/
def State.fetch (s : State) (r : Sqe) : Option State :=
  let fn := r.fn.toNat
  let q := r.sq.toNat
  match s.sq? fn q, s.pick (q % 16) with
  | some x, some p =>
    if p.1 = (fn, q) then
      some { s.putSq fn q { x with head := (x.head + 1) % x.size } with
        nvme.arbs := s.nvme.arbs.setIfInBounds (q % 16) p.2, nvme.busyAt := s.nvme.busyAt.set 4 s.pkg.timebase }
    else none
  | _, _ => none

/-- A command fetched and run by `f`; nothing where it cannot be fetched. -/
def State.onFetch (s : State) (r : Sqe) (f : State → State) : State :=
  match s.fetch r with
  | some t => f t
  | none => s

/-- The admin commands NVMe lets run while a sanitize operation is in progress: Delete and Create I/O queues, Get Log Page of
the pages permitted, Identify, Abort, Features, Asynchronous Event Request, Keep Alive (log 19). -/
def State.admin (s : State) (r : Sqe) (duringSanitize : Bool) (f : State → State) : State :=
  if r.sq != 0 then s
  else s.onFetch r fun s =>
    let s := s.fire (evSrc 44 0)
    if s.nvme.sanitize.isSome && !duringSanitize then s.answer r (sc 0 0x1D) 0 else f s

end Sys2Proof.Machine
end

