-- ==== Sys2Proof/Machine/HostIo.lean ====
section
/-! DEFINITION. Commands in the front end: range locks, the class-0 budget, flash reads, protection information, dirty
reservations, atomic pieces, mirroring, commit points and completion (R130 to R163, R275 to R278, R293, R303, R310, R329 to
R331, R349, 04_command_order.md). -/
namespace Sys2Proof.Machine

/-! ### Commands in flight -/

/-- A command by its arrival order. -/
def State.cmd? (s : State) (order : Nat) : Option HostCmd := s.nvme.cmds.find? fun c => c.order == order

/-- A command changed. -/
def State.onCmd (s : State) (order : Nat) (f : HostCmd → HostCmd) : State :=
  { s with nvme.cmds := updateIf (fun c => c.order == order) f s.nvme.cmds }

/-- The map units an extent touches: first and count. -/
def Extent.units (e : Extent) : Nat × Nat := (e.lba / 4, (e.lba + e.count + 3) / 4 - e.lba / 4)

/-- The map units an extent covers whole: first and count. -/
def Extent.whole (e : Extent) : Nat × Nat :=
  let a := ceilDiv e.lba 4
  (a, (e.lba + e.count) / 4 - a)

/-- The span of the units an extent touches. -/
def Extent.span (e : Extent) (write : Bool) : Span := ⟨e.nsid, e.units.1, e.units.2, write⟩

/-- The range-lock entries a command takes (R133). -/
def IoOp.spans : IoOp → List Span
  | .write e _ => [e.span true]
  | .zeroes e => [e.span true]
  | .read e => [e.span false]
  | .compare e _ => [e.span false]
  | .verify e => [e.span false]
  | .deallocate l => (l.filter fun e => e.whole.2 != 0).map fun e => ⟨e.nsid, e.whole.1, e.whole.2, true⟩
  | .copy src dst _ => src.map (fun e => e.span false) ++ [dst.span true]
  | .memCopy src _ => src.map fun e => e.span false
  | .device _ => []
  | .other => []

/-! ### The range-lock table (R133 to R137) -/

/-- Whether two entries conflict (R134). -/
def Span.conflicts (a b : Span) : Bool :=
  a.nsid == b.nsid && (a.write || b.write) && decide (a.first < b.first + b.count) && decide (b.first < a.first + a.count)

/-- Whether two lists of entries conflict. -/
def conflictAny (a b : List Span) : Bool := a.any fun x => b.any x.conflicts

/-- Range-lock entries that commands of class 0, or of classes 1–3, hold: until their completion entries are posted (R136). -/
def State.locksHeld (s : State) (urgent : Bool) : Nat :=
  sumOf (fun c => if c.admitted && (c.cls == 0) == urgent then c.spans.length else 0) s.nvme.cmds +
    sumOf (fun (h : HeldCpl) => if h.urgent == urgent then h.spans.length else 0) s.nvme.heldCpl

/-- Whether a class may take entries (R137). -/
def State.locksFree (s : State) (cls need : Nat) : Bool :=
  let h0 := s.locksHeld true
  let hl := s.locksHeld false
  if cls = 0 then decide (h0 + hl + need ≤ 4096)
  else decide (hl + need ≤ 4096 - max (s.val 0x3040 4) h0)

/-- Whether a waiting command conflicts with nothing held and nothing that waits ahead of it (R134). -/
def State.conflictFree (s : State) (c : HostCmd) : Bool :=
  (s.nvme.cmds.all fun o =>
    o.order == c.order || !(o.admitted || decide (o.order < c.order)) || !conflictAny o.spans c.spans) &&
  s.nvme.heldCpl.all fun h => !conflictAny h.spans c.spans

/-- Whether a waiting command is free of conflict but short of entries (R137). -/
def State.short (s : State) (c : HostCmd) : Bool :=
  !c.admitted && s.conflictFree c && !s.locksFree c.cls c.spans.length

/-- Whether a command that is short of entries goes before this one, which holds it back: one of class 0 before every command of classes 1–3,
and an earlier one before a command of its own kind (R134). -/
def State.shortAhead (s : State) (c : HostCmd) : Bool :=
  s.nvme.cmds.any fun o =>
    s.short o && (if c.cls = 0 then o.cls == 0 && decide (o.order < c.order) else o.cls == 0 || decide (o.order < c.order))

/-- Whether a waiting command may be admitted now. -/
def State.mayAdmit (s : State) (c : HostCmd) : Bool :=
  !c.admitted && s.conflictFree c && s.locksFree c.cls c.spans.length && !s.shortAhead c

/-! ### The class-0 budget (R154 to R156, R170) -/

/-- The set of a namespace. -/
def State.setOf (s : State) (nsid : Nat) : Fin 2 := setOfGroup (((s.namespace? nsid).map (·.group)).getD 1)

/-- The units of a read-type command that flash must serve, with their entries. -/
def State.flashUnits (s : State) (spans : List Span) : List (Nat × Nat × MapEntry) :=
  spans.flatMap fun sp => (List.range sp.count).filterMap fun k =>
    let u := sp.first + k
    let e := (s.xset (s.setOf sp.nsid)).entry sp.nsid u
    if (s.dirtyUnit sp.nsid u).isSome || (e.state != 1 && e.state != 2) then none else some (sp.nsid, u, e)

/-- Whether strict mode is in force (R157, R160). -/
def State.strict (s : State) : Bool := !s.nvme.modeOpen

/-- Whether a die has a program posted or running. -/
def State.programming (s : State) (c l : Nat) : Bool := (s.lun c l).ops.any fun o => o.desc.opcode == .program

/-- The pages of a page's stripe in the other columns, and how many of them a rebuild reads: as many as the stripe has data columns (R158,
R263, R278). -/
def State.stripeMates (s : State) (i : Fin 2) (ppn : Nat) : List Nat × Nat :=
  match (s.xset i).furrowAt ppn with
  | none => ([], 0)
  | some f =>
    let p := bits ppn 27 3
    let page := bits ppn 0 13
    let cols := s.present f p
    ((cols.filter fun k => !(k.channel == pageChannel ppn)).map fun k => ppnOf k.channel k.lun p k.block page,
     cols.length - (if f.layout15 then 1 else 2))

/-- Whether a class-0 read of a page is rebuilt from its stripe: its die is programming while strict mode is in force (R158, R159). -/
def State.rebuilds (s : State) (cls ppn : Nat) : Bool := cls == 0 && s.strict && s.programming (pageChannel ppn) (pageLun ppn)

/-- The flash reads that give one page of a unit: its own, or those of the readable dies of its stripe. -/
def State.pageReads (s : State) (cls : Nat) (i : Fin 2) (r : Nat × Nat) : List (Nat × Nat) :=
  if s.rebuilds cls r.1 then
    let m := s.stripeMates i r.1
    ((m.1.filter fun p => !s.programming (pageChannel p) (pageLun p)).take m.2).map fun p => (p, r.2)
  else [r]

/-- A charge joined to those there are: one to a die (R154). -/
def addCharge (l : List Charge) (c : Charge) : List Charge :=
  if l.any fun g => g.channel == c.channel && g.lun == c.lun then
    l.map fun g => if g.channel == c.channel && g.lun == c.lun then { g with senses := g.senses + c.senses, cws := g.cws + c.cws } else g
  else l ++ [c]

/-- The charges a class-0 read makes: on each die that will sense a page for it (R154, R158). -/
def State.chargesOf (s : State) (c : HostCmd) : List Charge :=
  match c.op with
  | .read _ => ((s.flashUnits c.spans).flatMap fun u =>
      (s.unitReads (s.setOf u.1) u.2.2).flatMap fun r => s.pageReads c.cls (s.setOf u.1) r).foldl (fun l r =>
        addCharge l ⟨pageChannel r.1, pageLun r.1, 1, popCount 4 r.2⟩) []
  | _ => []

/-- Class-0 charges a die holds, and class-0 codewords a channel holds. -/
def State.dieCharges (s : State) (c l : Nat) : Nat :=
  sumOf (fun k => (k.charges.filter fun g => g.channel == c && g.lun == l && g.senses != 0).length) s.nvme.cmds
def State.channelCws (s : State) (c : Nat) : Nat :=
  sumOf (fun k => sumOf (fun g => if g.channel == c then g.cws else 0) k.charges) s.nvme.cmds

/-- Whether a class-0 command of a function is within budget, with the charges it makes and the entries it takes (R155). -/
def State.withinBudget (s : State) (fn own : Nat) (ch : List Charge) : Bool :=
  (ch.all fun g => decide (s.dieCharges g.channel g.lun < s.val 0x3040 1)) &&
  (ch.all fun g =>
    decide (s.channelCws g.channel + sumOf (fun h => if h.channel == g.channel then h.cws else 0) ch ≤ s.val 0x3040 3)) &&
  decide (0 < s.nvme.packageTokens) && decide (s.locksHeld true + own ≤ s.val 0x3040 4) && decide (0 < (s.ctrl fn).tokens)

/-- A class-0 command's admission: within budget it takes its tokens; beyond it it is counted, with the event the first time (R155, R156,
R170). -/
def State.judge (s : State) (fn own : Nat) (ch : List Charge) : State :=
  let f := s.ctrl fn
  if s.withinBudget fn own ch then
    { s with nvme.packageTokens := s.nvme.packageTokens - 1 }.setCtrl fn { f with tokens := f.tokens - 1 }
  else
    let s := s.bump 0x3040 7
    let s := if 0 < f.tokens then s else s.fbump fn 0x4020 5 1
    let s := { s with nvme.urgentBeyond := s.nvme.urgentBeyond + 1 }.fire (evSrc 44 17)
    if s.nvme.urgentArmed then s
    else { s with nvme.urgentArmed := true }.raiseAll evBudget

/-- The admission of a command of the lock table: one of class 0 is judged once, and makes its charges where it is within budget. -/
def State.budget (s : State) (c : HostCmd) : State :=
  if c.cls != 0 || c.judged then s
  else
    let ch := s.chargesOf c
    let own := if c.admitted then 0 else c.spans.length
    (s.judge c.fn own ch).onCmd c.order fun k => { k with judged := true, charges := if s.withinBudget c.fn own ch then ch else [] }

/-- The admission of a command that takes no entry and no charge (R154). -/
def State.judgePlain (s : State) (r : Sqe) : State :=
  if s.classOf r.fn.toNat r.sq.toNat = 0 then s.judge r.fn.toNat 0 [] else s

/-! ### Protection information (R111) -/

/-- The protection bytes of an LBA's metadata and the bytes its guard covers: eight bytes, or sixteen for the 64-bit guard. -/
def Namespace.piOf (n : Namespace) (b : Lba) : List Byte × List Byte :=
  let m := padTo (n.unitMeta / 4) b.info
  let d := padTo 4096 b.data
  if n.guard64 then (m, d)
  else if n.lbaf = 2 ∧ n.dps < 8 then (m.drop 8, d ++ m.take 8)
  else (m.take 8, d)

/-- The guard, application tag and reference tag that protection bytes hold. -/
def piFields (g64 : Bool) (p : List Byte) : Nat × Nat × Nat :=
  if g64 then (ofBe (slice p 0 8), ofBe (slice p 8 2), ofBe (slice p 10 6))
  else (ofBe (slice p 0 2), ofBe (slice p 2 2), ofBe (slice p 4 4))

/-- The check of one LBA: the status of the first that fails (R111, R128). -/
def piCheck (n : Namespace) (pr : PrInfo) (k : Nat) (b : Lba) : Nat :=
  let ty := n.dps % 8
  let p := n.piOf b
  let f := piFields n.guard64 p.1
  let refBits := if n.guard64 then 48 else 32
  let escape := f.2.1 == 0xFFFF && (ty != 3 || f.2.2 == 2 ^ refBits - 1)
  let guard := if n.guard64 then crc64 p.2 else crc16 p.2
  let want := if ty = 3 then pr.refTag else (pr.refTag + k) % 2 ^ refBits
  if ty = 0 || escape then 0
  else if pr.guard_ && f.1 != guard then sc 2 0x82
  else if pr.app && (f.2.1 &&& pr.appMask) != (pr.appTag &&& pr.appMask) then sc 2 0x83
  else if pr.ref && ty != 3 && f.2.2 != want then sc 2 0x84
  else 0

/-- The first check that fails over a run of LBAs, with its index. -/
def piCheckAll (n : Namespace) (pr : PrInfo) (l : List Lba) : Option (Nat × Nat) :=
  ((List.range l.length).zip l).findSome? fun p =>
    let st := piCheck n pr p.1 p.2
    if st = 0 then none else some (st, p.1)

/-- An LBA with its protection information generated. -/
def piMake (n : Namespace) (pr : PrInfo) (k : Nat) (b : Lba) : Lba :=
  if n.dps % 8 = 0 then b
  else
    let refBits := if n.guard64 then 48 else 32
    let ref := if n.dps % 8 = 3 then pr.refTag else (pr.refTag + k) % 2 ^ refBits
    let guard := if n.guard64 then crc64 (n.piOf b).2 else crc16 (n.piOf b).2
    let t := if n.guard64 then beBytes 8 guard ++ beBytes 2 pr.appTag ++ beBytes 6 ref
      else beBytes 2 guard ++ beBytes 2 pr.appTag ++ beBytes 4 ref
    let at_ := if !n.guard64 && n.lbaf == 2 && decide (n.dps < 8) then 8 else 0
    { b with info := trimZeros (overlay (padTo (n.unitMeta / 4) b.info) at_ t) }

/-! ### Contents of units (R256, R277) -/

/-- What a unit's read gives: its blocks and whether they are poisoned, or the entry that cannot be read. -/
inductive UnitRead where
  | ok (lbas : List Lba) (poison fromFlash : Bool)
  | dead (e : MapEntry)
  deriving DecidableEq, Repr

/-- The contents of a unit now: its newest dirty version, zero, or its stored copy. -/
def State.readUnit (s : State) (nsid unit : Nat) : UnitRead :=
  match s.dirtyUnit nsid unit with
  | some d => .ok d.lbas d.poison false
  | none =>
    let e := (s.xset (s.setOf nsid)).entry nsid unit
    if e.state = 0 then .ok [] false false
    else if e.state = 3 then .dead e
    else match s.storedAt e with
      | some u => .ok u.lbas u.poison true
      | none => .dead e

/-- A block of a unit's contents. -/
def lbaOf (l : List Lba) (i : Nat) : Lba := (l[i]?).getD ⟨[], []⟩

/-- The blocks of an extent: those of readable units, and the first unit that cannot be read. -/
def State.readExtent (s : State) (e : Extent) : List Lba × Option (Nat × MapEntry) × List (Nat × Bool) :=
  let units := (List.range e.units.2).map fun k => (e.units.1 + k, s.readUnit e.nsid (e.units.1 + k))
  let blocks := (List.range e.count).map fun k =>
    let a := e.lba + k
    match (units.find? fun u => u.1 == a / 4).map (·.2) with
    | some (.ok l _ _) => lbaOf l (a % 4)
    | _ => ⟨[], []⟩
  let dead := units.findSome? fun u => match u.2 with
    | .dead m => some (u.1, m)
    | .ok _ _ _ => none
  let poisoned := units.filterMap fun u => match u.2 with
    | .ok _ true f => some (u.1, f)
    | _ => none
  (blocks, dead, poisoned)

/-! ### Completion (R24, R136, R349) -/

/-- The Error Information entry's bytes as a forwarded completion carries them (R349). -/
def errorBytes (status lba nsid specific param : Nat) : List Byte :=
  padTo 64 (leBytes 8 0 ++ leBytes 2 0 ++ leBytes 2 0 ++ leBytes 2 (status * 2) ++ leBytes 2 param ++ leBytes 8 lba ++
    leBytes 4 nsid ++ leBytes 4 0 ++ leBytes 8 specific)

/-- A command ends: its completion is posted, or sent to the twin that forwarded it. Its entries are released with it, or once its entry,
which waits for room, is posted (R136). -/
def State.finishDw (s : State) (order status dw0 dw1 : Nat) : State :=
  match s.cmd? order with
  | none => s
  | some c =>
    let s := { s with nvme.cmds := s.nvme.cmds.filter fun k => k.order != order }
    match c.fwdTag with
    | some tag =>
      if c.silent then s
      else
        let body := leBytes 4 tag ++ leBytes 4 dw0 ++ leBytes 4 dw1 ++ leBytes 2 (status * 2) ++ [BitVec.ofNat 8 (b2n (status != 0)), 0]
        let s := { s with twin.fwdIn := Tab.erase s.twin.fwdIn tag }
        let more := if status = 0 then [] else errorBytes status c.errLba c.nsid c.errSpecific c.errParam
        if c.cls = 0 then s.straitUrgent 4 0x03 (body ++ more) else s.strait 4 0x03 (body ++ more)
    | none =>
      if c.silent then s
      else
        let s := if status = 0 then s else s.logErrorAt c.fn c.sq c.cid status c.errLba c.nsid c.errSpecific c.errParam
        (s.completionOf ⟨c.fn, c.sq, c.cid, status, dw0, dw1, c.cls == 0, c.arrived, c.spans⟩).deleteCheck c.fn c.sq

/-- A command that returns nothing in its completion ends. -/
def State.finish (s : State) (order status : Nat) : State := s.finishDw order status 0 0

/-- Read data of a command sent to the host, or to the twin that forwarded it; `apart` metadata bytes of a block go to a buffer of their
own, `bad` says which bytes are poisoned. To the host, each TLP that carries one has EP set; to the twin, zeros go in their place.
Each is counted and recorded (R103, R367, R368). -/
def State.sendData (s : State) (c : HostCmd) (apart : Nat) (data : List Byte) (bad : Option (Nat → Bool)) (address : Nat) : State :=
  let runs (n : Nat) : List Nat := List.range (ceilDiv data.length n)
  let badRun (n k : Nat) : Bool := (List.range (min n (data.length - n * k))).any fun j => (bad.map fun f => f (n * k + j)).getD false
  match c.fwdTag with
  | none =>
    let vc1 := s.onVc1 c.cls
    if bad.isNone then s.hostData c.fn c.sq c.cid c.ptr apart 0 data false vc1
    else
      let n := s.maxPayload
      (runs n).foldl (fun (s : State) k =>
        let s := s.hostData c.fn c.sq c.cid c.ptr apart (n * k) (slice data (n * k) (min n (data.length - n * k))) (badRun n k) vc1
        if badRun n k then s.exported ⟨1, c.fn⟩ (address + n * k) else s) s
  | some tag =>
    let d := match bad with
      | none => data
      | some f => ((List.range data.length).zip data).map fun (p : Nat × Byte) => if f p.1 then 0 else p.2
    (runs 228).foldl (fun (s : State) k =>
      let f := leBytes 4 tag ++ leBytes 4 (228 * k) ++ (d.drop (228 * k)).take 228
      let s := if c.cls = 0 then s.straitUrgent 4 0x02 f else s.strait 4 0x02 f
      if badRun 228 k then s.exported ⟨1, c.fn⟩ (address + 228 * k) else s) s

/-! ### Flash reads of commands (R158, R277) -/

/-- One flash read of a unit posted. -/
def State.postRead (s : State) (c : HostCmd) (i : Fin 2) (unit ppn mask : Nat) : State :=
  let fid := (((s.xset i).furrowAt ppn).map (·.id)).getD 0
  let d := firmwareDesc .read c.cls (2 ^ bits ppn 27 3) (pageLun ppn) (bits ppn 13 14) (bits ppn 0 13) mask
  let s := s.onCmd c.order fun k => { k with media := k.media ++ [(unit, fid)], past := k.past ||
    (match k.op with
     | .compare _ _ | .verify _ | .memCopy _ _ => true
     | _ => false) }
  s.postOp (pageChannel ppn) d (.host c.order unit)

/-- A unit's flash reads posted; one rebuilt for business is counted (R158, R159). -/
def State.postUnitReads (s : State) (c : HostCmd) (u : Nat × Nat × MapEntry) : State :=
  let i := s.setOf u.1
  (s.unitReads i u.2.2).foldl (fun (s : State) r =>
    let l := s.pageReads c.cls i r
    let s := if s.rebuilds c.cls r.1 then
        { s.bump 0x3040 6 with nvme.urgentRebuilt := s.nvme.urgentRebuilt + 1 }
      else s
    l.foldl (fun s p => s.postRead c i u.2.1 p.1 p.2) s) s

/-! ### Dirty reservations (R302, R303, R310) -/

/-- Bytes dirty and reserved, in 16 KiB units. -/
def State.dirtyLoad (s : State) : Nat :=
  (s.hold.dirty.filter fun d => !d.zero).length + sumOf (·.reserved) s.nvme.cmds

/-- Whether the package is in write-through mode. -/
def State.writeThrough (s : State) : Bool := s.hold.ceiling == 0

/-- The room there is, in units: the ceiling, or the window in write-through mode. -/
def State.dirtyRoom (s : State) : Nat :=
  if s.writeThrough then s.val 0x7000 6 * 64 else s.hold.ceiling / 16384

/-- The map units a writing command touches. -/
def IoOp.writeUnits : IoOp → Nat
  | .write e _ => e.units.2
  | .zeroes e => e.units.2 - e.whole.2
  | .copy _ dst _ => dst.units.2
  | _ => 0

/-! ### Pieces, mirroring, commit points (R139 to R144, R329, R330) -/

/-- An extent's atomic pieces of 128 logical blocks (R140). -/
def Extent.pieces (e : Extent) : List Extent :=
  (List.range (ceilDiv e.count 128)).map fun k => ⟨e.nsid, e.lba + 128 * k, min 128 (e.count - 128 * k)⟩

/-- A slot of the twin's mirror area that no unit holds. -/
def State.freeSlot (s : State) : Nat :=
  ((List.range (s.twin.slotsOut.length + 1)).find? fun k => !s.twin.slotsOut.contains k).getD 0

/-- The `MIRROR_DESC` and 72 `MIRROR_DATA` frames of a unit (R329). -/
def State.sendMirror (s : State) (d : DirtyUnit) (slot metaLen : Nat) (fwdTag : Option Nat) : State :=
  let b := unitBytes d.lbas metaLen
  let plain := if d.poison then List.replicate 16384 0 else b.take 16384
  let desc := leBytes 4 slot ++ leBytes 4 d.nsid ++ leBytes 7 d.unit ++ [BitVec.ofNat 8 d.gen] ++ leBytes 8 d.order ++
    leBytes 8 d.piece ++ leBytes 2 d.pieceUnits ++
    [BitVec.ofNat 8 metaLen, BitVec.ofNat 8 (b2n fwdTag.isSome)] ++ leBytes 4 (fwdTag.getD 0) ++
    leBytes 8 (crc64 (b.take 16384)) ++ padTo 64 (b.drop 16384)
  let s := if d.poison then s.exported ⟨1, 0⟩ 0 else s
  (List.range 72).foldl (fun s k =>
    s.strait 2 0x01 (leBytes 4 slot ++ [BitVec.ofNat 8 k, 0, 0, 0] ++ (plain.drop (228 * k)).take 228))
    (s.strait 2 0x00 desc)

/-- The new version of a unit: the old blocks with those of a piece laid over. -/
def mergeUnit (old : List Lba) (unit : Nat) (p : Extent) (block : Nat → Lba) : List Lba :=
  (List.range 4).map fun k =>
    let a := 4 * unit + k
    if p.lba ≤ a ∧ a < p.lba + p.count then block (a - p.lba) else lbaOf old k

/-- The dirty units of one piece of an extent `e`. `block` gives the piece's blocks and `bad` says which are poisoned; `wholeZero` deallocates
units the command covers whole. A unit that the command has covered whole by the end of this piece keeps nothing older (R139, R140, R142). -/
def State.makePiece (s : State) (c : HostCmd) (e p : Extent) (block : Nat → Lba) (bad : Nat → Bool) (wholeZero : Bool) : State :=
  let i := s.setOf p.nsid
  let first := s.hold.nextOrder
  let units := (List.range p.units.2).map fun k => p.units.1 + k
  let isWhole (u : Nat) : Bool := decide (e.lba ≤ 4 * u) && decide (4 * u + 4 ≤ p.lba + p.count)
  let badIn (u : Nat) : Bool := (List.range 4).any fun k => decide (p.lba ≤ 4 * u + k) && decide (4 * u + k < p.lba + p.count) && bad (4 * u + k - p.lba)
  let metaLen := ((s.namespace? p.nsid).map Namespace.unitMeta).getD 0
  units.foldl (fun s u =>
    let old := match s.readUnit p.nsid u with
      | .ok l q _ => (l, q && !isWhole u)
      | .dead _ => ([], !isWhole u)
    let zero := wholeZero && isWhole u
    let gen := (s.genOf i p.nsid u + 1) % 256
    let mirror := s.twin.mirrorOn && c.mirror && !zero
    let slot := s.freeSlot
    let d : DirtyUnit := {
      order := s.hold.nextOrder, set := i.val, nsid := p.nsid, unit := u, gen := gen
      lbas := if zero then [] else mergeUnit old.1 u p block
      poison := !zero && (old.2 || badIn u), piece := first, pieceUnits := units.length, cmd := c.order
      slot := if mirror then some slot else none
      acked := !mirror, committed := false, committedAt := 0, sowing := false, confirmed := zero, recSeq := 0, superseded := false
      entry := if zero then some ⟨0, 0, 0, gen, 0⟩ else none
      zero := zero }
    let s := { s with hold.dirty := s.hold.dirty ++ [d], hold.nextOrder := s.hold.nextOrder + 1 }
    if mirror then
      let s := { s with twin.slotsOut := s.twin.slotsOut ++ [slot] }
      s.sendMirror d slot metaLen c.fwdTag
    else s) s

/-- A piece whose units are all acknowledged passes its commit point: its units replace earlier versions (R144, R274). The pieces of a command
pass theirs in order, since a later one may build on an earlier one's version of the unit they share. -/
def State.commitPiece (s : State) (piece : Nat) : State :=
  let l := s.hold.dirty.filter fun d => d.piece == piece && !d.committed
  let before := s.hold.dirty.any fun d => !d.committed && decide (d.piece < piece) && l.any fun n => n.cmd == d.cmd
  if l.isEmpty || l.any (fun d => !d.acked) || before then s
  else
    let older (d : DirtyUnit) : Bool := l.any fun n => n.nsid == d.nsid && n.unit == d.unit && d.order < n.order
    let mark (d : DirtyUnit) : DirtyUnit :=
      if d.piece == piece then { d with committed := true, committedAt := s.hold.nextOrder }
      else if d.committed && older d then { d with superseded := true } else d
    let s := { s with hold.dirty := s.hold.dirty.map mark, hold.nextOrder := s.hold.nextOrder + 1 }
    l.foldl (fun s d => s.onCmd d.cmd fun c => { c with past := true }) s

/-- Whether a command's units are all past their commit points, and in write-through mode on flash with their records. -/
def State.writeDone (s : State) (c : HostCmd) : Bool :=
  let l := s.hold.dirty.filter fun d => d.cmd == c.order
  c.filled && l.all fun d => d.committed &&
    (!s.writeThrough || d.superseded || (d.recSeq != 0 && decide (d.recSeq ≤ s.durable (if d.set = 0 then 0 else 1))))

/-- Writes whose units allow it complete (R24, R275, R330). -/
def State.settleWrites (s : State) : State :=
  (s.nvme.cmds.filter fun c => s.writeDone c).foldl (fun s c => s.finish c.order c.status) s

/-- Pieces that may pass their commit points do, deallocations with them are journaled, and writes complete. -/
def State.settlePieces (s : State) : State :=
  let s := (s.hold.dirty.filter fun d => !d.committed).foldl (fun s d => s.commitPiece d.piece) s
  let s := State.journalPieces 1 s.hold.dirty.length (State.journalPieces 0 s.hold.dirty.length s)
  s.settleWrites.releaseDirty

/-- The first unit of a write that must be merged and cannot be read (R142). -/
def State.unmergeable (s : State) (e : Extent) : Option (Nat × MapEntry) :=
  ((List.range e.units.2).map (e.units.1 + ·)).findSome? fun u =>
    if decide (e.whole.1 ≤ u) && decide (u < e.whole.1 + e.whole.2) then none
    else match s.readUnit e.nsid u with
      | .dead m => some (u, m)
      | .ok _ _ _ => none

/-- The Command Specific Information of an unreadable unit (R125): memory 5 and the page; for poison that left, the memory it
was read into. The address of that buffer is a free value (log 3). -/
def State.origin5 (s : State) (e : MapEntry) : Nat := 5 * 2 ^ 60 + b2n s.pkg.straps.isle * 2 ^ 59 + e.ppn

/-- A command's first error. -/
def State.errCmd (s : State) (order status lba specific : Nat) : State :=
  s.onCmd order fun c => if c.status = 0 then { c with status := status, errLba := lba, errSpecific := specific } else c

/-- The write of an extent carried out: merged, cut into pieces, mirrored (R139, R140, R142). -/
def State.fill (s : State) (c : HostCmd) (e : Extent) (block : Nat → Lba) (bad : Nat → Bool) (wholeZero : Bool) : State :=
  match s.unmergeable e with
  | some (u, m) => (s.errCmd c.order (sc 2 0x81) (4 * u) (s.origin5 m)).finish c.order (sc 2 0x81)
  | none =>
    let s := s.onCmd c.order fun k => { k with filled := true, reserved := 0 }
    let s := e.pieces.foldl (fun s p => s.makePiece c e p (fun k => block (p.lba - e.lba + k)) (fun k => bad (p.lba - e.lba + k)) wholeZero) s
    let i := s.setOf e.nsid
    let bytes := 4096 * e.count
    let s := s.onSet i fun x => { x with sinceCheckpoint := x.sinceCheckpoint + bytes }
    (s.setKept 0x6030 8 (s.val 0x6030 8 + bytes)).settlePieces

/-! ### Deallocation (R292) -/

/-- Runs of at most 32 units, which are 512 KiB. -/
def runs32 (first count : Nat) : List (Nat × Nat) :=
  (List.range (ceilDiv count 32)).map fun k => (first + 32 * k, min 32 (count - 32 * k))

/-- A run of units deallocated: the record, the entries, and dirty versions superseded (R255, R274, R292). -/
def State.deallocRun (s : State) (nsid first count : Nat) : State :=
  let i := s.setOf nsid
  let s := s.journal i false [.dealloc nsid first count]
  let seq := (s.xset i).seq
  let s := (List.range count).foldl (fun s k =>
    s.mapWrite i nsid (first + k) ⟨0, 0, 0, (s.genOf i nsid (first + k) + 1) % 256, 0⟩ seq) s
  { s with hold.dirty := s.hold.dirty.map fun d =>
      if d.nsid == nsid && decide (first ≤ d.unit) && decide (d.unit < first + count) && d.committed
      then { d with superseded := true } else d }

/-! ### Carrying out admitted commands -/

/-- The bytes of blocks: data, each followed by its metadata where that travels with it. -/
def extentBytes (metaEach : Nat) (l : List Lba) : List Byte :=
  l.flatMap fun b => padTo 4096 b.data ++ padTo metaEach b.info

/-- The metadata bytes of a block. -/
def Namespace.infoEach (n : Namespace) : Nat := n.unitMeta / 4

/-- The metadata bytes of a block that move with it: none where the device inserts and strips protection information that is all of it. -/
def Namespace.infoMoved (n : Namespace) (pr : PrInfo) : Nat :=
  if pr.act && n.dps % 8 != 0 && (n.lbaf == 1 || n.guard64) then 0 else n.infoEach

/-- The metadata bytes of a block that move in a buffer of their own (R111). -/
def Namespace.apart (n : Namespace) (pr : PrInfo) : Nat := if n.extended then 0 else n.infoMoved pr

/-- The namespace of a command, to take a figure of. -/
def State.nsFigure (s : State) (nsid : Nat) (f : Namespace → Nat) : Nat := ((s.namespace? nsid).map f).getD 0

/-- A read-type command whose units are all ready ends; `each` sends its data where it sends any, given which of its blocks are poisoned
(R144, R277, R367, R111). A Read that sent poisoned data ends in error, naming the first such unit's origin (R125). -/
def State.finishReads (s : State) (c : HostCmd) (e : Extent) (each : State → List Lba → (Nat → Bool) → Bool → Nat → State × Nat) : State :=
  let r := s.readExtent e
  match r.2.1 with
  | some (u, m) => (s.errCmd c.order (sc 2 0x81) (4 * u) (s.origin5 m)).finish c.order (sc 2 0x81)
  | none =>
    match ((s.namespace? e.nsid).bind fun n => piCheckAll n c.pr r.1) with
    | some (st, k) => (s.errCmd c.order st (e.lba + k) 0).finish c.order st
    | none =>
      let bad (k : Nat) : Bool := r.2.2.any fun p => p.1 == (e.lba + k) / 4
      match r.2.2 with
      | [] => let t := each s r.1 bad false 0; t.1.finish c.order t.2
      | (u, flash) :: _ =>
        match c.op with
        | .read _ =>
          let a := s.draw
          let t := each a.2 r.1 bad true (a.1.toNat % 2 ^ 48)
          let region := if flash then 2 ^ 57 * (pageChannel (((s.xset (s.setOf e.nsid)).entry e.nsid u).ppn) / 8) else 0
          let mem := (if flash then 2 else 1) * 2 ^ 60 + b2n s.pkg.straps.isle * 2 ^ 59 + region + a.1.toNat % 2 ^ 48
          (t.1.errCmd c.order (sc 2 0x81) (max e.lba (4 * u)) mem).finish c.order (sc 2 0x81)
        | _ => let t := each s r.1 bad true 0; t.1.finish c.order t.2

/-- Where SLM begins in DRAM (log 20). -/
def slmOffset : Nat := 16384 * (Config.slmPlace % 2 ^ 24)

/-- What a Copy reads: the blocks of its sources with which are poisoned, or the status that ends it and where (R111, R117). -/
def State.copySource (s : State) (src : List Extent) (check : List PrInfo) : (List (Lba × Bool)) ⊕ (Nat × Nat × Nat) :=
  (src.zip check).foldl (fun acc p =>
    match acc with
    | .inr e => .inr e
    | .inl l =>
      let r := s.readExtent p.1
      match r.2.1 with
      | some (u, m) => .inr (sc 2 0x81, 4 * u, s.origin5 m)
      | none =>
        match (s.namespace? p.1.nsid).bind fun n => piCheckAll n p.2 r.1 with
        | some (st, k) => .inr (st, p.1.lba + k, 0)
        | none => .inl (l ++ ((List.range r.1.length).zip r.1).map fun b => (b.2, r.2.2.any fun q => q.1 == (p.1.lba + b.1) / 4)))
    (.inl [])

/-- A write of blocks carried out: their protection information checked, or generated (R111), then merged and cut into pieces. -/
def State.fillChecked (s : State) (c : HostCmd) (e : Extent) (data : List Lba) (bad : Nat → Bool) : State :=
  let n := s.namespace? e.nsid
  match (if c.pr.act then none else n.bind fun n => piCheckAll n c.pr data) with
  | some (st, k) => (s.errCmd c.order st (e.lba + k) 0).finish c.order st
  | none =>
    s.fill c e (fun k => match n with
      | some n => if c.pr.act then piMake n c.pr k (lbaOf data k) else lbaOf data k
      | none => lbaOf data k) bad false

/-- A command whose flash reads have all ended is carried out; a write that still waits for room or for data stays. -/
def State.proceed (s : State) (order : Nat) : State :=
  match s.cmd? order with
  | none => s
  | some c =>
    if !c.admitted || !c.media.isEmpty || !c.lost.isEmpty || c.filled || c.waitDirty || c.need != 0 then s
    else if c.status != 0 then s.finish order c.status
    else match c.op with
      | .read e =>
        let m := s.nsFigure e.nsid (·.infoMoved c.pr)
        let apart := s.nsFigure e.nsid (·.apart c.pr)
        s.finishReads c e fun s l bad some_ addr =>
          (s.sendData c apart (extentBytes m l) (if some_ then some fun k => bad (k / (4096 + m)) else none) addr, 0)
      | .compare e want => s.finishReads c e fun s l _ _ _ =>
          (s, if (l.zip want).all (fun p => padTo 4096 p.1.data == padTo 4096 p.2.data &&
            padTo 64 p.1.info == padTo 64 p.2.info) then 0 else sc 2 0x85)
      | .verify e => s.finishReads c e fun s _ _ _ _ => (s, 0)
      | .write e data => s.fillChecked c e data fun k => c.spoilt.contains k
      | .zeroes e => s.fill c e (fun k => match s.namespace? e.nsid with
          | some n => if c.pr.act then piMake n c.pr k ⟨[], []⟩ else ⟨[], []⟩
          | none => ⟨[], []⟩) (fun _ => false) true
      | .copy src dst check =>
        match s.copySource src check with
        | .inr x => (s.errCmd order x.1 x.2.1 x.2.2).finish order x.1
        | .inl l => s.fillChecked c dst (l.map (·.1)) fun k => ((l[k]?).map (·.2)).getD false
      | .deallocate l =>
        let s := s.onCmd order fun k => { k with past := true }
        let s := l.foldl (fun s e => (runs32 e.whole.1 e.whole.2).foldl (fun s r => s.deallocRun e.nsid r.1 r.2) s) s
        (s.finish order 0).releaseDirty
      | .memCopy src dst =>
        match src.findSome? fun e => (s.readExtent e).2.1 with
        | some (u, m) => (s.errCmd order (sc 2 0x81) (4 * u) (s.origin5 m)).finish order (sc 2 0x81)
        | none =>
          let data := src.flatMap fun e => (s.readExtent e).1.flatMap fun b => padTo 4096 b.data
          let poison := src.any fun e => !(s.readExtent e).2.2.isEmpty
          (s.store dst data poison).finish order 0
      | .device _ => s
      | .other => s.finish order 0

/-- A write's reservation taken where there is room; else it waits in arrival order (R303). -/
def State.reserve (s : State) (order : Nat) : State :=
  match s.cmd? order with
  | none => s
  | some c =>
    let n := c.op.writeUnits
    let ahead := s.nvme.cmds.any fun o => decide (o.order < order) && o.waitDirty
    if n = 0 then s.proceed order
    else if !ahead && decide (s.dirtyLoad + n ≤ s.dirtyRoom) then
      (s.onCmd order fun k => { k with reserved := n, waitDirty := false }).proceed order
    else if c.waitDirty then s
    else (s.onCmd order fun k => { k with waitDirty := true }).bump 0x7000 5

/-- The spans whose units a command must read from flash: sources, compares, and partially covered units of writes. -/
def IoOp.readSpans : IoOp → List Span
  | .read e => [e.span false]
  | .compare e _ => [e.span false]
  | .verify e => [e.span false]
  | .copy src dst _ => src.map (fun e => e.span false) ++ partialSpans dst
  | .memCopy src _ => src.map fun e => e.span false
  | .write e _ => partialSpans e
  | .zeroes e => partialSpans e
  | .deallocate _ => []
  | .device _ => []
  | .other => []
where
  partialSpans (e : Extent) : List Span :=
    let u := e.units
    let w := e.whole
    ((List.range u.2).map (u.1 + ·)).filterMap fun x =>
      if decide (w.1 ≤ x) && decide (x < w.1 + w.2) then none else some ⟨e.nsid, x, 1, false⟩

/-- Whether a write meets a full drive (R293). -/
def State.driveFull (s : State) (i : Fin 2) : Bool :=
  let x := s.xset i
  !s.groups.isEmpty && decide (s.fallow i ≤ s.flushReserve s.hold.ceiling) && s.headland == 0 &&
    (x.furrows.filter fun f => f.state == .full).all fun f => decide (s.furrowBytes f.layout15 ≤ x.validBytes f.id)

/-- Whether an operation writes data (R293). -/
def IoOp.writes : IoOp → Bool
  | .write _ _ | .zeroes _ | .copy _ _ _ => true
  | _ => false

/-- READ_ONLY_LATCH: the full drive latches, with warning bit 3 and its record (R293). -/
def State.latchReadOnly (s : State) (i : Fin 2) : State :=
  ((s.setKept 0x6030 1 1).warn 3).journal i false [.readOnly true]

/-- Whether a command needs map entries of a segment that is to be reloaded (R256). -/
def State.segmentBad (s : State) (l : List Span) : Bool :=
  l.any fun sp => (s.xset (s.setOf sp.nsid)).badSegments.any fun g =>
    decide (segmentOf sp.nsid sp.first ≤ g) && decide (g ≤ segmentOf sp.nsid (sp.first + sp.count - 1))

/-- A command is admitted: its budget, its reads, its reservation (R134, R155, R293, R303). -/
def State.admitCmd (s : State) (order : Nat) : State :=
  match s.cmd? order with
  | none => s
  | some c =>
    let s := s.budget c
    let s := s.onCmd order fun k => { k with admitted := true, mirror := s.flag 0x8010 5 }
    let i := s.setOf c.nsid
    if c.op.writes && (s.flag 0x6030 1 || s.driveFull i) then
      let s := if s.flag 0x6030 1 then s else s.latchReadOnly i
      s.finish order (sc 0 0x20)
    else if s.segmentBad c.spans then s.finish order (sc 0 0x06)
    else
      let s := (s.flashUnits c.op.readSpans).foldl (fun s u => s.postUnitReads c u) s
      let s := match c.op, c.fwdTag with
        | .write _ _, some tag | .compare _ _, some tag | .device _, some tag =>
          if c.need = 0 then s else s.strait 4 0x01 (leBytes 4 tag ++ leBytes 4 0 ++ leBytes 4 c.need)
        | _, _ => s
      if c.op.writes then s.reserve order else s.proceed order

/-- Waiting commands re-examined: class 0 first, then in arrival order (R134). -/
def State.admitWaiting : Nat → State → State
  | 0, s => s
  | n + 1, s =>
    let w := s.nvme.cmds.filter fun c => s.mayAdmit c
    match (w.filter fun c => c.cls == 0) ++ w with
    | [] => s
    | c :: _ => State.admitWaiting n (s.admitCmd c.order)

/-- The engines of commands that are short of entries stop, each counted as it does (R137). -/
def State.stallShort (s : State) : State :=
  (s.nvme.cmds.filter fun c => c.fwdTag.isNone && s.short c && !(s.nvme.stalledEngines.getLsbD (c.sq % 16))).foldl (fun (s : State) c =>
    if s.nvme.stalledEngines.getLsbD (c.sq % 16) then s
    else { s with nvme.stalledEngines := s.nvme.stalledEngines ||| BitVec.ofNat 16 (2 ^ (c.sq % 16)) }.bump 0x3040 9 |>.fire (evSrc 44 16)) s

/-- Waiting commands re-examined after a release (R134). -/
def State.reexamine (s : State) : State := (State.admitWaiting s.nvme.cmds.length s).stallShort

/-- A command enters the front end: it is admitted at once or waits; one short of entries stops its engine (R134, R137). -/
def State.enter (s : State) (c : HostCmd) : State :=
  let s := { s with nvme.cmds := s.nvme.cmds ++ [c], nvme.nextOrder := s.nvme.nextOrder + 1 }
  if s.mayAdmit c then s.admitCmd c.order else (s.bump 0x3040 0x0A).stallShort

/-- A command newly taken. -/
def State.newCmd (s : State) (fn sq cid cls nsid : Nat) (op : IoOp) (pr : PrInfo) : HostCmd where
  order := s.nvme.nextOrder
  fn := fn
  sq := sq
  cid := cid
  cls := cls
  nsid := nsid
  op := op
  pr := pr
  ptr := .ok
  spans := op.spans
  admitted := false
  past := false
  silent := false
  waitDirty := false
  reserved := 0
  media := []
  lost := []
  filled := false
  need := 0
  inbuf := []
  status := 0
  errLba := 0
  errSpecific := 0
  errParam := 0
  poisonOut := false
  spoilt := []
  charges := []
  judged := false
  mirror := true
  arrived := ((s.sq? fn sq).map (·.bellAt)).getD s.pkg.timebase
  fwdTag := none

/-! ### Reservations of namespaces (R117, R128) -/

/-- The host identifier of a controller (feature 0x81). -/
def State.hostId (s : State) (fn : Nat) : Nat := Tab.get (s.ctrl fn).features 0 0x81

/-- The registrant a controller belongs to. -/
def Namespace.registrant (n : Namespace) (cntlid host : Nat) : Option Registrant :=
  n.registrants.find? fun r => r.cntlid == cntlid || (host != 0 && r.host == host)

/-- Whether a controller's read or write conflicts with a namespace's reservation: types 1 to 6 are Write Exclusive, Exclusive
Access, and their Registrants Only and All Registrants forms (log 21). -/
def Namespace.conflict (n : Namespace) (cntlid host : Nat) (write : Bool) : Bool :=
  match n.registrant cntlid host with
  | none =>
    n.holder.isSome && (write || n.resvType == 2 || n.resvType == 4 || n.resvType == 6)
  | some r =>
    match n.holder with
    | none => false
    | some h =>
      if r.cntlid == h then false
      else if n.resvType == 1 then write
      else n.resvType == 2

/-! ### Routing (R122, R128, R138, R349, R351) -/

/-- An SGL descriptor's 16 bytes. -/
def SglDesc.bytes (d : SglDesc) : List Byte :=
  leBytes 8 d.addr.toNat ++ leBytes 4 d.len.toNat ++ [0, 0, 0, BitVec.ofNat 8 (d.sub.toNat + 16 * d.type.toNat)]

/-- The pointers of a submission entry: its `PSDT`, metadata pointer and data pointer. The place of a list is `list` (log 151). -/
def Walk.bytes (w : Walk) (list : Nat) : Nat × List Byte :=
  let info := match w.info with
    | .buffer a => leBytes 8 a.toNat
    | .sgl _ _ => leBytes 8 list
  match w.data with
  | .prp l =>
    let second := if l.length ≤ 2 then ((l[1]?).map (·.toNat)).getD 0 else list
    (0, info ++ leBytes 8 (((l[0]?).map (·.toNat)).getD 0) ++ leBytes 8 second)
  | .sgl f _ => ((match w.info with
      | .buffer _ => 1
      | .sgl _ _ => 2), info ++ f.bytes)

/-- The 64 bytes of a submission entry as it is forwarded (R349): opcode, identifier, namespace, pointers, and doublewords 3 and 10 to 15. -/
def sqeBytes (opcode cid nsid : Nat) (w : Walk) (list : Nat) (dws : List Nat) : List Byte :=
  let p := w.bytes list
  let dw (k : Nat) : List Byte := leBytes 4 ((dws[k]?).getD 0)
  leBytes 2 (opcode + p.1 * 2 ^ 14) ++ leBytes 2 cid ++ leBytes 4 nsid ++ [0, 0, 0, 0] ++ dw 0 ++ p.2 ++
    (List.range 6).flatMap fun k => dw (k + 1)

/-- `PRINFO`. -/
def PrInfo.code (p : PrInfo) : Nat := 8 * b2n p.act + 4 * b2n p.guard_ + 2 * b2n p.app + b2n p.ref

/-- Doublewords 3 and 10 to 15 of an I/O command (R111, R117, log 151). -/
def IoOp.dws (pr : PrInfo) (op : IoOp) : List Nat :=
  let tags (l : List Nat) : List Nat := [pr.refTag / 2 ^ 32] ++ l ++ [0, pr.refTag % 2 ^ 32, pr.appTag + pr.appMask * 2 ^ 16]
  let block (e : Extent) : List Nat := tags [e.lba % 2 ^ 32, e.lba / 2 ^ 32, (e.count - 1) + pr.code * 2 ^ 26]
  match op with
  | .write e _ | .read e | .compare e _ | .zeroes e | .verify e => block e
  | .deallocate l => [0, l.length - 1, 4]
  | .copy src dst check =>
    tags [dst.lba % 2 ^ 32, dst.lba / 2 ^ 32,
      (src.length - 1) + ((check.head?).map PrInfo.code).getD 0 * 2 ^ 12 + pr.code * 2 ^ 26]
  | .memCopy _ _ | .device _ | .other => []

/-- A device command with the data it was sent. -/
def DevOp.withData (b : List Byte) : DevOp → DevOp
  | .load i o _ => .load i o b
  | .execute i r _ => .execute i r b
  | .memWrite o _ => .memWrite o b
  | d => d

/-- The opcode of a device command (log 45). -/
def DevOp.opcode : DevOp → Nat
  | .execute .. => 0x01
  | .memCopy .. => 0x01
  | .memRead .. => 0x02
  | .memWrite .. => 0x05
  | .makeSet _ | .dropSet _ => 0x21
  | .load .. | .unload _ => 0x22
  | .activate .. => 0x23

/-- The data a device command takes from the host. -/
def DevOp.payload : DevOp → List Byte
  | .load _ _ d => d
  | .makeSet l => l.flatMap fun p => leBytes 8 p.1.toNat ++ leBytes 8 p.2.toNat
  | .execute _ _ d => d
  | .memWrite _ d => d
  | .memCopy _ _ l => l.flatMap fun p => padTo 32 (leBytes 8 0 ++ leBytes 8 p.1.toNat ++ leBytes 2 p.2.toNat)
  | _ => []

/-- The opcode and the extent of an operation, for forwarding. -/
def IoOp.wire : IoOp → Nat × Extent
  | .write e _ => (0x01, e)
  | .read e => (0x02, e)
  | .compare e _ => (0x05, e)
  | .zeroes e => (0x08, e)
  | .deallocate l => (0x09, (l.head?).getD ⟨0, 0, 0⟩)
  | .verify e => (0x0C, e)
  | .copy _ e _ => (0x19, e)
  | .memCopy _ _ => (0, ⟨0, 0, 0⟩)
  | .device d => (d.opcode, ⟨0, 0, 0⟩)
  | .other => (0, ⟨0, 0, 0⟩)

/-- The data that flows to the owner. -/
def IoOp.payload (metaEach : Nat) : IoOp → List Byte
  | .write _ d | .compare _ d => extentBytes metaEach d
  | .deallocate l => l.flatMap fun e => leBytes 4 0 ++ leBytes 4 e.count ++ leBytes 8 e.lba
  | .copy src _ _ => src.flatMap fun e => padTo 32 (leBytes 8 0 ++ leBytes 8 e.lba ++ leBytes 2 (e.count - 1))
  | .device d => d.payload
  | _ => []

/-- A command forwarded to the twin, with the data that the owner may pull (R349 step 1). -/
def State.forward (s : State) (fn sq cid cls nsid : Nat) (op : IoOp) (pr : PrInfo) (w : Walk) (opcode : Nat) (dws : List Nat) (data : List Byte) :
    State :=
  let ptr := w
  let tag := s.twin.nextTransfer
  let w := op.wire
  let f : FwdCmd := ⟨tag, fn, sq, cid, cls, nsid, op.writes, w.2.pieces.length, [], false, false, data,
    ((s.sq? fn sq).map (·.bellAt)).getD s.pkg.timebase, ptr, s.nsFigure nsid (·.apart pr), false, false⟩
  let s := { s with twin.nextTransfer := (tag + 1) % 2 ^ 32, nvme.fwdOut := s.nvme.fwdOut ++ [f] }
  let a := s.draw
  let s := a.2
  let frame := leBytes 4 tag ++ leBytes 2 (s.cntlid fn) ++ [BitVec.ofNat 8 cls, 0] ++ sqeBytes opcode cid nsid ptr a.1.toNat dws
  let s := if cls = 0 then s.straitUrgent 4 0x00 frame else s.strait 4 0x00 frame
  s.bump 0x8000 0x0F

/-- The extents an operation names. -/
def IoOp.extents : IoOp → List Extent
  | .write e _ | .zeroes e | .read e | .compare e _ | .verify e => [e]
  | .deallocate l => l
  | .copy src dst _ => src ++ [dst]
  | .memCopy src _ => src
  | .device _ => []
  | .other => []

/-- The largest transfer, MDTS 9 at 4 KiB (R112). -/
def maxTransfer : Nat := 2097152

/-- What an I/O command moves through its pointers: bytes by the data pointer, bytes of a separate metadata buffer, and whether they come from
the host. -/
def IoOp.transfer (n : Namespace) (pr : PrInfo) : IoOp → Nat × Nat × Bool
  | .write e _ | .compare e _ => (e.count * (4096 + n.infoMoved pr - n.apart pr), e.count * n.apart pr, true)
  | .read e => (e.count * (4096 + n.infoMoved pr - n.apart pr), e.count * n.apart pr, false)
  | .deallocate l => (16 * l.length, 0, true)
  | .copy src _ _ => (32 * src.length, 0, true)
  | _ => (0, 0, false)

/-- The field checks of an I/O command (R112, R117, R123, R128): the first that fails. -/
def State.ioCheck (s : State) (fn : Nat) (n : Namespace) (op : IoOp) (pr : PrInfo) (w : Walk) : Nat :=
  let t := op.transfer n pr
  let srcTotal := match op with
    | .copy src _ _ => sumOf (·.count) src
    | _ => 0
  let walk := w.status (s.ctrl fn).page t.1 t.2.1 t.2.2
  if op.extents.any fun e => decide (n.lbas < e.lba + e.count) then sc 0 0x80
  else if maxTransfer < t.1 || (match op with
    | .copy src dst _ => decide (128 < src.length) || decide (512 < srcTotal) || dst.count != srcTotal
    | .deallocate l => decide (256 < l.length)
    | _ => false) then sc 0 0x02
  else if walk != 0 then walk
  else if n.conflict (s.cntlid fn) (s.hostId fn) (op.writes || (match op with
    | .deallocate _ => true
    | _ => false)) then sc 0 0x83
  else 0

/-- An I/O command to an NVM namespace: fetched, checked, and entered here or forwarded to the Isle that owns it. -/
def State.io (s : State) (r : Sqe) (op : IoOp) (nsid : Nat) (pr : PrInfo) (w : Walk) (opcode : Nat) : State :=
  if r.sq = 0 then s
  else s.onFetch r fun s =>
    let fn := r.fn.toNat
    let done (s : State) (st : Nat) : State := s.answer r st 0
    if s.nvme.sanitize.isSome then done s (sc 0 0x1D)
    else if 1021 ≤ nsid ∧ nsid ≤ 1024 then done s (sc 0 0x01)
    else match s.namespace? nsid with
      | none => done s (sc 0 0x0B)
      | some n =>
        if !n.attached.contains (s.cntlid fn) then done s (sc 0 0x0B)
        else match (s.ana n.group).status with
          | some st => done s st
          | none =>
            let st := s.ioCheck fn n op pr w
            if st != 0 then done s st
            else
              let cls := s.classOf fn r.sq.toNat
              if (s.xset (setOfGroup n.group)).live then
                s.enter { s.newCmd fn r.sq.toNat r.cid.toNat cls nsid op pr with ptr := w }
              else s.forward fn r.sq.toNat r.cid.toNat cls nsid op pr w opcode (op.dws pr) (op.payload (s.nsFigure nsid (·.infoMoved pr)))

/-! ### Ended flash reads and rebuilds (R277, R278) -/

/-- The first page an operation names. -/
def MOp.page (o : MOp) : Nat := ppnOf o.channel o.desc.lun ((bitList 8 o.desc.planes).head?.getD 0) o.desc.block o.desc.page

/-- One ended flash read of a command: a flushed read is posted again, a failed one waits for die parity. -/
def State.hostReadEnded (s : State) (o : MOp) (order unit status : Nat) : State :=
  match s.cmd? order with
  | none => s
  | some c =>
    let i := s.setOf c.nsid
    let page := o.page
    if status = mFlushed then
      let fid := (((s.xset i).furrowAt page).map (·.id)).getD 0
      let s := s.onCmd order fun k => { k with media := k.media.erase (unit, fid) }
      s.postRead c i unit page o.desc.cwMask
    else
      let entry := c.media.find? fun m => m.1 == unit
      let s := s.onCmd order fun k => { k with
        media := match entry with
          | some m => k.media.erase m
          | none => k.media
        charges := k.charges.map fun g => if g.channel == o.channel && g.lun == o.desc.lun then
            { g with senses := g.senses - b2n (!o.sensed), cws := if o.transferred then g.cws else g.cws - popCount 4 o.desc.cwMask } else g }
      let good := status = mOK || status = mOkSoft
      let s := if good then s else s.onCmd order fun k => { k with lost := if k.lost.contains (unit, page) then k.lost else k.lost ++ [(unit, page)] }
      s.proceed order

/-- The pages that reads of a unit could not have, for commands and for its copy. -/
def State.lostPages (s : State) (i : Fin 2) (nsid unit : Nat) : List Nat :=
  ((s.nvme.cmds.filter fun c => c.nsid == nsid).flatMap fun c => (c.lost.filter fun p => p.1 == unit).map (·.2)) ++
    ((s.xset i).gleans.filter fun g => g.nsid == nsid && g.unit == unit).flatMap (·.lost)

/-- Whether a rebuild is that of a page for a unit. -/
def Mend.is (m : Mend) (nsid unit page : Nat) : Bool := m.nsid == nsid && m.unit == unit && m.page == page

/-- The rebuild of a page begins: the same codewords of the stripe's other pages are read (R278). -/
def State.startMend (s : State) (i : Fin 2) (nsid unit cls : Nat) (e : MapEntry) (page : Nat) : State :=
  if (s.xset i).mending.any fun m => m.is nsid unit page then s
  else
    let m := s.stripeMates i page
    let same (p : Nat) : Bool := bits p 27 3 == bits page 27 3 && bits p 0 13 == bits page 0 13
    let mask := (((s.unitReads i e).find? fun r => same r.1).map (·.2)).getD 15
    let s := s.onSet i fun x => { x with mending := x.mending ++ [⟨nsid, unit, page, mask, m.1.length, 0, max 1 m.2⟩] }
    m.1.foldl (fun s q => s.postOp (pageChannel q)
      (firmwareDesc .read cls (2 ^ bits q 27 3) (pageLun q) (bits q 13 14) (bits q 0 13) mask) (.rebuild nsid unit page)) s

/-- A page of a unit was rebuilt: its block is refreshed, and a copy read that took die parity keeps it from being erased (R278, R288). -/
def State.pageRebuilt (s : State) (i : Fin 2) (copying : Bool) (page : Nat) : State :=
  let s := s.scheduleRefresh (pageChannel page) (pageLun page) (bits page 13 14)
  match (s.xset i).furrowAt page with
  | some f =>
    if f.refresh && copying then
      let cols := (f.cols.filter fun (k : FCol) => k.channel == pageChannel page).map fun (k : FCol) => k.col
      s.onSet i fun x => x.onFurrow f.id fun f => { f with noErase := f.noErase ++ cols.filter fun c => !f.noErase.contains c }
    else s
  | none => s

/-- A unit's rebuild ends: with enough of each stripe and `CHECK` confirmed, what waited goes on; else the unit is set to `STATE` 11, its
reads end with Unrecovered Read Error and its copy is given up (R260, R278, R286). Where a page is out of reach for want of a channel, the
entry is not changed (R274). -/
def State.endMend (s : State) (i : Fin 2) (nsid unit : Nat) (e : MapEntry) (pages : List Nat) (good : Bool) : State :=
  let waits := s.nvme.cmds.filter fun c => c.nsid == nsid && c.lost.any fun p => p.1 == unit
  let its (g : Glean) : Bool := g.nsid == nsid && g.unit == unit
  let copying := (s.xset i).gleans.any its
  let far := pages.any fun p => (p :: (s.stripeMates i p).1).any fun q => !s.reachable (pageChannel q)
  let s := s.onSet i fun x => { x with mending := x.mending.filter fun m => !(m.nsid == nsid && m.unit == unit) }
  let found (k : HostCmd) : HostCmd := { k with lost := k.lost.filter fun p => p.1 != unit }
  if good then
    let s := pages.foldl (fun (s : State) p => s.pageRebuilt i copying p) s
    let s := s.onSet i fun x => { x with gleans := updateIf its (fun g => { g with reads := g.reads - g.lost.length, lost := [] }) x.gleans }
    waits.foldl (fun s c => (s.onCmd c.order found).proceed c.order) s
  else
    let s := if far then s else s.poisonUnit i nsid unit
    let s := s.onSet i fun x => { x with gleans := x.gleans.filter fun g => !its g }
    let s := waits.foldl (fun s c =>
      let s := s.errCmd c.order (sc 2 0x81) (4 * unit) (s.origin5 e)
      (s.onCmd c.order found).proceed c.order) s
    s.reclaim i

/-- DIE_PARITY_REBUILD: the pages that reads of a unit could not have are rebuilt from their stripes. The command first posts the reads of the
other pages; once they have ended, it ends the rebuild, and `ok` says whether the unit then passes the check of R260 (R278, log 148). -/
def State.parityRebuild (s : State) (nsid unit : Nat) (ok : Bool) : State :=
  let i := s.setOf nsid
  let e := (s.xset i).entry nsid unit
  let pages := s.lostPages i nsid unit
  if !(s.xset i).live || !(e.state == 1 || e.state == 2) || pages.isEmpty then s
  else
    let running := (s.xset i).mending.filter fun m => m.nsid == nsid && m.unit == unit
    let cls := (s.nvme.cmds.filter fun c => c.nsid == nsid && c.lost.any fun p => p.1 == unit).foldl (fun n c => min n c.cls) (s.gleanClass i)
    if pages.all fun p => running.any fun m => m.is nsid unit p then
      if running.any fun m => m.left != 0 then s
      else s.endMend i nsid unit e pages (ok && running.all fun m => decide (m.need ≤ m.got))
    else pages.foldl (fun s p => s.startMend i nsid unit cls e p) s

/-- A class-0 charge on a die is released as its sense ends, and its channel's codewords as the transfer ends (R155). -/
def State.releaseCharge (s : State) (order : Nat) (o : MOp) (sense : Bool) : State :=
  s.onCmd order fun k => { k with charges := k.charges.map fun g =>
    if g.channel == o.channel && g.lun == o.desc.lun then
      (if sense then { g with senses := g.senses - 1 } else { g with cws := g.cws - popCount 4 o.desc.cwMask })
    else g }

/-! ### Ended media work of the firmware -/

/-- One ended operation of firmware work goes where it came from (R274, R277, R286, R345). -/
def State.doneOp (s : State) (p : MOp × Nat) : State :=
  let o := p.1
  let ok := p.2 = mOK || p.2 = mOkSoft
  match o.origin with
  | .ring _ => s
  | .host order unit => s.hostReadEnded o order unit p.2
  | .glean nsid unit =>
    if p.2 = mFlushed then s.postOp o.channel o.desc o.origin
    else if ok then s.onSet (s.setOf nsid) fun x => { x with
      gleans := updateIf (fun g => g.nsid == nsid && g.unit == unit) (fun g => { g with reads := g.reads - 1 }) x.gleans }
    else s.onSet (s.setOf nsid) fun x => { x with
      gleans := updateIf (fun g => g.nsid == nsid && g.unit == unit) (fun g => { g with lost := g.lost ++ [o.page] }) x.gleans }
  | .rebuild nsid unit page =>
    if p.2 = mFlushed then s.postOp o.channel o.desc o.origin
    else s.onSet (s.setOf nsid) fun x => { x with
      mending := updateIf (fun m => m.is nsid unit page) (fun m => { m with left := m.left - 1, got := m.got + b2n ok }) x.mending }
  | .patrol => if p.2 = mUncorrectable then s.scheduleRefresh o.channel o.desc.lun o.desc.block else s
  | .row furrow _ col =>
    let i := s.setOfChannel o.channel
    let s := s.onSet i fun x => x.onRow furrow fun r =>
      if ok then { r with ended := r.ended ++ [col] }
      else if p.2 = mFlushed then { r with posted := r.posted.filter (· != col), waiting := r.waiting ++ [col] }
      else { r with failed := r.failed ++ [col] }
    let ids := (s.xset i).rows.map (·.furrow)
    ids.foldl (fun s id => State.postColumns i id 16 s) s
  | .furrowErase furrow col =>
    let i := s.setOfChannel o.channel
    if p.2 = mFlushed || p.2 = mNotOwner then
      (if s.reachable o.channel then s.postOp o.channel o.desc o.origin else s)
    else s.onSet i fun x => x.onFurrow furrow fun f => { f with
      eraseLeft := f.eraseLeft.filter (· != col)
      eraseFailed := if ok then f.eraseFailed else f.eraseFailed ++ [col] }
  | .proxied t =>
    let entry := mediaEntry o 0 p.2 0 (if o.started then s.since o.startAt else 0) true
    let data := match s.twin.mediaIn.find? fun x => x.number == t with
      | some x => (x.data, x.info, x.poisoned)
      | none => ([], [], [])
    let sends := o.isRead || o.desc.opcode == .getFeatures
    let s := if sends then s.sendCodewords t data.1 data.2.1 fun k => data.2.2.contains k else s
    let s := { s with twin.mediaIn := s.twin.mediaIn.filter fun x => x.number != t }
    s.strait 4 0x12 ([BitVec.ofNat 8 o.channel, 0, 0, 0] ++ leBytes 4 t ++ entry)

/-- Every ended operation of firmware work handled. -/
def State.drain : Nat → State → State
  | 0, s => s
  | n + 1, s =>
    match s.media.done with
    | [] => s
    | p :: rest => State.drain n (State.doneOp { s with media.done := rest } p)

/-- The ended operations handled, and those their handling ends. -/
def State.drained (s : State) : State := State.drain (s.media.done.length + 8) s

end Sys2Proof.Machine
end

