-- ==== Sys2Proof/Machine/Sched.lean ====
section
/-! DEFINITION. Program slots, Execute Program, task descriptors, ready lists, dispatch and prefetch (13 of spec/). -/
namespace Sys2Proof.Machine

/-- The start of a cluster's memory (R39). -/
def clusterBase (c : Nat) : Nat := 0x100000000000 + (c / 4) * 0x1000000 + 0x800000 + (c % 4) * 0x100000

/-- The slice of cluster memory a core owns: 128 KiB at its unit (R442). -/
def sliceBase (n : Nat) : Nat := clusterBase (coreCluster n) + (n % 8) * 0x20000

/-! ### Slots and images (R411 to R420) -/

/-- An empty slot. -/
def Slot.init : Slot := ⟨.empty, 0, 0, [], 0, none⟩

/-- A loadable slot. -/
def State.slot (s : State) (k : Nat) : Slot := Tab.get s.sched.slots Slot.init k

/-- A loadable slot changed. -/
def State.setSlot (s : State) (k : Nat) (x : Slot) : State := { s with sched.slots := Tab.put s.sched.slots k x }

/-- The slot a program index names. -/
def slotOf (index : Nat) : Option Nat := if 0x100 ≤ index ∧ index ≤ 0x1FF then some (index - 0x100) else none

/-- Whether an index names a fixed program. -/
def isFixed (index : Nat) : Bool := decide (1 ≤ index) && decide (index ≤ 8)

/-- A little-endian field of an image. -/
def field (l : List Byte) (i n : Nat) : Nat := ofLe (slice l i n)

/-- The header fields of an image that later rules use (R414). -/
def imgLength (l : List Byte) : Nat := field l 8 4
def imgEntry (l : List Byte) : Nat := field l 12 4
def imgHandler (l : List Byte) : Nat := field l 16 4
def imgSlice (l : List Byte) : Nat := field l 24 4
def imgRanges (l : List Byte) : Nat := field l 28 1
def imgFlags (l : List Byte) : Nat := field l 29 1

/-- The sections of an image: type, offset, length (R415). -/
def imgSections (l : List Byte) : List (Nat × Nat × Nat) :=
  (List.range (field l 6 2)).map fun i => (field l (64 + 16 * i) 1, field l (68 + 16 * i) 4, field l (72 + 16 * i) 4)

/-- Whether two sections overlap. -/
def overlaps (a b : Nat × Nat) : Bool := decide (a.1 < b.1 + b.2) && decide (b.1 < a.1 + a.2)

/-- Whether no two spans of a list overlap. -/
def apart : List (Nat × Nat) → Bool
  | [] => true
  | x :: r => r.all (fun y => !overlaps x y) && apart r

/-- The code section of an image. -/
def imgCode (l : List Byte) : Option (Nat × Nat) := ((imgSections l).find? fun x => x.1 == 1).map (·.2)

/-- Whether an offset lies inside the code section. -/
def inCode (l : List Byte) (o : Nat) : Bool :=
  match imgCode l with
  | some c => decide (c.1 ≤ o) && decide (o < c.1 + c.2)
  | none => false

/-- The structural rules of R414, R415 and R417. -/
def imageForm (version : Nat) (l : List Byte) : Bool :=
  let secs := imgSections l
  let len := imgLength l
  let tableEnd := 64 + 16 * field l 6 2
  l.length == len && decide (160 ≤ len) && decide (len ≤ 0x800000) && l.take 4 == textBytes "QORI" && field l 4 2 == 1 &&
  decide (1 ≤ field l 6 2) && decide (field l 6 2 ≤ 16) &&
  (imgEntry l) % 4 == 0 && inCode l (imgEntry l) && (imgHandler l == 0xFFFFFFFF || inCode l (imgHandler l)) &&
  decide (field l 20 4 ≤ 32768) && decide (imgSlice l ≤ 131072) && decide (imgRanges l ≤ 4) && decide (imgFlags l < 4) &&
  decide (field l 30 2 ≤ version) && field l 56 8 == 0 &&
  !(bit (imgFlags l) 1 && decide (3 < imgRanges l)) &&
  (secs.filter fun x => x.1 == 1).length == 1 &&
  secs.all (fun x => decide (1 ≤ x.1) && decide (x.1 ≤ 4) && x.2.1 % 64 == 0 && decide (tableEnd ≤ x.2.1) &&
    decide (x.2.1 + x.2.2 ≤ len - 96)) &&
  (List.range (field l 6 2)).all (fun i => field l (65 + 16 * i) 3 == 0 && field l (76 + 16 * i) 4 == 0) &&
  apart (secs.map (·.2))

/-- The program key of a function as its 97 bytes (R416). -/
def State.programKey (s : State) (fn : Nat) : List Byte := leBytes 97 (s.fval fn 0xA110 1)

/-- The verification of a whole image (R417): its form, and its signature under the loading function's key. -/
def State.imageOk (s : State) (fn : Nat) (l : List Byte) : Bool :=
  let key := s.programKey fn
  imageForm (s.val 0xA000 1) l && key.any (· != 0) &&
  Config.signatureVerifies key (l.take (l.length - 96)) (l.drop (l.length - 96))

/-- Where a slot's image lies (log 20). -/
def programAt (slot : Nat) : Nat := 0x800000 * (Config.programPlace slot % 2 ^ 15)

/-- Bytes of images held: each loaded slot's, and for one being loaded the length its header names (R413). -/
def State.programBytes (s : State) : Nat :=
  sumOf (fun (x : Slot) => if x.state == .empty then 0 else imgLength x.image) (Tab.values s.sched.slots)

/-- Whether a function may act on a slot: it loaded it, or it is the PF (R412). -/
def Slot.ownedBy (x : Slot) (fn : Nat) : Bool := fn == 0 || x.fn == fn

/-! ### Tasks in the scheduler -/

/-- The program cores of a region that are left after the reservation (R444). -/
def State.programCores (s : State) : Nat := 4 * (8 - s.sched.reservedUnits)

/-- The cores of a region. -/
def regionCores (r : Nat) : List Nat := (List.range 32).map fun i => 32 * r + i

/-- The ready list of a region. -/
def State.readyList (s : State) (r : Nat) : List Task := (s.sched.ready[r]?).getD []

/-- The ready list of a region changed. -/
def State.setReady (s : State) (r : Nat) (l : List Task) : State := { s with sched.ready := s.sched.ready.setIfInBounds r l }

/-- Descriptors that count against a region's 4,096: queued, prefetched and running (R438). -/
def State.readyDepth (s : State) (r : Nat) : Nat :=
  (s.readyList r).length + sumOf (fun n => b2n (s.core n).task.isSome + b2n (s.core n).prefetch.isSome) (regionCores r)

/-- Program cores of a region that run a function's tasks (R175). -/
def State.runningOf (s : State) (r fn : Nat) : Nat :=
  ((regionCores r).filter fun n => match (s.core n).task with
    | some t => !t.target && t.fn == fn
    | none => false).length

/-- Whether a function is below its limit of cores in a region (R175, R439, R444). -/
def State.belowLimit (s : State) (r fn : Nat) : Bool := decide (s.runningOf r fn < min (s.fval fn 0x4010 5) s.programCores)

/-- A function's window epoch in a region (R436). -/
def State.epoch (s : State) (r fn : Nat) : Nat := Tab.get s.sched.epochs 0 (256 * r + fn)

/-- Whether a region is online. -/
def State.online (s : State) (r : Nat) : Bool := (s.pkg.regions[r]?).getD .offline == .online

/-- A trace record (R446, R447): dropped and counted when the ring is full. -/
def State.traced (s : State) (kind r : Nat) (t : Task) (core extra : Nat) : State :=
  if !s.flag 0xA050 1 then s
  else
    let l := (s.sched.traces[r]?).getD []
    if l.length < s.sched.traceBytes / 16 then
      let l := l ++ [TraceRec.mk s.pkg.timebase (kind + 16 * r) t.priority t.target t.id core t.fn extra]
      { s with sched.traces := s.sched.traces.setIfInBounds r l }
    else (s.bump 0xA050 3).fire (evSrc (10 * r) 11)

/-- A descriptor put behind every one of its level and above it in priority order. -/
def addTask (t : Task) : List Task → List Task
  | [] => [t]
  | x :: l => if x.priority < t.priority then t :: x :: l else x :: addTask t l

/-- A descriptor put back into its level, ahead of every one enqueued after it (R13, R441). One enqueued before it that dispatch has passed
over keeps its place (DESIGN CHOICE, log 134). -/
def returnTask (t : Task) : List Task → List Task
  | [] => [t]
  | x :: l =>
    if t.priority < x.priority || (t.priority == x.priority && decide (x.order < t.order)) then x :: returnTask t l else t :: x :: l

/-- A descriptor returned to the head of its level. -/
def State.giveBack (s : State) (r : Nat) (t : Task) : State := s.setReady r (returnTask t (s.readyList r))

/-- The peak depth of a region noted. -/
def State.notePeak (s : State) (r : Nat) : State :=
  if s.val (0xA044 + r) 2 < s.readyDepth r then s.setVal (0xA044 + r) 2 (s.readyDepth r) else s

/-- Whether a region's lists have room for a descriptor (R438, R443). -/
def State.portRoom (s : State) (r : Nat) (target : Bool) : Bool :=
  decide (s.readyDepth r < if target then 4096 else 4096 - s.val 0xA040 2)

/-- Whether a region's enqueue port holds a waiting descriptor. -/
def State.portStalled (s : State) (r : Nat) (target : Bool) : Bool :=
  s.sched.stalled.any fun x => x.region == r && x.task.target == target

/-- The stall condition of a region as its event source shows it (R547). -/
def State.stallLevel (s : State) (r : Nat) : State :=
  s.setLevel (evSrc (10 * r) 10) (s.sched.stalled.any fun x => x.region == r)

/-- A descriptor placed in a region's ready list (R423). -/
def State.place (s : State) (r : Nat) (t : Task) : State :=
  let s := s.setReady r (addTask t (s.readyList r))
  (s.traced 1 r t 0xFF (s.readyDepth r)).notePeak r

/-! ### Execute Program (R421 to R427) -/

/-- An Execute Program by its tag. -/
def State.exec? (s : State) (tag : Nat) : Option Exec := s.sched.execs.find? fun e => e.tag == tag

/-- An Execute Program changed. -/
def State.onExec (s : State) (tag : Nat) (f : Exec → Exec) : State :=
  let l := updateIf (fun (e : Exec) => e.tag == tag) f s.sched.execs
  { s with sched.execs := l }

/-- An Execute Program all of whose tasks have ended completes (R427). -/
def State.execDone (s : State) (tag : Nat) : State :=
  match s.exec? tag with
  | none => s
  | some e =>
    if e.ended < e.count then s
    else
      let s := { s with sched.execs := s.sched.execs.filter fun x => x.tag != tag }
      let dw0 := match e.first with
        | some f => f.2 + 65536 * min e.faults 65535
        | none => 0
      let dw1 := (e.first.map fun f => f.1).getD 0
      (s.bump 0xA030 3).finishDw tag 0 dw0 dw1

/-- A task's status noted in its Execute Program, which may complete; a firmware job's is only counted. -/
def State.taskEnded (s : State) (r : Nat) (t : Task) (core status : Nat) : State :=
  let s := if 0xFF00 ≤ status then s.bump 0xA030 5 else s
  let s := s.traced 5 r t core status
  if !t.exec then s
  else
    let s := s.onExec t.tag fun e =>
      let better := match e.first with
        | some f => decide (t.index < f.1)
        | none => true
      { e with
        ended := e.ended + 1
        faults := e.faults + b2n (status != 0)
        first := if status != 0 && better then some (t.index, status) else e.first }
    s.execDone t.tag

/-- The task a core runs ends with a status: its `MACX` is cancelled, and the core is free (R400, R427). -/
def State.endTask (s : State) (n status : Nat) : State :=
  match (s.core n).task with
  | none => s
  | some t =>
    let s := ((s.fence n).cancelMacx n).onCore n fun c => { c with task := none, started := false, stop := false }
    s.taskEnded (coreRegion n) t n status

/-- The fault status of a vector taken at task level (R428). -/
def faultStatus (vector : Nat) : Nat :=
  match vector with
  | 1 => 0xFFF1
  | 2 | 3 => 0xFFF2
  | 4 => 0xFFF3
  | 5 | 6 => 0xFFF4
  | 7 | 8 => 0xFFF5
  | _ => 0xFFF6

/-- AN EXCEPTION TAKEN: the entry of R405 and what follows it at task level. Vectors 1 to 8 are unit faults and end the task;
the decimal-data exception resumes it at its handler when the descriptor names one, else ends it (R11, R394, R428); a double
fault ends it with `DOUBLE_FAULT` (R406); a stop ends it with its work unreported (R181). -/
def State.raise (s : State) (n : Nat) (t : Trap) : State :=
  let c := s.core n
  let p := s.exceptionEntry n t
  if !p.2 then p.1.endTask n 0xFFF7
  else if c.sup then p.1
  else
    let s := p.1
    if 1 ≤ t.vector ∧ t.vector ≤ 8 then s.endTask n (faultStatus t.vector)
    else if t.vector = 9 then
      match (c.task.bind fun x => x.decHandler) with
      | some h => s.onCore n fun c =>
          { ((c.setD 15 c.ecause false).setD 14 (c.epc.setWidth 64) false).exceptionReturn with pc := BitVec.ofNat 48 h }
      | none => s.endTask n 0xFFF6
    else s

/-! ### Enqueueing (R423, R438, R443) -/

/-- The class of an Execute Program as a task priority (R426). -/
def priorityOf (cls cap : Nat) : Nat := min cap (6 - min cls 3)

/-- A descriptor offered to a region: placed, or it waits at the stalled port, which is counted and traced (R443). -/
def State.offer (s : State) (r : Nat) (t : Task) : State × Bool :=
  let s := if t.exec then { s with nvme.busyAt := s.nvme.busyAt.setIfInBounds r s.pkg.timebase } else s
  if s.portRoom r t.target && !s.portStalled r t.target then (s.place r t, true)
  else
    let s := { s with sched.stalled := s.sched.stalled ++ [Stalled.mk r t s.pkg.timebase] }
    (((s.bump 0xA040 4).traced 6 r t 0xFF 0).stallLevel r, false)

/-- The parameter block of an Execute Program (log 20). -/
def paramAt (tag : Nat) : Nat := 4096 * (Config.paramPlace tag % 2 ^ 26)

/-- The code of a fixed program (log 20). -/
def fixedAt (index : Nat) : Nat := 64 * (Config.fixedPlace index % 2 ^ 32)

/-- The descriptor of an Execute Program's next task (R434). -/
def State.execTask (s : State) (e : Exec) : Task :=
  let img := match slotOf e.program with
    | some k => (s.slot k).image
    | none => []
  let base := match slotOf e.program with
    | some k => programAt k
    | none => fixedAt e.program
  { id := s.sched.nextTask
    tag := e.tag
    exec := true
    index := e.next
    count := e.count
    program := e.program
    gen := e.gen
    fn := e.fn
    priority := priorityOf e.cls e.cap
    target := false
    rsmode := bit (imgFlags img) 0
    entry := base + imgEntry img
    decHandler := if img.isEmpty || imgHandler img = 0xFFFFFFFF then none else some (base + imgHandler img)
    wins := []
    param := paramAt e.tag
    stamp := s.pkg.timebase
    order := s.sched.nextOrder }

/-- The regions of a mask that are online; a mask of 0 means all. -/
def State.maskRegions (s : State) (mask : Nat) : List Nat :=
  (List.range 4).filter fun r => (mask == 0 || bit mask r) && s.online r

/-- Every task of an Execute Program not yet enqueued ends with `0xFFF8` (R423). -/
def State.failRest (s : State) (e : Exec) : State :=
  let left := e.count - e.next
  let s := s.fbump 0 0xA030 5 left
  let s := s.onExec e.tag fun x => { x with
    next := x.count, ended := x.ended + left, faults := x.faults + left
    first := match x.first with
      | some f => some f
      | none => some (e.next, 0xFFF8) }
  s.execDone e.tag

/-- TASK_ENQUEUE of an Execute Program: its next task goes to the region its place in the rotation gives (R423). -/
def State.enqueueNext (s : State) (tag : Nat) : State :=
  match s.exec? tag with
  | none => s
  | some e =>
    if e.stalled || decide (e.count ≤ e.next) then s
    else
      let l := s.maskRegions e.mask
      match l[e.next % l.length]? with
      | none => s.failRest e
      | some r =>
        let t := s.execTask e
        let s := { s with sched.nextTask := (s.sched.nextTask + 1) % 2 ^ 32, sched.nextOrder := s.sched.nextOrder + 1 }
        let p := s.offer r t
        let s := p.1.onExec tag fun x => { x with next := x.next + 1, stalled := !p.2 }
        s.onCmd tag fun c => { c with waitDirty := !p.2 }

/-- TASK_ENQUEUE of a firmware descriptor. -/
def State.enqueueFirmware (s : State) (r : Nat) (t : Task) : State :=
  if !s.online r then s
  else
    let t := { t with exec := false, id := s.sched.nextTask, order := s.sched.nextOrder, stamp := s.pkg.timebase }
    let s := { s with sched.nextTask := (s.sched.nextTask + 1) % 2 ^ 32, sched.nextOrder := s.sched.nextOrder + 1 }
    (s.offer r t).1

/-- ENQUEUE_RESUME: a stalled port with room takes the descriptor that has waited longest (R443). -/
def State.enqueueResume (s : State) (r : Nat) (target : Bool) : State :=
  match s.sched.stalled.find? fun x => x.region == r && x.task.target == target with
  | none => s
  | some x =>
    if !s.portRoom r target then s
    else
      let s := { s with sched.stalled := s.sched.stalled.filter fun (y : Stalled) => y.task.id != x.task.id }
      let s := (s.traced 7 r x.task 0xFF (min 65535 (s.since x.since / 100))).place r x.task
      let s := if x.task.exec then
          (s.onExec x.task.tag fun e => { e with stalled := false }).onCmd x.task.tag fun c => { c with waitDirty := false }
        else s
      s.stallLevel r

/-! ### Dispatch (R425, R436 to R442) -/

/-- The SLM length of a function's window: the PF's follows `SLM_SIZE` in force while it has not been written (R173). -/
def State.slmLen (s : State) (fn : Nat) : Nat :=
  match Tab.find s.dict.vals (ekey fn 0x4010 4) with
  | some v => v
  | none => if fn = 0 then s.pkg.slmSize else 0

/-- An enabled window over a range of bytes. -/
def windowOver (base len rights : Nat) : Window :=
  if len = 0 then Window.init
  else ⟨BitVec.ofNat 48 (base / 64 * 64), BitVec.ofNat 48 ((base + len - 1) / 64 * 64 + 63), BitVec.ofNat 8 (0x80 + rights)⟩

/-- A range of a function's SLM clipped to its window as it stands (R174). -/
def State.clipped (s : State) (fn : Nat) (g : MemRange) : MemRange :=
  let len := s.slmLen fn
  ⟨g.base, if len ≤ g.base then 0 else min g.len (len - g.base)⟩

/-- The range a selector names for a task, if it is used (R421). -/
def selRange (ranges : List MemRange) (sel index : Nat) : Option MemRange :=
  if !bit sel 15 then none else ranges[bits sel 0 7 + (if bit sel 14 then index else 0)]?

/-- A range window. -/
def State.rangeWindow (s : State) (fn : Nat) (ranges : List MemRange) (sel index : Nat) : Window :=
  match selRange ranges sel index with
  | none => Window.init
  | some g =>
    let g := s.clipped fn g
    windowOver (slmOffset + s.fval fn 0x4010 3 + g.base) g.len (1 + 2 * b2n (bit sel 13))

/-- Whether a program's tasks need window 7 for engines: an image that says so, or a fixed program. -/
def State.needsEngines (s : State) (program : Nat) : Bool :=
  match slotOf program with
  | some k => bit (imgFlags (s.slot k).image) 1
  | none => true

/-- The ring pages and buffer port of a region as window 7 covers them (R425, log 43). -/
def engineWindow (r : Nat) : Window := windowOver (0x180001000000 + r * 0x100000 + 0x18000) 0x58000 0x0B

/-- The eight windows a task gets on a core, from the settings in force (R425, R436). -/
def State.taskWins (s : State) (t : Task) (n : Nat) : List Window :=
  if !t.exec then (List.range 8).map fun i => (t.wins[i]?).getD Window.init
  else
    let e := s.exec? t.tag
    let sels := (e.map fun (x : Exec) => x.sels).getD []
    let ranges := match e.bind fun (x : Exec) => s.sched.sets.find? fun q => q.id == x.rangeSet with
      | some q => q.ranges
      | none => []
    let sel (i : Nat) : Nat := (sels[i]?).getD 0
    let code := match slotOf t.program with
      | some k => windowOver (programAt k) (s.slot k).image.length 5
      | none => windowOver (fixedAt t.program) 64 5
    let slice := windowOver (sliceBase n) 0x20000 3
    let eng := s.needsEngines t.program
    [code, windowOver t.param 4096 1, windowOver 0x1F0000000000 0x8000 3,
     s.rangeWindow t.fn ranges (sel 0) t.index, s.rangeWindow t.fn ranges (sel 1) t.index, s.rangeWindow t.fn ranges (sel 2) t.index,
     if eng then slice else s.rangeWindow t.fn ranges (sel 3) t.index,
     if eng then engineWindow (coreRegion n) else slice]

/-- The ranges of a function's engine queues in a region, loaded from windows 3 to 6 of its task (R457). -/
def State.loadRanges (s : State) (r fn : Nat) (wins : List Window) : State :=
  let range (i : Nat) : QRange :=
    let w := (wins[3 + i]?).getD Window.init
    ⟨w.base, w.limit, w.rights.getLsbD 7 && w.rights.getLsbD 0, w.rights.getLsbD 7 && w.rights.getLsbD 1⟩
  let l := Tab.mapVals (fun k (q : EQueue) =>
    if k / 256 = r && q.setup.tenant && q.assigned && q.setup.fn == fn then
      { q with setup.ranges := Vector.ofFn fun (i : Fin 4) => range i.val }
    else q) s.eng.queues
  { s with eng.queues := l }

/-- A core may take a task: not halted, running none. -/
def State.coreFree (s : State) (n : Nat) : Bool := !(s.core n).halted && (s.core n).task.isNone

/-- Whether a core's kind matches a descriptor's `TARGET` (R439). -/
def State.suits (s : State) (n : Nat) (t : Task) : Bool := s.isReserved n == t.target

/-- The tasks a cluster runs. -/
def State.clusterLoad (s : State) (c : Nat) : Nat := sumOf (fun i => b2n (s.core (8 * c + i)).task.isSome) (List.range 8)

/-- Of some cores, the one in the cluster that runs the fewest tasks, the lowest number on a tie (R439). -/
def State.chooseCore (s : State) (l : List Nat) : Option Nat :=
  l.foldl (fun b n =>
    match b with
    | none => some n
    | some m => if s.clusterLoad (coreCluster n) < s.clusterLoad (coreCluster m) then some n else b) none

/-- The core's registers at dispatch (R401, R437). -/
def Core.dispatched (c : Core) (t : Task) (wins : List Window) : Core :=
  let w : Vector Window 8 := Vector.ofFn fun (i : Fin 8) => (wins[i.val]?).getD Window.init
  { c with
    pc := BitVec.ofNat 48 t.entry
    d := ((((Vector.replicate 16 (0 : Word)).set 0 (BitVec.ofNat 64 t.index)).set 1 (BitVec.ofNat 64 t.count)).set 2 (BitVec.ofNat 64 t.fn))
    dp := Vector.replicate 16 false
    a := ((((Vector.replicate 8 (0 : Addr)).set 0 (BitVec.ofNat 48 t.param)).set 1 (BitVec.ofNat 48 (t.param + 32))).set 7 0x1F0000008000)
    ac := Vector.replicate 4 0
    acp := Vector.replicate 4 false
    owed := Vector.replicate 24 none
    rstacks := Vector.replicate 2 []
    rsmode := t.rsmode
    exl := false
    sup := t.target
    waiting := false
    stop := false
    wins := w
    nextWins := w
    winsPending := false
    draining := false
    discarded := c.discarded || c.winsPending
    taskId := BitVec.ofNat 32 t.id
    taskFn := BitVec.ofNat 8 t.fn
    macx := none
    task := some t
    started := false
    stores := []
    prefetch := none
    lastFn := some t.fn
    lastGen := some (t.program, t.gen)
    icache := c.icache && c.lastGen == some (t.program, t.gen) }

/-- A task starts on a core (R437 to R442): registers, windows, scratch, the slice of another function cleared, the buffer port bound
(R540), the engine ranges loaded; its Execute Program passes its commit point (R424). -/
def State.startTask (s : State) (n : Nat) (t : Task) : State :=
  let r := coreRegion n
  let c := s.core n
  let wins := s.taskWins t n
  let s := if c.winsPending then s.bump 0xA020 6 else s
  let other := match c.lastFn with
    | some f => f != t.fn
    | none => false
  let s := s.clearMem (scratchBase n) 0x8000
  let s := if other then s.clearMem (sliceBase n) 0x20000 else s
  let s := s.setCore n (c.dispatched t wins)
  let port : BufPort := ⟨t.exec, if t.exec then t.fn else 0, if t.exec then s.fval t.fn 0x4010 1 else 0, 0, 0⟩
  let s := { s with bpm.ports := Tab.put s.bpm.ports n port }
  let s := if t.exec && s.needsEngines t.program then s.loadRanges r t.fn wins else s
  let s := (s.bump 0xA030 4).traced 4 r t n 0
  let s := { s with sched.deferred := s.sched.deferred.filter fun (i : Nat) => i != t.id }
  if t.exec then (s.onExec t.tag fun e => { e with started := true }).onCmd t.tag fun k => { k with past := true } else s

/-- A core's bus error on a window set, which lies in hub SRAM (R369, R435). Its address is not given: a free value (log 78). -/
def State.windowSetError (s : State) (n : Nat) : State :=
  let a := s.draw
  a.2.controlError 4 160 (coreReq n) (a.1.toNat % 2 ^ 48)

/-- A task given a core whose window set is read from hub SRAM; `lost` says that the read met an uncorrectable error, which ends the task
before it runs (R428, R435). -/
def State.loadTask (s : State) (n : Nat) (t : Task) (lost : Bool) : State :=
  if lost then ((s.windowSetError n).startTask n t).endTask n 0xFFF4 else s.startTask n t

/-- A prefetched task starts; a window epoch that has moved makes the core load its window set again (R436). -/
def State.startPrefetched (s : State) (n : Nat) (p : Task × Nat) (lost : Bool) : State :=
  if p.2 != s.epoch (coreRegion n) p.1.fn then (s.bump 0xA040 5).loadTask n p.1 lost else s.startTask n p.1

/-- Free cores of a region that suit a descriptor and hold none of their own. -/
def State.freeCores (s : State) (r : Nat) (t : Task) : List Nat :=
  (regionCores r).filter fun n => s.coreFree n && (s.core n).prefetch.isNone && s.suits n t

/-- Whether a descriptor's function may run one more task (R439). -/
def State.mayRun (s : State) (r : Nat) (t : Task) : Bool := t.target || s.belowLimit r t.fn

/-- The descriptor dispatch takes: the first in priority and enqueue order that has a free eligible core (log 160). -/
def State.nextTask (s : State) (r : Nat) : Option (Task × Nat) :=
  (s.readyList r).findSome? fun t =>
    if s.mayRun r t then (s.chooseCore (s.freeCores r t)).map fun n => (t, n) else none

/-- A task taken off a ready list. -/
def State.takeReady (s : State) (r : Nat) (t : Task) : State := s.setReady r ((s.readyList r).filter fun x => x.id != t.id)

/-- A task passed over because its function is at its limit: each is counted once (R175, R178, log 144). -/
def State.deferTask (s : State) (t : Task) : State :=
  if s.sched.deferred.contains t.id then s
  else ({ s with sched.deferred := t.id :: s.sched.deferred }).fbump t.fn 0x4020 7 1

/-- The tasks ahead of the one dispatch takes that a core is free for and a limit keeps back. -/
def State.passedOver (s : State) (r : Nat) : List Task :=
  let upTo := match s.nextTask r with
    | some p => (s.readyList r).takeWhile fun (t : Task) => t.id != p.1.id
    | none => s.readyList r
  upTo.filter fun t => !s.mayRun r t && !(s.freeCores r t).isEmpty

/-- TASK_DISPATCH: a core that has ended its task starts the one it has prefetched, unless its function is at its limit, when that goes
back to the head of its level (R175); otherwise the best descriptor goes to a free core, and those passed over are counted (R178). `lost` says
that a window set it reads meets an uncorrectable error. -/
def State.dispatch (s : State) (r : Nat) (lost : Bool) : State :=
  if !s.online r then s
  else
    match (regionCores r).find? fun n => s.coreFree n && (s.core n).prefetch.isSome with
    | some n =>
      match (s.core n).prefetch with
      | none => s
      | some p =>
        let s := s.onCore n fun c => { c with prefetch := none }
        if s.mayRun r p.1 then s.startPrefetched n p lost else (s.deferTask p.1).giveBack r p.1
    | none =>
      let next := s.nextTask r
      let s := (s.passedOver r).foldl State.deferTask s
      match next with
      | none => s
      | some p => (s.takeReady r p.1).loadTask p.2 p.1 lost

/-- Busy cores of a region that suit a descriptor. -/
def State.busyCores (s : State) (r : Nat) (t : Task) : List Nat :=
  (regionCores r).filter fun n => !(s.core n).halted && (s.core n).task.isSome && s.suits n t

/-- The prefetch slot a descriptor displaces: of lower priority, the lowest, the latest enqueued on a tie (R441). -/
def State.victim (s : State) (l : List Nat) (t : Task) : Option (Nat × Task) :=
  l.foldl (fun b n =>
    match (s.core n).prefetch with
    | none => b
    | some p =>
      if t.priority ≤ p.1.priority then b
      else match b with
        | none => some (n, p.1)
        | some q =>
          if p.1.priority < q.2.priority || (p.1.priority == q.2.priority && decide (q.2.order < p.1.order)) then some (n, p.1) else b) none

/-- A prefetch slot filled; a task whose window set is lost ends without running (R428). -/
def State.prefetchTo (s : State) (r n : Nat) (t : Task) (lost : Bool) : State :=
  let epoch := s.epoch r t.fn
  let s := s.takeReady r t
  if lost then ((s.windowSetError n).traced 2 r t n 0).taskEnded r t n 0xFFF4
  else (s.onCore n fun c => { c with prefetch := some (t, epoch) }).traced 2 r t n 0

/-- What a descriptor's prefetch would do: fill a slot, displace one, or nothing (R440, R441). -/
def State.prefetchOf (s : State) (r : Nat) (t : Task) (lost : Bool) : Option State :=
  if !s.mayRun r t || !(s.freeCores r t).isEmpty then none
  else
    let busy := s.busyCores r t
    match s.chooseCore (busy.filter fun n => (s.core n).prefetch.isNone) with
    | some n => some (s.prefetchTo r n t lost)
    | none =>
      match s.victim busy t with
      | none => none
      | some v =>
        let s := (s.onCore v.1 fun c => { c with prefetch := none }).traced 3 r v.2 v.1 0
        some (((s.bump 0xA040 3).prefetchTo r v.1 t lost).giveBack r v.2)

/-- PREFETCH_FILL: the first descriptor in order that can be prefetched is (R440, R441). -/
def State.prefetchFill (s : State) (r : Nat) (lost : Bool) : State :=
  if !s.online r then s
  else ((s.readyList r).findSome? fun t => s.prefetchOf r t lost).getD s

/-! ### Resets that end tasks (R13, R181, R445) -/

/-- Every descriptor of a region ends with `0xFFF8`: running, prefetched, queued and waiting (R445). -/
def State.endRegionTasks (s : State) (r : Nat) : State :=
  let s := (regionCores r).foldl (fun s n =>
    let s := s.endTask n 0xFFF8
    match (s.core n).prefetch with
    | some p => (s.onCore n fun c => { c with prefetch := none }).taskEnded r p.1 n 0xFFF8
    | none => s) s
  let queued := s.readyList r
  let s := queued.foldl (fun s t => s.taskEnded r t 0xFF 0xFFF8) (s.setReady r [])
  let wait := s.sched.stalled.filter fun x => x.region == r
  let s := { s with sched.stalled := s.sched.stalled.filter fun (x : Stalled) => x.region != r }
  let s := wait.foldl (fun s (x : Stalled) =>
    let s := if x.task.exec then
        (s.onExec x.task.tag fun e => { e with stalled := false }).onCmd x.task.tag fun c => { c with waitDirty := false }
      else s
    s.taskEnded r x.task 0xFF 0xFFF8) s
  s.stallLevel r

/-- The active state of every source whose target is a core that is reset ends (R554). -/
def State.endActive (s : State) (l : List Nat) : State :=
  (List.range 2048).foldl (fun s src =>
    if srcBit s.ev.active src && l.contains (s.ev.targetOf src) then
      { s with ev.active := setSrc s.ev.active src false }.arm src
    else s) s

/-- A cluster reset (R13, R445): running tasks end with `CLUSTER_RESET`; prefetched ones, and one chosen that has run nothing, return to the head
of their level; cores and the MAC unit are cleared; cluster memory is undefined (log 44). -/
def State.clusterReset (s : State) (c : Nat) : State :=
  let r := c / 4
  let cores := (List.range 8).map fun i => 8 * c + i
  let s := cores.foldl (fun s n =>
    let k := s.core n
    let s := match k.prefetch with
      | some p => (s.onCore n fun c => { c with prefetch := none }).giveBack r p.1
      | none => s
    let s := match k.task with
      | none => s
      | some t =>
        if k.started then s.endTask n 0xFFF0
        else (s.onCore n fun c => { c with task := none }).giveBack r t
    let s := s.cancelMacx n
    s.setCore n { Core.cleared with lastFn := k.lastFn }) s
  (s.endActive cores).blurMem (clusterBase c) 0x100000

end Sys2Proof.Machine
end

