-- ==== Sys2Proof/Machine/BasizRun.lean ====
section
/-! DEFINITION. What every Basiz instruction shares: whether its core can execute, its fetch, its exceptions, the next address, and
the choice of the first condition in the order of R404. -/
namespace Sys2Proof.Machine

/-- How an instruction ends: at the next address, at another, in an exception (vector, `EADDR` when it is not the instruction,
further `ECAUSE` bits), or not yet. -/
inductive Flow where
  | go (s : State)
  | jump (s : State) (dest : Addr)
  | trap (s : State) (vector : Nat) (eaddr : Option Addr) (cause : Nat)
  | wait (s : State)

/-- Whether a core can execute its next instruction: it runs, no task stop waits for it, and at task level it has a task; one
that waits for an event needs one pending. -/
def State.canExecute (s : State) (n : Nat) : Bool :=
  let c := s.core n
  s.powered && !c.halted && !c.stop && (!c.waiting || s.eventPending n) && (c.sup || c.task.isSome)

/-- Whether an instruction word cannot be fetched: nothing there gives instructions, or the check bits fail, or the granule carries
the poison mark, which control traffic does not take (R369, R385). -/
def State.fetchBus (s : State) (n a : Nat) (e : Ecc) : Bool :=
  !s.fetchable n a || e == .uncorrectable || s.mem.poisoned (s.phys n a) 4

/-- Whether an instruction word lies outside what a task may execute. -/
def State.fetchWindow (s : State) (n a : Nat) : Bool := (s.core n).violates a 4 [.ex]

/-- The service class of the work a core does: its Execute Program's; a firmware task's by its priority (R426). -/
def State.coreClass (s : State) (n : Nat) : Nat :=
  match (s.core n).task with
  | none => 4
  | some t =>
    match if t.exec then s.sched.execs.find? fun e => e.tag == t.tag else none with
    | some e => e.cls
    | none => if t.priority = 7 then 0 else if t.priority ≤ 2 then 4 else 6 - t.priority

/-- The memory class and instance of an access by a core (R374). -/
def State.instanceAt (s : State) (n a : Nat) : Nat × Nat :=
  match s.area a with
  | .xip => (5, 161 + (if s.cs.bankSize ≤ a - 0x120000000000 then 1 else 0))
  | x => memInstance n (bits a 11 3) x

/-- The state after the fetch of a word, with what the check bits found counted. -/
def State.fetched (s : State) (n a : Nat) (e : Ecc) : State :=
  let i := s.instanceAt n a
  match e with
  | .clean => s
  | .corrected => s.correctedIn i.1 i.2 (coreReq n) a (s.coreClass n)
  | .uncorrectable => s.controlError i.1 i.2 (coreReq n) a

/-- Whether a register still owes a bus error of its load (R404): D0–D15 are 0–15, A0–A7 are 16–23. -/
def Core.owes (c : Core) (uses : List Nat) : Option Addr := uses.findSome? fun i => (c.owed[i]?).getD none

/-- A bus error a register owed is raised once. -/
def Core.dropOwed (c : Core) (uses : List Nat) : Core :=
  { c with owed := uses.foldl (fun (v : Vector (Option Addr) 24) i => v.setIfInBounds i none) c.owed }

/-- A core's registers after a completed instruction. -/
def Core.retire (c : Core) (dest : Addr) : Core :=
  { c with pc := dest, retired := c.retired + 1, started := true, icache := true }

/-- An exception of the instruction at `pc`. -/
def State.trapAt (s : State) (n : Nat) (pc next : Addr) (w : BitVec 32) (vector : Nat) (eaddr : Option Addr) (cause : Nat) : State :=
  let after := vector == 10 || vector == 11
  let s := s.onCore n fun c =>
    { c with started := true, waiting := false, retired := if after then c.retired + 1 else c.retired }
  s.raise n ⟨vector, if after then next else pc, eaddr.getD pc, cause, w⟩

/-- A BASIZ INSTRUCTION: word `w`, with an extension word when `ext`, using the registers `uses`, doing `f`. The first condition
in the order 5, 2, 1, 4, 7, 8, 9, 3, 6 is raised; a register whose load met a bus error has no value to check, so that its use
is the condition (log 49). -/
def State.issue (s : State) (x : Issue) (w : BitVec 32) (ext : Bool) (uses : List Nat) (f : State → Flow) : State :=
  let n := x.core.val
  if !s.canExecute n then s
  else
    let pc := (s.core n).pc
    let pc2 := pc + 4
    let next := if ext then pc + 8 else pc + 4
    if s.fetchBus n pc.toNat x.fetch then (s.fetched n pc.toNat x.fetch).trapAt n pc next w 5 none 0
    else if ext && s.fetchBus n pc2.toNat .clean then s.trapAt n pc next w 5 (some pc2) 0
    else if s.fetchWindow n pc.toNat then s.trapAt n pc next w 2 none 0
    else if ext && s.fetchWindow n pc2.toNat then s.trapAt n pc next w 2 (some pc2) 0
    else
      let s := (s.fetched n pc.toNat x.fetch).onCore n fun c => { c with waiting := false }
      let owed := (s.core n).owes uses
      match f s, owed with
      | .wait t, _ => t
      | .go t, none => t.onCore n fun c => c.retire next
      | .jump t dest, none => t.onCore n fun c => c.retire dest
      | .trap t v ea cause, none => t.trapAt n pc next w v ea cause
      | .trap t v ea cause, some a =>
        if v = 1 ∨ v = 4 ∨ v = 7 ∨ v = 8 then t.trapAt n pc next w v ea cause
        else (s.onCore n fun c => c.dropOwed uses).trapAt n pc next w 6 (some a) 0
      | _, some a => (s.onCore n fun c => c.dropOwed uses).trapAt n pc next w 6 (some a) 0

/-- An illegal instruction. -/
def State.illegal (s : State) : Flow := .trap s 1 none 0

/-- Poison consumed by a core (R366). -/
def State.poisonTrap (s : State) (n : Nat) : Flow :=
  let pc := (s.core n).pc.toNat
  .trap (s.consumed (coreReq n) 0 (pc % 2 ^ 32)) 4 none 0

/-- Poison consumed, or on with `f`. -/
def State.ifClean (s : State) (n : Nat) (p : Bool) (f : State → Flow) : Flow := if p then s.poisonTrap n else f s

/-- Only at supervisor level. -/
def State.ifSup (s : State) (n : Nat) (f : State → Flow) : Flow := if (s.core n).sup then f s else s.illegal

/-- A register pair, or an illegal instruction. -/
def State.ifPair (s : State) (d : Fin 16) (f : State → Flow) : Flow := if isPair d then f s else s.illegal

/-- A change of the core's own registers. -/
def State.regs (s : State) (n : Nat) (f : Core → Core) : Flow := .go (s.onCore n f)

/-- ILLEGAL_INSTRUCTION: a word that is no instruction at the core's level raises vector 1 (R380). -/
def State.illegalInstruction (s : State) (x : Issue) (w ext : BitVec 32) : State :=
  if legalWord w ext (s.core x.core.val).sup then s else s.issue x w false [] fun s => s.illegal

/-- EVENT_EXCEPTION: a pending event taken between instructions (R404). The word `EINST` takes is not stated: a free value (log 3). -/
def State.eventException (s : State) (n : Fin 132) : State :=
  let c := s.core n.val
  if s.canExecute n.val && c.eventEn && !c.exl && s.eventPending n.val then
    let f := s.draw
    f.2.raise n.val ⟨12, c.pc, 0, 0, f.1.setWidth 32⟩
  else s

/-- A stopped task leaves its core with nothing reported (R181, R296, R400). -/
def State.dropTask (s : State) (n : Nat) : State :=
  ((s.fence n).cancelMacx n).onCore n fun c => { c with task := none, started := false, stop := false }

/-- TASK_STOP: a task stop taken as vector 13 at the instruction boundary, before any event; the task is then gone (R181, R404). -/
def State.taskStop (s : State) (n : Fin 132) : State :=
  let c := s.core n.val
  if s.powered && !c.halted && c.stop && c.task.isSome then
    let f := s.draw
    (f.2.raise n.val ⟨13, c.pc, 0, 0, f.1.setWidth 32⟩).dropTask n.val
  else s

end Sys2Proof.Machine
end

