-- ==== Sys2Proof/Machine/BasizInt.lean ====
section
/-! DEFINITION. Integer, immediate and A-register instructions (R377, R378, R381, R382, R395). -/
namespace Sys2Proof.Machine

/-! ### The functions of the integer group (R381) -/

/-- Quotient and remainder, unsigned and signed, with the divisor 0. -/
def wDivu (a b : Word) : Word := if b = 0 then BitVec.allOnes 64 else a / b
def wDiv (a b : Word) : Word := if b = 0 then BitVec.allOnes 64 else a.sdiv b
def wRemu (a b : Word) : Word := if b = 0 then a else a % b
def wRem (a b : Word) : Word := if b = 0 then a else a.srem b

/-- The count of a shift: b[5:0]. -/
def shiftOf (b : Word) : Nat := b.toNat % 64

/-- Leading zeros from a width down, and trailing zeros. -/
def leadingZeros : Nat → Nat → Nat
  | 0, _ => 0
  | n + 1, v => if bit v n then 0 else 1 + leadingZeros n v
def trailingZeros : Nat → Nat → Nat
  | 0, _ => 0
  | n + 1, v => if v % 2 = 1 then 0 else 1 + trailingZeros n (v / 2)

/-- The bytes in reverse. -/
def byteSwap (a : Word) : Word := BitVec.ofNat 64 (ofBe (leBytes 8 a.toNat))

/-- 1 for true. -/
def boolWord (b : Bool) : Word := if b then 1 else 0

/-- A shift or rotate by kind: 0 left, 1 right logical, 2 right arithmetic, 3 rotate left. -/
def shiftKind (k : Fin 4) (a : Word) (n : Nat) : Word :=
  match k with
  | 0 => a <<< n
  | 1 => a >>> n
  | 2 => a.sshiftRight n
  | 3 => a.rotateLeft n

/-! ### Shapes -/

/-- An integer instruction on two registers: poisoned when either is. -/
def State.alu (s : State) (x : Issue) (func : Nat) (d a b : Fin 16) (f : Word → Word → Word) : Done :=
  let n := x.core.val
  s.done (s.issue x (rrr 0 (fD d) (fD a) (fD b) func) false [a.val, b.val] fun s =>
    s.regs n fun c => c.setD d (f (c.dv a) (c.dv b)) (c.pv a || c.pv b))

/-- An integer instruction on one register. -/
def State.alu1 (s : State) (x : Issue) (func : Nat) (d a : Fin 16) (f : Word → Word) : Done :=
  let n := x.core.val
  s.done (s.issue x (rrr 0 (fD d) (fD a) 0 func) false [a.val] fun s => s.regs n fun c => c.setD d (f (c.dv a)) (c.pv a))

/-- Both registers of a pair written, after every source is read (R378). -/
def Core.setPair (c : Core) (d : Fin 16) (lo hi : Word) (p : Bool) : Core := (c.setD d lo p).setD (pairOf d) hi p

/-- An integer instruction that writes a pair; `carry` says that bit 0 of Dd+1 is a source. -/
def State.aluPair (s : State) (x : Issue) (func : Nat) (d a b : Fin 16) (carry : Bool) (f : Nat → Nat → Nat → Word × Word) : Done :=
  let n := x.core.val
  let uses := if carry then [a.val, b.val, (pairOf d).val] else [a.val, b.val]
  s.done (s.issue x (rrr 0 (fD d) (fD a) (fD b) func) false uses fun s => s.ifPair d fun s => s.regs n fun c =>
    let k := c.dv (pairOf d)
    let r := f (c.dv a).toNat (c.dv b).toNat (if carry then k.toNat % 2 else 0)
    c.setPair d r.1 r.2 (c.pv a || c.pv b || (carry && c.pv (pairOf d))))

/-- A sum and its carry. -/
def sumPair (a b c : Nat) : Word × Word := (BitVec.ofNat 64 (a + b + c), boolWord (decide (2 ^ 64 ≤ a + b + c)))

/-- A difference and its borrow. -/
def diffPair (a b c : Nat) : Word × Word := (BitVec.ofNat 64 (2 ^ 65 + a - b - c), boolWord (decide (a < b + c)))

/-- The low and high halves of a product. -/
def mulPair (a b _c : Nat) : Word × Word := (BitVec.ofNat 64 (a * b), BitVec.ofNat 64 (a * b / 2 ^ 64))

/-- The same of a signed product. -/
def mulSigned (a b _c : Nat) : Word × Word :=
  let p := BitVec.ofInt 128 ((BitVec.ofNat 64 a).toInt * (BitVec.ofNat 64 b).toInt)
  (p.setWidth 64, (p >>> 64).setWidth 64)

/-- An instruction on a register and an immediate. -/
def State.immOp (s : State) (x : Issue) (op : Nat) (d a : Fin 16) (i : Imm) (f : Word → Word → Word) : Done :=
  let n := x.core.val
  s.done (s.issue x (ri op (fD d) (fD a) i.field) i.ext [a.val] fun s => s.regs n fun c => c.setD d (f (c.dv a) i.word) (c.pv a))

/-! ### Op `0x00` -/

/-- MOV. -/
def execMov (x : Issue) (d a : Fin 16) (s : State) : Done := s.alu1 x 0x00 d a id
/-- ADD. -/
def execAdd (x : Issue) (d a b : Fin 16) (s : State) : Done := s.alu x 0x01 d a b (· + ·)
/-- SUB. -/
def execSub (x : Issue) (d a b : Fin 16) (s : State) : Done := s.alu x 0x02 d a b (· - ·)
/-- AND. -/
def execAnd (x : Issue) (d a b : Fin 16) (s : State) : Done := s.alu x 0x03 d a b (· &&& ·)
/-- OR. -/
def execOr (x : Issue) (d a b : Fin 16) (s : State) : Done := s.alu x 0x04 d a b (· ||| ·)
/-- XOR. -/
def execXor (x : Issue) (d a b : Fin 16) (s : State) : Done := s.alu x 0x05 d a b (· ^^^ ·)
/-- ANDN. -/
def execAndn (x : Issue) (d a b : Fin 16) (s : State) : Done := s.alu x 0x06 d a b fun a b => a &&& ~~~b
/-- SHL. -/
def execShl (x : Issue) (d a b : Fin 16) (s : State) : Done := s.alu x 0x07 d a b fun a b => shiftKind 0 a (shiftOf b)
/-- SHR. -/
def execShr (x : Issue) (d a b : Fin 16) (s : State) : Done := s.alu x 0x08 d a b fun a b => shiftKind 1 a (shiftOf b)
/-- SAR. -/
def execSar (x : Issue) (d a b : Fin 16) (s : State) : Done := s.alu x 0x09 d a b fun a b => shiftKind 2 a (shiftOf b)
/-- ROL. -/
def execRol (x : Issue) (d a b : Fin 16) (s : State) : Done := s.alu x 0x0A d a b fun a b => shiftKind 3 a (shiftOf b)
/-- MUL. -/
def execMul (x : Issue) (d a b : Fin 16) (s : State) : Done := s.alu x 0x0B d a b (· * ·)
/-- DIVU. -/
def execDivu (x : Issue) (d a b : Fin 16) (s : State) : Done := s.alu x 0x0C d a b wDivu
/-- DIV. -/
def execDiv (x : Issue) (d a b : Fin 16) (s : State) : Done := s.alu x 0x0D d a b wDiv
/-- REMU. -/
def execRemu (x : Issue) (d a b : Fin 16) (s : State) : Done := s.alu x 0x0E d a b wRemu
/-- REM. -/
def execRem (x : Issue) (d a b : Fin 16) (s : State) : Done := s.alu x 0x0F d a b wRem
/-- MINU. -/
def execMinu (x : Issue) (d a b : Fin 16) (s : State) : Done := s.alu x 0x10 d a b fun a b => if a.ult b then a else b
/-- MAXU. -/
def execMaxu (x : Issue) (d a b : Fin 16) (s : State) : Done := s.alu x 0x11 d a b fun a b => if a.ult b then b else a
/-- MIN. -/
def execMin (x : Issue) (d a b : Fin 16) (s : State) : Done := s.alu x 0x12 d a b fun a b => if a.slt b then a else b
/-- MAX. -/
def execMax (x : Issue) (d a b : Fin 16) (s : State) : Done := s.alu x 0x13 d a b fun a b => if a.slt b then b else a
/-- SLT. -/
def execSlt (x : Issue) (d a b : Fin 16) (s : State) : Done := s.alu x 0x14 d a b fun a b => boolWord (a.slt b)
/-- SLTU. -/
def execSltu (x : Issue) (d a b : Fin 16) (s : State) : Done := s.alu x 0x15 d a b fun a b => boolWord (a.ult b)
/-- SEQ. -/
def execSeq (x : Issue) (d a b : Fin 16) (s : State) : Done := s.alu x 0x16 d a b fun a b => boolWord (a == b)
/-- CLZ. -/
def execClz (x : Issue) (d a : Fin 16) (s : State) : Done := s.alu1 x 0x17 d a fun a => BitVec.ofNat 64 (leadingZeros 64 a.toNat)
/-- CTZ. -/
def execCtz (x : Issue) (d a : Fin 16) (s : State) : Done := s.alu1 x 0x18 d a fun a => BitVec.ofNat 64 (trailingZeros 64 a.toNat)
/-- POPC. -/
def execPopc (x : Issue) (d a : Fin 16) (s : State) : Done := s.alu1 x 0x19 d a fun a => BitVec.ofNat 64 (popCount 64 a.toNat)
/-- BSWAP. -/
def execBswap (x : Issue) (d a : Fin 16) (s : State) : Done := s.alu1 x 0x1A d a byteSwap

/-- CMOVNZ: poisoned when b is; otherwise the destination keeps the poison bit of the value it ends with (R395). -/
def execCmovnz (x : Issue) (d a b : Fin 16) (s : State) : Done :=
  let n := x.core.val
  s.done (s.issue x (rrr 0 (fD d) (fD a) (fD b) 0x1B) false [a.val, b.val, d.val] fun s => s.regs n fun c =>
    if c.dv b = 0 then c.setD d (c.dv d) (c.pv b || c.pv d) else c.setD d (c.dv a) (c.pv b || c.pv a))

/-- ADDC. -/
def execAddc (x : Issue) (d a b : Fin 16) (s : State) : Done := s.aluPair x 0x20 d a b false sumPair
/-- SUBB. -/
def execSubb (x : Issue) (d a b : Fin 16) (s : State) : Done := s.aluPair x 0x21 d a b false diffPair
/-- MULW. -/
def execMulw (x : Issue) (d a b : Fin 16) (s : State) : Done := s.aluPair x 0x22 d a b false mulSigned
/-- MULWU. -/
def execMulwu (x : Issue) (d a b : Fin 16) (s : State) : Done := s.aluPair x 0x23 d a b false mulPair
/-- ADDCC. -/
def execAddcc (x : Issue) (d a b : Fin 16) (s : State) : Done := s.aluPair x 0x24 d a b true sumPair
/-- SUBBC. -/
def execSubbc (x : Issue) (d a b : Fin 16) (s : State) : Done := s.aluPair x 0x25 d a b true diffPair

/-! ### Immediates (R382) -/

/-- ADDI. -/
def execAddi (x : Issue) (d a : Fin 16) (i : Imm) (s : State) : Done := s.immOp x 0x08 d a i (· + ·)
/-- ANDI. -/
def execAndi (x : Issue) (d a : Fin 16) (i : Imm) (s : State) : Done := s.immOp x 0x09 d a i (· &&& ·)
/-- ORI. -/
def execOri (x : Issue) (d a : Fin 16) (i : Imm) (s : State) : Done := s.immOp x 0x0A d a i (· ||| ·)
/-- XORI. -/
def execXori (x : Issue) (d a : Fin 16) (i : Imm) (s : State) : Done := s.immOp x 0x0B d a i (· ^^^ ·)

/-- SHI. -/
def execShi (x : Issue) (d a : Fin 16) (kind : Fin 4) (count : Fin 64) (s : State) : Done :=
  let n := x.core.val
  s.done (s.issue x (ri 0x0C (fD d) (fD a) (kind.val * 64 + count.val)) false [a.val] fun s =>
    s.regs n fun c => c.setD d (shiftKind kind (c.dv a) count.val) (c.pv a))

/-- INSHI: the extension word goes into bits 63–32. -/
def execInshi (x : Issue) (d : Fin 16) (v : BitVec 32) (s : State) : Done :=
  let n := x.core.val
  s.done (s.issue x (ri 0x0D (fD d) 0 0x8000) true [d.val] fun s =>
    s.regs n fun c => c.setD d (v ++ (c.dv d).setWidth 32) (c.pv d))

/-- MOVI. -/
def execMovi (x : Issue) (d : Fin 16) (i : Imm) (s : State) : Done :=
  let n := x.core.val
  s.done (s.issue x (ri 0x0E (fD d) 0 i.field) i.ext [] fun s => s.regs n fun c => c.setD d i.word false)

/-! ### A registers (R377, R382, R395) -/

/-- MOVA. -/
def execMova (x : Issue) (d : Fin 8) (a : Fin 16) (s : State) : Done :=
  let n := x.core.val
  s.done (s.issue x (rrr 0x05 (fA d) (fD a) 0 0) false [a.val] fun s => s.ifClean n ((s.core n).pv a) fun s =>
    s.regs n fun c => c.setA d ((c.dv a).setWidth 48))

/-- MOVD. -/
def execMovd (x : Issue) (d : Fin 16) (a : Fin 8) (s : State) : Done :=
  let n := x.core.val
  s.done (s.issue x (rrr 0x05 (fD d) (fA a) 0 1) false [fA a] fun s => s.regs n fun c => c.setD d ((c.av a).setWidth 64) false)

/-- An A register with a D register added or subtracted. -/
def State.addrOp (s : State) (x : Issue) (func : Nat) (d a : Fin 8) (b : Fin 16) (f : Addr → Addr → Addr) : Done :=
  let n := x.core.val
  s.done (s.issue x (rrr 0x05 (fA d) (fA a) (fD b) func) false [fA a, b.val] fun s => s.ifClean n ((s.core n).pv b) fun s =>
    s.regs n fun c => c.setA d (f (c.av a) ((c.dv b).setWidth 48)))

/-- AADD. -/
def execAadd (x : Issue) (d a : Fin 8) (b : Fin 16) (s : State) : Done := s.addrOp x 2 d a b (· + ·)
/-- ASUB. -/
def execAsub (x : Issue) (d a : Fin 8) (b : Fin 16) (s : State) : Done := s.addrOp x 3 d a b (· - ·)

/-- ADIFF. -/
def execAdiff (x : Issue) (d : Fin 16) (a b : Fin 8) (s : State) : Done :=
  let n := x.core.val
  s.done (s.issue x (rrr 0x05 (fD d) (fA a) (fA b) 4) false [fA a, fA b] fun s =>
    s.regs n fun c => c.setD d ((c.av a - c.av b).signExtend 64) false)

/-- LEA. -/
def execLea (x : Issue) (d a : Fin 8) (i : Imm) (s : State) : Done :=
  let n := x.core.val
  s.done (s.issue x (ri 0x0F (fA d) (fA a) i.field) i.ext [fA a] fun s => s.regs n fun c => c.setA d (c.av a + i.addr))

end Sys2Proof.Machine
end

