-- ==== Sys2Proof/Machine/BasizDec.lean ====
section
/-! DEFINITION. Packed decimal and the accumulator moves (R391 to R394, R398). -/
namespace Sys2Proof.Machine

/-! ### Digits -/

/-- Why decimal data is refused, as `ECAUSE` says it: operand b or the AC, overflow, the first invalid nibble. -/
structure DecErr where
  second : Bool
  overflow : Bool
  nibble : Nat
  deriving DecidableEq, Repr

/-- The bits of `ECAUSE`. -/
def DecErr.cause (e : DecErr) : Nat := b2n e.second * 2 ^ 15 + b2n e.overflow * 2 ^ 14 + e.nibble * 2 ^ 8

/-- A nibble. -/
def nibble (v i : Nat) : Nat := bits v (4 * i) 4

/-- The lowest nibble from `lo` on, of `n`, that is no digit. -/
def badDigit (v lo n : Nat) : Option Nat := ((List.range n).map (lo + ·)).find? fun i => decide (9 < nibble v i)

/-- The number `n` digits from nibble `lo` hold. -/
def digitsAt (v lo : Nat) : Nat → Nat
  | 0 => 0
  | n + 1 => nibble v lo + 10 * digitsAt v (lo + 1) n

/-- A number as `n` packed digits. -/
def packDigits : Nat → Nat → Nat
  | 0, _ => 0
  | n + 1, v => v % 10 + 16 * packDigits n (v / 10)

/-- Whether a sign nibble is minus. -/
def isMinus (s : Nat) : Bool := s == 0xB || s == 0xD

/-- An unsigned operand of 16 digits. -/
def unsigned16 (second : Bool) (v : Nat) : Except DecErr Nat :=
  match badDigit v 0 16 with
  | some i => .error ⟨second, false, i⟩
  | none => .ok (digitsAt v 0 16)

/-- A signed operand of `n` digits above its sign nibble. -/
def signedDec (second : Bool) (n v : Nat) : Except DecErr Int :=
  if nibble v 0 < 10 then .error ⟨second, false, 0⟩
  else
    match badDigit v 1 n with
    | some i => .error ⟨second, false, i⟩
    | none => .ok (if isMinus (nibble v 0) then -(digitsAt v 1 n : Int) else (digitsAt v 1 n : Int))

/-- A signed value packed: zero is plus (R391). -/
def packSigned (n : Nat) (v : Int) : Nat := 16 * packDigits n v.natAbs + (if v < 0 then 0xD else 0xC)

/-! ### Shapes -/

/-- A decimal instruction that writes D registers: a poisoned operand is not checked and poisons the result, whose value then, where the
digits are no digits, is a free value (log 3). -/
def State.decFlow (s : State) (n : Nat) (poison : Bool) (r : Except DecErr (Word × Word)) (put : Core → Word → Word → Core) : Flow :=
  match r with
  | .ok v => s.regs n fun c => put c v.1 v.2
  | .error e =>
    if poison then
      let a := s.draw
      let b := a.2.draw
      b.2.regs n fun c => put c a.1 b.1
    else .trap s.draw.2 9 none e.cause

/-- A decimal instruction on two registers with one result. -/
def State.dec2 (s : State) (x : Issue) (func : Nat) (d a b : Fin 16) (f : Nat → Nat → Except DecErr Nat) : Done :=
  let n := x.core.val
  s.done (s.issue x (rrr 0x01 (fD d) (fD a) (fD b) func) false [a.val, b.val] fun s =>
    let c := s.core n
    let p := c.pv a || c.pv b
    s.decFlow n p ((f (c.dv a).toNat (c.dv b).toNat).map fun v => (BitVec.ofNat 64 v, 0)) fun c v _ => c.setD d v p)

/-- A decimal instruction on one register with one result. -/
def State.dec1 (s : State) (x : Issue) (func : Nat) (d a : Fin 16) (f : Nat → Except DecErr Nat) : Done :=
  let n := x.core.val
  s.done (s.issue x (rrr 0x01 (fD d) (fD a) 0 func) false [a.val] fun s =>
    let c := s.core n
    let p := c.pv a
    s.decFlow n p ((f (c.dv a).toNat).map fun v => (BitVec.ofNat 64 v, 0)) fun c v _ => c.setD d v p)

/-- A decimal instruction on two registers that writes a pair. -/
def State.decPair (s : State) (x : Issue) (func : Nat) (d a b : Fin 16) (f : Nat → Nat → Except DecErr (Nat × Nat)) : Done :=
  let n := x.core.val
  s.done (s.issue x (rrr 0x01 (fD d) (fD a) (fD b) func) false [a.val, b.val] fun s => s.ifPair d fun s =>
    let c := s.core n
    let p := c.pv a || c.pv b
    s.decFlow n p ((f (c.dv a).toNat (c.dv b).toNat).map fun v => (BitVec.ofNat 64 v.1, BitVec.ofNat 64 v.2)) fun c v w => c.setPair d v w p)

/-- UNPK and UNPKF: the eight most significant digits to Dd, the rest to Dd+1, each a byte with a zone, most significant first. -/
def State.unpack (s : State) (x : Issue) (func zone : Nat) (d a : Fin 16) : Done :=
  let n := x.core.val
  let spread (v lo : Nat) : Nat := ofLe ((List.range 8).map fun k => BitVec.ofNat 8 (16 * zone + nibble v (lo + 7 - k)))
  s.done (s.issue x (rrr 0x01 (fD d) (fD a) 0 func) false [a.val] fun s => s.ifPair d fun s =>
    let c := s.core n
    let p := c.pv a
    let r := (unsigned16 false (c.dv a).toNat).map fun _ =>
      (BitVec.ofNat 64 (spread (c.dv a).toNat 8), BitVec.ofNat 64 (spread (c.dv a).toNat 0))
    s.decFlow n p r fun c v w => c.setPair d v w p)

/-! ### Op `0x01` (R391, R392) -/

/-- DADD. -/
def execDadd (x : Issue) (d a b : Fin 16) (s : State) : Done := s.decPair x 0x00 d a b fun a b =>
  (unsigned16 false a).bind fun p => (unsigned16 true b).map fun q => (packDigits 16 (p + q), (p + q) / 10 ^ 16)

/-- DSUB. -/
def execDsub (x : Issue) (d a b : Fin 16) (s : State) : Done := s.decPair x 0x01 d a b fun a b =>
  (unsigned16 false a).bind fun p => (unsigned16 true b).map fun q =>
    (packDigits 16 (10 ^ 16 + p - q), if p < q then 1 else 0)

/-- The correction of R392, nibble by nibble: the nibbles left, the next one's number, the carry so far. -/
def adjust (sum c : Nat) : Nat → Nat → Nat → Nat
  | 0, _, _ => 0
  | k + 1, i, dc =>
    let up := if i = 15 then 0 else bits c (4 * i + 4) 1
    let m := nibble sum i + 16 * up + dc
    let n := m - bits c (4 * i) 1
    if m < bits c (4 * i) 1 then 15 + 16 * adjust sum c k (i + 1) 0
    else if 9 < n then (n - 10) % 16 + 16 * adjust sum c k (i + 1) 1 else n + 16 * adjust sum c k (i + 1) 0

/-- DADJ: no digit check. -/
def execDadj (x : Issue) (d a b : Fin 16) (s : State) : Done :=
  s.dec2 x 0x02 d a b fun a b => .ok (adjust a (a ^^^ b) 16 0 0)

/-- The lowest nibble of eight zoned bytes that is wrong: a low nibble that is no digit, a zone that is neither 3 nor F. -/
def badZoned (v : Nat) : Option Nat := (List.range 16).find? fun i =>
  if i % 2 = 0 then decide (9 < nibble v i) else nibble v i != 0x3 && nibble v i != 0xF

/-- The digits of eight zoned bytes, the first the most significant. -/
def zonedDigits (v : Nat) : Nat := (List.range 8).foldl (fun r k => 16 * r + nibble v (2 * k)) 0

/-- PACK. -/
def execPack (x : Issue) (d a b : Fin 16) (s : State) : Done := s.dec2 x 0x03 d a b fun a b =>
  match badZoned a, badZoned b with
  | some i, _ => .error ⟨false, false, i⟩
  | none, some i => .error ⟨true, false, i⟩
  | none, none => .ok (zonedDigits a * 2 ^ 32 + zonedDigits b)

/-- UNPK. -/
def execUnpk (x : Issue) (d a : Fin 16) (s : State) : Done := s.unpack x 0x04 0x3 d a
/-- UNPKF. -/
def execUnpkf (x : Issue) (d a : Fin 16) (s : State) : Done := s.unpack x 0x05 0xF d a

/-- DSGN.GET. -/
def execDsgnGet (x : Issue) (d a : Fin 16) (s : State) : Done :=
  s.dec1 x 0x06 d a fun a => (signedDec false 15 a).map fun _ => b2n (isMinus (nibble a 0))
/-- DSGN.STRIP. -/
def execDsgnStrip (x : Issue) (d a : Fin 16) (s : State) : Done :=
  s.dec1 x 0x07 d a fun a => (signedDec false 15 a).map fun _ => a / 16

/-- DSGN.APPLY: digit 15 of Da must be 0; zero is plus. Which nibble `ECAUSE` then names is not stated: a free value (log 3). -/
def execDsgnApply (x : Issue) (d a b : Fin 16) (s : State) : Done :=
  s.dec2 x 0x08 d a b fun a b => (unsigned16 false a).bind fun v =>
    if nibble a 15 ≠ 0 then .error ⟨false, true, (Config.freeValue s.free).toNat % 32⟩
    else .ok (packSigned 15 (if b % 2 = 1 then -(v : Int) else (v : Int)))

/-- DSGN.NORM. -/
def execDsgnNorm (x : Issue) (d a : Fin 16) (s : State) : Done :=
  s.dec1 x 0x09 d a fun a => (signedDec false 15 a).map fun v => packSigned 15 v
/-- DCVT. -/
def execDcvt (x : Issue) (d a : Fin 16) (s : State) : Done :=
  s.dec1 x 0x0A d a fun a => (signedDec false 15 a).map fun v => (BitVec.ofInt 64 v).toNat
/-- DCVTU. -/
def execDcvtu (x : Issue) (d a : Fin 16) (s : State) : Done := s.dec1 x 0x0B d a fun a => unsigned16 false a

/-! ### Accumulators (R391, R395, R398) -/

/-- Whether an unfinished `MACX` of the core holds an accumulator. -/
def Core.acBusy (c : Core) (k : Fin 4) : Bool :=
  match c.macx with
  | some m => m.ac == k
  | none => false

/-- An accumulator as a number. -/
def Core.acv (c : Core) (k : Fin 4) : Nat := (c.ac[k]).toNat

/-- An instruction that uses an accumulator waits while a `MACX` holds it. -/
def State.ifAc (s : State) (n : Nat) (k : Fin 4) (f : State → Flow) : Flow := if (s.core n).acBusy k then .wait s else f s

/-- An accumulator loaded from D registers: its value from the core, poisoned when a source is. -/
def State.toAc (s : State) (x : Issue) (func : Nat) (k : Fin 4) (a : Fin 16) (uses : List Nat) (f : Core → BitVec 128) (p : Core → Bool) : Done :=
  let n := x.core.val
  s.done (s.issue x (rrr 0x04 (fC k) (fD a) 0 func) false uses fun s => s.ifAc n k fun s =>
    s.regs n fun c => c.setAc k (f c) (p c))

/-- MTAC: both registers of a source pair. -/
def execMtac (x : Issue) (k : Fin 4) (a : Fin 16) (s : State) : Done :=
  let n := x.core.val
  s.done (s.issue x (rrr 0x04 (fC k) (fD a) 0 0x00) false [a.val, (pairOf a).val] fun s => s.ifPair a fun s => s.ifAc n k fun s =>
    s.regs n fun c => c.setAc k (c.dv (pairOf a) ++ c.dv a) (c.pv a || c.pv (pairOf a)))
/-- MTACS. -/
def execMtacs (x : Issue) (k : Fin 4) (a : Fin 16) (s : State) : Done :=
  s.toAc x 0x01 k a [a.val] (fun c => (c.dv a).signExtend 128) (fun c => c.pv a)
/-- MTACZ. -/
def execMtacz (x : Issue) (k : Fin 4) (a : Fin 16) (s : State) : Done :=
  s.toAc x 0x02 k a [a.val] (fun c => (c.dv a).setWidth 128) (fun c => c.pv a)

/-- A decimal result for an accumulator; poisoned operands are not checked. `ECAUSE` bits the rules leave open are free. -/
def State.decAc (s : State) (n : Nat) (k : Fin 4) (p : Bool) (r : Except DecErr Int) : Flow :=
  match r with
  | .ok v => s.regs n fun c => c.setAc k (BitVec.ofNat 128 (packSigned 31 v)) p
  | .error e =>
    if p then
      let a := s.draw
      let b := a.2.draw
      b.2.regs n fun c => c.setAc k (a.1 ++ b.1) true
    else .trap s.draw.2 9 none e.cause

/-- MTACD. -/
def execMtacd (x : Issue) (k : Fin 4) (a : Fin 16) (s : State) : Done :=
  let n := x.core.val
  s.done (s.issue x (rrr 0x04 (fC k) (fD a) 0 0x03) false [a.val] fun s => s.ifAc n k fun s =>
    let c := s.core n
    s.decAc n k (c.pv a) (signedDec false 15 (c.dv a).toNat))

/-- DACC: a magnitude of 10^31 or more is refused. Which operand and nibble `ECAUSE` then names is not stated: a free value (log 3). -/
def execDacc (x : Issue) (k : Fin 4) (a : Fin 16) (s : State) : Done :=
  let n := x.core.val
  s.done (s.issue x (rrr 0x01 (fC k) (fD a) 0 0x0C) false [a.val] fun s => s.ifAc n k fun s =>
    let c := s.core n
    let p := c.pv a || c.acp[k]
    let r := (signedDec false 15 (c.dv a).toNat).bind fun v => (signedDec true 31 (c.acv k)).bind fun w =>
      if 10 ^ 31 ≤ (v + w).natAbs then
        let f := (Config.freeValue s.free).toNat
        .error ⟨bit f 5, true, f % 32⟩
      else .ok (v + w)
    s.decAc n k p r)

/-- An accumulator read into a pair. -/
def State.fromAc (s : State) (x : Issue) (func : Nat) (d : Fin 16) (k : Fin 4) (f : State → Core → Flow) : Done :=
  let n := x.core.val
  s.done (s.issue x (rrr 0x04 (fD d) (fC k) 0 func) false [] fun s => s.ifPair d fun s => s.ifAc n k fun s => f s (s.core n))

/-- MFAC. -/
def execMfac (x : Issue) (d : Fin 16) (k : Fin 4) (s : State) : Done := s.fromAc x 0x08 d k fun s c =>
  s.regs x.core.val fun k' => k'.setPair d ((c.ac[k]).setWidth 64) ((c.ac[k] >>> 64).setWidth 64) c.acp[k]

/-- A value held within bounds, and whether it had to be. -/
def saturate (lo hi v : Int) : Int × Bool := if v < lo then (lo, true) else if hi < v then (hi, true) else (v, false)

/-- MFACS. -/
def execMfacs (x : Issue) (d : Fin 16) (k : Fin 4) (s : State) : Done := s.fromAc x 0x09 d k fun s c =>
  let r := saturate (-(2 ^ 63)) (2 ^ 63 - 1) (c.ac[k]).toInt
  s.regs x.core.val fun k' => k'.setPair d (BitVec.ofInt 64 r.1) (boolWord r.2) c.acp[k]

/-- MFACU. -/
def execMfacu (x : Issue) (d : Fin 16) (k : Fin 4) (s : State) : Done := s.fromAc x 0x0A d k fun s c =>
  let r := saturate 0 (2 ^ 64 - 1) (c.ac[k]).toInt
  s.regs x.core.val fun k' => k'.setPair d (BitVec.ofInt 64 r.1) (boolWord r.2) c.acp[k]

/-- MFACD. -/
def execMfacd (x : Issue) (d : Fin 16) (k : Fin 4) (s : State) : Done := s.fromAc x 0x0B d k fun s c =>
  let r := (signedDec true 31 (c.acv k)).map fun v =>
    let q := saturate (-(10 ^ 15 - 1)) (10 ^ 15 - 1) v
    (BitVec.ofNat 64 (packSigned 15 q.1), boolWord q.2)
  s.decFlow x.core.val c.acp[k] r fun k' v w => k'.setPair d v w c.acp[k]

end Sys2Proof.Machine
end

