-- ==== Sys2Proof/Machine/Engine.lean ====
section
/-! DEFINITION. What the engines of a region share: queues, descriptor fetch, completions, the choice of the next head, boundaries and
suspension, ring resets and the resets of functions and regions (R451, R452, R456, R457, R461, R463 to R472, R491 to R493, R511, R515). -/
namespace Sys2Proof.Machine

/-- An engine's number within its region. -/
def EngKind.num : EngKind → Nat
  | .comp => 0
  | .cipher => 1
  | .digest => 2
  | .pat => 3

/-- An engine's key. -/
def engKey (r : Fin 4) (k : EngKind) : Nat := 4 * r.val + k.num

/-- The kind an engine's key names. -/
def engKind (ek : Nat) : EngKind :=
  match ek % 4 with
  | 0 => .comp
  | 1 => .cipher
  | 2 => .digest
  | _ => .pat

/-- A queue's key. -/
def queueKey (r : Fin 4) (k : EngKind) (n : Fin 64) : Nat := 64 * engKey r k + n.val

/-- The registers of a queue after reset. -/
def QSetup.init : QSetup := ⟨false, 0, Vector.replicate 4 ⟨0, 0, false, false⟩, 0, 0, 0⟩

/-- A closed context. -/
def CompCtx.init : CompCtx := ⟨.closed, 0, [], [], 0, 0, 0⟩

/-- A queue after reset: `CPL_TAIL` shows the phase bit set (R198). -/
def EQueue.init : EQueue where
  assigned := false
  setup := QSetup.init
  descBase := 0
  cplBase := 0
  descTail := 0
  descHead := 0
  cplTail := 0
  cplPhase := true
  cplHead := 0
  eventEn := false
  resetBusy := false
  resetEnd := 0
  resTail := 0
  resHead := 0
  queue := []
  headSince := 0
  slotWait := false
  ctx := CompCtx.init
  message := none
  cursor := none
  scan := none

/-- An engine after reset. -/
def Engine.init : Engine := ⟨false, 0, 0, 0, [], []⟩

/-- An engine. -/
def State.engine (s : State) (ek : Nat) : Engine := Tab.get s.eng.engines Engine.init ek

/-- An engine changed. -/
def State.setEngine (s : State) (ek : Nat) (e : Engine) : State := { s with eng.engines := Tab.put s.eng.engines ek e }

/-- A queue. -/
def State.equeue (s : State) (qk : Nat) : EQueue := Tab.get s.eng.queues EQueue.init qk

/-- A queue changed. -/
def State.setQueue (s : State) (qk : Nat) (q : EQueue) : State := { s with eng.queues := Tab.put s.eng.queues qk q }

/-- A queue changed by a function. -/
def State.onQueue (s : State) (qk : Nat) (f : EQueue → EQueue) : State := s.setQueue qk (f (s.equeue qk))

/-! ### Descriptors -/

/-- A little-endian field of a descriptor: first byte and bytes. -/
def EDesc.f (d : EDesc) (i n : Nat) : Nat := bits d.raw (8 * i) (8 * n)

/-- Bytes of a descriptor. -/
def EDesc.bytes (d : EDesc) (i n : Nat) : List Byte := leBytes n (d.f i n)

/-- One bit of a descriptor. -/
def EDesc.bit (d : EDesc) (i : Nat) : Bool := Sys2Proof.Machine.bit d.raw i

/-- The fields every descriptor has in its first word (R456, R491, R512). -/
def EDesc.opcode (d : EDesc) : Nat := d.f 0 1
def EDesc.cls (d : EDesc) : Nat := bits d.raw 8 3
def EDesc.event (d : EDesc) : Bool := d.bit 11
def EDesc.tag (d : EDesc) : Nat := d.f 2 2

/-- The marks of cipher and digest descriptors (R491). -/
def EDesc.first (d : EDesc) : Bool := d.bit 15
def EDesc.last (d : EDesc) : Bool := d.bit 14

/-- An address field: 48 bits; its upper 16 are reserved. -/
def EDesc.addr (d : EDesc) (i : Nat) : Nat := d.f i 6

/-- Whether bytes of a descriptor are zero. -/
def EDesc.zero (d : EDesc) (i n : Nat) : Bool := d.f i n == 0

/-- The opcodes an engine knows. -/
def engOpcodes : EngKind → List Nat
  | .comp => [1, 2, 3, 4]
  | .cipher => [0x01, 0x02, 0x10, 0x11, 0x20, 0x21, 0x30, 0x31, 0x32, 0x33, 0x34]
  | .digest => [0x01, 0x10, 0x11]
  | .pat => [0x01, 0x02, 0x03, 0x10, 0x11, 0x12, 0x13, 0x40]

/-- The status codes every engine has (R461, R492, R513). -/
def stBadDesc : EngKind → Nat
  | .pat => 0x04
  | _ => 0x09
def stDenied : EngKind → Nat
  | .comp => 0x0B
  | .pat => 0x06
  | _ => 0x08
def stBadState : EngKind → Nat
  | .pat => 0x05
  | _ => 0x0A
def stFlushed : EngKind → Nat
  | .comp => 0x0C
  | .pat => 0x08
  | _ => 0x0B
def stBusError : EngKind → Nat
  | .comp => 0x0D
  | .pat => 0x09
  | _ => 0x0C

/-- Where rings and buffers may lie: region staging, a cluster memory, hub SRAM or populated DRAM (R456). -/
def engineArea : Area → Bool
  | .dram | .staging _ | .cluster _ | .ingress | .tables => true
  | _ => false

/-- Whether a buffer lies wholly in those memories. -/
def State.bufferOk (s : State) (a n : Nat) : Bool := s.within engineArea a n

/-- Whether a range holds a buffer with a right (R457); the range ends with the 64-byte block its limit names. -/
def QRange.admits (g : QRange) (a n : Nat) (write : Bool) : Bool :=
  (if write then g.wr else g.rd) && decide (g.base.toNat ≤ a) && decide (a + n ≤ g.limit.toNat / 64 * 64 + 64)

/-- Whether a queue may use a buffer: a tenant's lies wholly inside one of its ranges (R457). -/
def QSetup.allows (q : QSetup) (a n : Nat) (write : Bool) : Bool :=
  !q.tenant || n == 0 || q.ranges.toList.any fun g => g.admits a n write

/-- The verdict on buffers, each with its length and whether it is written: `BAD_DESC`, then `DENIED`. -/
def State.checkBuffers (s : State) (k : EngKind) (q : QSetup) (l : List (Nat × Nat × Bool)) : Option Nat :=
  if !(l.all fun b => s.bufferOk b.1 b.2.1) then some (stBadDesc k)
  else if !(l.all fun b => q.allows b.1 b.2.1 b.2.2) then some (stDenied k)
  else none

/-! ### Completions -/

/-- An ending with a status and nothing else. -/
def Ending.of (status : Nat) : Ending := ⟨status, 0, [0, 0, 0, 0, 0, 0], [], none, none⟩

/-- The place of `ELAPSED` among DW2 to DW7. -/
def elapsedAt : EngKind → Nat
  | .cipher | .digest => 2
  | _ => 4

/-- The 32 bytes of a completion entry (R461, R492, R513). -/
def engEntry (d : EDesc) (status flags : Nat) (phase : Bool) (dws : List Nat) : List Byte :=
  leBytes 4 (d.tag + status * 2 ^ 16 + b2n phase * 2 ^ 24 + flags) ++ leBytes 4 d.slot ++
    padTo 24 (dws.flatMap fun w => leBytes 4 w)

/-- The event source of a queue (R547). -/
def queueSource (qk : Nat) : Nat := evSrc (10 * (qk / 256) + 1 + 2 * (qk / 64 % 4) + qk % 64 / 32) (qk % 32)

/-- What a completion adds to the counters of its engine (R468, R495). -/
def State.engCount (s : State) (qk opcode status : Nat) (dws : List Nat) : State :=
  let r := qk / 256
  let dw (i : Nat) := (dws[i]?).getD 0
  match engKind (qk / 64) with
  | .comp =>
    let s := ((s.bump (0xB020 + r) 1).fbump 0 (0xB020 + r) 2 (dw 0)).fbump 0 (0xB020 + r) 3 (dw 1)
    if status = 2 then s.bump (0xB020 + r) 4
    else if status = 3 then s.bump (0xB020 + r) 5
    else if 4 ≤ status ∧ status ≤ 7 then s.bump (0xB020 + r) 6
    else if status = 8 then s.bump (0xB020 + r) 8
    else if status = 0x0B then s.bump (0xB020 + r) 9
    else s
  | .cipher =>
    let s := (s.bump (0xB120 + r) 1).fbump 0 (0xB120 + r) 2 (dw 0)
    let s := if (0x30 ≤ opcode ∧ opcode ≤ 0x32) ∧ (status = 3 ∨ status = 6 ∨ status = 7) then s.bump 0xB300 4 else s
    if status = 3 then s.bump (0xB120 + r) 3
    else if status = 5 ∨ status = 8 then s.bump (0xB120 + r) 6
    else s
  | .digest =>
    let s := (s.bump (0xB220 + r) 1).fbump 0 (0xB220 + r) 2 (dw 0)
    if status = 2 then s.bump (0xB220 + r) 3
    else if opcode = 0x11 ∧ status = 3 then s.bump (0xB220 + r) 4
    else s
  | .pat => s

/-- A completion entry written, tail and phase moved, the event raised (R198, R456). -/
def State.engPost (s : State) (qk : Nat) (d : EDesc) (status flags : Nat) (dws : List Nat) : State :=
  let q := s.equeue qk
  let s := s.store (q.cplBase + 32 * q.cplTail) (engEntry d status flags q.cplPhase dws) false
  let wraps := decide (q.cplTail = 63)
  let s := s.setQueue qk { q with cplTail := (q.cplTail + 1) % 64, cplPhase := q.cplPhase != wraps }
  let s := s.engCount qk d.opcode status dws
  if q.eventEn && d.event then s.fire (queueSource qk) else s

/-- The head leaves its queue; the next one begins to wait. -/
def State.popHead (s : State) (qk : Nat) : State :=
  let s := s.onQueue qk fun q => { q with queue := q.queue.drop 1, headSince := s.eng.nextOrder, slotWait := false }
  { s with eng.nextOrder := s.eng.nextOrder + 1 }

/-- Output written. -/
def State.putChunk (s : State) (c : Chunk) : State := if c.data.isEmpty then s else s.store c.addr c.data c.poison

/-- A descriptor ends: the last output is written, its queue holds what the ending says, and it completes. -/
def State.engEnd (s : State) (qk : Nat) (d : EDesc) (startAt : Word) (e : Ending) : State :=
  let k := engKind (qk / 64)
  let s := e.writes.foldl (fun (s : State) c => s.putChunk c) s
  let dws := e.dws.set (elapsedAt k) (s.since startAt)
  let s := match e.ctx with
    | some c => s.onQueue qk fun q => { q with ctx := c }
    | none => s
  let s := match k with
    | .cipher | .digest => s.onQueue qk fun q => { q with message := e.message }
    | _ => s
  (s.engPost qk d e.status e.flags dws).popHead qk

/-! ### Fetch -/

/-- Whether a queue's head is in a pipe, a lane or the table, or suspended. -/
def State.headBusy (s : State) (qk : Nat) : Bool :=
  let e := s.engine (qk / 64)
  (e.jobs.any fun j => j.q == qk) || (e.scans.any fun j => j.q == qk) || (s.tern.moves.any fun m => m.q == qk && !m.discard) ||
    (s.tern.jobs.any fun j => j.q == qk)

/-- Completion entries written and not consumed. -/
def EQueue.unread (q : EQueue) : Nat := (q.cplTail + 64 - q.cplHead) % 64

/-- Whether a queue may fetch: no ring reset, a descriptor waiting, a completion slot free, and rings where R456 puts them (log 55). -/
def State.engCanFetch (s : State) (qk : Nat) : Bool :=
  let q := s.equeue qk
  !q.resetBusy && q.descHead != q.descTail && decide (q.queue.length + q.unread < 63) &&
    s.bufferOk q.descBase 4096 && s.bufferOk q.cplBase 2048

/-- The memory class and instance of an engine's access (R374). -/
def State.engInstance (s : State) (a : Nat) : Nat × Nat := memInstance 0 (bits a 11 3) (s.area a)

/-- An engine as a requester in an error record (R373): its number is region × 4 + kind (log 58). -/
def engReq (ek : Nat) : Requester := ⟨1, ek⟩

/-- One descriptor fetched. An uncorrectable error, or a poison mark, gives a bus error (R369). -/
def State.engFetch (s : State) (qk : Nat) (busErr : Bool) : State :=
  let q := s.equeue qk
  let a := q.descBase + 64 * q.descHead
  let bad := busErr || s.mem.poisoned a 64
  let d : EDesc := ⟨q.descHead, if bad then 0 else s.load a 64, bad, q.setup⟩
  let i := s.engInstance a
  let s := if bad then s.controlError i.1 i.2 (engReq (qk / 64)) a else s
  let since := if q.queue.isEmpty then s.eng.nextOrder else q.headSince
  let s := s.setQueue qk { q with descHead := (q.descHead + 1) % 64, queue := q.queue ++ [d], headSince := since }
  { s with eng.nextOrder := s.eng.nextOrder + 1 }

/-- Every descriptor fetched that can be. -/
def State.engFetchAll (qk : Nat) : Nat → State → State
  | 0, s => s
  | n + 1, s => if s.engCanFetch qk then State.engFetchAll qk n (s.engFetch qk false) else s

/-- Heads that need no pipe complete: those whose fetch met a bus error, and those with an opcode or a class the engine does not know. -/
def State.settleQueue (qk : Nat) : Nat → State → State
  | 0, s => s
  | n + 1, s =>
    let q := s.equeue qk
    let k := engKind (qk / 64)
    match q.queue with
    | [] => s
    | d :: _ =>
      if s.headBusy qk then s
      else
        if d.busErr then State.settleQueue qk n (s.engEnd qk d s.pkg.timebase (Ending.of (stBusError k)))
        else if !(engOpcodes k).contains d.opcode || decide (4 < d.cls) then
          State.settleQueue qk n (s.engEnd qk d s.pkg.timebase (Ending.of (stBadDesc k)))
        else s

/-! ### Context slots (R471, R472) -/

/-- The context slots in use in an engine. -/
def State.slotsUsed (s : State) (ek : Nat) : List Nat :=
  ((List.range 64).filterMap fun n => (s.equeue (64 * ek + n)).message.bind fun (m : Message) => m.slot) ++
    (s.engine ek).jobs.filterMap fun j => j.slot

/-- The lowest free slot of a range. -/
def State.ctxSlot (s : State) (ek lo hi : Nat) : Option Nat :=
  let used := s.slotsUsed ek
  (List.range 64).find? fun k => decide (lo ≤ k) && decide (k < hi) && !used.contains k

/-- Whether a head opens a message that needs a slot. -/
def EQueue.needsSlot (q : EQueue) (k : EngKind) (d : EDesc) : Bool :=
  q.message.isNone &&
  match k with
  | .cipher => (d.opcode == 0x10 || d.opcode == 0x11) && d.first && !d.last
  | .digest => (d.opcode == 0x01 && d.first && !d.last) || d.opcode == 0x11
  | _ => false

/-- A head that waits for a slot is counted once (R494). -/
def State.countSlotWait (s : State) (qk : Nat) : State :=
  let q := s.equeue qk
  if q.slotWait then s
  else
    let ek := qk / 64
    let e := s.engine ek
    let s := (s.setQueue qk { q with slotWait := true }).setEngine ek { e with slotWaits := e.slotWaits + 1 }
    if engKind ek = .cipher then s.bump (0xB120 + ek / 4) 5 else s

/-! ### The choice of the next head (R463, R470, R511) -/

/-- What a pipe could take: a head, or a suspended descriptor. -/
structure Pick where
  q : Nat
  cls : Nat
  resume : Bool
  first : Bool
  since : Nat
  deriving DecidableEq, Repr

/-- Lowest class first; within a class a suspended descriptor; then the head that has waited longest. A suspended descriptor whose
ring is being reset goes first of all. -/
def Pick.before (a b : Pick) : Bool :=
  if a.first != b.first then a.first
  else if a.cls != b.cls then decide (a.cls < b.cls)
  else if a.resume != b.resume then a.resume
  else decide (a.since < b.since)

/-- The best of several. -/
def bestPick (l : List Pick) : Option Pick :=
  l.foldl (fun b p =>
    match b with
    | none => some p
    | some x => if p.before x then some p else b) none

/-- The pipe a head runs in: compression or encryption 0, decompression or decryption 1. -/
def pipeOf (q : EQueue) (k : EngKind) (d : EDesc) : Nat :=
  match k with
  | .comp => if d.opcode = 1 then d.f 41 1 % 2 else bits q.ctx.params 8 1
  | .cipher => if d.opcode = 0x02 ∨ d.opcode = 0x11 then 1 else 0
  | _ => 0

/-- Whether a `KEY_UNLOAD` has to wait: a descriptor that names the slot is in a pipe or suspended (R482). -/
def State.keyInUse (s : State) (slot : Nat) : Bool :=
  s.eng.engines.any fun p => p.1 % 4 == 1 && p.2.jobs.any fun j => j.desc.f 24 4 % 4096 == slot

/-- Whether a head has to wait for something other than a pipe. -/
def State.headWaits (s : State) (qk : Nat) (d : EDesc) : Bool :=
  let k := engKind (qk / 64)
  ((s.equeue qk).needsSlot k d && (s.ctxSlot (qk / 64) 8 64).isNone) ||
    (k == .cipher && d.opcode == 0x34 && s.keyInUse (d.f 24 4 % 4096))

/-- The heads that wait for a pipe. -/
def State.waitingHeads (s : State) (ek pipe : Nat) : List Pick :=
  (List.range 64).filterMap fun n =>
    let qk := 64 * ek + n
    let q := s.equeue qk
    match q.queue with
    | d :: _ =>
      if s.headBusy qk || q.resetBusy || pipeOf q (engKind ek) d != pipe || s.headWaits qk d then none
      else some ⟨qk, d.cls, false, false, q.headSince⟩
    | [] => none

/-- The job running in a pipe. -/
def State.runningJob (s : State) (ek pipe : Nat) : Option Job := (s.engine ek).jobs.find? fun j => j.pipe == pipe && !j.suspended

/-- What a free pipe takes next. -/
def State.nextPick (s : State) (ek pipe : Nat) : Option Pick :=
  if !(s.engine ek).enable || (s.runningJob ek pipe).isSome then none
  else
    bestPick (((s.engine ek).jobs.filterMap fun j =>
      if j.pipe == pipe && j.suspended then
        some (Pick.mk j.q j.desc.cls true (s.equeue j.q).resetBusy (s.equeue j.q).headSince)
      else none) ++ s.waitingHeads ek pipe)

/-- A context's state while its descriptor runs or is suspended (R451). -/
def State.ctxState (s : State) (qk : Nat) (c : CtxState) : State :=
  if engKind (qk / 64) = .comp then s.onQueue qk fun q => { q with ctx.state := c } else s

/-- A pipe left free resumes a suspended descriptor when that is what it takes next. -/
def State.resumePipe (s : State) (ek pipe : Nat) : State :=
  match s.nextPick ek pipe with
  | some p =>
    if p.resume then
      let e := s.engine ek
      let l := updateIf (fun (j : Job) => j.q == p.q) (fun (j : Job) => { j with suspended := false, slot := none }) e.jobs
      (s.setEngine ek { e with jobs := l }).ctxState p.q .running
    else s
  | none => s

/-- Heads that need a slot while none is free are counted. -/
def State.noteSlotWaits (s : State) (ek : Nat) : State :=
  (List.range 64).foldl (fun (s : State) n =>
    let q := s.equeue (64 * ek + n)
    match q.queue with
    | d :: _ =>
      if !s.headBusy (64 * ek + n) && q.needsSlot (engKind ek) d && (s.ctxSlot ek 8 64).isNone then s.countSlotWait (64 * ek + n) else s
    | [] => s) s

/-! ### Ring resets (R466, R493, R515) -/

/-- Fetched descriptors outside the pipes complete `FLUSHED`. -/
def State.flushFetched (qk : Nat) : Nat → State → State
  | 0, s => s
  | n + 1, s =>
    match (s.equeue qk).queue with
    | d :: _ =>
      let st := stFlushed (engKind (qk / 64))
      State.flushFetched qk n (s.engEnd qk d s.pkg.timebase (Ending.of st))
    | [] => s

/-- Descriptors not fetched complete `FLUSHED` as completion slots allow. -/
def State.flushRing (qk : Nat) : Nat → State → State
  | 0, s => s
  | n + 1, s =>
    let q := s.equeue qk
    if q.descHead = q.resetEnd || decide (63 ≤ q.unread) then s
    else
      let d : EDesc := ⟨q.descHead, s.load (q.descBase + 64 * q.descHead) 64, false, q.setup⟩
      let s := s.setQueue qk { q with descHead := (q.descHead + 1) % 64 }
      State.flushRing qk n (s.engPost qk d (stFlushed (engKind (qk / 64))) 0 [0, 0, 0, 0, 0, 0])

/-- What a ring reset ends with: the context closed, messages, cursors and scans discarded. -/
def EQueue.discard (q : EQueue) : EQueue :=
  { q with ctx := CompCtx.init, message := none, cursor := none, scan := none }

/-- A ring reset goes on as far as it can: the descriptors outside the pipes once the one inside has ended, then the unfetched ones;
then the reset is over and fetching resumes. -/
def State.resetStep (s : State) (qk : Nat) : State :=
  let q := s.equeue qk
  if !q.resetBusy || s.headBusy qk then s
  else
    let s := State.flushRing qk 64 (State.flushFetched qk 64 s)
    let q := s.equeue qk
    if q.descHead = q.resetEnd then
      State.engFetchAll qk 64 (s.setQueue qk { q.discard with resetBusy := false })
    else s

/-- Everything that follows of itself once a queue has changed: ring resets, heads that need no pipe, resumed descriptors. -/
def State.engTidy (s : State) (qk : Nat) : State :=
  let ek := qk / 64
  let s := State.settleQueue qk 64 (s.resetStep qk)
  ((s.resumePipe ek 0).resumePipe ek 1).noteSlotWaits ek

/-- A ring reset written. -/
def State.engRingReset (s : State) (qk : Nat) : State :=
  let q := s.equeue qk
  if q.resetBusy then s
  else (s.setQueue qk { q with resetBusy := true, resetEnd := q.descTail }).engTidy qk

/-- The doorbell: ignored during a ring reset (R456). `busErr` says that the first fetch met an uncorrectable error. -/
def State.engDoorbell (s : State) (qk tail : Nat) (busErr : Bool) : State :=
  let q := s.equeue qk
  if q.resetBusy then s
  else
    let s := s.setQueue qk { q with descTail := tail % 64 }
    let s := if busErr && s.engCanFetch qk then s.engFetch qk true else s
    (State.engFetchAll qk 64 s).engTidy qk

/-- `CPL_HEAD` moved: completion slots become free. -/
def State.engCplHead (s : State) (qk v : Nat) : State :=
  (State.engFetchAll qk 64 (s.onQueue qk fun q => { q with cplHead := v % 64 })).engTidy qk

/-- `ENABLE` written: the pipes take descriptors, or take no more. -/
def State.engEnable (s : State) (ek : Nat) (on : Bool) : State :=
  let s := s.setEngine ek { s.engine ek with enable := on }
  (s.resumePipe ek 0).resumePipe ek 1

/-! ### Jobs -/

/-- Poison consumed by an engine (R366). -/
def State.engConsumed (s : State) (qk a : Nat) : State := s.consumed (engReq (qk / 64)) a 0

/-- Bytes an engine reads as payload. -/
def State.payload (s : State) (a n : Nat) : List Byte := s.mem.read a n

/-- The offsets of the bytes of a buffer that lie in poisoned granules. -/
def State.badBytes (s : State) (a n : Nat) : List Nat :=
  (List.range n).filter fun i => Tab.get s.mem.poison false ((a + i) / granuleAt a * granuleAt a)

/-- The head an engine's pipe takes, when it is a new descriptor with this opcode. -/
def State.takeHead (s : State) (ek pipe opcode : Nat) : Option (Nat × EDesc) :=
  match s.nextPick ek pipe with
  | some p =>
    if p.resume then none
    else (s.equeue p.q).queue.head?.bind fun d => if d.opcode == opcode then some (p.q, d) else none
  | none => none

/-- A job starts in a pipe. -/
def State.startJob (s : State) (qk pipe : Nat) (d : EDesc) (steps : List (List Chunk)) (e : Ending) : State :=
  let ek := qk / 64
  let x := s.engine ek
  let j : Job := ⟨qk, pipe, d, s.pkg.timebase, steps, e, false, false, none⟩
  (s.setEngine ek { x with jobs := x.jobs ++ [j] }).ctxState qk .running

/-- A descriptor that needs no time in a pipe ends at once. -/
def State.endNow (s : State) (qk : Nat) (d : EDesc) (e : Ending) : State := (s.engEnd qk d s.pkg.timebase e).engTidy qk

/-- A job is dropped from its engine. -/
def State.dropJob (s : State) (qk : Nat) : State :=
  let e := s.engine (qk / 64)
  s.setEngine (qk / 64) { e with jobs := e.jobs.filter fun j => j.q != qk }

/-- A job replaced. -/
def State.putJob (s : State) (j : Job) : State :=
  let e := s.engine (j.q / 64)
  s.setEngine (j.q / 64) { e with jobs := updateIf (fun (x : Job) => x.q == j.q) (fun _ => j) e.jobs }

/-- `SUSPENDED` in DW0 of a completion. -/
def suspendedFlag : EngKind → Nat
  | .comp => 2 ^ 27
  | _ => 2 ^ 28

/-- The slot a suspension takes (R472): the message's own; else one of 0 to 7 for a class-0 head, of 8 to 63 for another. A compression
context needs none. The outer option says whether the suspension can be. -/
def State.suspendSlot (s : State) (j : Job) (cls : Nat) : Option (Option Nat) :=
  if engKind (j.q / 64) = .comp then some none
  else if ((s.equeue j.q).message.bind fun (m : Message) => m.slot).isSome then some none
  else (if cls = 0 then s.ctxSlot (j.q / 64) 0 8 else s.ctxSlot (j.q / 64) 8 64).map some

/-- The dictionary counter of suspensions of an engine. -/
def State.countSuspension (s : State) (ek : Nat) : State :=
  let e := s.engine ek
  let s := s.setEngine ek { e with suspensions := e.suspensions + 1 }
  match engKind ek with
  | .comp => s.bump (0xB020 + ek / 4) 7
  | .cipher => s.bump (0xB120 + ek / 4) 4
  | _ => s

/-- A job with nothing left to write ends. -/
def State.endJob (s : State) (j : Job) : State :=
  let k := engKind (j.q / 64)
  let e := if j.everSuspended then { j.ending with flags := j.ending.flags + suspendedFlag k } else j.ending
  ((s.dropJob j.q).engEnd j.q j.desc j.startAt e).engTidy j.q

/-- A pipe has come to a boundary (R463, R472), `n` boundaries after the last: the output up to it is written; the descriptor ends when all
is; it is suspended when a head of lower class number waits and a slot can be had. When such a head waits, the boundary is the next one. -/
def State.boundary (s : State) (ek pipe n : Nat) : State :=
  match s.runningJob ek pipe with
  | none => s
  | some j =>
    let urgent := (bestPick (s.waitingHeads ek pipe)).filter fun p => decide (p.cls < j.desc.cls) && !(s.equeue j.q).resetBusy
    let m := if urgent.isSome then 1 else max n 1
    let s := (j.steps.take m).flatten.foldl (fun (s : State) c => s.putChunk c) s
    let j := { j with steps := j.steps.drop m }
    if j.steps.isEmpty then s.endJob j
    else match urgent with
      | none => s.putJob j
      | some p =>
        match s.suspendSlot j p.cls with
        | none => (s.putJob j).countSlotWait p.q
        | some slot =>
          ((s.putJob { j with suspended := true, everSuspended := true, slot := slot }).ctxState j.q .suspended).countSuspension ek

/-! ### Resets of functions and regions (R465, R493, R515) -/

/-- A queue's rings emptied, their indexes 0 and the phase 1. -/
def EQueue.emptied (q : EQueue) : EQueue :=
  { q.discard with
    queue := [], descHead := 0, descTail := 0, cplTail := 0, cplPhase := true, cplHead := 0, resetBusy := false, resTail := 0, resHead := 0 }

/-- Everything a queue has in its engine and in the ternary table ends with no completion; a running move finishes. -/
def State.stopQueue (s : State) (qk : Nat) : State :=
  let e := s.engine (qk / 64)
  let s := s.setEngine (qk / 64) { e with jobs := e.jobs.filter fun j => j.q != qk, scans := e.scans.filter fun j => j.q != qk }
  let ms := updateIf (fun (m : Move) => m.q == qk) (fun (m : Move) => { m with discard := true }) s.tern.moves
  let js := s.tern.jobs.filter fun (j : TableJob) => j.q != qk
  { s with tern.moves := ms, tern.jobs := js }

/-- Whether a queue is a function's. -/
def EQueue.ownedBy (q : EQueue) (fn : Nat) : Bool := q.assigned && q.setup.tenant && q.setup.fn == fn

/-- A compression context's history area, from its base to the end of its last block, written with zeros. -/
def State.zeroHistory (s : State) (q : EQueue) : State :=
  if q.setup.histLimit = 0 then s else s.clearMem q.setup.histBase (q.setup.histLimit / 64 * 64 + 64 - q.setup.histBase)

/-- The engine work of a function ends and its contexts are cleared (R181 steps 5 and 6). -/
def State.stopFunctionEngines (s : State) (fn : Nat) : State :=
  (s.eng.queues.filter fun p => p.2.ownedBy fn).foldl (fun (s : State) p =>
    let s := s.stopQueue p.1
    let s := if engKind (p.1 / 64) = .comp then s.zeroHistory p.2 else s
    let s := s.onQueue p.1 EQueue.emptied
    (s.resumePipe (p.1 / 64) 0).resumePipe (p.1 / 64) 1) s

/-- A region's engines are reset: everything ends, and owners, ranges and rings are cleared. -/
def State.resetRegionEngines (s : State) (r : Nat) : State :=
  let s := (Tab.keys s.eng.queues).foldl (fun (s : State) qk => if qk / 256 = r then s.stopQueue qk else s) s
  let qs := Tab.keep (fun k _ => k / 256 != r) s.eng.queues
  let es := Tab.keep (fun k _ => k / 4 != r) s.eng.engines
  { s with eng.queues := qs, eng.engines := es, eng.resident := s.eng.resident.setIfInBounds r [] }

end Sys2Proof.Machine
end

