-- ==== Sys2Proof/Machine/Comp.lean ====
section
/-! DEFINITION. The compression engine: contexts, `OPEN`, `DATA`, `RESUME`, `CLOSE` (R449 to R466). What the codec makes of its input is
a free function (log 41). -/
namespace Sys2Proof.Machine

/-! ### A context's parameters (R456) -/

def CompCtx.kind (c : CompCtx) : Nat := bits c.params 0 8
def CompCtx.isCompress (c : CompCtx) : Bool := bits c.params 8 8 == 0
def CompCtx.blockLog (c : CompCtx) : Nat := bits c.params 40 8

/-- Whether the fields every descriptor has are in order: reserved bits and the upper address bits. -/
def compForm (d : EDesc) : Bool :=
  bits d.raw 14 2 == 0 && d.zero 14 2 && d.zero 22 2 && d.zero 38 2

/-- Whether the parameters of an `OPEN` lie in their ranges, and the fields it does not use are zero (R6). -/
def openForm (d : EDesc) : Bool :=
  let kind := d.f 40 1
  let dir := d.f 41 1
  let fmt := d.f 42 1
  let level := d.f 43 1
  let wlog := d.f 44 1
  let blog := d.f 45 1
  compForm d && d.zero 4 36 && decide (kind ≤ 2) && decide (dir ≤ 1) && decide (fmt ≤ 1) &&
    (dir == 1 || (decide (1 ≤ level) && decide (level ≤ 9))) &&
    (fmt == 1 || (decide (10 ≤ wlog) && decide (wlog ≤ 23))) &&
    (blog == 0 || (kind == 2 && dir == 0 && decide (16 ≤ blog) && decide (blog ≤ 22))) &&
    d.zero 46 2 && ((kind == 1 && dir == 0) || d.f 48 8 == 2 ^ 64 - 1) && d.zero 56 8

/-- The history area a context needs (R455): none for storage. -/
def historyNeed (d : EDesc) : Nat :=
  if d.f 40 1 = 0 then 0 else 2 ^ (if d.f 42 1 = 1 then 15 else d.f 44 1) + 262144

/-- The history area a queue has. -/
def QSetup.history (q : QSetup) : Nat := q.histLimit / 64 * 64 + 64 - q.histBase

/-- OPEN: settings for a closed context. -/
def State.compOpen (s : State) (ek pipe : Nat) : State :=
  match s.takeHead ek pipe 1 with
  | none => s
  | some (qk, d) =>
    let c := (s.equeue qk).ctx
    if !openForm d then s.endNow qk d (Ending.of 0x09)
    else if c.state ≠ .closed then s.endNow qk d (Ending.of 0x0A)
    else if decide (d.setup.history < historyNeed d) && d.f 40 1 != 0 then s.endNow qk d (Ending.of 0x09)
    else s.endNow qk d { Ending.of 0 with ctx := some { CompCtx.init with state := .idle, params := d.f 40 16 } }

/-- CLOSE: all state discarded. -/
def State.compClose (s : State) (ek pipe : Nat) : State :=
  match s.takeHead ek pipe 4 with
  | none => s
  | some (qk, d) =>
    let c := (s.equeue qk).ctx
    if !(compForm d && d.zero 4 36 && d.zero 40 24) then s.endNow qk d (Ending.of 0x09)
    else if c.state = .idle ∨ c.state = .outFull then s.endNow qk d { Ending.of 0 with ctx := some CompCtx.init }
    else s.endNow qk d (Ending.of 0x0A)

/-! ### Output in steps -/

/-- A number put in its place among rising ones. -/
def insertCut (x : Nat) : List Nat → List Nat
  | [] => [x]
  | y :: r => if x < y then x :: y :: r else if x = y then y :: r else y :: insertCut x r

/-- The spans between `lo` and `hi` cut at given places. -/
def spans (lo hi : Nat) (cuts : List Nat) : List (Nat × Nat) :=
  let l := (cuts.filter fun c => decide (lo < c) && decide (c < hi)).foldr insertCut []
  let ends := l ++ [hi]
  (List.zip (lo :: l) ends).filter fun p => decide (p.1 < p.2)

/-- The output spans that derive from poisoned input (R462): of compression, the blocks whose input holds a poisoned byte; of
decompression, from such a block to the end of its frame. -/
def Coded.marks (c : Coded) (compress : Bool) (bad : List Nat) : List (Nat × Nat) :=
  let starts := List.zip ((0, 0) :: c.blocks) c.blocks
  let hit := starts.filter fun p => bad.any fun i => decide (p.1.1 ≤ i) && decide (i < p.2.1)
  hit.map fun p =>
    let stop := match c.frames.find? fun f => decide (p.1.2 < f.2.2.2.2) with
      | some f => f.2.2.2.2
      | none => c.out.length
    (p.1.2, if compress then p.2.2 else stop)

/-- Output bytes `lo` to `hi` of a coding, written from `addr` on, in steps that end at given places. -/
def Coded.steps (c : Coded) (addr lo hi : Nat) (bounds : List Nat) (marks : List (Nat × Nat)) : List (List Chunk) :=
  (spans lo hi bounds).map fun p =>
    (spans p.1 p.2 (marks.flatMap fun m => [m.1, m.2])).map fun q =>
      ⟨addr + (q.1 - lo), slice c.out q.1 (q.2 - q.1), marks.any fun m => decide (m.1 ≤ q.1) && decide (q.1 < m.2)⟩

/-- The boundaries of R463 between two places: block ends of compression; 16 KiB of output and frame ends of decompression. -/
def Coded.bounds (c : Coded) (compress : Bool) (lo hi : Nat) : List Nat :=
  if compress then c.blocks.map (·.2)
  else (List.range (ceilDiv (hi - lo) 16384)).map (fun i => lo + 16384 * i) ++ c.frames.map fun f => f.2.2.2.2

/-- The frames whose whole output lies below a place. -/
def Coded.framesBy (c : Coded) (e : Nat) : List (Nat × Nat × Bool × Nat × Nat) := c.frames.takeWhile fun f => decide (f.2.2.2.2 ≤ e)

/-- How a finished decompression ends (R460): a frame's check or length, or what was found after the last frame. -/
def Coded.verdict (c : Coded) (done : List (Nat × Nat × Bool × Nat × Nat)) : Nat × Bool :=
  match done.find? fun f => f.2.1 == 3 || f.2.1 == 4 with
  | some f => (f.2.1, f.2.2.1)
  | none => (if c.status = 5 ∨ c.status = 6 ∨ c.status = 7 then c.status else 0, false)

/-- The last check value of frames, 0 of none. -/
def lastCheck (l : List (Nat × Nat × Bool × Nat × Nat)) : Nat :=
  match l.reverse with
  | f :: _ => f.1 % 2 ^ 32
  | [] => 0

/-- DW2 to DW7 of a completion: consumed, produced, check value, frames. -/
def compDws (consumed produced : Nat) (l : List (Nat × Nat × Bool × Nat × Nat)) : List Nat :=
  [consumed, produced, lastCheck l, l.length, 0, 0]

/-- The marks of DW0: `LEN_DIFF`, `POISONED`, `FRAME_END`. -/
def compFlags (lenDiff poisoned frameEnd : Bool) : Nat := b2n lenDiff * 2 ^ 28 + b2n poisoned * 2 ^ 26 + b2n frameEnd * 2 ^ 25

/-- A DATA descriptor in a storage context (R453, R454). -/
def State.storageData (s : State) (qk pipe : Nat) (d : EDesc) (c : CompCtx) : State :=
  let n := d.f 4 4
  let lim := d.f 24 4
  let data := s.payload (d.addr 8) n
  let bad := s.badBytes (d.addr 8) n
  let poisoned := !bad.isEmpty
  let x := Config.codec c.params [(data, 2)]
  let idle := some { c with state := .idle }
  if c.isCompress then
    let out := padTo (16 * ceilDiv x.out.length 16) x.out
    if out.length > lim then
      let (a, s) := s.draw
      let (b, s) := s.draw
      let k := a.toNat % (lim + 1)
      s.startJob qk pipe d [[⟨d.addr 16, out.take k, poisoned⟩]]
        { Ending.of 0x02 with flags := compFlags false poisoned false, dws := compDws (b.toNat % (n + 1)) k [], ctx := idle }
    else
      let f := x.frames.take 1
      s.startJob qk pipe d [[⟨d.addr 16, out, poisoned⟩]]
        { Ending.of (if poisoned then 0x08 else 0) with
          flags := compFlags false poisoned true, dws := [n, out.length, lastCheck f, 1, 0, 0], ctx := idle }
  else
    let f := x.frames.take 1
    let v := x.verdict f
    let stop := match f with
      | [g] => g.2.2.2.1
      | _ => min x.used n
    let total := match f with
      | [g] => g.2.2.2.2
      | _ => x.out.length
    let tail := data.drop stop
    let status := if poisoned then 0x08
      else if total > lim then 0x02
      else if v.1 ≠ 0 then v.1
      else if tail.length > 15 || (tail.any fun b => b != 0) then 0x05
      else 0
    let hi := min total lim
    s.startJob qk pipe d (x.steps (d.addr 16) 0 hi (x.bounds false 0 hi) (x.marks false bad))
      { Ending.of status with
        flags := compFlags v.2 poisoned (!f.isEmpty), dws := compDws (if status = 0 then n else min stop n) hi f, ctx := idle }

/-- The input of a history with the first `k` bytes of a descriptor's data: `join` says that they continue the last run. -/
def CompCtx.taken (c : CompCtx) (join : Bool) (data : List Byte) (flag k : Nat) : List (List Byte × Nat) :=
  let fl := if k = data.length then flag else 0
  if !join then c.segs ++ [(data.take k, fl)]
  else if data.isEmpty && flag == 0 then c.segs
  else match c.segs.reverse with
    | (x, _) :: r => r.reverse ++ [(x ++ data.take k, fl)]
    | [] => [(data.take k, fl)]

/-- A DATA or RESUME descriptor in a stream or job context (R453, R458 to R460, R462). It takes input until its output buffer is full. -/
def State.runData (s : State) (qk pipe : Nat) (d : EDesc) (c : CompCtx) (resume : Bool) : State :=
  let n := d.f 4 4
  let lim := d.f 24 4
  let data := s.payload (d.addr 8) n
  let before := sumOf (fun p => p.1.length) c.segs
  let bad := c.bad ++ (s.badBytes (d.addr 8) n).map fun i => before + i
  let flag := if resume then c.flag
    else if c.kind = 2 then 2
    else if !c.isCompress then 0
    else if d.bit 13 then 2 else if d.bit 12 then 1 else 0
  let code (k : Nat) := Config.codec c.params (c.taken resume data flag k)
  let full := (List.range (n + 1)).find? fun k => decide (c.emitted + lim < (code k).out.length)
  let k := full.getD n
  let x := code k
  let hi := if full.isSome then c.emitted + lim else max c.emitted x.out.length
  let bad := bad.filter fun i => decide (i < before + k)
  let marks := x.marks c.isCompress bad
  let all := if full.isSome then x.framesBy hi else x.frames
  let done := all.drop c.frames
  let poisoned := (bad.any fun i => decide (before ≤ i)) || marks.any fun m => decide (m.1 < hi) && decide (c.emitted < m.2)
  let v := if c.isCompress then (0, false) else x.verdict done
  let raw := if v.1 = 7 && c.kind = 1 then 0 else v.1
  let status := if full.isSome then 0x01 else if poisoned then 0x08 else raw
  let consumed := if full.isSome || c.isCompress then k
    else match done.find? fun f => f.2.1 == 3 || f.2.1 == 4 with
      | some f => min n (f.2.2.2.1 - before)
      | none => if raw = 0 then n else min n (x.used - before)
  let entry (j : Nat) : Nat := if j = 0 then 0 else match x.frames[j - 1]? with
    | some f => f.2.2.2.2
    | none => 0
  let index := if c.kind = 2 && c.isCompress && c.blockLog != 0 then
      let lo := if resume then c.frames + 1 else 0
      (List.range (min (all.length + 1 - lo) (d.f 28 4 / 8))).flatMap fun i => leBytes 8 (entry (lo + i))
    else []
  let keep := status == 0 && c.kind == 1 && flag != 2
  let after : CompCtx :=
    if full.isSome then
      { c with state := .outFull, segs := c.taken resume data flag k, bad := bad, emitted := hi, frames := all.length,
               flag := if k = n then 0 else flag }
    else if keep then { c with state := .idle, segs := c.taken resume data flag k, bad := bad, emitted := hi, frames := all.length, flag := 0 }
    else { CompCtx.init with state := .idle, params := c.params }
  s.startJob qk pipe d (x.steps (d.addr 16) c.emitted hi (x.bounds c.isCompress c.emitted hi) marks)
    { Ending.of status with
      flags := compFlags v.2 poisoned (!done.isEmpty), dws := compDws consumed (hi - c.emitted) done,
      writes := [⟨d.addr 32, index, false⟩], ctx := some after }

/-- The index a job compression with blocks needs (R457). -/
def CompCtx.indexed (c : CompCtx) : Bool := c.kind == 2 && c.isCompress && c.blockLog != 0

/-- The checks of R457 on a DATA or RESUME descriptor. -/
def State.dataCheck (s : State) (qk : Nat) (d : EDesc) (state : CtxState) : Option Nat :=
  let c := (s.equeue qk).ctx
  let n := d.f 4 4
  if !(compForm d && d.zero 40 24) then some 0x09
  else if c.state ≠ state then some 0x0A
  else if c.kind = 0 && c.isCompress && (decide (n = 0) || decide (65536 < n)) then some 0x09
  else if c.indexed && decide (d.f 28 4 < 8 * (ceilDiv n (2 ^ c.blockLog) + 1)) then some 0x09
  else
    s.checkBuffers .comp d.setup
      ([(d.addr 8, n, false), (d.addr 16, d.f 24 4, true)] ++ if c.indexed then [(d.addr 32, d.f 28 4, true)] else [])

/-- DATA: input processed into the output. -/
def State.compData (s : State) (ek pipe : Nat) : State :=
  match s.takeHead ek pipe 2 with
  | none => s
  | some (qk, d) =>
    match s.dataCheck qk d .idle with
    | some st => s.endNow qk d (Ending.of st)
    | none =>
      let c := (s.equeue qk).ctx
      if c.kind = 0 then s.storageData qk pipe d c else s.runData qk pipe d c false

/-- RESUME: a descriptor stopped `OUT_FULL` goes on. -/
def State.compResume (s : State) (ek pipe : Nat) : State :=
  match s.takeHead ek pipe 3 with
  | none => s
  | some (qk, d) =>
    match s.dataCheck qk d .outFull with
    | some st => s.endNow qk d (Ending.of st)
    | none => s.runData qk pipe d (s.equeue qk).ctx true

end Sys2Proof.Machine
end

