-- ==== Sys2Proof/Machine/Match.lean ====
section
/-! DEFINITION. The match engine: the ternary table and the pattern automata (R356, R496 to R515). -/
namespace Sys2Proof.Machine

/-! ### The ternary table -/

/-- An entry that was never written. -/
def Tern.init : Tern := ⟨0, 0, 0, false, false, false, 0, 0⟩

/-- Entries of the table. -/
def ternSize : Nat := 262144

/-- An entry. -/
def State.ternEntry (s : State) (i : Nat) : Tern := Tab.get s.tern.entries Tern.init i

/-- An entry changed. -/
def State.setTern (s : State) (i : Nat) (e : Tern) : State := { s with tern.entries := Tab.set s.tern.entries Tern.init i e }

/-- The memory instance of an entry's bank (R374). -/
def ternInstance (i : Nat) : Nat := 163 + i / 4096

/-- Whether an entry is enabled for a tag selector, and matches a key (R496, R497). -/
def Tern.hits (e : Tern) (key tagSel : Nat) : Bool :=
  e.valid && (tagSel == 0xFF || e.wildcard || e.tag == bits key (8 * tagSel) 8) && ((key ^^^ e.value) &&& e.mask) == 0

/-- The last copied source of a move: its entry stands again one above (R502). -/
def Move.source (m : Move) : Option Nat :=
  if 1 ≤ m.done ∧ m.done ≤ m.count then some (m.first + m.count - m.done) else none

/-- Whether an index lies in the span of a running move. -/
def State.inMove (s : State) (i : Nat) : Bool := s.tern.moves.any fun m => decide (m.first ≤ i) && decide (i ≤ m.first + m.count)

/-- The matches of a key in a range, in index order, with those suppressed apart (R499, R502). -/
def State.ternMatches (s : State) (key tagSel first stop : Nat) : List Nat × List Nat :=
  let all := (s.tern.entries.filter fun p => decide (first ≤ p.1) && decide (p.1 < stop) && p.2.hits key tagSel).map (·.1)
  let hidden := s.tern.moves.filterMap Move.source
  (all.filter fun i => !hidden.contains i, all.filter fun i => hidden.contains i)

/-- The search range of a queue: all for firmware; else the function's window, out to its highest valid entry beyond (R177, R499). -/
def State.ternRange (s : State) (q : QSetup) : Nat × Nat :=
  if !q.tenant then (0, ternSize)
  else
    let base := s.fval q.fn 0x4010 7
    let stop := base + s.fval q.fn 0x4010 8
    (base, s.tern.entries.foldl (fun n p => if p.2.valid && p.2.owner == q.fn then max n (p.1 + 1) else n) stop)

/-- Whether an index lies in the window of a queue's function; firmware has the whole table. -/
def State.inEntryWindow (s : State) (q : QSetup) (i : Nat) : Bool :=
  if !q.tenant then decide (i < ternSize)
  else decide (s.fval q.fn 0x4010 7 ≤ i) && decide (i < s.fval q.fn 0x4010 7 + s.fval q.fn 0x4010 8)

/-- DW2 to DW7 of a completion: index or bytes done, count or records, word. -/
def matchDws (a b word : Nat) : List Nat := [a, b, word % 2 ^ 32, word / 2 ^ 32, 0, 0]

/-- The first word's reserved bits, which every descriptor has zero. -/
def matchForm (d : EDesc) : Bool := bits d.raw 12 4 == 0

/-- A slot used by a search (R498); `delayed` says that an update delayed it. -/
def State.searchSlot (s : State) (delayed : Bool) : State :=
  let s := { s with tern.slotCount := s.tern.slotCount + 1 }.bump 0xB420 1
  if delayed then s.bump 0xB420 6 else s

/-- A slot used by an update. -/
def State.updateSlot (s : State) : State := { s with tern.updateCount := s.tern.updateCount + 1 }.bump 0xB420 2

/-- An entry found corrupt is rewritten from its shadow and counted; when the shadow is in error too, which is a bus error from DRAM, it is
invalidated and counted (R356, R369). -/
def State.ternRepair (s : State) (i : Nat) (e : Ecc) (q : Requester) : State :=
  let a := s.tern.shadowBase + 64 * i
  match e with
  | .clean => s
  | .corrected => (s.corrected 6 (ternInstance i) q a).record 6 6 (ternInstance i) q a 0
  | .uncorrectable =>
    ((s.controlError 0 (s.placeOf a).chan q a).bump (0x9100 + ternInstance i) 2).setTern i { s.ternEntry i with valid := false }

/-- The matches a search reports, after the check of the entry that comes first: a corrupt one is repaired and the step runs again once. -/
def State.ternSearch (s : State) (ek key tagSel first stop : Nat) (e : Ecc) : List Nat × State :=
  let m := s.ternMatches key tagSel first stop
  match m.1, e with
  | i :: _, .corrected =>
    let s := { s.ternRepair i .corrected (engReq ek) with tern.slotCount := s.tern.slotCount + 1 }
    (m.1, s.fbump 0 0xB420 4 (2 * m.2.length))
  | i :: _, .uncorrectable =>
    let s := { s.ternRepair i .uncorrectable (engReq ek) with tern.slotCount := s.tern.slotCount + 1 }
    let r := s.ternMatches key tagSel first stop
    (r.1, s.fbump 0 0xB420 4 (m.2.length + r.2.length))
  | _, _ => (m.1, s.fbump 0 0xB420 4 m.2.length)

/-- The heads of all regions that compete for search slots (R511). -/
def State.searchHeads (s : State) : List Pick :=
  (List.range 4).flatMap fun r =>
    let ek := 4 * r + 3
    if !(s.engine ek).enable || !s.tern.enable then []
    else (List.range 64).filterMap fun n =>
      let qk := 64 * ek + n
      let q := s.equeue qk
      match q.queue with
      | d :: _ =>
        if decide (d.opcode ≤ 3) && !d.busErr && (!q.resetBusy || s.tern.jobs.any fun j => j.q == qk) then some ⟨qk, d.cls, false, false, q.headSince⟩ else none
      | [] => none

/-- The head that takes the next search slot, when it has this opcode. -/
def State.takeSearch (s : State) (opcode : Nat) : Option (Nat × EDesc) :=
  (bestPick s.searchHeads).bind fun p =>
    (s.equeue p.q).queue.head?.bind fun d => if d.opcode == opcode then some (p.q, d) else none

/-- The head of a queue that is a table descriptor with this opcode. -/
def State.takeUpdate (s : State) (qk opcode : Nat) : Option EDesc :=
  if !(s.engine (qk / 64)).enable || !s.tern.enable || ((s.equeue qk).resetBusy && !(s.tern.jobs.any fun j => j.q == qk)) then none
  else (s.equeue qk).queue.head?.bind fun d => if d.opcode == opcode && !d.busErr then some d else none

/-- `MULTI` and `WORD` of a search's completion. -/
def multiFlag (count : Nat) : Nat := if 1 < count then 2 ^ 26 else 0

/-- SEARCH: the lowest matching index, the count, and a cursor on request (R499, R500). -/
def State.ternSearchOp (s : State) (e : Ecc) (delayed : Bool) : State :=
  match s.takeSearch 0x01 with
  | none => s
  | some (qk, d) =>
    let sel := d.f 4 1
    if !(matchForm d && (decide (sel < 20) || sel == 0xFF) && bits (d.f 5 1) 2 6 == 0 && d.zero 6 2 && d.zero 28 36) then
      s.endNow qk d (Ending.of 0x04)
    else
      let g := s.ternRange d.setup
      let key := d.f 8 20
      let (l, s) := (s.searchSlot delayed).ternSearch (qk / 64) key sel g.1 g.2 e
      let s := if d.bit 40 then
          s.onQueue qk fun (q : EQueue) => { q with cursor := some ⟨key, sel, g.1, g.2, l.length, l.head?⟩ }
        else s
      match l with
      | [] =>
        let (v, s) := s.draw
        s.endNow qk d { Ending.of 0x01 with dws := matchDws (v.toNat % 2 ^ 32) 0 0 }
      | i :: _ =>
        let w := if d.bit 41 then (s.ternEntry i).word else 0
        s.endNow qk d { Ending.of 0 with flags := multiFlag l.length, dws := matchDws i l.length w }

/-- NEXT: the next match of the queue's cursor (R500). -/
def State.ternNext (s : State) (e : Ecc) (delayed : Bool) : State :=
  match s.takeSearch 0x02 with
  | none => s
  | some (qk, d) =>
    if !(matchForm d && d.zero 4 1 && bits (d.f 5 1) 0 1 == 0 && bits (d.f 5 1) 2 6 == 0 && d.zero 6 58) then s.endNow qk d (Ending.of 0x04)
    else match (s.equeue qk).cursor with
      | none => s.endNow qk d (Ending.of 0x05)
      | some c =>
        let from_ := match c.last with
          | some i => i + 1
          | none => c.first
        let (l, s) := (s.searchSlot delayed).ternSearch (qk / 64) c.key c.tagSel from_ c.stop e
        match l with
        | [] =>
          let (v, s) := s.draw
          (s.onQueue qk fun (q : EQueue) => { q with cursor := none }).endNow qk d
            { Ending.of 0x01 with dws := matchDws (v.toNat % 2 ^ 32) c.count 0 }
        | i :: _ =>
          let w := if d.bit 41 then (s.ternEntry i).word else 0
          (s.onQueue qk fun (q : EQueue) => { q with cursor := some { c with last := some i } }).endNow qk d
            { Ending.of 0 with flags := multiFlag c.count, dws := matchDws i c.count w }

/-- A table descriptor's progress. -/
def State.tableJob (s : State) (qk : Nat) : Option TableJob := s.tern.jobs.find? fun j => j.q == qk

/-- A table descriptor's progress set. -/
def State.setTableJob (s : State) (j : TableJob) : State :=
  { s with tern.jobs := (s.tern.jobs.filter fun (x : TableJob) => x.q != j.q) ++ [j] }

/-- A table descriptor that took several slots ends. -/
def State.endTableJob (s : State) (j : TableJob) (d : EDesc) (e : Ending) : State :=
  (State.engEnd { s with tern.jobs := s.tern.jobs.filter fun (x : TableJob) => x.q != j.q } j.q d j.startAt e).engTidy j.q

/-- One key of a batch searched and its result written; a poisoned key ends the batch (R499, R514). -/
def State.batchKey (s : State) (qk : Nat) (d : EDesc) (sel n : Nat) (e : Ecc) (delayed : Bool) (j : TableJob) : State :=
  let a := d.addr 16 + 20 * j.done
  if s.mem.poisoned a 20 then
    (s.engConsumed qk a).endTableJob j d { Ending.of 0x03 with flags := 2 ^ 27, dws := matchDws j.done 0 0 }
  else
    let g := s.ternRange d.setup
    let (l, s) := (s.searchSlot delayed).ternSearch (qk / 64) (ofLe (s.payload a 20)) sel g.1 g.2 e
    let s := s.store (d.addr 24 + 8 * j.done) (leBytes 4 (l.head?.getD 0xFFFFFFFF) ++ leBytes 4 l.length) false
    if j.done + 1 = n then s.endTableJob j d { Ending.of 0 with dws := matchDws n 0 0 }
    else
      let s := s.setTableJob { j with done := j.done + 1 }
      let s := s.onQueue qk fun (q : EQueue) => { q with headSince := s.eng.nextOrder }
      { s with eng.nextOrder := s.eng.nextOrder + 1 }

/-- SEARCH_BATCH: one key searched and its result written (R499, R514). -/
def State.searchBatch (s : State) (e : Ecc) (delayed : Bool) : State :=
  match s.takeSearch 0x03 with
  | none => s
  | some (qk, d) =>
    let sel := d.f 4 1
    let n := d.f 8 4
    match s.tableJob qk with
    | none =>
      if !(matchForm d && (decide (sel < 20) || sel == 0xFF) && d.zero 5 3 && decide (1 ≤ n) && decide (n ≤ 65536) && d.zero 12 4 &&
          d.zero 22 2 && d.zero 30 2 && d.zero 32 32) then s.endNow qk d (Ending.of 0x04)
      else match s.checkBuffers .pat d.setup [(d.addr 16, 20 * n, false), (d.addr 24, 8 * n, true)] with
        | some st => s.endNow qk d (Ending.of st)
        | none => s.batchKey qk d sel n e delayed ⟨qk, 0, s.pkg.timebase⟩
    | some j => s.batchKey qk d sel n e delayed j

/-- A tenant's entry beyond the end of its window: an allocation that its match quota refuses, counted (R177, R178). -/
def State.windowRefused (s : State) (q : QSetup) (i : Nat) : State :=
  if q.tenant && decide (s.fval q.fn 0x4010 7 + s.fval q.fn 0x4010 8 ≤ i) then s.fbump q.fn 0x4020 7 1 else s

/-- WRITE: one entry and its shadow replaced in a slot (R501); it waits while a move's span holds the index (R503). -/
def State.ternWrite (s : State) (qk : Nat) : State :=
  match s.takeUpdate qk 0x10 with
  | none => s
  | some d =>
    let i := d.f 4 4
    if !(matchForm d && decide (i < ternSize) && bits (d.f 49 1) 2 6 == 0 && d.zero 50 6) then s.endNow qk d (Ending.of 0x04)
    else if !s.inEntryWindow d.setup i then (s.windowRefused d.setup i).endNow qk d (Ending.of 0x02)
    else if s.inMove i then s
    else
      let e : Tern := ⟨d.f 8 20, d.f 28 20, d.f 48 1, d.bit 392, d.bit 393, false, d.f 56 8, d.setup.fn⟩
      (s.updateSlot.setTern i e).endNow qk d (Ending.of 0)

/-- Whether a queue may invalidate an entry: one in its window, or one its function owns beyond its end (R501). -/
def State.mayInvalidate (s : State) (q : QSetup) (i : Nat) : Bool :=
  s.inEntryWindow q i || (decide (s.fval q.fn 0x4010 7 + s.fval q.fn 0x4010 8 ≤ i) && Tab.has s.tern.entries i && (s.ternEntry i).owner == q.fn)

/-- INVALIDATE: up to `steps` entries of its run, one slot each (R501). -/
def State.ternInvalidate (s : State) (qk steps : Nat) : State :=
  match s.takeUpdate qk 0x11 with
  | none => s
  | some d =>
    let i := d.f 4 4
    let n := d.f 8 4
    let bad := !(matchForm d && decide (1 ≤ n) && decide (i + n ≤ ternSize) && d.zero 12 52)
    match s.tableJob qk with
    | none =>
      if bad then s.endNow qk d (Ending.of 0x04)
      else if d.setup.tenant && !((List.range n).all fun k => s.mayInvalidate d.setup (i + k)) then s.endNow qk d (Ending.of 0x02)
      else advance s d i n steps ⟨qk, 0, s.pkg.timebase⟩
    | some j => advance s d i n steps j
where
  /-- The run goes on; it waits where it meets a running move (R503). -/
  advance (s : State) (d : EDesc) (i n steps : Nat) (j : TableJob) : State :=
    if (List.range (n - j.done)).any fun k => s.inMove (i + j.done + k) then s
    else
      let m := min (max steps 1) (n - j.done)
      let s := (List.range m).foldl (fun (s : State) k =>
        let x := i + j.done + k
        s.updateSlot.setTern x { s.ternEntry x with valid := false }) s
      if j.done + m = n then s.endTableJob j d (Ending.of 0) else s.setTableJob { j with done := j.done + m }

/-- One step of a move (R502): a copy one index up with `MOVE_TAG` inverted, or the invalidation of the first entry. Cursors whose last
entry is copied follow it. -/
def State.moveStep (s : State) (m : Move) : State :=
  let s := s.updateSlot
  if m.done < m.count then
    let src := m.first + m.count - (m.done + 1)
    let e := s.ternEntry src
    let s := s.setTern (src + 1) { e with moveTag := !e.moveTag }
    let qs := Tab.mapVals (fun _ (q : EQueue) =>
      match q.cursor with
      | some c => if c.last = some src then { q with cursor := some { c with last := some (src + 1) } } else q
      | none => q) s.eng.queues
    { s with eng.queues := qs }
  else s.setTern m.first { s.ternEntry m.first with valid := false }

/-- Steps of a move, as many as are left at most; the moves left, and whether this one has ended. -/
def State.moveRun (q : Nat) : Nat → State → State
  | 0, s => s
  | n + 1, s =>
    match s.tern.moves.find? fun m => m.q == q with
    | none => s
    | some m =>
      let s := s.moveStep m
      let ms := updateIf (fun (x : Move) => x.place == m.place) (fun (x : Move) => { x with done := x.done + 1 }) s.tern.moves
      let s := { s with tern.moves := ms }
      if m.done < m.count then State.moveRun q n s
      else
        let s := { s with tern.moves := s.tern.moves.filter fun (x : Move) => x.place != m.place }.bump 0xB420 3
        if m.discard then s
        else match (s.equeue q).queue.head? with
          | some d => (s.engEnd q d m.startAt (Ending.of 0)).engTidy q
          | none => s

/-- MOVE_BLOCK: a move starts, unless 4 run or its span meets one; then up to `steps` of its steps run (R502, R503). -/
def State.moveBlock (s : State) (qk steps : Nat) : State :=
  if s.tern.moves.any fun m => m.q == qk then State.moveRun qk (max steps 1) s
  else match s.takeUpdate qk 0x12 with
    | none => s
    | some d =>
      let f := d.f 4 4
      let n := d.f 8 4
      if !(matchForm d && decide (f + n ≤ 262143) && d.zero 12 52) then s.endNow qk d (Ending.of 0x04)
      else if !(s.inEntryWindow d.setup f && s.inEntryWindow d.setup (f + n)) then s.endNow qk d (Ending.of 0x02)
      else if decide (4 ≤ s.tern.moves.length) || s.tern.moves.any fun m => decide (m.first ≤ f + n) && decide (f ≤ m.first + m.count) then s
      else if (s.ternEntry (f + n)).valid then s.endNow qk d (Ending.of 0x05)
      else
        let place := ((List.range 4).find? fun k => !(s.tern.moves.any fun m => m.place == k)).getD 0
        let ms := s.tern.moves ++ [Move.mk place qk f n 0 s.pkg.timebase false]
        State.moveRun qk (max steps 1) { s with tern.moves := ms }

/-- READ: the shadow of one entry (R501). -/
def State.ternRead (s : State) (qk : Nat) : State :=
  match s.takeUpdate qk 0x13 with
  | none => s
  | some d =>
    let i := d.f 4 4
    if !(matchForm d && decide (i < ternSize) && d.zero 8 8 && d.zero 22 2 && d.zero 24 40) then s.endNow qk d (Ending.of 0x04)
    else if !s.inEntryWindow d.setup i then s.endNow qk d (Ending.of 0x02)
    else match s.checkBuffers .pat d.setup [(d.addr 16, 64, true)] with
      | some st => s.endNow qk d (Ending.of st)
      | none =>
        let e := s.ternEntry i
        let out := leBytes 20 e.value ++ leBytes 20 e.mask ++ leBytes 1 e.tag ++ leBytes 1 (b2n e.wildcard + 2 * b2n e.valid) ++
          leBytes 1 e.owner ++ leBytes 5 0 ++ leBytes 8 e.word ++ leBytes 8 0
        s.endNow qk d { Ending.of 0 with writes := [⟨d.addr 16, out, false⟩] }

/-- TERNARY_REFRESH: an entry is read; a bad one is rewritten from its shadow, or invalidated when the shadow is in error (R356). -/
def State.ternRefresh (s : State) (i : Nat) (e : Ecc) : State :=
  if !s.tern.refreshEn || decide (ternSize ≤ i) then s
  else { s with tern.updateCount := s.tern.updateCount + 1 }.ternRepair i e ⟨5, 0⟩

/-! ### Pattern sets (R505 to R508) -/

/-- A set of an automaton image: where its body lies, states, accepting states, classes, start state, accept words. -/
structure PatSet where
  body : Nat
  states : Nat
  accepting : Nat
  classes : Nat
  start : Nat
  words : Nat
  deriving DecidableEq, Repr

/-- Where the parts of a body begin. -/
def PatSet.directory (p : PatSet) : Nat := p.body + 256
def PatSet.wordsAt (p : PatSet) : Nat := p.directory + 4 * p.accepting
def PatSet.table (p : PatSet) : Nat := p.wordsAt + 4 * p.words
def PatSet.stop (p : PatSet) : Nat := p.table + 2 * p.states * p.classes

/-- The class of a byte, and the next state on a class. -/
def PatSet.classOf (p : PatSet) (img : List Byte) (b : Byte) : Nat := (byteAt img (p.body + b.toNat)).toNat
def PatSet.next (p : PatSet) (img : List Byte) (st c : Nat) : Nat := field img (p.table + 2 * (st * p.classes + c)) 2 % 2 ^ 15

/-- The pattern identifiers an accepting state reports, in accept-word order. -/
def PatSet.reports (p : PatSet) (img : List Byte) (st : Nat) : List Nat :=
  if p.accepting ≤ st then []
  else (List.range (field img (p.directory + 4 * st + 2) 2)).map fun k =>
    field img (p.wordsAt + 4 * (field img (p.directory + 4 * st) 2 + k)) 4

/-- A set of an image's automaton section, when the section holds one that keeps R507 and fits the array. -/
def patSet (img : List Byte) (n : Nat) : Option PatSet :=
  match (imgSections img).find? fun x => x.1 == 3 with
  | none => none
  | some (_, off, len) =>
    let h (i k : Nat) := field img (off + i) k
    let e := 64 + 32 * n
    let p : PatSet := ⟨off + h e 4, h (e + 8) 2, h (e + 10) 2, h (e + 12) 1, h (e + 14) 2, h (e + 20) 4⟩
    let setLen := h (e + 4) 4
    let ok := slice img off 4 == textBytes "QAUT" && h 4 2 == 1 && decide (1 ≤ h 6 1) && decide (h 6 1 ≤ 16) && h 7 57 == 0 &&
      decide (n < h 6 1) && h e 4 % 64 == 0 && decide (h e 4 + setLen ≤ len) &&
      decide (2 ≤ p.states) && decide (p.states ≤ 32768) && decide (1 ≤ p.accepting) && decide (p.accepting < p.states) &&
      decide (2 ≤ p.classes) && decide (p.classes ≤ 64) && h (e + 13) 1 == 0 && decide (p.accepting ≤ p.start) && decide (p.start < p.states) &&
      decide (1 ≤ h (e + 16) 2) && decide (h (e + 16) 2 ≤ 2048) && h (e + 18) 2 == 0 && decide (1 ≤ p.words) && decide (p.words ≤ 65536) &&
      h (e + 24) 8 == 0 && decide (p.stop ≤ p.body + setLen) && decide (p.states * p.classes ≤ 1048576)
    let tables := (List.range 256).all (fun b => decide ((byteAt img (p.body + b)).toNat + 1 < p.classes)) &&
      (List.range p.accepting).all (fun a =>
        decide (field img (p.directory + 4 * a) 2 + field img (p.directory + 4 * a + 2) 2 ≤ p.words)) &&
      (List.range (p.states * p.classes)).all (fun k => decide (field img (p.table + 2 * k) 2 < p.states))
    if ok && tables then some p else none

/-- The image a scan's program names; a fixed program's is the firmware's and holds no section that the spec describes. -/
def State.scanImage (s : State) (program : Nat) : List Byte :=
  match slotOf program with
  | some k => (s.slot k).image
  | none => []

/-- Whether a scan may name a program (R508). -/
def State.mayScan (s : State) (q : QSetup) (program : Nat) : Bool :=
  isFixed program ||
  match slotOf program with
  | some k =>
    let x := s.slot k
    (x.state == .loaded || x.state == .active) && (!q.tenant || x.fn == q.fn)
  | none => false

/-- The load generation of a program. -/
def State.scanGen (s : State) (program : Nat) : Nat :=
  match slotOf program with
  | some k => (s.slot k).gen
  | none => 0

/-- The program, set and mode a scan names. -/
def EDesc.program (d : EDesc) : Nat := d.f 16 2
def EDesc.set (d : EDesc) : Nat := d.f 18 1
def EDesc.mode (d : EDesc) : Nat := d.f 19 1

/-- The resident sets of a region's array. -/
def State.residents (s : State) (r : Nat) : List Resident := (s.eng.resident[r]?).getD []

/-- Whether a resident set is the one a scan names. -/
def State.isSetOf (s : State) (x : Resident) (d : EDesc) : Bool := x.program == d.program && x.set == d.set && x.gen == s.scanGen d.program

/-- A resident set used now. -/
def State.touchSet (s : State) (r : Nat) (d : EDesc) : State :=
  let l := updateIf (fun x => s.isSetOf x d) (fun (x : Resident) => { x with used := s.eng.nextOrder }) (s.residents r)
  { s with eng.resident := s.eng.resident.setIfInBounds r l, eng.nextOrder := s.eng.nextOrder + 1 }

/-- Whether sets fit the array together (R505). -/
def setsFit (l : List Resident) : Bool :=
  decide (l.length ≤ 16) && decide (sumOf (fun (x : Resident) => x.states) l ≤ 32768) && decide (sumOf (fun (x : Resident) => x.words) l ≤ 1048576) &&
    decide (sumOf (fun (x : Resident) => x.accepts) l ≤ 65536)

/-- The least recently used sets that nothing uses are evicted until a new one fits: what stays, and how many went; none when it cannot be. -/
def evictFor (x : Resident) (busy : Resident → Bool) : Nat → List Resident → Nat → Option (List Resident × Nat)
  | 0, _, _ => none
  | n + 1, l, k =>
    if setsFit (x :: l) then some (l, k)
    else match (l.filter fun y => !busy y).foldl (fun (b : Option Resident) y =>
        match b with
        | none => some y
        | some z => if y.used < z.used then some y else b) none with
      | none => none
      | some y => evictFor x busy n (l.erase y) (k + 1)

/-! ### Scans (R509 to R511, R514) -/

/-- The scan in a lane. -/
def State.laneScan (s : State) (ek lane : Nat) : Option ScanJob := (s.engine ek).scans.find? fun j => j.lane == lane && !j.suspended

/-- A scan replaced in its engine. -/
def State.putScan (s : State) (j : ScanJob) : State :=
  let e := s.engine (j.q / 64)
  s.setEngine (j.q / 64) { e with scans := updateIf (fun (x : ScanJob) => x.q == j.q) (fun _ => j) e.scans }

/-- The scan heads of a region that wait for a lane. -/
def State.scanHeads (s : State) (ek : Nat) : List Pick :=
  (List.range 64).filterMap fun n =>
    let qk := 64 * ek + n
    let q := s.equeue qk
    match q.queue with
    | d :: _ => if d.opcode == 0x40 && !s.headBusy qk && !q.resetBusy then some ⟨qk, d.cls, false, false, q.headSince⟩ else none
    | [] => none

/-- What a free lane takes next. -/
def State.nextScan (s : State) (ek : Nat) : Option Pick :=
  if !(s.engine ek).enable then none
  else bestPick (((s.engine ek).scans.filterMap fun (j : ScanJob) =>
    if j.suspended then some (Pick.mk j.q j.desc.cls true false (s.equeue j.q).headSince) else none) ++ s.scanHeads ek)

/-- Free lanes resume suspended scans when those are what they take next. -/
def State.resumeLanes (ek : Nat) : Nat → State → State
  | 0, s => s
  | n + 1, s =>
    match (List.range 4).find? fun l => (s.laneScan ek l).isNone with
    | none => s
    | some lane =>
      match s.nextScan ek with
      | some p =>
        if p.resume then
          let e := s.engine ek
          let l := updateIf (fun (j : ScanJob) => j.q == p.q) (fun (j : ScanJob) => { j with suspended := false, lane := lane }) e.scans
          State.resumeLanes ek n (s.setEngine ek { e with scans := l })
        else s
      | none => s

/-- The marks of a scan's completion: `SUSPENDED`, `POISONED`. -/
def scanFlags (suspended poisoned : Bool) : Nat := b2n suspended * 2 ^ 28 + b2n poisoned * 2 ^ 27

/-- A scan ends; `LAST`, poison and errors close the queue's scan. -/
def State.endScan (s : State) (j : ScanJob) (status : Nat) : State :=
  let e := s.engine (j.q / 64)
  let s := s.setEngine (j.q / 64) { e with scans := e.scans.filter fun x => x.q != j.q }
  let open_ := status == 0 && !j.desc.bit 169
  let s := s.onQueue j.q fun (q : EQueue) => { q with scan := if open_ then some j.st else none }
  let s := s.engEnd j.q j.desc j.startAt
    { Ending.of status with flags := scanFlags j.everSuspended (status == 0x03), dws := matchDws j.done j.written 0 }
  State.resumeLanes (j.q / 64) 4 (s.engTidy j.q)

/-- Bytes of a queue's result ring, and its base (R516). -/
def QSetup.ringBytes (q : QSetup) : Nat := 2 ^ (q.resBase % 32)
def QSetup.ringBase (q : QSetup) : Nat := q.resBase / 4096 * 4096

/-- SCAN: the head of a region's scans takes a free lane (R508, R511). -/
def State.scanStart (s : State) (r : Fin 4) (lane : Nat) : State :=
  let ek := engKey r .pat
  if (s.laneScan ek lane).isSome then s
  else match s.nextScan ek with
    | none => s
    | some p =>
      match (s.equeue p.q).queue.head? with
      | none => s
      | some d =>
        let n := d.f 4 4
        let log := d.setup.resBase % 32
        let form := matchForm d && decide (n ≤ 2 ^ 24) && d.zero 14 2 && decide (d.mode ≤ 2) && bits (d.f 21 1) 2 6 == 0 && d.zero 22 2 &&
          (d.mode != 2 || (decide (1 ≤ d.f 24 4) && decide (d.f 24 4 ≤ 65536))) && d.zero 28 36 && decide (12 ≤ log) && decide (log ≤ 24)
        if p.resume then s
        else if !form then s.endNow p.q d (Ending.of 0x04)
        else match s.checkBuffers .pat d.setup [(d.addr 8, n, false), (d.setup.ringBase, d.setup.ringBytes, true)] with
          | some st => s.endNow p.q d (Ending.of st)
          | none =>
            if !s.mayScan d.setup d.program then s.endNow p.q d (Ending.of 0x06)
            else
              let old := (s.equeue p.q).scan
              if !d.bit 168 && old.isNone then s.endNow p.q d (Ending.of 0x05)
              else
                let here := (s.residents r.val).any fun x => s.isSetOf x d
                let st := match patSet (s.scanImage d.program) d.set, old with
                  | some x, none => ⟨x.start, 0, 0, 0⟩
                  | some x, some o => if d.bit 168 then ⟨x.start, 0, 0, 0⟩ else o
                  | none, _ => old.getD ⟨0, 0, 0, 0⟩
                let j : ScanJob := ⟨p.q, lane, d, s.pkg.timebase, 0, st, [], 0, false, !here, false, false⟩
                let e := s.engine ek
                let s := s.setEngine ek { e with scans := e.scans ++ [j] }
                if here then s.touchSet r.val d else s

/-- PATTERN_SET_LOADED: the set a lane's scan waits for is checked and loaded, others evicted for it; the scan starts (R508). It goes
on waiting when running scans hold the room. -/
def State.setLoaded (s : State) (r : Fin 4) (lane : Nat) : State :=
  let ek := engKey r .pat
  match s.laneScan ek lane with
  | none => s
  | some j =>
    if !j.waitSet then s
    else match patSet (s.scanImage j.desc.program) j.desc.set with
      | none => s.endScan j 0x07
      | some p =>
        if (s.residents r.val).any fun x => s.isSetOf x j.desc then (s.putScan { j with waitSet := false }).touchSet r.val j.desc
        else
          let x : Resident := ⟨j.desc.program, j.desc.set, s.scanGen j.desc.program, p.states, p.states * p.classes, p.words, 0⟩
          let busy (y : Resident) := (s.engine ek).scans.any fun k => !k.waitSet && s.isSetOf y k.desc
          match evictFor x busy 17 (s.residents r.val) 0 with
          | none => s
          | some (l, k) =>
            let s := { s with eng.resident := s.eng.resident.setIfInBounds r.val (l ++ [x]) }
            let s := (s.bump (0xB430 + r.val) 3).fbump 0 (0xB430 + r.val) 5 k
            (s.putScan { j with waitSet := false }).touchSet r.val j.desc

/-- A result record (R510). -/
def scanRecord (id off rec_ mode : Nat) : List Byte :=
  leBytes 4 id ++ leBytes 8 off ++ leBytes 4 (if mode = 0 then 0 else min rec_ 0xFFFFFFFF)

/-- The end of a record (R509). -/
def PatSet.endRec (p : PatSet) (img : List Byte) (mode : Nat) (st : ScanState) : ScanState × List (List Byte) :=
  let out := if st.inRec = 0 then []
    else (p.reports img (p.next img st.state (p.classes - 1))).map fun i => scanRecord i (st.offset - 1) st.rec_ mode
  (⟨p.start, st.offset, st.rec_ + 1, 0⟩, out)

/-- One byte of a scan (R509). -/
def PatSet.byte (p : PatSet) (img : List Byte) (d : EDesc) (st : ScanState) (b : Byte) : ScanState × List (List Byte) :=
  if d.mode = 1 ∧ b.toNat = d.f 20 1 then
    let x := p.endRec img 1 st
    ({ x.1 with offset := st.offset + 1 }, x.2)
  else
    let t := p.next img st.state (p.classOf img b)
    let out := (p.reports img t).map fun i => scanRecord i st.offset st.rec_ d.mode
    let st : ScanState := ⟨t, st.offset + 1, st.rec_, st.inRec + 1⟩
    if d.mode = 2 ∧ st.inRec = d.f 24 4 then
      let x := p.endRec img 2 st
      (x.1, out ++ x.2)
    else (st, out)

/-- Records written to the result ring while it has room (R510). -/
def State.putRecords (s : State) (j : ScanJob) : List (List Byte) → State × ScanJob
  | [] => (s, { j with held := [] })
  | x :: r =>
    let q := s.equeue j.q
    let size := j.desc.setup.ringBytes
    if (q.resTail + 16) % size = q.resHead % size then (s, { j with held := x :: r })
    else
      let s := s.store (j.desc.setup.ringBase + q.resTail % size) x false
      let s := (s.setQueue j.q { q with resTail := (q.resTail + 16) % size }).bump (0xB430 + j.q / 256) 2
      State.putRecords s { j with written := j.written + 1 } r

/-- What a scan does at a boundary once its records are written: it ends, is suspended for a head of lower class number, or goes on. -/
def State.scanAt (s : State) (j : ScanJob) : State :=
  let n := j.desc.f 4 4
  let ek := j.q / 64
  if decide (n ≤ j.done) || (s.equeue j.q).resetBusy then s.endScan j 0
  else
    let urgent := (s.scanHeads ek).any fun p => decide (p.cls < j.desc.cls)
    if urgent then
      let s := s.putScan { j with suspended := true, everSuspended := true }
      s.bump (0xB430 + ek / 4) 6
    else s.putScan j

/-- The records a scan holds go to its ring; a full ring pauses the lane, once counted, and an empty hold lets it go on. -/
def State.scanPut (s : State) (j : ScanJob) : State :=
  let was := j.stalled
  let (s, j) := State.putRecords s j j.held
  if j.held.isEmpty then s.scanAt { j with stalled := false }
  else
    let s := s.putScan { j with stalled := true }
    if was then s else s.bump (0xB430 + j.q / 256) 4

/-- SCAN_BOUNDARY: the lane scans to its next 4,096-byte boundary (R509, R511), or to a poisoned granule (R514). -/
def State.scanBoundary (s : State) (r : Fin 4) (lane : Nat) : State :=
  match s.laneScan (engKey r .pat) lane with
  | none => s
  | some j =>
    if j.waitSet || j.stalled then s
    else
      let d := j.desc
      let img := s.scanImage d.program
      match patSet img d.set with
      | none => s.endScan j 0x07
      | some p =>
        let a := d.addr 8 + j.done
        let n := min (4096 - j.done % 4096) (d.f 4 4 - j.done)
        let good := ((s.badBytes a n).head?).getD n
        let x := (s.payload a good).foldl (fun (x : ScanState × List (List Byte)) b =>
          let y := p.byte img d x.1 b
          (y.1, x.2 ++ y.2)) (j.st, [])
        let done := j.done + good
        let x := if good = n ∧ done = d.f 4 4 ∧ d.bit 169 ∧ x.1.inRec ≠ 0 then
            let y := p.endRec img d.mode x.1
            (y.1, x.2 ++ y.2)
          else x
        let s := s.fbump 0 (0xB430 + r.val) 1 good
        let j := { j with done := done, st := x.1, held := x.2 }
        if good < n && j.held.isEmpty then (s.engConsumed j.q (a + good)).endScan j 0x03 else s.scanPut j

/-- RESULT_RING_DRAINED: `RES_HEAD` moves and a paused lane goes on (R510). -/
def State.ringDrained (s : State) (qk head : Nat) : State :=
  let s := s.onQueue qk fun (q : EQueue) => { q with resHead := head / 16 * 16 }
  match (s.engine (qk / 64)).scans.find? fun j => j.q == qk with
  | some j => if j.stalled then s.scanPut j else s
  | none => s

/-- A match queue's ring reset: a scan that stands at a boundary, or has not begun, ends there with its real result (R515). -/
def State.matchRingReset (s : State) (qk : Nat) : State :=
  let s := s.engRingReset qk
  match (s.engine (qk / 64)).scans.find? fun j => j.q == qk with
  | some j => if j.suspended || j.waitSet then s.endScan j 0 else s
  | none => s

end Sys2Proof.Machine
end

