-- ==== Sys2Proof/Machine/FixedProg.lean ====
section
/-! DEFINITION. The eight fixed programs: what a task of one makes of its parameters and its piece of the input (R430 to R433). The spec gives
no code for them; everything a task does is done when its `TEND` ends it (log 145). -/
namespace Sys2Proof.Machine

/-! ### A task's input, piece and output area (R430) -/

/-- Where a window lies, and its length; a disabled one has none. -/
def Window.span (w : Window) : Nat × Nat := (w.base.toNat, if w.rights.getLsbD 7 then w.limit.toNat + 1 - w.base.toNat else 0)

/-- One span of the input: its bytes from the first, which of them are poisoned, and which cannot be read. -/
structure FixIn where
  data : List Byte
  poisoned : Nat → Nat → Bool
  dead : Nat → Nat → Bool

/-- A byte span of a range. -/
def State.rangeInput (s : State) (w : Window) (off len : Nat) : Option FixIn :=
  let r := w.span
  if r.2 < off + len then none
  else some ⟨s.mem.read (r.1 + off) len, fun a n => s.mem.poisoned (r.1 + off + a) n, fun _ _ => false⟩

/-- A namespace stream, each map unit as it stands (R432). -/
def State.streamInput (s : State) (nsid lba len : Nat) : Option FixIn :=
  match s.namespace? nsid with
  | none => none
  | some n =>
    if n.lbas < lba + len / 4096 then none
    else
      let units (a k : Nat) : List Nat := (List.range (ceilDiv (a + k) 16384 - a / 16384)).map fun i => lba / 4 + a / 16384 + i
      let is (f : UnitRead → Bool) (a k : Nat) : Bool := k != 0 && (units a k).any fun u => f (s.readUnit nsid u)
      some ⟨(s.readExtent ⟨nsid, lba, len / 4096⟩).1.flatMap fun b => padTo 4096 b.data,
        is fun r => match r with
          | .ok _ p _ => p
          | .dead _ => false,
        is fun r => match r with
          | .ok _ _ _ => false
          | .dead _ => true⟩

/-- The task of a fixed program: parameters, task index and count, input, range 1 as length, range 2 as a window, output offset, capacity. -/
structure FixTask where
  p : List Byte
  i : Nat
  n : Nat
  input : FixIn
  len : Nat
  aux : Window
  outAt : Nat
  capacity : Nat

/-- C of R430, and where the task's area begins. -/
def FixTask.area (t : FixTask) : Nat := t.capacity / t.n / 4096 * 4096
def FixTask.base (t : FixTask) : Nat := t.outAt + t.i * t.area

/-- Of `total` equal parts, those that are the task's: the first, and the first of the next task. -/
def FixTask.share (t : FixTask) (total : Nat) : Nat × Nat := (t.i * total / t.n, (t.i + 1) * total / t.n)

/-- What a task leaves: stores by range, offset, bytes and mark; bytes produced, items, status; the input offsets whose poison it consumed;
whether that faults the task; keys for the ternary table. -/
structure FixOut where
  writes : List (Nat × Nat × List Byte × Bool)
  made : Nat
  items : Nat
  status : Nat
  bites : List Nat
  faults : Bool
  keys : List (Nat × Nat × List Byte)

/-- A task that ends with a status and nothing else. -/
def FixOut.ends (status : Nat) : FixOut := ⟨[], 0, 0, status, [], false, []⟩

/-- Whole items put into the area while they fit (log 145). -/
def fitItems (room : Nat) : List (List Byte) → List (List Byte)
  | [] => []
  | x :: l => if x.length ≤ room then x :: fitItems (room - x.length) l else []

/-- The items a task writes, and the status they end with: 2 when they do not all fit. -/
def FixTask.put (t : FixTask) (items : List (List Byte)) (status : Nat) : FixOut :=
  let l := fitItems t.area items
  let bytes := l.flatMap id
  { FixOut.ends (if l.length < items.length then 2 else status) with writes := [(1, t.base, bytes, false)], made := bytes.length, items := l.length }

/-! ### Records (R431, log 145) -/

/-- A record: offset, number, its bytes, and the delimiter that ends it. -/
structure FixRec where
  at_ : Nat
  num : Nat
  bytes : List Byte
  stop : List Byte

/-- Records of a fixed length; a shorter rest is none. -/
def fixedRecords (len : Nat) (data : List Byte) : List FixRec :=
  (List.range (data.length / len)).map fun k => ⟨k * len, k, slice data (k * len) len, []⟩

/-- Delimited records; the last needs no delimiter. -/
def delimited (delim : Byte) : List Byte → Nat → Nat → List Byte → List FixRec
  | [], at_, num, cur => if cur.isEmpty then [] else [⟨at_, num, cur.reverse, []⟩]
  | b :: l, at_, num, cur =>
    if b == delim then ⟨at_, num, cur.reverse, [b]⟩ :: delimited delim l (at_ + cur.length + 1) (num + 1) []
    else delimited delim l at_ num (b :: cur)

/-- The records of the task's piece: by number where they are of one length, else those that begin in its share of the bytes. -/
def FixTask.records (t : FixTask) (len : Nat) (delim : Byte) : List FixRec :=
  if len ≠ 0 then
    let l := fixedRecords len t.input.data
    let q := t.share l.length
    l.filter fun r => decide (q.1 ≤ r.num) && decide (r.num < q.2)
  else
    let q := t.share t.len
    (delimited delim t.input.data 0 0 []).filter fun r => decide (q.1 ≤ r.at_) && decide (r.at_ < q.2)

/-- The bytes of a record with its delimiter. -/
def FixRec.whole (r : FixRec) : List Byte := r.bytes ++ r.stop

/-- Whether something holds of the input under a record. -/
def FixRec.meets (r : FixRec) (f : Nat → Nat → Bool) : Bool := f r.at_ r.whole.length

/-- The records ahead of the first in error, and the status that one gives: 3 unreadable, 4 poisoned. -/
def FixTask.good (t : FixTask) (l : List FixRec) : List FixRec × Nat × List Nat :=
  let ok := l.takeWhile fun r => !r.meets t.input.dead && !r.meets t.input.poisoned
  match l.drop ok.length with
  | [] => (ok, 0, [])
  | r :: _ => if r.meets t.input.dead then (ok, 3, []) else (ok, 4, [r.at_])

/-! ### `FILTER.PATTERN` and `INDEX.EXTRACT` -/

/-- The matches in a record as identifier and offset of the last byte (R509, R510). -/
def PatSet.matches (p : PatSet) (img : List Byte) (r : FixRec) : List (Nat × Nat) :=
  let x := r.bytes.foldl (fun (x : Nat × Nat × List (Nat × Nat)) b =>
    let st := p.next img x.1 (p.classOf img b)
    (st, x.2.1 + 1, x.2.2 ++ (p.reports img st).map fun i => (i, x.2.1))) (p.start, r.at_, [])
  if r.bytes.isEmpty then []
  else x.2.2 ++ (p.reports img (p.next img x.1 (p.classes - 1))).map fun i => (i, x.2.1 - 1)

/-- The pattern set a task names, where its function may scan it (R508). -/
def State.fixedSet (s : State) (fn : Nat) (p : List Byte) : Option (List Byte × PatSet) :=
  let prog := field p 80 2
  if !s.mayScan { QSetup.init with tenant := true, fn := fn } prog then none
  else (patSet (s.scanImage prog) (field p 82 1)).map fun q => (s.scanImage prog, q)

/-- `FILTER.PATTERN`. -/
def State.filterPattern (s : State) (fn : Nat) (t : FixTask) : FixOut :=
  let mode := field t.p 83 1
  let g := t.good (t.records (field t.p 88 4) (byteAt t.p 84))
  if 15 < field t.p 82 1 ∨ 1 < mode then FixOut.ends 1
  else match s.fixedSet fn t.p with
    | none => FixOut.ends 4
    | some (img, set) =>
      let items := if mode = 0 then g.1.flatMap fun r => (set.matches img r).map fun m => scanRecord m.1 m.2 0 0
        else (g.1.filter fun r => !(set.matches img r).isEmpty).map FixRec.whole
      { t.put items g.2.1 with bites := g.2.2 }

/-- A 16-bit signed number. -/
def int16 (v : Nat) : Int := if v < 32768 then (v : Int) else (v : Int) - 65536

/-- The keys of a record's matches that lie inside the input: identifier, offset, bytes. -/
def FixTask.keysOf (t : FixTask) (l : List (Nat × Nat)) : List (Nat × Nat × List Byte) :=
  let n := field t.p 84 2
  l.filterMap fun m =>
    let a := (m.2 : Int) + int16 (field t.p 86 2)
    if a < 0 ∨ (t.len : Int) < a + n then none else some (m.1, a.toNat, slice t.input.data a.toNat n)

/-- `INDEX.EXTRACT`. In mode 1 a task's keys follow those of the tasks before it (log 145). -/
def State.indexExtract (s : State) (fn : Nat) (t : FixTask) : FixOut :=
  let mode := field t.p 83 1
  let klen := field t.p 84 2
  let g := t.good (t.records 0 (byteAt t.p 84))
  if 15 < field t.p 82 1 ∨ 1 < mode ∨ klen = 0 ∨ 20 < klen then FixOut.ends 1
  else match s.fixedSet fn t.p with
    | none => FixOut.ends 4
    | some (img, set) =>
      let keys := g.1.flatMap fun r => t.keysOf (set.matches img r)
      if mode = 0 then
        { t.put (keys.map fun k => leBytes 4 k.1 ++ leBytes 8 k.2.1 ++ padTo 20 k.2.2) g.2.1 with bites := g.2.2 }
      else
        let before := (delimited (byteAt t.p 84) t.input.data 0 0 []).filter fun r => decide (r.at_ < (t.share t.len).1)
        let skip := (before.flatMap fun r => t.keysOf (set.matches img r)).length
        let first := field t.p 88 4 + skip
        let q : QSetup := { QSetup.init with tenant := true, fn := fn }
        let fit := (keys.zipIdx).takeWhile fun k => s.inEntryWindow q (first + k.2)
        { FixOut.ends (if fit.length < keys.length then 6 else g.2.1) with
          items := fit.length, bites := g.2.2, keys := fit.map fun k => (first + k.2, k.1.2.1, padTo 20 k.1.2.2) }

/-! ### `COMPRESS` and `DECOMPRESS` -/

/-- The parameters of a job context (R453, R457); the window of Zstandard is the program's own (log 145). -/
def jobParams (dir format level blockLog : Nat) : Nat :=
  2 + 2 ^ 8 * dir + 2 ^ 16 * format + 2 ^ 24 * level + 2 ^ 32 * (10 + Config.fixedWindow % 14) + 2 ^ 40 * blockLog + 2 ^ 64 * (2 ^ 64 - 1)

/-- A byte span of the task's input as an engine's job meets it: its bytes, or the status it stops with. -/
def FixTask.jobInput (t : FixTask) (a b : Nat) : Nat × List Byte :=
  (if t.input.dead a (b - a) then 3 else if t.input.poisoned a (b - a) then 4 else 0, slice t.input.data a (b - a))

/-- `COMPRESS`: the piece is whole blocks, or bytes when each piece is one frame. The index has the offset of each block's frame from
`OUT_OFFSET`, and after the last the end (log 145). -/
def FixTask.compress (t : FixTask) : FixOut :=
  let size := field t.p 84 4
  let log := ((List.range 7).map (· + 16)).find? fun k => 2 ^ k == size
  if 1 < field t.p 80 1 ∨ field t.p 81 1 = 0 ∨ 9 < field t.p 81 1 ∨ (size ≠ 0 ∧ log.isNone) then FixOut.ends 1
  else
    let blocks := if size = 0 then t.n else ceilDiv t.len size
    let q := t.share blocks
    let a := if size = 0 then t.i * t.len / t.n else q.1 * size
    let b := if size = 0 then (t.i + 1) * t.len / t.n else min (q.2 * size) t.len
    let d := t.jobInput a b
    let x := Config.codec (jobParams 0 (field t.p 80 1) (field t.p 81 1) (log.getD 0)) [(d.2, 2)]
    if d.1 = 3 then FixOut.ends 3
    else
      let out := x.out.take t.area
      let ends := x.frames.map fun f => f.2.2.2.2
      let starts := (0 :: ends).take (q.2 - q.1)
      let place (k v : Nat) : Nat × Nat × List Byte × Bool := (2, field t.p 88 8 + 8 * k, leBytes 8 (t.i * t.area + v), false)
      let index := (starts.zipIdx.map fun v => place (q.1 + v.2) v.1) ++ if t.i + 1 = t.n then [place blocks out.length] else []
      if d.1 = 0 ∧ size ≠ 0 ∧ t.aux.span.2 < field t.p 88 8 + 8 * (blocks + 1) then FixOut.ends 1
      else
        { FixOut.ends (if d.1 ≠ 0 then 4 else if t.area < x.out.length then 2 else 0) with
          writes := (1, t.base, out, d.1 == 4) :: if d.1 = 0 ∧ size ≠ 0 then index else []
          made := out.length
          items := q.2 - q.1
          bites := if d.1 = 4 then [a] else [] }

/-- The entries of a block index up to the one that reaches the end of the input. -/
def indexEntries (len : Nat) (entry : Nat → Nat) : Nat → Nat → List Nat
  | 0, _ => []
  | f + 1, k => if len ≤ entry k then [entry k] else entry k :: indexEntries len entry f (k + 1)

/-- One frame, or all of them: output, frames, and whether the engine found it in order. -/
def decodeJob (format : Nat) (data : List Byte) (one : Bool) : List Byte × Nat × Bool :=
  let x := Config.codec (jobParams 1 format 0 0) [(data, 2)]
  let f := if one then x.frames.take 1 else x.frames
  let stop := match f.reverse with
    | g :: _ => g.2.2.2.2
    | [] => 0
  (if one then x.out.take stop else x.out, f.length, (x.verdict f).1 == 0 && !f.isEmpty)

/-- `DECOMPRESS`: by the block index where it is needed. -/
def State.decompress (s : State) (t : FixTask) : FixOut :=
  let format := field t.p 80 1
  let off := field t.p 88 8
  let entry (k : Nat) : Nat := s.load (t.aux.span.1 + off + 8 * k) 8
  let l := indexEntries t.len entry ((t.aux.span.2 - off) / 8) 0
  let indexed := decide (1 < t.n)
  if 1 < format ∨ (indexed ∧ (l.length < 2 ∨ (l.reverse.head?).getD 0 < t.len)) then FixOut.ends 1
  else
    let blocks := l.length - 1
    let q := t.share blocks
    let spans := if !indexed then [(0, t.len)]
      else (List.range (q.2 - q.1)).map fun k => ((l[q.1 + k]?).getD 0, min t.len ((l[q.1 + k + 1]?).getD 0))
    let jobs := spans.map fun g =>
      let d := t.jobInput g.1 g.2
      let r := decodeJob format d.2 indexed
      (d.1, r, g.1)
    let ok := jobs.takeWhile fun j => j.1 == 0 && j.2.1.2.2
    let made := ok.flatMap fun j => j.2.1.1
    let bad := jobs.drop ok.length
    let status := match bad with
      | [] => 0
      | j :: _ => if j.1 = 3 then 3 else 4
    let tail := match bad with
      | j :: _ => if j.1 = 4 then j.2.1.1 else []
      | [] => []
    let out := made.take t.area
    { FixOut.ends (if t.area < made.length then 2 else status) with
      writes := [(1, t.base, out, false), (1, t.base + out.length, tail.take (t.area - out.length), true)]
      made := out.length
      items := sumOf (fun (j : Nat × (List Byte × Nat × Bool) × Nat) => j.2.1.2.1) ok
      bites := match bad with
        | j :: _ => if j.1 = 4 then [j.2.2] else []
        | [] => [] }

/-! ### `EC.ENCODE` and `EC.REBUILD`: GF(2⁸) with `0x11D` -/

/-- A product, by the bits of the second factor from the top. -/
def shardMul (a b : Byte) : Byte := (List.range 8).foldl (fun acc k => gfDouble acc ^^^ (if b.getLsbD (7 - k) then a else 0)) 0

/-- The inverse; 0 has none. -/
def gfInv (a : Byte) : Byte := (((List.range 256).map (BitVec.ofNat 8)).find? fun b => shardMul a b == 1).getD 0

/-- A row times a column. -/
def gfDot (r : List Byte) (c : List Byte) : Byte := (List.zipWith shardMul r c).foldl (fun x y => x ^^^ y) 0

/-- The row of shard `s` in terms of the data shards: Cauchy, or supplied from byte `at_` of the parameters. -/
def ecRow (p : List Byte) (k m at_ s : Nat) : List Byte :=
  (List.range k).map fun i =>
    if s < k then (if i = s then 1 else 0)
    else if field p 82 1 = 0 then gfInv (BitVec.ofNat 8 ((s - k) ^^^ (m + i)))
    else byteAt p (at_ + (s - k) * k + i)

/-- One column cleared by Gauss and Jordan: the pivot row made 1, and taken from every other. -/
def gfClear (rows : List (List Byte)) (c : Nat) : Option (List (List Byte)) :=
  let at_ (r : List Byte) : Byte := (r[c]?).getD 0
  match (rows.zipIdx.find? fun r => decide (c ≤ r.2) && at_ r.1 != 0).map (·.2) with
  | none => none
  | some j =>
    let rows := (rows.set j ((rows[c]?).getD [])).set c ((rows[j]?).getD [])
    let p := (rows[c]?).getD []
    let p := p.map (shardMul (gfInv (at_ p)))
    some (rows.zipIdx.map fun r => if r.2 = c then p else List.zipWith (fun x y => x ^^^ shardMul (at_ r.1) y) r.1 p)

/-- The inverse of a square matrix. -/
def gfInverse (k : Nat) (rows : List (List Byte)) : Option (List (List Byte)) :=
  let wide := rows.zipIdx.map fun r => r.1 ++ (List.range k).map fun i => if i = r.2 then (1 : Byte) else 0
  ((List.range k).foldl (fun (o : Option (List (List Byte))) c => o.bind fun m => gfClear m c) (some wide)).map fun m => m.map fun r => r.drop k

/-- A row times a matrix of `k` rows. -/
def gfRowTimes (k : Nat) (r : List Byte) (m : List (List Byte)) : List Byte :=
  (List.range k).map fun i => gfDot r (m.map fun x => (x[i]?).getD 0)

/-- Shards made from shards of the input at given places: the task's slice of each, burst by burst, poisoned where a source is (R365). -/
def FixTask.shards (t : FixTask) (len : Nat) (rows : List (List Byte)) (places : List Nat) (items : Nat) : FixOut :=
  let lo := t.i * len / t.n
  let size := len / t.n
  if places.any fun q => t.input.dead (q * len + lo) size then FixOut.ends 3
  else
    let burst (row : List Byte) (a : Nat) : List Byte :=
      (List.range 64).map fun b => gfDot row (places.map fun q => byteAt t.input.data (q * len + a + b))
    { FixOut.ends 0 with
      writes := rows.zipIdx.flatMap fun r => (List.range (size / 64)).map fun k =>
        let a := lo + 64 * k
        (1, t.outAt + r.2 * len + a, burst r.1 a, places.any fun q => t.input.poisoned (q * len + a) 64)
      made := size * rows.length
      items := items }

/-- `k`, `m` and the shard length, when they are in their ranges. -/
def FixTask.ecForm (t : FixTask) : Option (Nat × Nat × Nat) :=
  let k := field t.p 80 1
  let m := field t.p 81 1
  let len := field t.p 84 4
  if k = 0 ∨ 32 < k ∨ m = 0 ∨ 8 < m ∨ 1 < field t.p 82 1 ∨ len = 0 ∨ len % (4096 * t.n) ≠ 0 then none else some (k, m, len)

/-- `EC.ENCODE`. -/
def FixTask.ecEncode (t : FixTask) : FixOut :=
  match t.ecForm with
  | none => FixOut.ends 1
  | some (k, m, len) =>
    if t.len ≠ k * len ∨ t.capacity < m * len then FixOut.ends 1
    else t.shards len ((List.range m).map fun j => ecRow t.p k m 96 (k + j)) (List.range k) 0

/-- `EC.REBUILD`: from the k present shards of lowest index; a supplied matrix that leaves them dependent is out of range (log 145). -/
def FixTask.ecRebuild (t : FixTask) : FixOut :=
  match t.ecForm with
  | none => FixOut.ends 1
  | some (k, m, len) =>
    let set (v : Nat) : List Nat := (List.range (k + m)).filter fun i => bit v i
    let present := set (field t.p 88 8)
    let wanted := set (field t.p 96 8)
    if 2 ^ (k + m) ≤ field t.p 88 8 ∨ 2 ^ (k + m) ≤ field t.p 96 8 ∨ t.len ≠ present.length * len ∨ t.capacity < wanted.length * len then
      FixOut.ends 1
    else if present.length < k then FixOut.ends 5
    else
      let row := ecRow t.p k m 104
      match gfInverse k ((present.take k).map row) with
      | none => FixOut.ends 1
      | some inv => t.shards len (wanted.map fun w => gfRowTimes k (row w) inv) (List.range k) wanted.length

/-! ### `DIGEST.VERIFY` -/

/-- A digest or check value by its algorithm number. -/
def fixedDigest (alg : Nat) (l : List Byte) : List Byte :=
  match alg with
  | 0 => sha256 l
  | 1 => sha512 l
  | 2 => sha3_256 l
  | 3 => leBytes 4 (crc32c l)
  | _ => leBytes 8 (crc64 l)

/-- What one entry of range 2 gives: 0 equal, 1 not equal, 2 poisoned; nothing when it cannot be read. -/
def State.digestEntry (s : State) (t : FixTask) (alg k : Nat) : Nat ⊕ Byte :=
  let e := s.mem.read (t.aux.span.1 + 80 * k) 80
  let a := field e 0 8
  let n := field e 8 8
  if t.input.data.length < a + n then .inl 1
  else if t.input.dead a n then .inl 3
  else if t.input.poisoned a n then .inr 2
  else
    let d := fixedDigest alg (slice t.input.data a n)
    .inr (if slice e 16 d.length = d then 0 else 1)

/-- `DIGEST.VERIFY`; offsets count from the start of range 0, or of the stream. -/
def State.digestVerify (s : State) (t : FixTask) : FixOut :=
  let alg := field t.p 80 1
  let count := field t.p 84 4
  let q := t.share count
  if 4 < alg ∨ t.aux.span.2 < 80 * count then FixOut.ends 1
  else
    let l : List (Nat × (Nat ⊕ Byte)) := (List.range (q.2 - q.1)).map fun k => (q.1 + k, s.digestEntry t alg (q.1 + k))
    let ok : List (Nat × Byte) := l.filterMap fun x => match x.2 with
      | .inr b => some (x.1, b)
      | .inl _ => none
    let bad := l.findSome? fun x => match x.2 with
      | .inl st => some st
      | .inr _ => none
    match bad with
    | some st => FixOut.ends st
    | none =>
      { t.put (ok.map fun x => [x.2]) 0 with
        items := (ok.filter fun (x : Nat × Byte) => x.2 == 1).length
        bites := (ok.filter fun (x : Nat × Byte) => x.2 == 2).map fun (x : Nat × Byte) => field (s.mem.read (t.aux.span.1 + 80 * x.1) 80) 0 8 }

/-! ### `SELECT.PACKED` -/

/-- The value of packed decimal bytes, the most significant digit first; up to 31 digits (R391, log 145). -/
def packedValue (signed : Bool) (l : List Byte) : Option Int :=
  let nib := l.flatMap fun b => [b.toNat / 16, b.toNat % 16]
  let digits := if signed then nib.take (nib.length - 1) else nib
  let sign := if signed then (nib[nib.length - 1]?).getD 0 else 0xC
  let v : Nat := digits.foldl (fun n d => 10 * n + d) 0
  if digits.any (fun d => 9 < d) ∨ sign < 10 ∨ 10 ^ 31 ≤ v then none
  else some (if sign = 0xB ∨ sign = 0xD then - (v : Int) else v)

/-- A comparison by its number. -/
def decimalTest (op : Nat) (a b : Int) : Bool :=
  match op with
  | 0 => a == b
  | 1 => a != b
  | 2 => decide (a < b)
  | 3 => decide (a ≤ b)
  | 4 => decide (b < a)
  | _ => decide (b ≤ a)

/-- Whether a predicate's fields are in their ranges. -/
def predicateOk (recLen : Nat) (e : List Byte) : Bool :=
  decide (1 ≤ field e 4 1) && decide (field e 4 1 ≤ 16) && decide (field e 0 4 + field e 4 1 ≤ recLen) && decide (field e 5 1 ≤ 5) &&
  decide (field e 6 1 ≤ 1) && (packedValue (field e 6 1 == 1) (slice e 8 16)).isSome

/-- Whether a record meets a predicate; nothing when its field is no decimal. -/
def FixRec.meetsPredicate (r : FixRec) (e : List Byte) : Option Bool :=
  let signed := field e 6 1 == 1
  match packedValue signed (slice r.bytes (field e 0 4) (field e 4 1)), packedValue signed (slice e 8 16) with
  | some a, some b => some (decimalTest (field e 5 1) a b)
  | _, _ => none

/-- `SELECT.PACKED`. A comparison of a poisoned field consumes the poison and faults the task (R366). -/
def FixTask.selectPacked (t : FixTask) : FixOut :=
  let len := field t.p 80 4
  let preds := (List.range (field t.p 84 1)).map fun k => slice t.p (96 + 24 * k) 24
  if len = 0 ∨ 65536 < len ∨ preds.isEmpty ∨ 8 < preds.length ∨ 1 < field t.p 85 1 ∨ 1 < field t.p 86 1 ∨ !preds.all (predicateOk len) then
    FixOut.ends 1
  else
    let bitten (r : FixRec) : Bool := preds.any fun e => t.input.poisoned (r.at_ + field e 0 4) (field e 4 1)
    let invalid (r : FixRec) : Bool := preds.any fun e => (r.meetsPredicate e).isNone
    let all := t.records len 0
    let ok := all.takeWhile fun r => !r.meets t.input.dead && !bitten r && !(field t.p 86 1 == 1 && invalid r)
    let hits := ok.filter fun r => preds.all fun e => r.meetsPredicate e == some true
    let items := hits.map fun r => if field t.p 85 1 = 0 then r.bytes else leBytes 8 r.num
    match all.drop ok.length with
    | [] => t.put items 0
    | r :: _ =>
      if r.meets t.input.dead then t.put items 3
      else if bitten r then { t.put items 0 with bites := [r.at_], faults := true }
      else t.put items 7

/-! ### A task run -/

/-- The input a task's parameters name. -/
def State.fixedInput (s : State) (w : Window) (p : List Byte) : Option FixIn :=
  if field p 32 1 = 0 then s.rangeInput w (field p 40 8) (field p 48 8) else s.streamInput (field p 36 4) (field p 40 8) (field p 48 8)

/-- What a task of a fixed program does, by the program's index. -/
def State.fixedWork (s : State) (prog fn : Nat) (t : FixTask) : FixOut :=
  match prog with
  | 1 => s.filterPattern fn t
  | 2 => t.compress
  | 3 => s.decompress t
  | 4 => t.ecEncode
  | 5 => t.ecRebuild
  | 6 => s.digestVerify t
  | 7 => t.selectPacked
  | _ => s.indexExtract fn t

/-- A key written to the ternary table: every mask bit cared, WILDCARD set, the key's input offset as its WORD (R518). Its tag is not
given: a free value (log 145). -/
def State.writeKey (s : State) (fn : Nat) (k : Nat × Nat × List Byte) : State :=
  let tag := s.draw
  let e : Tern := ⟨ofLe k.2.2, 2 ^ 160 - 1, tag.1.toNat % 256, true, true, false, k.2.1, fn⟩
  tag.2.updateSlot.setTern k.1 e

/-- Where a task's output lies and how much it may be, as an offset in range 1 and a capacity (R430). -/
def outputPlace (p : List Byte) (len : Nat) : Nat × Nat :=
  (field p 56 8, if field p 64 8 = 0 then len - field p 56 8 else field p 64 8)

/-- A window of a core. -/
def Core.win (c : Core) (i : Nat) : Window := (c.wins.toList[i]?).getD Window.init

/-- A task's outcome from its parameters and its core's windows: status 1 where a range does not hold what they name. -/
def State.fixedOutcome (s : State) (c : Core) (t : Task) (p : List Byte) : FixOut :=
  let len := (c.win 4).span.2
  let o := outputPlace p len
  match s.fixedInput (c.win 3) p with
  | none => FixOut.ends 1
  | some i =>
    if len < o.1 + o.2 ∨ len < field p 72 8 + 16 * t.count then FixOut.ends 1
    else
      let i := if t.program = 6 ∧ field p 32 1 = 0 then (s.rangeInput (c.win 3) 0 (c.win 3).span.2).getD i else i
      s.fixedWork t.program t.fn ⟨p, t.index, t.count, i, field p 48 8, c.win 5, o.1, o.2⟩

/-- What a task leaves: its stores, its keys, the poison it consumed, a key refused beyond the window counted (R178). -/
def State.fixedApply (s : State) (n fn inAt : Nat) (base : Nat → Nat) (o : FixOut) : State :=
  let s := o.writes.foldl (fun (s : State) w => if w.2.2.1.isEmpty then s else s.store (base w.1 + w.2.1) w.2.2.1 w.2.2.2) s
  let s := o.keys.foldl (fun (s : State) k => s.writeKey fn k) s
  let s := if o.status = 6 then s.fbump fn 0x4020 7 1 else s
  o.bites.foldl (fun (s : State) a => s.consumed (coreReq n) (inAt + a) 0) s

/-- A task of a fixed program: what it stores, its result record and its status (R430, R431, R433). A range it must store to without the
write right is a window violation (R428). -/
def State.fixedRun (s : State) (n : Nat) (t : Task) : State × Nat :=
  let c := s.core n
  let p := s.mem.read t.param 4096
  let r := (c.win 4).span
  let o := s.fixedOutcome c t p
  let record := field p 72 8 + 16 * t.index
  if !(c.win 4).rights.getLsbD 1 || ((o.writes.any fun w => w.1 == 2) && !(c.win 5).rights.getLsbD 1) then (s, 0xFFF2)
  else
    let s := s.fixedApply n t.fn ((c.win 3).span.1 + if t.program = 6 then 0 else field p 40 8) (fun k => if k = 1 then r.1 else (c.win 5).span.1) o
    if o.faults then (s, 0xFFF3)
    else if r.2 < record + 16 then (s, o.status)
    else (s.store (r.1 + record) (leBytes 8 o.made ++ leBytes 4 o.items ++ leBytes 4 o.status) false, o.status)

end Sys2Proof.Machine
end

