-- ==== Sys2Proof/Machine/BasizSys.lean ====
section
/-! DEFINITION. Branches, calls, the return rstacks, the system group, control registers, and `MACX` with its steps (R383, R384,
R388, R390, R393, R396 to R400, R407). -/
namespace Sys2Proof.Machine

/-! ### Branches (R382, R384, R393) -/

/-- A branch's target: its own address plus 4 × the displacement. -/
def branchTarget (pc : Addr) (i : Imm) : Addr := pc + (i.addr <<< 2)

/-- A compare-and-branch on D registers: a poisoned operand is consumed (R366). -/
def State.branch (s : State) (x : Issue) (op fa fb : Nat) (i : Imm) (uses : List Nat) (poison taken : Core → Bool) : Done :=
  let n := x.core.val
  s.done (s.issue x (ri op fa fb i.field) i.ext uses fun s => s.ifClean n (poison (s.core n)) fun s =>
    let c := s.core n
    if taken c then .jump s (branchTarget c.pc i) else .go s)

/-- A branch on two D registers. -/
def State.branchD (s : State) (x : Issue) (op : Nat) (a b : Fin 16) (i : Imm) (f : Word → Word → Bool) : Done :=
  s.branch x op (fD a) (fD b) i [a.val, b.val] (fun c => c.pv a || c.pv b) fun c => f (c.dv a) (c.dv b)

/-- A branch on two A registers. -/
def State.branchA (s : State) (x : Issue) (op : Nat) (a b : Fin 8) (i : Imm) (f : Addr → Addr → Bool) : Done :=
  s.branch x op (fA a) (fA b) i [fA a, fA b] (fun _ => false) fun c => f (c.av a) (c.av b)

/-- BEQ. -/
def execBeq (x : Issue) (a b : Fin 16) (i : Imm) (s : State) : Done := s.branchD x 0x30 a b i (· == ·)
/-- BNE. -/
def execBne (x : Issue) (a b : Fin 16) (i : Imm) (s : State) : Done := s.branchD x 0x31 a b i (· != ·)
/-- BLT. -/
def execBlt (x : Issue) (a b : Fin 16) (i : Imm) (s : State) : Done := s.branchD x 0x32 a b i fun a b => a.slt b
/-- BGE. -/
def execBge (x : Issue) (a b : Fin 16) (i : Imm) (s : State) : Done := s.branchD x 0x33 a b i fun a b => !a.slt b
/-- BLTU. -/
def execBltu (x : Issue) (a b : Fin 16) (i : Imm) (s : State) : Done := s.branchD x 0x34 a b i fun a b => a.ult b
/-- BGEU. -/
def execBgeu (x : Issue) (a b : Fin 16) (i : Imm) (s : State) : Done := s.branchD x 0x35 a b i fun a b => !a.ult b
/-- BZ. -/
def execBz (x : Issue) (a : Fin 16) (i : Imm) (s : State) : Done :=
  s.branch x 0x36 (fD a) 0 i [a.val] (fun c => c.pv a) fun c => c.dv a == 0
/-- BNZ. -/
def execBnz (x : Issue) (a : Fin 16) (i : Imm) (s : State) : Done :=
  s.branch x 0x37 (fD a) 0 i [a.val] (fun c => c.pv a) fun c => c.dv a != 0
/-- BAEQ. -/
def execBaeq (x : Issue) (a b : Fin 8) (i : Imm) (s : State) : Done := s.branchA x 0x38 a b i (· == ·)
/-- BANE. -/
def execBane (x : Issue) (a b : Fin 8) (i : Imm) (s : State) : Done := s.branchA x 0x39 a b i (· != ·)
/-- BALTU. -/
def execBaltu (x : Issue) (a b : Fin 8) (i : Imm) (s : State) : Done := s.branchA x 0x3A a b i fun a b => a.ult b

/-- Whether a D value is valid: mode 0 sixteen digits, mode 1 fifteen and a sign (R393). -/
def decimalValid (mode : Fin 2) (v : Nat) : Bool :=
  match mode with
  | 0 => (badDigit v 0 16).isNone
  | 1 => (badDigit v 1 15).isNone && decide (10 ≤ nibble v 0)

/-- BDV. -/
def execBdv (x : Issue) (a : Fin 16) (mode : Fin 2) (i : Imm) (s : State) : Done :=
  s.branch x 0x3B (fD a) mode.val i [a.val] (fun c => c.pv a) fun c => decimalValid mode (c.dv a).toNat

/-- JMP. -/
def execJmp (x : Issue) (i : Imm) (s : State) : Done := s.branch x 0x3C 0 0 i [] (fun _ => false) fun _ => true

/-! ### The return rstacks (R390) -/

/-- The stack of the current level replaced. -/
def Core.setStack (c : Core) (l : List Addr) : Core := { c with rstacks := c.rstacks.set c.level l }

/-- A push: a full stack traps at supervisor level and when `RSMODE` is 1, else its oldest entry goes. -/
def Core.push (c : Core) (a : Addr) : Option Core :=
  if 16 ≤ c.stack.length ∧ (c.sup ∨ c.rsmode) then none else some (c.setStack ((a :: c.stack).take 16))

/-- A push, then on with `f`; or the overflow exception. -/
def State.pushed (s : State) (n : Nat) (a : Addr) (f : State → Flow) : Flow :=
  match (s.core n).push a with
  | some c => f (s.setCore n c)
  | none => .trap s 7 none 0

/-- A pop, or the underflow exception. -/
def State.popped (s : State) (n : Nat) (f : State → Addr → Flow) : Flow :=
  match (s.core n).stack with
  | a :: l => f (s.onCore n fun c => c.setStack l) a
  | [] => .trap s 8 none 0

/-- CALL: the return address is that of the instruction that follows. -/
def execCall (x : Issue) (i : Imm) (s : State) : Done :=
  let n := x.core.val
  s.done (s.issue x (ri 0x3D 0 0 i.field) i.ext [] fun s =>
    let pc := (s.core n).pc
    s.pushed n (if i.ext then pc + 8 else pc + 4) fun s => .jump s (branchTarget pc i))

/-! ### The system group (R383, R403, R405) -/

/-- A word of the system group. -/
def sysWord (dst a func : Nat) : BitVec 32 := rrr 0x03 dst a 0 func

/-- NOP. -/
def execNop (x : Issue) (s : State) : Done := s.done (s.issue x (sysWord 0 0 0x00) false [] fun s => .go s)

/-- FENCE (R12, R388). -/
def execFence (x : Issue) (s : State) : Done := s.done (s.issue x (sysWord 0 0 0x01) false [] fun s => .go (s.fence x.core.val))

/-- CORE_SYNC: waits for every earlier access, `MACX` streams among them, then applies pending windows. -/
def execCoreSync (x : Issue) (s : State) : Done :=
  let n := x.core.val
  s.done (s.issue x (sysWord 0 0 0x02) false [] fun s =>
    if (s.core n).macx.isSome then .wait s else (s.fence n).regs n fun c => c.applyWins)

/-- SVC. -/
def execSvc (x : Issue) (s : State) : Done := s.done (s.issue x (sysWord 0 0 0x03) false [] fun s => .trap s 10 none 0)

/-- The status `TEND` ends a task with (R394, R428). -/
def tendStatus (v : Word) (poison : Bool) : Nat :=
  if poison then 0xFFFE else if v.toNat % 65536 < 0xFF00 then v.toNat % 65536 else 0xFF00

/-- What a task leaves at its `TEND`, and its status: the register's, or for a fixed program what the program makes of its piece (R430, log
145). -/
def State.taskResult (s : State) (n : Nat) (a : Fin 16) : State × Nat :=
  let c := s.core n
  match c.task.filter fun t => t.exec && isFixed t.program with
  | some t => (s.fence n).fixedRun n t
  | none => (s.fence n, tendStatus (c.dv a) (c.pv a))

/-- TEND: a `FENCE`, then the task's end; without a task there is none to end (log 51). -/
def execTend (x : Issue) (a : Fin 16) (s : State) : Done :=
  let n := x.core.val
  s.done (s.issue x (sysWord 0 (fD a) 0x04) false [a.val] fun s => .go ((s.taskResult n a).1.endTask n (s.taskResult n a).2))

/-- BRK. -/
def execBrk (x : Issue) (s : State) : Done := s.done (s.issue x (sysWord 0 0 0x05) false [] fun s => .trap s 11 none 0)

/-- ERET. -/
def execEret (x : Issue) (s : State) : Done :=
  let n := x.core.val
  s.done (s.issue x (sysWord 0 0 0x06) false [] fun s => s.ifSup n fun s =>
    .jump (s.onCore n fun c => c.exceptionReturn) (s.core n).epc)

/-- JR. -/
def execJr (x : Issue) (a : Fin 16) (s : State) : Done :=
  let n := x.core.val
  s.done (s.issue x (sysWord 0 (fD a) 0x08) false [a.val] fun s => s.ifClean n ((s.core n).pv a) fun s =>
    .jump s (((s.core n).dv a).setWidth 48))

/-- CALLR. -/
def execCallr (x : Issue) (a : Fin 16) (s : State) : Done :=
  let n := x.core.val
  s.done (s.issue x (sysWord 0 (fD a) 0x09) false [a.val] fun s => s.ifClean n ((s.core n).pv a) fun s =>
    let c := s.core n
    s.pushed n (c.pc + 4) fun s => .jump s ((c.dv a).setWidth 48))

/-- RET. -/
def execRet (x : Issue) (s : State) : Done :=
  let n := x.core.val
  s.done (s.issue x (sysWord 0 0 0x0A) false [] fun s => s.popped n fun s a => .jump s a)

/-- RPUSH. -/
def execRpush (x : Issue) (a : Fin 16) (s : State) : Done :=
  let n := x.core.val
  s.done (s.issue x (sysWord 0 (fD a) 0x0B) false [a.val] fun s => s.ifClean n ((s.core n).pv a) fun s =>
    s.pushed n (((s.core n).dv a).setWidth 48) fun s => .go s)

/-- RPOP. -/
def execRpop (x : Issue) (d : Fin 16) (s : State) : Done :=
  let n := x.core.val
  s.done (s.issue x (sysWord (fD d) 0 0x0C) false [] fun s => s.popped n fun s a =>
    s.regs n fun c => c.setD d (a.setWidth 64) false)

/-- PCHK. -/
def execPchk (x : Issue) (a : Fin 16) (s : State) : Done :=
  let n := x.core.val
  s.done (s.issue x (sysWord 0 (fD a) 0x0D) false [a.val] fun s => s.ifClean n ((s.core n).pv a) fun s => .go s)

/-- WAITEV: the core is past it, and waits unless an event is pending. -/
def execWaitev (x : Issue) (s : State) : Done :=
  let n := x.core.val
  s.done (s.issue x (sysWord 0 0 0x0E) false [] fun s => s.ifSup n fun s =>
    s.regs n fun c => { c with waiting := !s.eventPending n })

/-- IINV. The instruction that follows is fetched anew. -/
def execIinv (x : Issue) (s : State) : Done :=
  let n := x.core.val
  s.done (match s.issue x (sysWord 0 0 0x0F) false [] fun s => s.ifSup n fun s => .go s with
    | t => if (t.core n).pc = (s.core n).pc + 4 then t.onCore n fun c => { c with icache := false } else t)

/-! ### Control registers (R407) -/

/-- MFCR: a number that is not listed, or not readable at the level, is illegal. -/
def execMfcr (x : Issue) (d : Fin 16) (k : BitVec 12) (long : Bool) (s : State) : Done :=
  let n := x.core.val
  s.done (s.issue x (ri 0x06 (fD d) 0 (if long then 0x8000 else k.toNat)) long [] fun s =>
    if !crListed k.toNat || !((s.core n).sup || crTask k.toNat) then s.illegal
    else
      let v := s.crRead n k.toNat
      s.regs n fun c => c.setD d v false)

/-- MTCR: supervisor only; a poisoned source is consumed; window registers stay pending (R395, R403). -/
def execMtcr (x : Issue) (d : Fin 16) (k : BitVec 12) (long : Bool) (s : State) : Done :=
  let n := x.core.val
  s.done (s.issue x (ri 0x07 (fD d) 0 (if long then 0x8000 else k.toNat)) long [d.val] fun s => s.ifSup n fun s =>
    if !crListed k.toNat then s.illegal
    else s.ifClean n ((s.core n).pv d) fun s => s.regs n fun c => c.crWrite k.toNat (c.dv d))

/-! ### The MAC unit (R396 to R400) -/

/-- The modes of `MACX`. -/
def macMode (m : BitVec 2) : Nat := m.toNat

/-- Whether an extent lies wholly inside the cluster memory of a core. -/
def inCluster (n a len : Nat) : Bool :=
  decide (n < 128) && decide (clusterBase (coreCluster n) ≤ a) && decide (a + len ≤ clusterBase (coreCluster n) + 0x100000)

/-- MACX: the streams are checked, the A registers advanced, and the steps left to the unit (R398). -/
def execMacx (x : Issue) (k : Fin 4) (a b : Fin 8) (mode : BitVec 2) (postinc clear uns : Bool) (steps : Option (BitVec 16))
    (s : State) : Done :=
  let n := x.core.val
  let func := b2n steps.isSome * 1024 + mode.toNat * 256 + b2n postinc * 128 + b2n clear * 64 + b2n uns * 32
  let count := match steps with
    | some k => k.toNat
    | none => 1
  s.done (s.issue x (rrr 0x02 (fC k) (fA a) (fA b) func) steps.isSome [fA a, fA b] fun s =>
    let c := s.core n
    let pa := (c.av a).toNat
    let pb := (c.av b).toNat
    let len := 64 * count
    let bad (p : Nat) : Bool := p % 64 != 0 || !inCluster n p len
    if count = 0 then s.illegal
    else if c.macx.isSome then .wait s
    else if c.violates pa len [.rd] then .trap s 3 (some (c.av a)) 0
    else if c.violates pb len [.rd] then .trap s 3 (some (c.av b)) 0
    else if bad pa then .trap s 6 (some (c.av a)) 0
    else if bad pb then .trap s 6 (some (c.av b)) 0
    else (s.fence n).regs n fun c =>
      let c := if clear then c.setAc k 0 false else c
      let inc := BitVec.ofNat 48 len
      let c := if !postinc then c
        else if a = b then c.setA a (c.av a + inc)
        else (c.setA a (c.av a + inc)).setA b (c.av b + inc)
      { c with macx := some ⟨k, mode, uns, pa, pb, count⟩ })

/-- Multiplication in GF(2^8) with polynomial `0x11D`, over the low bits of one factor. -/
def gfMul : Nat → Nat → Nat → Nat
  | 0, _, _ => 0
  | n + 1, a, b =>
    let a2 := if 0x80 ≤ a then (a * 2) ^^^ 0x11D else a * 2
    (if b % 2 = 1 then a else 0) ^^^ gfMul n a2 (b / 2)

/-- A value of some bytes, signed unless told otherwise. -/
def laneVal (uns : Bool) (bytes v : Nat) : Int :=
  if uns || decide (v < 2 ^ (8 * bytes - 1)) then (v : Int) else (v : Int) - (2 ^ (8 * bytes) : Nat)

/-- The sum of products of lanes of `w` bytes. -/
def laneSum (uns : Bool) (w : Nat) (a b : List Byte) : Int :=
  (List.range (64 / w)).foldl (fun t k => t + laneVal uns w (ofLe (slice a (w * k) w)) * laneVal uns w (ofLe (slice b (w * k) w))) 0

/-- One step on an accumulator (R397). -/
def macStep (mode : BitVec 2) (uns : Bool) (ac : BitVec 128) (a b : List Byte) : BitVec 128 :=
  if mode = 0 then
    let g (j : Nat) : Nat := gfMul 8 (byteAt a j).toNat (byteAt b j).toNat
    let v := ofLe ((List.range 16).map fun i => BitVec.ofNat 8 (g i ^^^ g (16 + i) ^^^ g (32 + i) ^^^ g (48 + i)))
    ac ^^^ BitVec.ofNat 128 v
  else
    let w := if mode = 1 then 1 else if mode = 2 then 2 else 4
    ac + BitVec.ofInt 128 (laneSum uns w a b)

/-- The core a cluster's MAC unit serves next: in turn after the last one (R399). -/
def State.macNext (s : State) (c : Nat) : Option Nat :=
  let last := Tab.get s.sched.macLast 7 c
  ((List.range 8).map fun i => 8 * c + (last + 1 + i) % 8).find? fun n => (s.core n).macx.isSome

/-- What the check bits found on a block the unit reads, which is payload (R364, R398). -/
def State.macRead (s : State) (n c a : Nat) (e : LoadEcc) : State :=
  match e with
  | .clean => s
  | .corrected => s.corrected 2 (12 + c) (coreReq n) a
  | .uncorrectable => if s.mem.poisoned a 64 then s else s.uncorrectable 2 (12 + c) (coreReq n) a
  | .shared => s

/-- MACX_STEP: one 64-byte step of the next core's `MACX`; a poisoned block marks the accumulator; a control error in the logic
the cluster shares resets the cluster (R13, R397, R399, R400). -/
def execMacxStep (cluster : Fin 16) (ea eb : LoadEcc) (s : State) : Done :=
  let c := cluster.val
  s.done (match s.macNext c with
    | none => s
    | some n =>
      match (s.core n).macx with
      | none => s
      | some m =>
        if ea == .shared || eb == .shared then (s.controlError 2 (12 + c) (coreReq n) m.a).clusterReset c
        else
          let s := (s.macRead n c m.a ea).macRead n c m.b eb
          let k := s.core n
          let v := macStep m.mode m.uns k.ac[m.ac] (s.mem.read m.a 64) (s.mem.read m.b 64)
          let p := k.acp[m.ac] || s.mem.poisoned m.a 64 || s.mem.poisoned m.b 64
          let last := decide (m.left ≤ 1)
          let s := s.setCore n { k.setAc m.ac v p with
            macSteps := k.macSteps + 1
            macx := if last then none else some { m with a := m.a + 64, b := m.b + 64, left := m.left - 1 }
            draining := k.draining && !last }
          let base := clusterBase c
          let same := (m.a - base) / 65536 == (m.b - base) / 65536
          let s := (if same then s.bump 0xA020 3 else s).bump 0xA020 4
          { s with sched.macLast := Tab.put s.sched.macLast c (n % 8) })

/-! ### Events, stops, windows, restarts -/

/-- ILLEGAL_INSTRUCTION. -/
def execIllegalInstruction (x : Issue) (w ext : BitVec 32) (s : State) : Done := s.done (s.illegalInstruction x w ext)

/-- EVENT_EXCEPTION. -/
def execEventException (n : Fin 132) (s : State) : Done := s.done (s.eventException n)

/-- TASK_STOP. -/
def execTaskStop (n : Fin 132) (s : State) : Done := s.done (s.taskStop n)

/-- WSYNC: a supervisor core's write. -/
def execWsync (n : Fin 132) (s : State) : Done := s.done (s.wsync n.val)

/-- CORE_RESTART: a supervisor core's write. -/
def execCoreRestart (n : Fin 132) (s : State) : Done := s.done (s.restartCore n.val)

end Sys2Proof.Machine
end

