-- ==== Sys2Proof/Machine/Buffers.lean ====
section
/-! DEFINITION. The buffer pool manager: pools, handles, allocation, reference counts (R535 to R546). -/
namespace Sys2Proof.Machine

/-- A pool never built. -/
def Pool.init : Pool := ⟨0, 0, 0, 1, [], []⟩

/-- A pool. -/
def State.pool (s : State) (p : Nat) : Pool := Tab.get s.bpm.pools Pool.init p

/-- A pool changed. -/
def State.setPool (s : State) (p : Nat) (x : Pool) : State := { s with bpm.pools := Tab.set s.bpm.pools Pool.init p x }

/-- A buffer after the build: free, generation 0. -/
def Buf.init : Buf := ⟨0, 0, 0⟩

/-- A buffer's state. -/
def State.buf (s : State) (p i : Nat) : Buf := Tab.get s.bpm.bufs Buf.init (p * 2 ^ 21 + i)

/-- A buffer's state changed. -/
def State.setBuf (s : State) (p i : Nat) (b : Buf) : State := { s with bpm.bufs := Tab.set s.bpm.bufs Buf.init (p * 2 ^ 21 + i) b }

/-- A handle, and its fields (R536). -/
def handleOf (p i g : Nat) : Nat := p * 2 ^ 26 + i * 2 ^ 5 + g
def handlePool (h : Nat) : Nat := bits h 26 6
def handleIndex (h : Nat) : Nat := bits h 5 21
def handleGen (h : Nat) : Nat := bits h 0 5

/-- Free buffers that stand in a pool's ring: those never issued, which came first, and those spilled. -/
def Pool.inRing (x : Pool) : Nat := x.size + 1 - x.fresh + x.ring.length

/-- The free handles a pool's hub cache and ring hold. -/
def Pool.hubFree (x : Pool) : Nat := x.cache.length + x.inRing

/-- Handles of pool 0 in the region caches. -/
def State.regionCached (s : State) : Nat := sumOf (fun (l : List Nat) => l.length) s.bpm.caches.toList

/-- The free handles of a pool, region caches included. -/
def State.poolFree (s : State) (p : Nat) : Nat := (s.pool p).hubFree + (if p = 0 then s.regionCached else 0)

/-- The pool's low-water event follows its condition (R547). -/
def State.poolLevel (s : State) (p : Nat) : State :=
  s.setLevel (evSrc (40 + p / 32) (p % 32)) ((s.pool p).state == 1 && decide (s.poolFree p < s.val (0xD010 + p) 3))

/-- The first `n` handles of a ring, and the pool without them. -/
def Pool.takeRing : Nat → Nat → Pool → List Nat × Pool
  | _, 0, x => ([], x)
  | p, n + 1, x =>
    if x.fresh ≤ x.size then
      let r := Pool.takeRing p n { x with fresh := x.fresh + 1 }
      (handleOf p x.fresh 0 :: r.1, r.2)
    else match x.ring with
      | h :: l =>
        let r := Pool.takeRing p n { x with ring := l }
        (h :: r.1, r.2)
      | [] => ([], x)

/-- A freed handle goes to the hub cache, the next one issued; a full cache spills back to the ring (R538). -/
def Pool.putBack (x : Pool) (h : Nat) : Pool :=
  let c := h :: x.cache
  if 448 < c.length then { x with cache := c.take 320, ring := x.ring ++ c.drop 320 } else { x with cache := c }

/-- A handle issued: count 1, the owner, and the owner's use of a tenant pool (R538, R540, log 163). -/
def State.issueHandle (s : State) (h fn : Nat) : State :=
  let p := handlePool h
  let s := s.setBuf p (handleIndex h) { s.buf p (handleIndex h) with count := 1, owner := fn }
  let s := if p = 0 then s else s.fbump fn 0x4020 1 1
  s.poolLevel p

/-- What an `ALLOC` ends in: a handle or null, or it waits for a refill (R538). -/
inductive Alloc where
  | got (s : State) (h : Nat)
  | wait

/-- An `ALLOC` at the hub. -/
def State.allocHub (s : State) (p fn : Nat) (tenant : Bool) : Alloc :=
  let x := s.pool p
  if x.state != 1 then .got s 0
  else match x.cache with
    | h :: l => .got ((s.setPool p { x with cache := l }).issueHandle h fn) h
    | [] => if x.inRing = 0 then .got (if tenant then s.bump (0xD010 + p) 6 else s) 0 else .wait

/-- A region's handle cache. -/
def State.regionCache (s : State) (r : Nat) : List Nat := (s.bpm.caches[r]?).getD []

/-- A region's handle cache changed. -/
def State.setRegionCache (s : State) (r : Nat) (l : List Nat) : State := { s with bpm.caches := s.bpm.caches.setIfInBounds r l }

/-- A region cache that holds fewer than 8 takes 16 handles from the hub cache (R539). -/
def State.regionRefill (s : State) (r : Nat) : State :=
  let l := s.regionCache r
  let x := s.pool 0
  if 8 ≤ l.length || x.state != 1 then s
  else (s.setPool 0 { x with cache := x.cache.drop 16 }).setRegionCache r (l ++ x.cache.take 16)

/-- The port of a core. -/
def State.bufPort (s : State) (n : Nat) : BufPort := Tab.get s.bpm.ports ⟨false, 0, 0, 0, 0⟩ n

/-- A null counted at a port. -/
def State.portNull (s : State) (n : Nat) : State :=
  let p := s.bufPort n
  { s with bpm.ports := Tab.put s.bpm.ports n { p with nulls := p.nulls + 1 } }

/-- An `ALLOC` through a core's port (R539, R540). -/
def State.allocPort (s : State) (n : Nat) : Alloc :=
  let q := s.bufPort n
  let null (a : Alloc) : Alloc :=
    match a with
    | .got t 0 => .got (t.portNull n) 0
    | x => x
  if q.tenant then
    if q.pool = 0 || (s.pool q.pool).state != 1 then null (.got s 0)
    else if s.fval q.fn 0x4010 2 ≤ s.fval q.fn 0x4020 1 then null (.got (s.fbump q.fn 0x4020 7 1) 0)
    else null (s.allocHub q.pool q.fn true)
  else if q.select = 0 && n < 128 then
    let r := coreRegion n
    let s := s.regionRefill r
    match s.regionCache r with
    | h :: l => .got (((s.setRegionCache r l).issueHandle h 0).regionRefill r) h
    | [] => null (s.allocHub 0 0 false)
  else null (s.allocHub q.select 0 false)

/-- A refused reference-count write (R542). -/
def State.refError (s : State) (p : Nat) : State := (s.bump (0xD010 + p) 7).fire (evSrc (45 + p / 32) (p % 32))

/-- Whether a handle names a buffer of a ready pool, of its present generation. -/
def State.handleOk (s : State) (h : Nat) : Bool :=
  let p := handlePool h
  let i := handleIndex h
  (s.pool p).state == 1 && decide (1 ≤ i) && decide (i ≤ (s.pool p).size) && (s.buf p i).gen == handleGen h

/-- Whether a requester may change a buffer's count: a tenant port only its own function's, and none of pool 0. -/
def State.mayCount (s : State) (h : Nat) (tenant : Option Nat) : Bool :=
  match tenant with
  | none => true
  | some fn => handlePool h != 0 && (s.buf (handlePool h) (handleIndex h)).owner == fn

/-- A buffer freed: its generation increases and its handle returns to the free store (R539, R542). -/
def State.freeBuf (s : State) (p i : Nat) (region : Option Nat) : State :=
  let b := s.buf p i
  let g := (b.gen + 1) % 32
  let s := s.setBuf p i { b with count := 0, gen := g }
  let s := if p = 0 then s else s.setFval b.owner 0x4020 1 (s.fval b.owner 0x4020 1 - 1)
  let h := handleOf p i g
  let s := match region with
    | some r =>
      if p = 0 && (s.regionCache r).length < 32 then s.setRegionCache r (h :: s.regionCache r)
      else s.setPool p ((s.pool p).putBack h)
    | none => s.setPool p ((s.pool p).putBack h)
  s.poolLevel p

/-- INC (R542). -/
def State.incRef (s : State) (h : Nat) (tenant : Option Nat) : State :=
  let p := handlePool h
  let i := handleIndex h
  let b := s.buf p i
  if s.handleOk h && s.mayCount h tenant && decide (b.count < 255) && h != 0 then s.setBuf p i { b with count := b.count + 1 }
  else s.refError p

/-- DEC (R542). -/
def State.decRef (s : State) (h : Nat) (tenant region : Option Nat) : State :=
  let p := handlePool h
  let i := handleIndex h
  let b := s.buf p i
  if s.handleOk h && s.mayCount h tenant && decide (0 < b.count) && h != 0 then
    if b.count = 1 then s.freeBuf p i region else s.setBuf p i { b with count := b.count - 1 }
  else s.refError p

/-- The tenant a core's port is bound to. -/
def State.portTenant (s : State) (n : Nat) : Option Nat := if (s.bufPort n).tenant then some (s.bufPort n).fn else none

/-- The region a core's frees go to. -/
def portRegion (n : Nat) : Option Nat := if n < 128 then some (coreRegion n) else none

/-- `QUERY_RESULT` (R545). -/
def State.queryResult (s : State) : Nat :=
  let h := s.bpm.query
  if s.handleOk h && h != 0 then
    let b := s.buf (handlePool h) (handleIndex h)
    b.count + b.owner * 2 ^ 8 + b.gen * 2 ^ 16 + 2 ^ 31
  else 0

/-- Whether a core reaches a register of the manager: the hub's are for supervisor cores (R545). -/
def AllocAt.reach (n : Nat) : AllocAt → Bool
  | .hub _ => isSupCore n
  | .port => true

/-- An `ALLOC` read by a core. -/
def State.allocAt (s : State) (n : Nat) : AllocAt → Alloc
  | .hub p => s.allocHub p.val 0 false
  | .port => s.allocPort n

/-- ALLOC: the handle read, or the read waits for a refill (R538). -/
def State.alloc (s : State) (n : Nat) (w : AllocAt) : State :=
  if !w.reach n then s
  else match s.allocAt n w with
    | .got t h => t.emit (.value n h)
    | .wait =>
      let pool := match w with
        | .hub p => p.val
        | .port => if (s.bufPort n).tenant then (s.bufPort n).pool else (s.bufPort n).select
      let via := match w with
        | .hub _ => false
        | .port => true
      if s.bpm.waiting.any fun x => x.core == n then s
      else { s with bpm.waiting := s.bpm.waiting ++ [AllocWait.mk pool n via] }

/-- One waiting `ALLOC` served. -/
def State.serveAlloc (s : State) (x : AllocWait) : State :=
  let w : AllocAt := if x.viaPort then .port else .hub (Fin.ofNat 64 x.pool)
  match s.allocAt x.core w with
  | .got t h => { t with bpm.waiting := t.bpm.waiting.filter fun (y : AllocWait) => y.core != x.core }.emit (.value x.core h)
  | .wait => s

/-- A hub cache that holds fewer than 128 takes 256 handles from its ring, and waiting reads are served (R538). -/
def State.hubRefill (s : State) (p : Nat) : State :=
  let x := s.pool p
  if x.state != 1 || decide (128 ≤ x.cache.length) || x.inRing = 0 then s
  else
    let t := Pool.takeRing p 256 x
    let s := s.setPool p { t.2 with cache := x.cache ++ t.1 }
    (s.bpm.waiting.filter fun w => w.pool == p).foldl (fun s w => s.serveAlloc w) s

/-- Whether pool 0 runs low while regions hold handles (R539). -/
def State.recallDue (s : State) : Bool := decide ((s.pool 0).hubFree < 128) && s.regionCached != 0

/-- A region's cached handles returned to the hub (R544). -/
def State.returnCache (s : State) (r : Nat) : State :=
  let l := s.regionCache r
  (s.setPool 0 (l.foldl (fun x h => x.putBack h) (s.pool 0))).setRegionCache r []

/-- REGION_CACHE_RECALL (R539). -/
def State.recallCaches (s : State) : State :=
  if s.recallDue then (List.range 4).foldl (fun s r => s.returnCache r) s else s

/-- Where pool 0 lies (log 20). -/
def poolBase0 : Nat := 16384 * (Config.poolPlace % 2 ^ 24)

/-- The pools built from their entries in force, every buffer free (R535). -/
def State.buildPools (s : State) : State :=
  let build (p : Nat) : Pool :=
    let size := s.force (0xD010 + p) 1
    let off := s.force (0xD010 + p) 2
    let fits := p == 0 || decide (off + size * 16384 ≤ s.pkg.slmSize)
    if size = 0 || !fits then Pool.init
    else ⟨if p = 0 then poolBase0 else slmOffset + off, size, 1, 1, [], []⟩
  let s := { s with bpm := ⟨true, [], [], Vector.replicate 4 [], [], [], 0⟩ }
  let s := (List.range 64).foldl (fun s p => s.setPool p (build p)) s
  (List.range 64).foldl (fun s p => s.poolLevel p) s

/-- Every buffer of a function freed, whatever its count (R544). -/
def State.freeOwned (s : State) (fn : Nat) : State :=
  (s.bpm.bufs.filter fun e => decide (2 ^ 21 ≤ e.1) && e.2.count != 0 && e.2.owner == fn).foldl
    (fun s e => s.freeBuf (e.1 / 2 ^ 21) (e.1 % 2 ^ 21) none) s

end Sys2Proof.Machine
end

