-- ==== Sys2Proof/Machine/Cipher.lean ====
section
/-! DEFINITION. The key vault, the cipher engine and the digest engine (R469 to R492). -/
namespace Sys2Proof.Machine

/-! ### The key vault (R479 to R485) -/

/-- A slot changed. -/
def State.setKeySlot (s : State) (k : Nat) (x : KeySlot) : State := { s with vault.slots := Tab.set s.vault.slots KeySlot.init k x }

/-- Random bytes of the package DRBG, which reseeds every 2^20 requests (R481). -/
def State.drbg (s : State) (n : Nat) : List Byte × State :=
  let (b, s) := s.random n
  let q := s.vault.requests + 1
  (padTo n b, { s with vault.requests := q % 2 ^ 20, vault.reseeds := s.vault.reseeds + (if q = 2 ^ 20 then 1 else 0) })

/-- Bytes of key material of a type. -/
def keyBytes (type : Nat) : Nat :=
  match type with
  | 1 => 16
  | 2 => 32
  | 3 => 32
  | 4 => 64
  | _ => 0

/-- The rights of a key, as bit numbers of `USAGE`. -/
def useXts : Nat := 0
def useGcmEnc : Nat := 1
def useGcmDec : Nat := 2
def useDataWrap : Nat := 3
def useKeyWrap : Nat := 4
def useExportable : Nat := 5

/-- Whether a type and usage can be a key's (R479); whether they ask for both kinds of wrapping. -/
def keyForm (type usage : Nat) : Bool := decide (1 ≤ type) && decide (type ≤ 4) && decide (1 ≤ usage) && decide (usage < 64)
def wrapsBoth (usage : Nat) : Bool := bit usage useDataWrap && bit usage useKeyWrap

/-- The handle of a slot. -/
def State.keyHandle (s : State) (k : Nat) : Nat := k + (s.keySlot k).gen.toNat * 2 ^ 12

/-- The slot a handle names for a queue: loaded, of that `GEN`, and the function's own or on a firmware queue (R479). -/
def State.namedSlot (s : State) (q : QSetup) (handle : Nat) : Option Nat :=
  let k := handle % 4096
  let x := s.keySlot k
  if x.loaded && x.gen.toNat == bits handle 12 8 && (!q.tenant || (decide (k < 3072) && x.owner == q.fn)) then some k else none

/-- The key a handle names, when its usage holds a bit and its type fits: the XTS types for XTS, the others for all else. -/
def State.keyFor (s : State) (q : QSetup) (handle use : Nat) : Option (List Byte) :=
  match s.namedSlot q handle with
  | some k =>
    let x := s.keySlot k
    if bit x.usage use && (decide (3 ≤ x.type) == (use == useXts)) then some x.key else none
  | none => none

/-- The general slots a function holds. -/
def State.keysHeld (s : State) (fn : Nat) : Nat :=
  sumOf (fun p => b2n (decide (p.1 < 3072) && p.2.loaded && p.2.owner == fn)) s.vault.slots

/-- The free general slots. -/
def State.freeKeys (s : State) : Nat := 3072 - sumOf (fun p => b2n (decide (p.1 < 3072) && p.2.loaded)) s.vault.slots

/-- A key loaded into a slot. -/
def State.loadKey (s : State) (k type usage owner : Nat) (key : List Byte) : State :=
  s.setKeySlot k { s.keySlot k with loaded := true, type := type, usage := usage, owner := owner, key := key }

/-- A slot unloaded: the key cleared and `GEN` increased (R482). -/
def State.unloadKey (s : State) (k : Nat) : State := s.setKeySlot k { KeySlot.init with gen := (s.keySlot k).gen + 1 }

/-- Every general slot a function holds unloaded (R187). -/
def State.unloadKeys (s : State) (fn : Nat) : State :=
  (s.vault.slots.filter fun p => decide (p.1 < 3072) && p.2.loaded && p.2.owner == fn).foldl (fun (s : State) p => s.unloadKey p.1) s

/-- The data key of a namespace drawn and loaded into its storage slot (R483). -/
def State.drawStorageKey (s : State) (nsid : Nat) : State :=
  let type := s.val 0xB300 3
  let (key, s) := s.drbg (keyBytes type)
  let s := s.loadKey (3071 + nsid) type 1 0 key
  { s with vault.table := Tab.put s.vault.table (3071 + nsid) (s.keySlot (3071 + nsid)) }

/-- The storage slot of a deleted namespace cleared. -/
def State.dropStorageKey (s : State) (nsid : Nat) : State :=
  let s := s.unloadKey (3071 + nsid)
  { s with vault.table := Tab.erase s.vault.table (3071 + nsid) }

/-- The storage slots loaded from the table at start-up, before step 9 (R483). -/
def State.loadStorageKeys (s : State) : State :=
  { s with vault.slots := Tab.putAll s.vault.slots s.vault.table, vault.storageLoaded := true }

/-- The vault after a package reset: every slot cleared, an import key pair and a context key drawn (R481, R482, R490). -/
def State.resetVault (s : State) : State :=
  let s := { s with vault := { Vault.init with table := s.vault.table } }
  let (priv, s) := s.drbg 48
  let (ctx, s) := s.drbg 32
  { s with vault.importPrivate := priv, vault.importPublic := padTo 97 (Config.publicKey priv), vault.contextKey := ctx }

/-- The clear form of a wrapped key: attribute block and key (R480). -/
def keyBlock (type usage : Nat) (key : List Byte) : List Byte := [BitVec.ofNat 8 type, BitVec.ofNat 8 usage] ++ List.replicate 6 0 ++ key

/-- What an unwrapped key block says, when it is well formed. -/
def openBlock (b : List Byte) : Option (Nat × Nat × List Byte) :=
  let type := (byteAt b 0).toNat
  let usage := (byteAt b 1).toNat
  if keyForm type usage && (slice b 2 6).all (· == 0) && b.length == 8 + keyBytes type then some (type, usage, b.drop 8) else none

/-! ### Descriptors (R491) -/

/-- The fields every descriptor of the two engines has in order. Each operation also asks that the fields it does not use be zero (R6). -/
def cipherForm (d : EDesc) : Bool := bits d.raw 12 2 == 0 && d.zero 14 2 && d.zero 22 2 && d.zero 38 2 && d.zero 46 2

/-- DW2 to DW7: bytes done and a handle. -/
def cipherDws (done handle : Nat) : List Nat := [done, handle, 0, 0, 0, 0]

/-- `POISONED` in DW0. -/
def poisonedFlag (p : Bool) : Nat := b2n p * 2 ^ 27

/-- An ending with a status, bytes done and the poison flag, which leaves no message open. -/
def cipherEnd (status done : Nat) (poisoned : Bool) : Ending :=
  { Ending.of status with flags := poisonedFlag poisoned, dws := cipherDws done 0 }

/-- Whether a one-descriptor message is marked as one, and whether it meets an open message (R471). -/
def State.soleCheck (s : State) (qk : Nat) (d : EDesc) (form : Bool) : Option Nat :=
  if !(form && cipherForm d && d.first && d.last) then some 0x09
  else if (s.equeue qk).message.isSome then some 0x0A
  else none

/-- A check or the effect. -/
def State.orEnd (s : State) (qk : Nat) (d : EDesc) (c : Option Nat) (f : State) : State :=
  match c with
  | some st => s.endNow qk d (Ending.of st)
  | none => f

/-- The steps of output that a pipe makes in blocks of 16 bytes, marked from byte `from_` on. -/
def blockSteps (addr : Nat) (out : List Byte) (from_ : Option Nat) : List (List Chunk) :=
  let bs := cutBlocks 16 (ceilDiv out.length 16) out
  (List.zip (List.range bs.length) bs).map fun p =>
    [⟨addr + 16 * p.1, p.2, match from_ with
      | some k => decide (k ≤ 16 * p.1)
      | none => false⟩]

/-! ### XTS (R473, R475) -/

/-- The tweak of a descriptor. -/
def xtsTweak (d : EDesc) : Nat := d.f 52 7 + 2 ^ 64 * d.f 48 4 + (if d.bit 472 then 2 ^ 127 else 0)

/-- XTS_ENC and XTS_DEC. With `CHECK_BLOCK` the input is the 16-byte `CHECK` field (log 57). -/
def State.xtsOp (s : State) (ek : Nat) (enc : Bool) : State :=
  match s.takeHead ek (if enc then 0 else 1) (if enc then 0x01 else 0x02) with
  | none => s
  | some (qk, d) =>
    let n := d.f 4 4
    let form := decide (16 ≤ n) && decide (n ≤ 65536) && bits (d.f 59 1) 1 7 == 0 && d.zero 60 4 && bits (d.f 24 4) 20 12 == 0 && d.zero 28 20 &&
      (!d.bit 472 || n == 16)
    s.orEnd qk d (s.soleCheck qk d form) <|
    if d.setup.tenant then s.endNow qk d (Ending.of 0x08)
    else s.orEnd qk d (s.checkBuffers .cipher d.setup [(d.addr 8, n, false), (d.addr 16, n, true)]) <|
    match s.keyFor d.setup (d.f 24 4) useXts with
    | none => s.endNow qk d (Ending.of 0x05)
    | some key =>
      let bad := !(s.badBytes (d.addr 8) n).isEmpty
      let out := xts enc key (xtsTweak d) (s.payload (d.addr 8) n)
      s.startJob qk (if enc then 0 else 1) d (blockSteps (d.addr 16) out (if bad then some 0 else none))
        (cipherEnd (if bad then 0x04 else 0) n bad)

/-! ### GCM (R476 to R478) -/

/-- The checks of a GCM descriptor's fields and of the queue's message (R471, R476). -/
def State.gcmCheck (s : State) (qk : Nat) (d : EDesc) : Option Nat :=
  let n := d.f 4 4
  let aux := d.f 28 4
  let tag := d.f 60 1
  let m := (s.equeue qk).message
  let so := match m with
    | some x => if d.first then 0 else x.text.length
    | none => 0
  if !(cipherForm d && d.zero 61 3 && bits (d.f 24 4) 20 12 == 0 && decide (n ≤ 2 ^ 24) && (d.last || n % 16 == 0) &&
      (if d.first then decide (aux ≤ 2 ^ 20) && decide (12 ≤ tag) && decide (tag ≤ 16) else aux == 0) &&
      decide (so + n ≤ 2 ^ 36 - 32)) then some 0x09
  else match m with
    | some x => if d.first || x.algorithm != d.opcode then some 0x0A else none
    | none => if d.first then none else some 0x0A

/-- The message a GCM descriptor works on: the open one, or the one it opens. -/
def State.gcmMessage (s : State) (qk : Nat) (d : EDesc) : Message :=
  match (s.equeue qk).message with
  | some m => m
  | none => ⟨d.opcode, false, d.bytes 48 12, d.f 60 1, s.payload (d.addr 32) (d.f 28 4), 0, [], [], false, none⟩

/-- A message that goes on past its first descriptor takes a context slot as that starts (R471). -/
def State.holdSlot (s : State) (qk : Nat) (d : EDesc) (m : Message) : Message × State :=
  if !d.first || d.last then (m, s)
  else
    let m := { m with slot := s.ctxSlot (qk / 64) 8 64 }
    (m, s.onQueue qk fun q => { q with message := some m })

/-- GCM_ENC and GCM_DEC. -/
def State.gcmOp (s : State) (ek : Nat) (enc : Bool) : State :=
  let pipe := if enc then 0 else 1
  match s.takeHead ek pipe (if enc then 0x10 else 0x11) with
  | none => s
  | some (qk, d) =>
    s.orEnd qk d (s.gcmCheck qk d) <|
    let n := d.f 4 4
    let m := s.gcmMessage qk d
    let tagB := if d.last then [(d.addr 40, m.tagLen, enc)] else []
    s.orEnd qk d (s.checkBuffers .cipher d.setup
      ([(d.addr 8, n, false), (d.addr 16, n, true), (d.addr 32, d.f 28 4, false)] ++ tagB)) <|
    match s.keyFor d.setup (d.f 24 4) (if enc then useGcmEnc else useGcmDec) with
    | none => s.endNow qk d (Ending.of 0x05)
    | some key =>
      let (m, s) := s.holdSlot qk d m
      let data := s.payload (d.addr 8) n
      let auxBad := !(s.badBytes (d.addr 32) (d.f 28 4)).isEmpty
      let tagBad := d.last && !enc && !(s.badBytes (d.addr 40) m.tagLen).isEmpty
      let from_ := if auxBad then some 0 else (s.badBytes (d.addr 8) n).head?.map fun i => i / 16 * 16
      let bad := from_.isSome || tagBad
      let out := gcmStream key m.iv (m.text.length / 16) data
      let text := m.text ++ (if enc then out else data)
      let tag := (gcmTag key m.iv m.aad text).take m.tagLen
      let status := if bad then 0x04
        else if d.last && !enc && s.payload (d.addr 40) m.tagLen != tag then 0x03
        else 0
      s.startJob qk pipe d (blockSteps (d.addr 16) out from_)
        { cipherEnd status n bad with
          writes := if d.last && enc then [⟨d.addr 40, tag, bad⟩] else []
          message := if status = 0 && !d.last then some { m with text := text } else none }

/-! ### Key wrap and the key operations (R473, R480 to R482) -/

/-- Whether a length is 16 to 4,096 bytes and a multiple of 8. -/
def kwLen (n : Nat) : Bool := decide (16 ≤ n) && decide (n ≤ 4096) && n % 8 == 0

/-- KW_WRAP and KW_UNWRAP: never suspended, so they end in the step that starts them. -/
def State.kwOp (s : State) (ek : Nat) (wrap : Bool) : State :=
  match s.takeHead ek 0 (if wrap then 0x20 else 0x21) with
  | none => s
  | some (qk, d) =>
    let n := d.f 4 4
    s.orEnd qk d (s.soleCheck qk d (kwLen n && d.zero 28 36 && bits (d.f 24 4) 20 12 == 0)) <|
    s.orEnd qk d (s.checkBuffers .cipher d.setup [(d.addr 8, n, false), (d.addr 16, if wrap then n + 8 else n - 8, true)]) <|
    match s.keyFor d.setup (d.f 24 4) useDataWrap with
    | none => s.endNow qk d (Ending.of 0x05)
    | some key =>
      let data := s.payload (d.addr 8) n
      if !(s.badBytes (d.addr 8) n).isEmpty then s.endNow qk d (cipherEnd 0x04 n true)
      else if wrap then s.endNow qk d { cipherEnd 0 n false with writes := [⟨d.addr 16, kwWrap key data, false⟩] }
      else match kwUnwrap key data with
        | some x => s.endNow qk d { cipherEnd 0 n false with writes := [⟨d.addr 16, x, false⟩] }
        | none => s.endNow qk d (cipherEnd 0x03 n false)

/-- Whether a function's rules permit a key operation (R481): 0 import, 1 generate, 2 export. Firmware queues are bound by none. -/
def State.vaultAllows (s : State) (q : QSetup) (b : Nat) : Bool := !q.tenant || bit (s.fval q.fn 0xB310 1) b

/-- A key loaded into the lowest free general slot (R481); a quota refusal counts (R178). -/
def State.finishLoad (s : State) (qk : Nat) (d : EDesc) (type usage : Nat) (key : List Byte) (done : Nat) : State :=
  let fn := d.setup.fn
  if d.setup.tenant && decide (s.fval fn 0x4010 6 ≤ s.keysHeld fn) then (s.fbump fn 0x4020 7 1).endNow qk d (cipherEnd 0x06 done false)
  else match (List.range 3072).find? fun k => !(s.keySlot k).loaded with
    | none => s.endNow qk d (cipherEnd 0x07 done false)
    | some k =>
      let s := s.loadKey k type usage fn key
      s.endNow qk d { cipherEnd 0 done false with dws := cipherDws done (s.keyHandle k) }

/-- A wrapped key opened under a wrapping key and loaded. -/
def State.loadWrapped (s : State) (qk : Nat) (d : EDesc) (kek wrapped : List Byte) (done : Nat) : State :=
  match (kwUnwrap kek wrapped).bind openBlock with
  | none => s.endNow qk d (cipherEnd 0x03 done false)
  | some (type, usage, key) =>
    if wrapsBoth usage then s.endNow qk d (cipherEnd 0x09 0 false) else s.finishLoad qk d type usage key done

/-- The lengths of wrapped keys. -/
def wrappedLen (n : Nat) : Bool := n == 32 || n == 48 || n == 80

/-- KEY_IMPORT: a key wrapped under a secret agreed with the vault import key. -/
def State.keyImport (s : State) (ek : Nat) : State :=
  match s.takeHead ek 0 0x30 with
  | none => s
  | some (qk, d) =>
    let n := d.f 4 4
    s.orEnd qk d (s.soleCheck qk d (decide (97 ≤ n) && wrappedLen (n - 97) && d.zero 16 48)) <|
    if !s.vaultAllows d.setup 0 then s.endNow qk d (Ending.of 0x08)
    else s.orEnd qk d (s.checkBuffers .cipher d.setup [(d.addr 8, n, false)]) <|
    if !(s.badBytes (d.addr 8) n).isEmpty then s.endNow qk d (cipherEnd 0x04 n true)
    else
      let data := s.payload (d.addr 8) n
      let secret := Config.ecdh s.vault.importPrivate (data.take 97)
      let kek := hkdf384 secret (("DXL-VAULT".toList.map fun c => BitVec.ofNat 8 c.toNat) ++ [BitVec.ofNat 8 d.setup.fn]) 32
      s.loadWrapped qk d kek (data.drop 97) n

/-- KEY_UNWRAP_LOAD: a key wrapped under a `KEYWRAP` key of the vault. -/
def State.keyUnwrapLoad (s : State) (ek : Nat) : State :=
  match s.takeHead ek 0 0x31 with
  | none => s
  | some (qk, d) =>
    let n := d.f 4 4
    s.orEnd qk d (s.soleCheck qk d (wrappedLen n && d.zero 16 8 && d.zero 28 36 && bits (d.f 24 4) 20 12 == 0)) <|
    if !s.vaultAllows d.setup 0 then s.endNow qk d (Ending.of 0x08)
    else s.orEnd qk d (s.checkBuffers .cipher d.setup [(d.addr 8, n, false)]) <|
    match s.keyFor d.setup (d.f 24 4) useKeyWrap with
    | none => s.endNow qk d (Ending.of 0x05)
    | some kek =>
      if !(s.badBytes (d.addr 8) n).isEmpty then s.endNow qk d (cipherEnd 0x04 n true)
      else s.loadWrapped qk d kek (s.payload (d.addr 8) n) n

/-- KEY_GENERATE: a key drawn from the DRBG. -/
def State.keyGenerate (s : State) (ek : Nat) : State :=
  match s.takeHead ek 0 0x32 with
  | none => s
  | some (qk, d) =>
    let type := d.f 52 1
    let usage := d.f 53 1
    s.orEnd qk d (s.soleCheck qk d (keyForm type usage && !wrapsBoth usage && d.zero 4 48 && d.zero 54 10)) <|
    if !s.vaultAllows d.setup 1 then s.endNow qk d (Ending.of 0x08)
    else
      let (key, s) := s.drbg (keyBytes type)
      s.finishLoad qk d type usage key 0

/-- KEY_EXPORT: an `EXPORTABLE` key wrapped under a `KEYWRAP` key. -/
def State.keyExport (s : State) (ek : Nat) : State :=
  match s.takeHead ek 0 0x33 with
  | none => s
  | some (qk, d) =>
    s.orEnd qk d (s.soleCheck qk d (d.zero 4 12 && d.zero 28 20 && d.zero 52 12 && bits (d.f 24 4) 20 12 == 0 && bits (d.f 48 4) 20 12 == 0)) <|
    if !s.vaultAllows d.setup 2 then s.endNow qk d (Ending.of 0x08)
    else match s.keyFor d.setup (d.f 24 4) useKeyWrap, s.namedSlot d.setup (d.f 48 4) with
      | some kek, some k =>
        let x := s.keySlot k
        let out := kwWrap kek (keyBlock x.type x.usage x.key)
        if !bit x.usage useExportable then s.endNow qk d (Ending.of 0x05)
        else s.orEnd qk d (s.checkBuffers .cipher d.setup [(d.addr 16, out.length, true)]) <|
          s.endNow qk d { cipherEnd 0 0 false with writes := [⟨d.addr 16, out, false⟩] }
      | _, _ => s.endNow qk d (Ending.of 0x05)

/-- KEY_UNLOAD: the slot is cleared once nothing in a pipe names it (R482). -/
def State.keyUnload (s : State) (ek : Nat) : State :=
  match s.takeHead ek 0 0x34 with
  | none => s
  | some (qk, d) =>
    s.orEnd qk d (s.soleCheck qk d (d.zero 4 20 && d.zero 28 36 && bits (d.f 24 4) 20 12 == 0)) <|
    match s.namedSlot d.setup (d.f 24 4) with
    | some k => (s.unloadKey k).endNow qk d (cipherEnd 0 0 false)
    | none => s.endNow qk d (Ending.of 0x05)

/-! ### Digests (R486 to R490) -/

/-- Bytes of a hash block. -/
def hashBlock (alg : Nat) : Nat :=
  match alg with
  | 0 => 64
  | 1 => 128
  | 2 => 136
  | _ => 16

/-- Bytes of a digest. -/
def digestLen (alg : Nat) : Nat :=
  match alg with
  | 0 => 32
  | 1 => 64
  | 2 => 32
  | 3 => 4
  | _ => 8

/-- The chaining state of an empty message. -/
def hashInit (alg : Nat) : List Nat :=
  match alg with
  | 0 => sha256Iv
  | 1 => sha512Iv
  | 2 => List.replicate 25 0
  | 3 => [0xFFFFFFFF]
  | _ => [0xFFFFFFFFFFFFFFFF]

/-- Bytes absorbed: whole blocks change the chaining state, the rest waits. -/
def Message.absorb (m : Message) (data : List Byte) : Message :=
  let all := m.text ++ data
  let b := hashBlock m.algorithm
  let n := all.length / b
  let bs := cutBlocks b n (all.take (b * n))
  let m := { m with absorbed := m.absorbed + data.length }
  match m.algorithm with
  | 0 => { m with chain := bs.foldl (shaBlock sha256P) m.chain, text := all.drop (b * n) }
  | 1 => { m with chain := bs.foldl (shaBlock sha512P) m.chain, text := all.drop (b * n) }
  | 2 => { m with chain := bs.foldl sha3Absorb m.chain, text := all.drop (b * n) }
  | 3 => { m with chain := [all.foldl (crcByte 0x82F63B78) (nth m.chain 0)], text := [] }
  | _ => { m with chain := [all.foldl (crcByte 0x9A6C9329AC4BC9B5) (nth m.chain 0)], text := [] }

/-- The digest of what has been absorbed. -/
def Message.digest (m : Message) : List Byte :=
  match m.algorithm with
  | 0 => (m.absorb (shaPad sha256P m.absorbed)).chain.flatMap fun w => beBytes 4 w
  | 1 => (m.absorb (shaPad sha512P m.absorbed)).chain.flatMap fun w => beBytes 8 w
  | 2 =>
    let z := 136 - m.text.length
    let pad : List Byte := if z = 1 then [0x86] else 0x06 :: List.replicate (z - 2) 0 ++ [0x80]
    ((m.absorb pad).chain.take 4).flatMap fun w => leBytes 8 w
  | 3 => leBytes 4 (nth m.chain 0 ^^^ 0xFFFFFFFF)
  | _ => leBytes 8 (nth m.chain 0 ^^^ 0xFFFFFFFFFFFFFFFF)

/-- A message a `FIRST` opens. -/
def Message.opened (alg : Nat) (keyed : Bool) : Message := ⟨alg, keyed, [], 0, [], 0, hashInit alg, [], false, none⟩

/-- The checks of a `HASH` descriptor (R471, R487, R491). -/
def State.hashCheck (s : State) (qk : Nat) (d : EDesc) : Option Nat :=
  let m := (s.equeue qk).message
  if !(cipherForm d && d.zero 24 16 && decide (d.f 4 4 ≤ 2 ^ 24) && bits (d.f 49 1) 2 6 == 0 && d.zero 50 14 &&
      (!d.first || decide (d.f 48 1 ≤ 4))) then some 0x09
  else if d.first == m.isSome then some 0x0A
  else none

/-- HASH: input absorbed; at `LAST` the digest is written or compared (R487 to R489). -/
def State.hashOp (s : State) (ek : Nat) : State :=
  match s.takeHead ek 0 0x01 with
  | none => s
  | some (qk, d) =>
    s.orEnd qk d (s.hashCheck qk d) <|
    let n := d.f 4 4
    let m := ((s.equeue qk).message).getD (Message.opened (d.f 48 1) (d.bit 392))
    let len := digestLen m.algorithm
    let compare := d.last && d.bit 393
    let lastB := if compare then [(d.addr 40, len, false)] else if d.last then [(d.addr 16, len, true)] else []
    s.orEnd qk d (s.checkBuffers .digest d.setup ((d.addr 8, n, false) :: lastB)) <|
    let (m, s) := s.holdSlot qk d m
    let bad := m.poisoned || !(s.badBytes (d.addr 8) n).isEmpty || (compare && !(s.badBytes (d.addr 40) len).isEmpty)
    let m' := { m.absorb (s.payload (d.addr 8) n) with poisoned := bad }
    let steps := List.replicate (ceilDiv n (hashBlock m.algorithm)) []
    let value : List Byte := m'.digest
    if !d.last then s.startJob qk 0 d steps { cipherEnd 0 n bad with message := some m' }
    else if bad then (s.engConsumed qk (d.addr 8)).startJob qk 0 d steps (cipherEnd 0x04 n true)
    else if compare then
      s.startJob qk 0 d steps (cipherEnd (if s.payload (d.addr 40) len == value then 0x01 else 0x02) n false)
    else s.startJob qk 0 d steps { cipherEnd 0 n false with writes := [⟨d.addr 16, value, false⟩] }

/-- Words of a chaining state in an exported state: bytes of each. -/
def chainWord (alg : Nat) : Nat :=
  match alg with
  | 0 => 4
  | 3 => 4
  | _ => 8

/-- The 256 bytes of a state (R490). Chaining words are little-endian, the partial block follows them; for SHA3-256, whose state fills
the room, it is XORed into the state instead (log 62). -/
def Message.bytes (m : Message) : List Byte :=
  let chain := m.chain.flatMap fun w => leBytes (chainWord m.algorithm) w
  let body := if m.algorithm = 2 then xorBytes chain (padTo 200 m.text) else chain ++ m.text
  [BitVec.ofNat 8 m.algorithm, BitVec.ofNat 8 (b2n m.keyed)] ++ List.replicate 6 0 ++ leBytes 8 m.absorbed ++ padTo 200 body ++
    List.replicate 40 0

/-- The message a state holds, none of a state that is none of the five algorithms'. For SHA3-256 the bytes of the partial block stand in
the state, and what follows is absorbed over them. -/
def openState (b : List Byte) : Option Message :=
  let alg := (byteAt b 0).toNat
  if 4 < alg then none
  else
    let w := chainWord alg
    let n := (hashInit alg).length
    let absorbed := ofLe (slice b 8 8)
    let chain := (List.range n).map fun i => ofLe (slice b (16 + w * i) w)
    let part := if alg ≤ 1 then slice b (16 + w * n) (absorbed % hashBlock alg)
      else if alg = 2 then List.replicate (absorbed % 136) 0 else []
    some ⟨alg, byteAt b 1 == 1, [], 0, [], absorbed, chain, part, false, none⟩

/-- CTX_EXPORT: the open message's state written, wrapped when it is keyed; the message stays open. -/
def State.ctxExport (s : State) (ek : Nat) : State :=
  match s.takeHead ek 0 0x10 with
  | none => s
  | some (qk, d) =>
    if !(cipherForm d && d.zero 4 12 && d.zero 24 40) then s.endNow qk d (Ending.of 0x09)
    else match (s.equeue qk).message with
      | none => s.endNow qk d (Ending.of 0x0A)
      | some m =>
        let out := if m.keyed then kwWrap s.vault.contextKey m.bytes else m.bytes
        s.orEnd qk d (s.checkBuffers .digest d.setup [(d.addr 16, out.length, true)]) <|
          s.endNow qk d { cipherEnd 0 0 false with writes := [⟨d.addr 16, out, m.poisoned⟩], message := some m }

/-- CTX_IMPORT: a message opened from a state (R490). `LEN` is the state's length; `FIRST` and `LAST` are not looked at, as in `CTX_EXPORT`
(log 152). -/
def State.ctxImport (s : State) (ek : Nat) : State :=
  match s.takeHead ek 0 0x11 with
  | none => s
  | some (qk, d) =>
    let keyed := d.bit 392
    let n := if keyed then 264 else 256
    if !(cipherForm d && d.f 4 4 == n && d.zero 16 33 && bits (d.f 49 1) 1 7 == 0 && d.zero 50 14) then s.endNow qk d (Ending.of 0x09)
    else if (s.equeue qk).message.isSome then s.endNow qk d (Ending.of 0x0A)
    else s.orEnd qk d (s.checkBuffers .digest d.setup [(d.addr 8, n, false)]) <|
      let raw := s.payload (d.addr 8) n
      let state := if keyed then kwUnwrap s.vault.contextKey raw else some raw
      match (state.filter fun b => byteAt b 1 == (if keyed then 1 else 0)).bind openState with
      | none => s.endNow qk d (cipherEnd 0x03 n false)
      | some m =>
        let m := { m with slot := s.ctxSlot (qk / 64) 8 64, poisoned := !(s.badBytes (d.addr 8) n).isEmpty }
        s.endNow qk d { cipherEnd 0 n false with message := some m }

end Sys2Proof.Machine
end

