-- ==== Sys2Proof/Machine/EventCtl.lean ====
section
/-! DEFINITION. The event controller's registers: claim, complete, enable, pending, targets, hold-off (R548 to R555). -/
namespace Sys2Proof.Machine

/-- A source's active bit written. -/
def State.setActive (s : State) (src : Nat) (b : Bool) : State := { s with ev.active := setSrc s.ev.active src b }

/-- A read of a target's `CLAIM` (R550): the source becomes active and loses its latch; none is the spurious identifier. -/
def State.claim (s : State) (t : Nat) : State × Nat :=
  match s.ev.best t with
  | none => (s.bump 0xD190 2, 0xFFF)
  | some src =>
    let s := s.setActive src true
    let s := if isLevel src then s else { s with ev.latch := setSrc s.ev.latch src false }
    ((s.bump 0xD190 1).refreshLines, src + 4096 * bits (s.ev.targetReg src) 8 4)

/-- A target register written while its source was active takes effect (R548). -/
def State.takeTarget (s : State) (src : Nat) : State :=
  match Tab.find s.ev.nextTarget src with
  | none => s
  | some v =>
    { s with
      ev.target := Tab.set s.ev.target (0xFF : BitVec 32) src v
      ev.nextTarget := Tab.erase s.ev.nextTarget src }

/-- A write of `COMPLETE` of a target (R550): a source that is pending again becomes claimable again. -/
def State.complete (s : State) (t src : Nat) : State :=
  if src < 2048 ∧ srcBit s.ev.active src ∧ s.ev.targetOf src = t then ((s.setActive src false).takeTarget src).arm src
  else s.bump 0xD190 3

/-- A source's target register written; that of an active source waits for its completion (R548). -/
def State.writeTarget (s : State) (src v : Nat) : State :=
  let v := BitVec.ofNat 32 (v % 2 ^ 19)
  if srcBit s.ev.active src then { s with ev.nextTarget := Tab.put s.ev.nextTarget src v }
  else ({ s with ev.target := Tab.set s.ev.target (0xFF : BitVec 32) src v }.arm src).refreshLines

/-- A source's target register as it was last written. -/
def State.readTarget (s : State) (src : Nat) : Nat := (Tab.get s.ev.nextTarget (Tab.get s.ev.target 0xFF src) src).toNat

/-- The sources of a group among some bits. -/
def groupSources (g v : Nat) : List Nat := (bitList 32 v).map (evSrc g)

/-- `ENABLE` written: sources that are pending become claimable or wait. -/
def State.writeEnable (s : State) (g v : Nat) : State :=
  let fresh := v &&& (2 ^ 32 - 1 - groupReg s.ev.enable g)
  let s := { s with ev.enable := setGroup s.ev.enable g v }
  ((groupSources g fresh).foldl (fun s src => s.arm src) s).refreshLines

/-- The level bits of a group (R547). -/
def levelMask (g : Nat) : Nat := sumOf (fun b => if isLevel (evSrc g b) then 2 ^ b else 0) (List.range 32)

/-- `PENDING` read: pulse latches and level conditions (R552). -/
def State.readPending (s : State) (g : Nat) : Nat :=
  let m := levelMask g
  (groupReg s.ev.latch g &&& (2 ^ 32 - 1 - m)) ||| (groupReg s.ev.level g &&& m)

/-- PENDING_WRITE: each pulse latch takes the value written; level bits are ignored (R552). -/
def State.writePending (s : State) (g v : Nat) : State :=
  let v := v &&& (2 ^ 32 - 1 - levelMask g)
  let old := groupReg s.ev.latch g
  let fresh := v &&& (2 ^ 32 - 1 - old)
  let gone := old &&& (2 ^ 32 - 1 - v)
  let s := { s with
    ev.latch := setGroup s.ev.latch g v
    ev.waiting := setGroup s.ev.waiting g (groupReg s.ev.waiting g &&& (2 ^ 32 - 1 - gone)) }
  ((groupSources g fresh).foldl (fun s src => s.arm src) s).refreshLines

/-- `HOLDOFF` written: the ticks. -/
def State.writeHoldoff (s : State) (g v : Nat) : State := { s with ev.holdoff := s.ev.holdoff.setIfInBounds g (BitVec.ofNat 16 v) }

/-- `HOLDOFF` read: the ticks, and whether the timer runs. -/
def State.readHoldoff (s : State) (g : Nat) : Nat :=
  ((s.ev.holdoff[g]?).getD 0).toNat + b2n ((s.ev.timer[g]?).getD none).isSome * 2 ^ 31

/-- HOLDOFF_EXPIRY: the waiting sources become claimable together and the timer restarts; with none waiting it stops (R551). -/
def State.holdoffExpiry (s : State) (g : Nat) : State :=
  match (s.ev.timer[g]?).getD none with
  | none => s
  | some t =>
    if s.since t < ((s.ev.holdoff[g]?).getD 0).toNat then s
    else
      let w := groupReg s.ev.waiting g &&& s.readPending g &&& groupReg s.ev.enable g
      let s := { s with
        ev.waiting := setGroup s.ev.waiting g 0
        ev.timer := s.ev.timer.setIfInBounds g (if w = 0 then none else some s.pkg.timebase) }
      (groupSources g w).foldl (fun s src => s.notify src) s

end Sys2Proof.Machine
end

