-- ==== Sys2Proof/Machine/Mmio.lean ====
section
/-! DEFINITION. The registers cores reach in the hub and region MMIO ranges (R39, R40, R193, R235, R385, R408, R467, R485, R494, R516, R517,
R545, R546, R555). -/
namespace Sys2Proof.Machine

/-- How an MMIO read ends: a value, a bus error, or not yet. -/
inductive Mread where
  | ok (s : State) (v : Nat)
  | error
  | wait (s : State)

/-- The 32 bits of a 64-bit register at its offset 0 or 4. -/
def halfOf (v : Nat) (hi : Bool) : Nat := if hi then v / 2 ^ 32 % 2 ^ 32 else v % 2 ^ 32

/-- A 64-bit register with one half written. -/
def withHalf (v : Nat) (hi : Bool) (w : Nat) : Nat :=
  if hi then (w % 2 ^ 32) * 2 ^ 32 + v % 2 ^ 32 else v / 2 ^ 32 * 2 ^ 32 + w % 2 ^ 32

/-- Bits `hi` to `lo` of a register, the others 0. -/
def keepBits (v lo hi : Nat) : Nat := bits v lo (hi + 1 - lo) * 2 ^ lo

/-! ### Engines (R467, R494, R516) -/

/-- `RANGE_LIMIT` as it reads. -/
def QRange.limitReg (g : QRange) : Nat := keepBits g.limit.toNat 6 47 + 2 * b2n g.wr + b2n g.rd

/-- A range of a queue. -/
def QSetup.range (q : QSetup) (k : Nat) : QRange := (q.ranges[k]?).getD ⟨0, 0, false, false⟩

/-- `CTX_OWNER` or `Q_OWNER`. -/
def EQueue.owner (q : EQueue) : Nat := b2n q.assigned + 2 * b2n q.setup.tenant + 2 ^ 8 * q.setup.fn

/-- A 64-bit register of a queue's supervisor page, by its offset in the page (0x00–0x7F, the low half). -/
def EQueue.pageReg (k : EngKind) (q : EQueue) (off : Nat) : Nat :=
  if off = 0x00 then q.owner
  else if off = 0x08 then (if k = .comp then q.setup.histBase else 0)
  else if off = 0x10 then (if k = .comp then q.setup.histLimit else 0)
  else if 0x20 ≤ off ∧ off < 0x60 then
    let g := q.setup.range ((off - 0x20) / 16)
    if off % 16 = 0 then g.base.toNat else g.limitReg
  else if off = 0x60 then q.descBase
  else if off = 0x68 then q.cplBase
  else if off = 0x70 then (if k = .pat then q.setup.resBase else 0)
  else 0

/-- Whether a queue's ring bases may change: rings empty, and nothing open. -/
def EQueue.idle (q : EQueue) : Bool :=
  q.queue.isEmpty && q.descHead == q.descTail && q.cplHead == q.cplTail && q.ctx.state == .closed && q.message.isNone && q.cursor.isNone && q.scan.isNone

/-- A queue's range with a register written. -/
def EQueue.setRange (q : EQueue) (k : Nat) (limit : Bool) (v : Nat) : EQueue :=
  let g := q.setup.range k
  let g := if limit then { g with limit := BitVec.ofNat 48 (keepBits v 6 47), wr := bit v 1, rd := bit v 0 }
    else { g with base := BitVec.ofNat 48 (keepBits v 6 47) }
  { q with setup.ranges := q.setup.ranges.setIfInBounds k g }

/-- A 64-bit register of a queue's supervisor page written whole. -/
def EQueue.setPage (k : EngKind) (q : EQueue) (off v : Nat) : EQueue :=
  if off = 0x00 then { q with assigned := bit v 0, setup.tenant := bit v 1, setup.fn := bits v 8 8 }
  else if off = 0x08 then (if k = .comp then { q with setup.histBase := keepBits v 6 47 } else q)
  else if off = 0x10 then (if k = .comp then { q with setup.histLimit := keepBits v 6 47 } else q)
  else if 0x20 ≤ off ∧ off < 0x60 then q.setRange ((off - 0x20) / 16) (off % 16 != 0) v
  else if !q.idle then q
  else if off = 0x60 then { q with descBase := keepBits v 12 47 }
  else if off = 0x68 then { q with cplBase := keepBits v 11 47 }
  else if off = 0x70 && k = .pat then { q with setup.resBase := keepBits v 12 47 + v % 32 }
  else q

/-- `CTX_STATE` or `Q_STATE`. -/
def EQueue.stateReg (k : EngKind) (q : EQueue) : Nat :=
  2 ^ 8 * q.queue.length +
  match k with
  | .comp =>
    match q.ctx.state with
    | .closed => 0
    | .idle => 1
    | .running => 2
    | .suspended => 3
    | .outFull => 4
  | .pat => 2 * b2n q.scan.isSome + b2n q.cursor.isSome
  | _ => 2 ^ 7 * b2n q.message.isSome + ((q.message.bind fun m => m.slot).getD 0x7F)

/-- A register of a queue's ring page. -/
def EQueue.ringReg (k : EngKind) (q : EQueue) (off : Nat) : Nat :=
  if off = 0x00 then q.descTail
  else if off = 0x04 then q.descHead
  else if off = 0x08 then q.cplTail + 64 * b2n q.cplPhase
  else if off = 0x0C then q.cplHead
  else if off = 0x10 then 2 * b2n q.resetBusy + b2n q.eventEn
  else if off = 0x14 then q.stateReg k
  else if k = .comp then
    (if 0x18 ≤ off ∧ off < 0x20 then halfOf q.descBase (off == 0x1C)
     else if 0x20 ≤ off ∧ off < 0x28 then halfOf q.cplBase (off == 0x24) else 0)
  else if k = .pat then (if off = 0x18 then q.resTail else if off = 0x1C then q.resHead else 0)
  else 0

/-- The queue a pipe serves, as `ENG_STATUS` shows it. -/
def State.pipeQueue (s : State) (ek pipe : Nat) : Nat :=
  match s.runningJob ek pipe with
  | some j => j.q % 64
  | none => 0

/-- `ENG_STATUS`. -/
def State.engStatus (s : State) (r : Nat) (k : EngKind) : Nat :=
  let ek := 4 * r + k.num
  let on := b2n (s.engine ek).enable
  match k with
  | .pat =>
    let lane (l : Nat) : Bool := (s.laneScan ek l).isSome
    on + sumOf (fun l => 2 ^ (4 + l) * b2n (lane l)) (List.range 4) + 2 ^ 8 * (s.residents r).length
  | _ =>
    on + 2 * b2n (s.runningJob ek 0).isSome + 4 * b2n (s.runningJob ek 1).isSome + 2 ^ 8 * s.pipeQueue ek 0 + 2 ^ 16 * s.pipeQueue ek 1

/-- A 32-bit register of an engine. -/
def State.engReg (s : State) (r : Nat) (k : EngKind) (off : Nat) : Nat :=
  let ek := 4 * r + k.num
  let e := s.engine ek
  if off = 0x0000 then b2n e.enable
  else if off = 0x0004 then s.engStatus r k
  else if off = 0x0008 then
    match k with
    | .comp => halfOf e.saveBase false
    | .pat => 32768 - sumOf (fun (x : Resident) => x.states) (s.residents r)
    | _ => 64 - (s.slotsUsed ek).length
  else if off = 0x000C then (if k = .comp then halfOf e.saveBase true else 0)
  else if off = 0x0010 then (if k = .pat then 0 else e.suspensions.toNat)
  else if off = 0x0014 then (if k = .cipher ∨ k = .digest then e.slotWaits.toNat else 0)
  else if 0x1000 ≤ off ∧ off < 0x3000 then
    let q := s.equeue (64 * ek + (off - 0x1000) / 0x80)
    let o := off % 0x80
    halfOf (q.pageReg k (o / 8 * 8)) (o % 8 != 0)
  else if 0x8000 ≤ off then (s.equeue (64 * ek + (off - 0x8000) / 0x200)).ringReg k (off % 0x200)
  else 0

/-- A 32-bit register of an engine written. -/
def State.setEngReg (s : State) (r : Nat) (k : EngKind) (off v : Nat) : State :=
  let ek := 4 * r + k.num
  let e := s.engine ek
  if off = 0x0000 then
    let s := s.engEnable ek (bit v 0)
    if k = .pat && bit v 0 then State.resumeLanes ek 4 s else s
  else if (off = 0x0008 ∨ off = 0x000C) ∧ k = .comp then
    if e.enable then s else s.setEngine ek { e with saveBase := keepBits (withHalf e.saveBase (off == 0x000C) v) 15 47 }
  else if 0x1000 ≤ off ∧ off < 0x3000 then
    let qk := 64 * ek + (off - 0x1000) / 0x80
    let o := off % 0x80
    let q := s.equeue qk
    s.setQueue qk (q.setPage k (o / 8 * 8) (withHalf (q.pageReg k (o / 8 * 8)) (o % 8 != 0) v))
  else if 0x8000 ≤ off then
    let qk := 64 * ek + (off - 0x8000) / 0x200
    let o := off % 0x200
    if o = 0x00 then s.engDoorbell qk v false
    else if o = 0x0C then s.engCplHead qk v
    else if o = 0x10 then
      let s := s.onQueue qk fun q => { q with eventEn := bit v 0 }
      if !bit v 1 then s else if k = .pat then s.matchRingReset qk else s.engRingReset qk
    else if o = 0x1C && k = .pat then s.ringDrained qk v
    else s
  else s

/-- Whether a core may reach an offset of an engine's block: supervisor level any; a task the ring pages of its own function's queues
(log 43). -/
def State.engReach (s : State) (n r : Nat) (k : EngKind) (off : Nat) : Bool :=
  let c := s.core n
  c.sup || (decide (0x8000 ≤ off) &&
    let q := s.equeue (64 * (4 * r + k.num) + (off - 0x8000) / 0x200)
    q.assigned && q.setup.tenant && q.setup.fn == c.taskFn.toNat)

/-! ### The handle cache's ports (R546) -/

/-- The port an offset of a region's handle-cache block names for a core, with the offset in it; none where it reaches none. -/
def portAt (n r off : Nat) : Option (Nat × Nat) :=
  if 0xF000 ≤ off ∧ off < 0xF040 then some (n, off - 0xF000)
  else if 0x8000 ≤ off ∧ off < 0x8800 ∧ isSupCore n then some (32 * r + (off - 0x8000) / 0x40, off % 0x40)
  else none

/-- A port's registers that read without an effect. -/
def BufPort.reg (p : BufPort) (off : Nat) : Nat :=
  if off = 0x0C then b2n p.tenant + 2 ^ 8 * p.fn + 2 ^ 16 * p.pool
  else if off = 0x10 then p.select
  else if off = 0x14 then p.nulls.toNat
  else 0

/-- An `ALLOC` as a read. -/
def Alloc.read (s : State) : Alloc → Mread
  | .got t h => .ok t h
  | .wait => .wait s

/-- A port read. -/
def State.portRead (s : State) (p off : Nat) : Mread := if off = 0 then (s.allocPort p).read s else .ok s ((s.bufPort p).reg off)

/-- A port written. -/
def State.portWrite (s : State) (p off v : Nat) : State :=
  if off = 0x04 then s.incRef v (s.portTenant p)
  else if off = 0x08 then s.decRef v (s.portTenant p) (portRegion p)
  else if off = 0x10 then { s with bpm.ports := Tab.put s.bpm.ports p { s.bufPort p with select := v % 64 } }
  else s

/-! ### Remote control blocks (R403, R408) -/

/-- A 64-bit register of a core's remote control block. -/
def State.remoteReg (s : State) (n off : Nat) : Nat :=
  let c := s.core n
  if off = 0x3F0 then b2n c.winsPending + 2 * b2n c.draining + 4 * b2n c.discarded
  else if off = 0x3F8 then 0
  else if crListed (off / 8) then (s.crRead n (off / 8)).toNat
  else 0

/-- A 64-bit register of a core's remote control block written. -/
def State.setRemote (s : State) (n off v : Nat) : State :=
  if off = 0x3F0 then (if bit v 0 then s.wsync n else s)
  else if off = 0x3F8 then (if bit v 0 then s.restartCore n else s)
  else s.onCore n fun c => c.remoteWrite (off / 8) (BitVec.ofNat 64 v)

/-- One half of a remote register read. -/
def State.remote32 (s : State) (n off : Nat) : Nat := halfOf (s.remoteReg n (off / 8 * 8)) (off % 8 != 0)

/-- One half of a remote register written: the actions lie in the low halves. -/
def State.setRemote32 (s : State) (n off v : Nat) : State :=
  let hi := off % 8 != 0
  if hi && decide (0x3F0 ≤ off) then s else s.setRemote n (off / 8 * 8) (withHalf (s.remoteReg n (off / 8 * 8)) hi v)

/-! ### Hub blocks -/

/-- A register of the buffer pool manager that reads without an effect (R545). -/
def State.bpmReg (s : State) (off : Nat) : Nat :=
  if off = 0x0000 ∨ off = 0x0004 then b2n s.bpm.enable
  else if 0x0100 ≤ off ∧ off < 0x0900 then
    let x := s.pool ((off - 0x0100) / 0x20)
    match off % 0x20 with
    | 0x00 => halfOf x.base false
    | 0x04 => halfOf x.base true
    | 0x08 => x.size
    | 0x0C => x.hubFree
    | 0x10 => x.cache.length
    | 0x14 => x.state
    | _ => 0
  else if off = 0x110C then s.queryResult
  else 0

/-- A register of the buffer pool manager written. -/
def State.setBpmReg (s : State) (off v : Nat) : State :=
  if off = 0x0000 then { s with bpm.enable := bit v 0 }
  else if off = 0x1100 then s.incRef v none
  else if off = 0x1104 then s.decRef v none none
  else if off = 0x1108 then { s with bpm.query := v }
  else s

/-- A register of the event controller read by a core (R555). -/
def State.evRead (s : State) (n off : Nat) : State × Nat :=
  if off < 0x2000 then (s, s.readTarget (off / 4))
  else if off < 0x2500 then
    let g := off % 0x100 / 4
    (s, match off / 0x100 with
      | 0x20 => groupReg s.ev.enable g
      | 0x21 => s.readPending g
      | 0x22 => groupReg s.ev.active g
      | 0x23 => groupReg s.ev.level g
      | _ => s.readHoldoff g)
  else if 0x3000 ≤ off ∧ off < 0x3448 ∧ off % 8 = 0 then s.claim ((off - 0x3000) / 8)
  else if off = 0x3800 then s.claim n
  else (s, 0)

/-- A register of the event controller written by a core. -/
def State.evWrite (s : State) (n off v : Nat) : State :=
  if off < 0x2000 then s.writeTarget (off / 4) v
  else if off < 0x2100 then s.writeEnable (off % 0x100 / 4) v
  else if off < 0x2200 then s.writePending (off % 0x100 / 4) v
  else if 0x2400 ≤ off ∧ off < 0x2500 then s.writeHoldoff (off % 0x100 / 4) v
  else if 0x3000 ≤ off ∧ off < 0x3448 ∧ off % 8 = 4 then s.complete ((off - 0x3000) / 8) (v % 4096)
  else if off = 0x3804 then s.complete n (v % 4096)
  else s

/-- `MOVE_STATE` of a place; one that runs no move reads 0. -/
def State.moveReg (s : State) (m : Nat) : Nat :=
  match s.tern.moves.find? fun x => x.place == m with
  | none => 0
  | some x => x.source.getD 0 + 2 ^ 18 * x.first + 2 ^ 36 * (x.count + 1 - x.done) + 2 ^ 63

/-- A register of the ternary table (R517). That the shadow is ready once DRAM is, and not before, is a reading (log 64). -/
def State.ternReg (s : State) (off : Nat) : Nat :=
  if off = 0x000 then b2n s.tern.enable + 2 * b2n s.tern.refreshEn
  else if off = 0x004 then s.tern.moves.length + 2 ^ 8 * b2n s.dram.trained
  else if off = 0x008 then halfOf s.tern.shadowBase false
  else if off = 0x00C then halfOf s.tern.shadowBase true
  else if 0x010 ≤ off ∧ off < 0x030 then halfOf (s.moveReg ((off - 0x010) / 8)) (off % 8 != 0)
  else if off = 0x030 then s.tern.slotCount.toNat
  else if off = 0x034 then s.tern.updateCount.toNat
  else 0

/-- A register of the ternary table written. -/
def State.setTernReg (s : State) (off v : Nat) : State :=
  if off = 0x000 then { s with tern.enable := bit v 0, tern.refreshEn := bit v 1 }
  else if (off = 0x008 ∨ off = 0x00C) ∧ !s.tern.enable then
    { s with tern.shadowBase := keepBits (withHalf s.tern.shadowBase (off == 0x00C) v) 24 47 }
  else s

/-- A register of the key vault (R485). The spec gives the DRBG no state that is not healthy (log 64). -/
def State.vaultReg (s : State) (off : Nat) : Nat :=
  let x := s.keySlot s.vault.slotSelect
  if off = 0x000 then s.freeKeys + 2 ^ 12 + 2 ^ 13 * b2n (!s.vault.importPrivate.isEmpty) + 2 ^ 14 * b2n s.vault.storageLoaded
  else if off = 0x004 then s.vault.reseeds.toNat
  else if off = 0x008 then s.vault.slotSelect
  else if off = 0x00C then x.type + 2 ^ 3 * x.usage + 2 ^ 9 * b2n x.loaded + 2 ^ 16 * x.owner + 2 ^ 24 * x.gen.toNat
  else 0

/-- A register of the key vault written. -/
def State.setVaultReg (s : State) (off v : Nat) : State := if off = 0x008 then { s with vault.slotSelect := v % 4096 } else s

/-! ### The whole space -/

/-- A register block: whose it is and the offset in it; blocks whose registers the spec does not list are `unlisted`. -/
inductive Block where
  | bpm | events | tern | vault | codeStore | noRegs
  | remote (core : Nat)
  | port (channel : Nat)
  | engine (r : Nat) (k : EngKind)
  | buffers (r : Nat)
  | unlisted
  | none
  deriving DecidableEq, Repr

/-- The block of an MMIO address with the offset in it (R39). -/
def blockAt (a : Nat) : Block × Nat :=
  if a < 0x180001000000 then
    let o := a - 0x180000000000
    let low := o % 0x100000
    match o / 0x100000 with
    | 0 => if 0x8000 ≤ low ∧ low < 0x9000 then (.remote (128 + (low - 0x8000) / 0x400), low % 0x400) else (.unlisted, low)
    | 1 => (.bpm, low)
    | 2 => (.events, low)
    | 3 => (.tern, low)
    | 4 => (.vault, low)
    | 5 => (.codeStore, low)
    | 6 => (.unlisted, low)
    | 7 => (.unlisted, low)
    | 8 => (.noRegs, low)
    | _ => (.none, 0)
  else
    let o := a - 0x180001000000
    let r := o / 0x100000
    let low := o % 0x100000
    match low / 0x10000 with
    | 0 => (.port (8 * r + low / 0x2000), low % 0x2000)
    | 1 => (.engine r .comp, low % 0x10000)
    | 2 => (.engine r .cipher, low % 0x10000)
    | 3 => (.engine r .digest, low % 0x10000)
    | 4 => (.engine r .pat, low % 0x10000)
    | 5 => (.unlisted, low)
    | 6 => (.buffers r, low % 0x10000)
    | 7 => if low < 0x78000 then (.unlisted, low) else (.remote (32 * r + (low - 0x78000) / 0x400), low % 0x400)
    | _ => (.none, 0)

/-- Whether a core may reach a register (R235, R408, R485, R494, R517, R545, R546, R555). Blocks that name nobody are for supervisor
level, as task windows over them are granted by no rule (log 64). -/
def State.mmioReach (s : State) (n : Nat) (b : Block × Nat) : Bool :=
  match b.1 with
  | .bpm | .tern | .vault | .codeStore | .remote _ => isSupCore n
  | .events => isSupCore n || s.isReserved n
  | .engine r k => s.engReach n r k b.2
  | .buffers r => (s.core n).sup || (decide (0xF000 ≤ b.2) && (portAt n r b.2).isSome)
  | .none => false
  | _ => (s.core n).sup

/-- Whether a register accepts 4-byte accesses only: `CLAIM`, `COMPLETE`, and a port's `ALLOC`, `INC`, `DEC`. -/
def narrowOnly (b : Block × Nat) : Bool :=
  match b.1 with
  | .events => decide (0x3000 ≤ b.2) && decide (b.2 < 0x3808)
  | .buffers _ => decide (b.2 % 0x40 < 0x0C)
  | _ => false

/-- A 32-bit register read. -/
def State.mmio32 (s : State) (n : Nat) (b : Block × Nat) : Mread :=
  match b.1 with
  | .bpm =>
    if 0x1000 ≤ b.2 ∧ b.2 < 0x1100 then (s.allocHub ((b.2 - 0x1000) / 4) 0 false).read s else .ok s (s.bpmReg b.2)
  | .events => .ok (s.evRead n b.2).1 (s.evRead n b.2).2
  | .tern => .ok s (s.ternReg b.2)
  | .vault => .ok s (s.vaultReg b.2)
  | .codeStore => .ok s (s.csReg b.2)
  | .remote c => .ok s (s.remote32 c b.2)
  | .port c => .ok s (s.portReg c b.2)
  | .engine r k => .ok s (s.engReg r k b.2)
  | .buffers r =>
    match portAt n r b.2 with
    | some p => s.portRead p.1 p.2
    | none => .ok s 0
  | .unlisted => let d := s.draw
    .ok d.2 (d.1.toNat % 2 ^ 32)
  | .noRegs => if s.pkg.boot.ddrUp then .ok s 0 else
      let d := s.draw
      .ok d.2 (d.1.toNat % 2 ^ 32)
  | .none => .error

/-- A 32-bit register written. -/
def State.setMmio32 (s : State) (n : Nat) (b : Block × Nat) (v : Nat) : State :=
  match b.1 with
  | .bpm => s.setBpmReg b.2 v
  | .events => s.evWrite n b.2 v
  | .tern => s.setTernReg b.2 v
  | .vault => s.setVaultReg b.2 v
  | .codeStore => s.setCsReg b.2 v
  | .remote c => s.setRemote32 c b.2 v
  | .port c => s.setPortReg c b.2 v
  | .engine r k => s.setEngReg r k b.2 v
  | .buffers r =>
    match portAt n r b.2 with
    | some p => s.portWrite p.1 p.2 v
    | none => s
  | _ => s

/-- Whether an MMIO access has a form that is accepted (R385), at a register the core may reach. -/
def State.mmioOk (s : State) (n a len : Nat) : Bool :=
  (len == 4 || len == 8) && a % len == 0 && s.mmioReach n (blockAt a) && !(len == 8 && narrowOnly (blockAt a))

/-- An MMIO load of 4 or 8 bytes. -/
def State.mmioRead (s : State) (n a len : Nat) : Mread :=
  if !s.mmioOk n a len then .error
  else match s.mmio32 n (blockAt a) with
    | .ok t v =>
      if len = 4 then .ok t v
      else match t.mmio32 n (blockAt (a + 4)) with
        | .ok u w => .ok u (v + 2 ^ 32 * w)
        | .error => .error
        | .wait _ => .wait s
    | .error => .error
    | .wait _ => .wait s

/-- An MMIO store of 4 or 8 bytes: the core's earlier stores are performed first (R386). None is a bus error. -/
def State.mmioWrite (s : State) (n a len v : Nat) : Option State :=
  if !s.mmioOk n a len then none
  else
    let b := blockAt a
    let s := s.fence n
    some <|
      if len = 4 then s.setMmio32 n b (v % 2 ^ 32)
      else
        match b.1 with
        | .remote c => s.setRemote c b.2 v
        | _ => (s.setMmio32 n b (v % 2 ^ 32)).setMmio32 n (blockAt (a + 4)) (v / 2 ^ 32 % 2 ^ 32)

/-- REGISTER_WRITE: a write by firmware on a core, at the core's level. -/
def State.registerWrite (s : State) (n a : Nat) (wide : Bool) (v : Nat) : State :=
  if !s.powered then s
  else match s.area a with
    | .hubMmio | .regionMmio _ => (s.mmioWrite n a (if wide then 8 else 4) v).getD s
    | _ => s

end Sys2Proof.Machine
end

