-- ==== Sys2Proof/Machine/HoldUp.lean ====
section
/-! DEFINITION. The dirty ceiling and the measurement of the hold-up (R302 to R310, 09_power_loss.md). -/
namespace Sys2Proof.Machine

/-- Whether this Isle drives the test load: under a shared bank only Isle 0 does (R309). -/
def State.measures (s : State) : Bool := !s.flag 0x7010 8 || !s.pkg.straps.isle || !s.isTwin

/-- The bank voltage in mV of the sum of 256 ADC samples (R305). -/
def State.bankMv (s : State) (sum : Nat) : Nat := sum * 1250 * s.val 0x7010 2 / 1048576

/-- The computed ceiling in bytes of a capacitance in µF and a usable energy in mJ (R306). -/
def State.computeCeiling (s : State) (c e : Nat) : Nat :=
  if c < s.val 0x7010 4 then 0
  else (7 * e - 10 * s.val 0x7010 5) * 2 ^ 30 / (10 * max 1 (s.val 0x7010 6))

/-- The ceiling that the limit and the computed ceiling allow, in whole 64 MiB (R302). -/
def State.targetCeiling (s : State) : Nat := min (s.val 0x7000 2) s.hold.computed / 67108864 * 67108864

/-- Whether the twin must confirm a mirror area before a ceiling rises (R304, R328, log 22). -/
def State.mirrorPartner (s : State) : Bool :=
  match s.twin.pair with
  | .resync | .inStep | .failback => true
  | _ => false

/-- Warning bit 4 follows write-through mode (R310). -/
def State.markWriteThrough (s : State) : State := if s.writeThrough then s.warn 4 else s.unwarn 4

/-- The ceiling moves towards its target: down at once, up after CEILING_RAISE_EFFECTIVE; the twin is asked for the area
(R304, R328). -/
def State.aimCeiling (s : State) : State :=
  let t := s.targetCeiling
  if t ≤ s.hold.ceiling then ({ s with hold.ceiling := t, hold.raise := none }).markWriteThrough
  else
    let s := { s with hold.raise := some t }
    if s.mirrorPartner && decide (s.twin.areaOut < t) then s.strait 0 0x03 (leBytes 8 t) else s

/-- CEILING_RAISE_EFFECTIVE: the higher ceiling takes effect once its flush reserve and the twin's area exist (R304, R310). -/
def State.ceilingRaise (s : State) : State :=
  match s.hold.raise with
  | none => s
  | some t =>
    let sets := if s.isTwin then [0, 1].filter fun (i : Fin 2) => (s.xset i).live else [0]
    let reserve := sets.all fun i => decide (s.flushReserve t ≤ s.fallow i)
    if reserve && (!s.mirrorPartner || decide (t ≤ s.twin.areaOut)) then
      ({ s with hold.ceiling := t, hold.raise := none }).markWriteThrough.settleWrites
    else s

/-- A new series of measurements; a start requested while one runs is merged into it (R308). -/
def State.startSeries (s : State) : State :=
  if s.hold.series.isSome || s.hold.flush.isSome || !s.measures then s
  else { s with hold.series := some ⟨0, false, 0, 0⟩ }

/-- A series that ends without a valid measurement: a new one starts 600 s later (R308). -/
def State.endSeries (s : State) : State :=
  { s with hold.series := none, hold.endedAt := s.pkg.timebase, hold.needRetry := true }.fire (evSrc 42 4)

/-- HU_MEASUREMENT_START: V0 is sampled as the sum of 256 samples; the test load is asserted, or the measurement postponed by
1 s up to 60 times (R305). -/
def State.huStart (s : State) (sum : Nat) : State :=
  match s.hold.series with
  | none => s
  | some m =>
    if m.asserted || s.hold.flush.isSome then s
    else if s.bankMv sum < s.val 0x7010 0x0A then
      if m.postpones < 60 then { s with hold.series := some { m with postpones := m.postpones + 1 } }
      else s.endSeries.bump 0x7020 5
    else { s with hold.series := some { m with v0 := sum, asserted := true }, hold.huTest := true }

/-- A measurement's result taken: C in µF, V0 in mV and the bank's E in mJ; the ceiling follows (R306, R309). -/
def State.takeResult (s : State) (c v0 e : Nat) : State :=
  let used := if s.flag 0x7010 8 then e / 2 else e
  let s := { s with
    hold.lastC := c, hold.lastV0 := v0, hold.lastE := used, hold.lastTime := s.pkg.timebase, hold.valid := true
    hold.needRetry := false, hold.series := none, hold.sharedAt := s.pkg.timebase }
  ({ s with hold.computed := s.computeCeiling c used }.aimCeiling).fire (evSrc 42 4)

/-- HU_TEST_END: the test load is released and V1 sampled; C, E and the computed ceiling follow, or the measurement is invalid
and is repeated, three in a row leaving the computed ceiling 0 (R305, R306, R309). -/
def State.huEnd (s : State) (sum : Nat) : State :=
  match s.hold.series with
  | none => s
  | some m =>
    if !m.asserted then s
    else
      let s := { s with hold.huTest := false }
      if m.v0 < sum + 2048 then
        let s := s.bump 0x7020 5
        if m.invalids + 1 < 3 then
          { s with hold.series := some { m with asserted := false, invalids := m.invalids + 1 } }
        else ({ s with hold.computed := 0 }).endSeries.aimCeiling
      else
        let c := s.val 0x7010 1 * 2 * 1048576 * 4 / (5 * (m.v0 - sum) * max 1 (s.val 0x7010 2))
        let v0 := s.bankMv m.v0
        let vmin := s.val 0x7010 3
        let e := c * (v0 * v0 - vmin * vmin) / 2000000000
        let s := s.takeResult c v0 e
        if s.flag 0x7010 8 && s.twin.session then s.strait 0 0x05 (leBytes 4 c ++ leBytes 2 v0 ++ leBytes 4 e) else s

/-- HU_PERIOD_EXPIRY: the period after the last valid measurement has passed (R308). -/
def State.huPeriod (s : State) : State :=
  if s.hold.valid && decide (usTicks (1000000 * s.val 0x7010 7) ≤ s.since s.hold.lastTime) then s.startSeries else s

/-- HU_SERIES_RETRY: 600 s after a series without a valid measurement (R308). -/
def State.huRetry (s : State) : State :=
  if s.hold.needRetry && decide (usTicks 600000000 ≤ s.since s.hold.endedAt) then s.startSeries else s

/-- HU_RESULT: Isle 1 takes the shared bank's result (R309). -/
def State.huResult (s : State) (c v0 e : Nat) : State :=
  if s.flag 0x7010 8 && s.pkg.straps.isle then s.takeResult c v0 e else s

/-- HU_SHARED_TIMEOUT: no shared result for the period and 3,600 s, and Isle 1 measures on its own (R309). -/
def State.huShared (s : State) : State :=
  if s.flag 0x7010 8 && s.pkg.straps.isle && s.hold.series.isNone && s.hold.flush.isNone &&
      decide (usTicks (1000000 * (s.val 0x7010 7 + 3600)) ≤ s.since s.hold.sharedAt) then
    { s with hold.series := some ⟨0, false, 0, 0⟩ }
  else s

/-- DIRTY_RESERVATION_GRANTED: the write that has waited longest reserves its units once they fit (R303). -/
def State.grantReservation (s : State) : State :=
  match s.nvme.cmds.find? fun c => c.waitDirty with
  | none => s
  | some c =>
    if s.dirtyLoad + c.op.writeUnits ≤ s.dirtyRoom then
      (s.onCmd c.order fun k => { k with waitDirty := false, reserved := c.op.writeUnits }).proceed c.order
    else s

end Sys2Proof.Machine
end

