-- ==== Sys2Proof/Machine/HostAdmin.lean ====
section
/-! DEFINITION. Doorbells, controller enabling, queues, features, log pages, Identify data, self-tests, firmware, resources of
functions, host-side errors (R99 to R128, R143 to R153, R165 to R180, R249). -/
namespace Sys2Proof.Machine

/-! ### Doorbells (R107) -/

/-- A doorbell write that is ignored: counted, with its Error event. -/
def State.badDoorbell (s : State) (fn : Nat) (e : AsyncEvent) : State := (s.bump 0x3020 4).raiseNow fn e

/-- SQ_TAIL_DOORBELL. A function in reset discards it (R181 step 1). -/
def State.sqDoorbell (s : State) (fn q tail : Nat) : State :=
  if (s.ctrl fn).flr.isSome then s
  else match s.sq? fn q with
    | none => s.badDoorbell fn evBadDoorbell
    | some x =>
      if x.size ≤ tail then s.badDoorbell fn evBadDoorbellValue
      else s.putSq fn q { x with tail := tail, bellAt := s.pkg.timebase }

/-- Entries that waited for room in a completion queue, posted as far as it has room: their range-lock entries are released, and the
deletions they held go on (R134, R136). -/
def State.flushHeld (s : State) : State :=
  let l := s.nvme.heldCpl
  let s := l.foldl (fun s h => s.postCqe h) { s with nvme.heldCpl := [] }
  (l.foldl (fun s h => s.deleteCheck h.fn h.sq) s).reexamine

/-- CQ_HEAD_DOORBELL: a head that passes entries not yet posted is a bad value. -/
def State.cqDoorbell (s : State) (fn q head : Nat) : State :=
  if (s.ctrl fn).flr.isSome then s
  else match s.cq? fn q with
    | none => s.badDoorbell fn evBadDoorbell
    | some x =>
      if x.size ≤ head || decide ((x.tail + x.size - x.head) % x.size < (head + x.size - x.head) % x.size) then
        s.badDoorbell fn evBadDoorbellValue
      else (s.putCq fn q { x with head := head }).flushHeld

/-! ### Controller enabling (R43, R112) -/

/-- Where a function's saved value of a feature is kept: by the feature's own key. -/
def savedKey (fn key : Nat) : Nat := 2 ^ 24 * fn + key

/-- The values a controller's saved features restore (R121). -/
def State.savedFeatures (s : State) (fn : Nat) : Tab Nat :=
  (Tab.keep (fun k _ => k / 2 ^ 24 == fn) s.nvme.saved).foldl (fun t p => Tab.put t (p.1 % 2 ^ 24) p.2) []

/-- A controller's admin queue registers and `CC` as the host has written them, `CC.EN` clear. -/
def Ctrl.configured (c : Ctrl) (asqs acqs asq acq cc : Nat) : Ctrl :=
  { c with aqaSq := asqs + 1, aqaCq := acqs + 1, asq := asq, acq := acq, cc := cc / 2 * 2 }

/-- Whether `CC` asks for what CAP offers: round robin or the weighted form, and a page of 4 KiB to 64 KiB (R106; log 137). -/
def ccOffered (cc : Nat) : Bool := decide (bits cc 11 3 ≤ 1) && decide (bits cc 7 4 ≤ 4)

/-- `CC.EN` set, with the admin queues the registers name (R43). A VF must be online. -/
def State.startController (s : State) (fn cc : Nat) : State :=
  let c := s.ctrl fn
  if c.enabled || c.resetting || c.ready || c.cfs || c.flr.isSome || !c.online || !(s.functions.contains fn) ||
      !s.pkg.boot.configReady || c.aqaSq = 0 || c.aqaCq = 0 || !ccOffered cc then s
  else
    let s := s.setCtrl fn { c with
      enabled := true, wrr := bits cc 11 3 == 1, cc := cc / 2 * 2 + 1, keepAliveAt := s.pkg.timebase }
    let s := s.putSq fn 0 ⟨c.aqaSq, 0, 0, 0, 1, s.pkg.timebase, none⟩
    s.putCq fn 0 ⟨c.aqaCq, 0, true, 0, 0, true⟩

/-- CONTROLLER_ENABLE: the admin queues' sizes (entries less one) and addresses written, then `CC` with EN set. -/
def State.controllerEnable (s : State) (fn asqs acqs asq acq cc : Nat) : State :=
  let c := s.ctrl fn
  if c.enabled || c.resetting || c.ready || c.cfs || c.flr.isSome || !(s.functions.contains fn) || !s.pkg.boot.configReady then s
  else (s.setCtrl fn (c.configured asqs acqs asq acq cc)).startController fn cc

/-! ### Queues (R102, R112, R113, R145, R147, R169) -/

/-- CREATE_IO_CQ. Identifiers run to the function's VQ count; a size of one entry is no queue of NVMe's. -/
def State.createCq (s : State) (r : Sqe) (q size vector : Nat) (pc ien : Bool) : State :=
  s.admin r true fun s =>
    let fn := r.fn.toNat
    let c := s.ctrl fn
    let st :=
      if q = 0 || decide (c.vq < q) || (s.cq? fn q).isSome then sc 1 0x01
      else if size = 0 then sc 1 0x02
      else if !pc then sc 0 0x02
      else if c.vi ≤ vector then sc 1 0x08
      else 0
    let s := if st = 0 then s.putCq fn q ⟨size + 1, 0, true, 0, vector, ien⟩ else s
    s.answer r st 0

/-- CREATE_IO_SQ. -/
def State.createSq (s : State) (r : Sqe) (q size cq qprio : Nat) (pc : Bool) : State :=
  s.admin r true fun s =>
    let fn := r.fn.toNat
    let c := s.ctrl fn
    let st :=
      if q = 0 || decide (c.vq < q) || (s.sq? fn q).isSome || cq = 0 then sc 1 0x01
      else if (s.cq? fn cq).isNone then sc 1 0x00
      else if size = 0 then sc 1 0x02
      else if !pc then sc 0 0x02
      else if qprio = 0 && s.fval fn 0x4010 0x0B == 0 then sc 0 0x02
      else 0
    let s := if st = 0 then s.putSq fn q ⟨size + 1, 0, 0, cq, qprio, s.pkg.timebase, none⟩ else s
    s.answer r st 0

/-- DELETE_IO_CQ: refused while a submission queue uses it. -/
def State.deleteCq (s : State) (r : Sqe) (q : Nat) : State :=
  s.admin r true fun s =>
    let fn := r.fn.toNat
    if q = 0 || (s.cq? fn q).isNone then s.answer r (sc 1 0x01) 0
    else if s.nvme.sqs.any fun p => p.1 / 65536 == fn && p.2.cq == q && p.1 % 65536 != 0 then s.answer r (sc 1 0x0C) 0
    else { s with nvme.cqs := Tab.erase s.nvme.cqs (qkey fn q) }.answer r 0 0

/-- A write's units not past their commit points dropped with its reservation, and their mirror copies discarded on the twin
(R146, R331). -/
def State.dropWrite (s : State) (order : Nat) : State :=
  let mine (d : DirtyUnit) : Bool := d.cmd == order && !d.committed
  let slots := (s.hold.dirty.filter mine).filterMap (·.slot)
  let s := { s with
    hold.dirty := s.hold.dirty.filter fun d => !mine d
    twin.slotsOut := s.twin.slotsOut.filter fun k => !slots.contains k }
  State.slotFrames 0x04 (slots.length / 58 + 1) s slots

/-- An Execute Program none of whose tasks has been dispatched forgotten, with its tasks that are queued, waiting or prefetched (R144, R145). -/
def State.dropExec (s : State) (order : Nat) : State :=
  if !(s.sched.execs.any fun (e : Exec) => e.tag == order) then s
  else
    let mine (t : Task) : Bool := t.exec && t.tag == order
    let cores := Tab.mapVals (fun _ (c : Core) => { c with prefetch := match c.prefetch with
      | some p => if mine p.1 then none else some p
      | none => none }) s.cores
    { s with
      sched.ready := s.sched.ready.map fun (l : List Task) => l.filter fun t => !mine t
      sched.stalled := s.sched.stalled.filter fun (x : Stalled) => !mine x.task
      sched.execs := s.sched.execs.filter fun (e : Exec) => e.tag != order
      cores := cores }

/-- A command not past its commit point stopped: it ends with a status, or is discarded with none (R145, R146). Its media
reads that still run find no command when they end. -/
def State.stopCmd (s : State) (order : Nat) (status : Option Nat) : State :=
  let s := (s.dropWrite order).dropExec order
  match status with
  | some st => s.finish order st
  | none => { s with nvme.cmds := s.nvme.cmds.filter fun c => c.order != order }

/-- `FWD_STOP` for forwarded commands, 58 tags to a frame (R350). -/
def State.sendStops : Nat → State → List Nat → State
  | 0, s, _ => s
  | n + 1, s, l =>
    if l.isEmpty then s
    else
      let p := l.take 58
      State.sendStops n (s.strait 4 0x04 ([BitVec.ofNat 8 p.length, 0, 0, 0] ++ p.flatMap (leBytes 4))) (l.drop 58)

/-- Forwarded commands named to the owner for stopping; it applies R145 and answers (R183, R350). -/
def State.stopForwarded (s : State) (mine : FwdCmd → Bool) (silent : Bool) : State :=
  let l := s.nvme.fwdOut.filter fun f => mine f && !f.stopping
  let out := updateIf mine (fun f => { f with stopping := true, silent := f.silent || silent }) s.nvme.fwdOut
  let s := { s with nvme.fwdOut := out }
  State.sendStops (l.length / 58 + 1) s (l.map (·.tag))

/-- DELETE_IO_SQ: commands not past their commit points end with Command Aborted due to SQ Deletion; the deletion completes
when every fetched command of the queue has ended. -/
def State.deleteSq (s : State) (r : Sqe) (q : Nat) : State :=
  s.admin r true fun s =>
    let fn := r.fn.toNat
    match s.sq? fn q with
    | none => s.answer r (sc 1 0x01) 0
    | some x =>
      if q = 0 then s.answer r (sc 1 0x01) 0
      else
        let s := s.putSq fn q { x with deleting := some r.cid.toNat, tail := x.head }
        let l := s.nvme.cmds.filter fun c => c.fn == fn && c.sq == q && c.fwdTag.isNone && !c.past
        let s := l.foldl (fun s c => s.stopCmd c.order (some (sc 0 0x08))) s
        let s := State.stopForwarded s (fun f => f.fn == fn && f.sq == q) false
        s.reexamine.deleteCheck fn q

/-! ### Data to the host -/

/-- A command's data sent to the host and its completion, on the command's virtual channel; `want` bytes of the page from `offset`, clipped
(R103). -/
def State.answerData (s : State) (r : Sqe) (w : Walk) (page : List Byte) (offset want : Nat) : State :=
  let vc1 := s.onVc1 (s.classOf r.fn.toNat r.sq.toNat)
  (s.hostData r.fn.toNat r.sq.toNat r.cid.toNat w 0 0 ((page.drop offset).take want) false vc1).answer r 0 0

/-- The status of a command's pointers for the bytes it moves from or to the host. -/
def State.walkStatus (s : State) (r : Sqe) (w : Walk) (need : Nat) (write : Bool) : Nat :=
  w.status (s.ctrl r.fn.toNat).page need 0 write

/-! ### Log pages (R124 to R127) -/

/-- The composite temperature in kelvins: the hottest die sensor, in tenths of a degree Celsius (R121). -/
def State.composite (s : State) : Nat :=
  let t := s.pkg.dieTemp.toList.foldl (fun m v => max m v.toInt) (-400)
  (273 + t / 10).toNat

/-- An Error Information entry's 64 bytes. -/
def ErrorEntry.page (e : ErrorEntry) : List Byte :=
  padTo 64 (leBytes 8 e.count ++ leBytes 2 e.sq ++ leBytes 2 e.cid ++ leBytes 2 (e.status * 2) ++ leBytes 2 e.param ++
    leBytes 8 e.lba ++ leBytes 4 e.nsid ++ leBytes 4 0 ++ leBytes 8 e.specific)

/-- Free bytes of a page that the manual gives no source for (log 23). -/
def State.freeBytes (s : State) (n : Nat) : List Byte × State :=
  let x := s.random n
  (padTo n x.1, x.2)

/-- Opcodes marked supported, with further effect bits (R113, R117, R124; the bits beyond `CSUPP` are NVMe's, log 24). -/
def adminEffects : List (Nat × Nat) :=
  [(0x00, 1), (0x01, 1), (0x02, 1), (0x04, 1), (0x05, 1), (0x06, 1), (0x08, 1), (0x09, 1), (0x0A, 1), (0x0C, 1), (0x0D, 9),
   (0x10, 1), (0x11, 1), (0x14, 1), (0x15, 9), (0x18, 1), (0x1C, 1), (0x80, 7), (0x81, 1), (0x82, 1), (0x84, 3),
   (0xC1, 1), (0xC2, 5), (0xC3, 5)]
def ioEffects : List (Nat × Nat) :=
  [(0x00, 1), (0x01, 3), (0x02, 1), (0x05, 1), (0x08, 3), (0x09, 3), (0x0C, 1), (0x0D, 1), (0x0E, 1), (0x11, 1), (0x15, 1),
   (0x19, 3)]
def effectsPage (l : List (Nat × Nat)) : List Byte :=
  (List.range 256).flatMap fun i => leBytes 4 (((l.find? fun p => p.1 == i).map (·.2)).getD 0)

/-- The ANA state's code in the log page. -/
def Ana.code : Ana → Nat
  | .optimized => 1
  | .nonOptimized => 2
  | .inaccessible => 3
  | .persistentLoss => 4
  | .transition => 15

/-- One ANA group's descriptor. -/
def State.anaDescriptor (s : State) (fn g : Nat) (rgo : Bool) : List Byte :=
  let c := s.ctrl fn
  let l := if rgo then [] else
    (s.nvme.namespaces.filter fun n => n.group == g && n.attached.contains (s.cntlid fn)).map (·.nsid)
  padTo 32 (leBytes 4 g ++ leBytes 4 l.length ++ leBytes 8 c.anaChanges ++ [BitVec.ofNat 8 (s.ana g).code]) ++
    l.flatMap (leBytes 4)

/-- The firmware revision of a slot, of eight characters: that of the image its marker names (log 26); zeros where it holds none. -/
def CodeStore.revision (c : CodeStore) (slot : Nat) : List Byte :=
  match c.lastOf 2 slot with
  | some m => if c.slotValid slot then padTo 8 ((Config.firmwareName m.digest).take 8) else List.replicate 8 0
  | none => List.replicate 8 0

/-- A supported log page's bytes and the state that has drawn its free fields; none for another identifier or scope. -/
def State.logPage (s : State) (fn lid nsid : Nat) (rgo : Bool) : Option (List Byte) × State :=
  let c := s.ctrl fn
  match lid with
  | 0x01 => (some (padTo 16384 (c.errors.flatMap ErrorEntry.page)), s)
  | 0x02 =>
    if nsid != 0xFFFFFFFF then (none, s)
    else
      let f := s.freeBytes 4
      let g := f.2.freeBytes 200
      (some (padTo 512 ([BitVec.ofNat 8 s.nvme.warnings.toNat] ++ leBytes 2 s.composite ++ f.1 ++ List.replicate 25 0 ++ g.1)), g.2)
  | 0x03 =>
    let next := s.cs.nextSlot s.pkg.straps.bootBank
    (some (padTo 512 ([BitVec.ofNat 8 (s.cs.runningSlot + 16 * next)] ++ List.replicate 7 0 ++ s.cs.revision 1 ++ s.cs.revision 2)), s)
  | 0x04 => (some (padTo 4096 (s.nvme.changedNs.flatMap (leBytes 4))), s)
  | 0x05 => (some (padTo 4096 (effectsPage adminEffects ++ effectsPage ioEffects)), s)
  | 0x06 =>
    let cur := match s.nvme.selfTest with
      | none => 0
      | some t => if t.extended then 2 else 1
    let results := (s.nvme.selfTestLog.take 20).map fun p => padTo 28 [BitVec.ofNat 8 p.1, BitVec.ofNat 8 p.2]
    let unused := List.replicate (20 - results.length) (padTo 28 [0x0F])
    (some ([BitVec.ofNat 8 cur, 0, 0, 0] ++ (results ++ unused).flatten), s)
  | 0x0C =>
    (some (padTo 16 (leBytes 8 c.anaChanges ++ leBytes 2 2) ++ s.anaDescriptor fn 1 rgo ++ s.anaDescriptor fn 2 rgo), s)
  | 0x80 =>
    let e := (c.resvLog.head?).getD (0, 0)
    (some (padTo 64 (leBytes 8 (if c.resvLog.isEmpty then 0 else c.resvCount + 1 - c.resvLog.length) ++
      [BitVec.ofNat 8 e.1, BitVec.ofNat 8 (min 255 (c.resvLog.length - 1)), 0, 0] ++ leBytes 4 e.2)), s)
  | 0x81 =>
    let f := s.freeBytes 2
    let run := s.nvme.sanitize.isSome
    let status := if run then 2 else if s.nvme.sanitizeDone = 0 then 0 else 1
    let action := match s.nvme.sanitize with
      | some z => if z.block then 2 else 4
      | none => s.nvme.sanitizeDone
    (some (padTo 512 ((if run then f.1 else [0xFF, 0xFF]) ++ leBytes 2 status ++ leBytes 4 action ++
      leBytes 4 0xFFFFFFFF ++ leBytes 4 (if s.isTwin then 40 else 80) ++ leBytes 4 2)), f.2)
  | 0xC0 =>
    (some (padTo 64 (leBytes 8 s.nvme.urgentDone ++ leBytes 8 s.nvme.urgentBeyond ++ leBytes 8 s.nvme.urgentRebuilt ++
      leBytes 8 s.nvme.urgentMax ++ [BitVec.ofNat 8 (b2n s.nvme.modeOpen), BitVec.ofNat 8 s.nvme.modeB])), s)
  | _ => (none, s)

/-- The log identifiers of R124. -/
def logIds : List Nat := [0x01, 0x02, 0x03, 0x04, 0x05, 0x06, 0x0C, 0x80, 0x81, 0xC0]

/-- What reading a page with Retain Asynchronous Event clear does: its event types unmask, kept events go out, and pages that empty do (R126,
R127; the Changed Namespace and Reservation pages as NVMe has them). -/
def State.logRead (s : State) (fn lid : Nat) : State :=
  let c := s.ctrl fn
  let s := s.setCtrl fn { c with
    masked := c.masked.filter fun m => m % 256 != lid
    resvLog := if lid = 0x80 then c.resvLog.drop 1 else c.resvLog }
  let s := if lid = 0x04 then { s with nvme.changedNs := [] } else s
  let s := if lid = 0xC0 then
      { s with nvme.urgentDone := 0, nvme.urgentBeyond := 0, nvme.urgentRebuilt := 0, nvme.urgentMax := 0,
               nvme.urgentArmed := false }
    else s
  s.deliverKept fn

/-- GET_LOG_PAGE. `numd` is the dwords wanted less one. -/
def State.getLogPage (s : State) (r : Sqe) (lid nsid offset numd : Nat) (rae rgo : Bool) (w : Walk) : State :=
  s.admin r true fun s =>
    let fn := r.fn.toNat
    let want := 4 * (numd + 1)
    if !(logIds.contains lid) then s.answer r (sc 1 0x09) 0
    else if maxTransfer < want then s.answer r (sc 0 0x02) 0
    else if s.walkStatus r w want false != 0 then s.answer r (s.walkStatus r w want false) 0
    else
      let p := s.logPage fn lid nsid rgo
      match p.1 with
      | none => s.answer r (sc 0 0x02) 0
      | some page =>
        if page.length < offset || offset % 4 != 0 then s.answer r (sc 0 0x02) 0
        else
          let t := p.2.answerData r w page offset want
          if rae then t else t.logRead fn lid

/-! ### Identify (R108 to R112, R120) -/

/-- Fields of a structure written over zeros: offset and bytes. -/
def structBytes (n : Nat) (fields : List (Nat × List Byte)) : List Byte :=
  fields.foldl (fun l f => overlay l f.1 f.2) (List.replicate n 0)

/-- A `STR` entry's characters followed by spaces. -/
def spaced (n v : Nat) : List Byte :=
  let c := trimZeros (leBytes n v)
  c ++ List.replicate (n - c.length) 0x20

/-- The subsystem's total NVM capacity in bytes: the array's usable capacity, of both Isles in twin topology, unless this Isle serves both
sets itself (log 25). -/
def State.tnvmcap (s : State) : Nat :=
  s.usableBytes * (if s.isTwin && !((s.xset 0).live && (s.xset 1).live) then 2 else 1)

/-- The capacity of the namespaces there are, in bytes. -/
def State.usedCap (s : State) : Nat := sumOf (fun n => if n.nsid ≤ 1020 then 4096 * n.lbas else 0) s.nvme.namespaces

/-- Identify Controller. Fields that no rule gives read 0, "not reported" (log 26). -/
def State.identifyController (s : State) (fn : Nat) : List Byte :=
  structBytes 4096 [
    (0, leBytes 2 0x1C7E), (2, leBytes 2 (s.force 0x3010 3)), (4, spaced 20 (s.val 0x3020 2)),
    (24, spaced 40 (s.val 0x3020 3)), (64, s.cs.revision s.cs.runningSlot), (72, [3]), (73, leBytes 3 Config.ieee.toNat), (76, [0x0F]), (77, [9]), (78, leBytes 2 (s.cntlid fn)),
    (80, leBytes 4 0x00020000), (92, leBytes 4 0x0900), (96, leBytes 4 0x8001), (111, [1]), (256, leBytes 2 0x009F),
    (258, [3]), (259, [15]), (260, [4]), (261, [6]), (262, [255]), (266, leBytes 2 378), (268, leBytes 2 398),
    (280, leBytes 16 s.tnvmcap), (296, leBytes 16 (s.tnvmcap - s.usedCap)), (316, leBytes 2 240), (318, [1]), (319, [1]),
    (320, leBytes 2 1), (328, leBytes 4 3), (342, [1]), (343, [0xDF]), (344, leBytes 4 2), (348, leBytes 4 2), (512, [0x66]),
    (513, [0x44]), (516, leBytes 4 1024), (520, leBytes 2 0x01FD), (526, leBytes 2 127), (528, leBytes 2 127),
    (534, leBytes 2 3), (536, leBytes 4 0x000D0001), (540, leBytes 4 1024), (768, leBytes 256 (s.val 0x3020 1)),
    (2048, leBytes 2 11800)]

/-- Identify Namespace for an NVM namespace; another reads zeros. -/
def Namespace.identify (n : Namespace) : List Byte :=
  if 1020 < n.nsid then structBytes 4096 [(30, [1]), (92, leBytes 4 n.group)]
  else structBytes 4096 [
    (0, leBytes 8 n.lbas), (8, leBytes 8 n.lbas), (16, leBytes 8 n.lbas), (24, [2]), (25, [2]), (26, [BitVec.ofNat 8 (n.lbaf + 16 * b2n n.extended)]),
    (27, [3]), (28, [0x1F]), (29, [BitVec.ofNat 8 n.dps]), (30, [1]), (31, [0xFF]), (33, [9]), (34, leBytes 2 127),
    (36, leBytes 2 127), (48, leBytes 16 (4096 * n.lbas)), (64, leBytes 2 3), (66, leBytes 2 3), (68, leBytes 2 3),
    (70, leBytes 2 3), (72, leBytes 2 127), (74, leBytes 2 512), (76, leBytes 4 512), (80, [127]), (92, leBytes 4 n.group),
    (104, beBytes 16 n.nguid), (128, [0, 0, 12, 0, 8, 0, 12, 0, 16, 0, 12, 0])]

/-- A list of namespace identifiers above `from_`, 1,024 at most. -/
def nsList (l : List Nat) (from_ : Nat) : List Byte := padTo 4096 (((l.filter (from_ < ·)).take 1024).flatMap (leBytes 4))

/-- A controller list: the count and the identifiers at or above `from_`. -/
def controllerList (l : List Nat) (from_ : Nat) : List Byte :=
  let k := (l.filter (from_ ≤ ·)).take 2047
  padTo 4096 (leBytes 2 k.length ++ k.flatMap (leBytes 2))

/-- The command set of a namespace: NVM, Subsystem Local Memory, Computational Programs. -/
def csiOf (nsid : Nat) : Nat := if nsid ≤ 1020 then 0 else if nsid ≤ 1022 then 4 else 3

/-- Assigned flexible resources over all VFs: VQ or VI. -/
def State.assigned (s : State) (vi : Bool) : Nat :=
  sumOf (fun (p : Nat × Ctrl) => if p.1 = 0 then 0 else if vi then p.2.vi else p.2.vq) s.nvme.ctrls

/-- Primary Controller Capabilities (R102, R112). -/
def State.identifyPrimary (s : State) : List Byte :=
  structBytes 4096 [
    (0, leBytes 2 (s.cntlid 0)), (4, [3]), (32, leBytes 4 16256), (36, leBytes 4 (s.assigned false)), (42, leBytes 2 128),
    (44, leBytes 2 2048), (46, leBytes 2 1), (64, leBytes 4 4032), (68, leBytes 4 (s.assigned true)), (74, leBytes 2 64),
    (76, leBytes 2 2048), (78, leBytes 2 1)]

/-- The Secondary Controller List from an identifier on. -/
def State.identifySecondary (s : State) (from_ : Nat) : List Byte :=
  let l := ((s.functions.drop 1).filter fun n => decide (from_ ≤ s.cntlid n)).take 127
  padTo 4096 (padTo 32 [BitVec.ofNat 8 l.length] ++ l.flatMap fun n =>
    let c := s.ctrl n
    padTo 32 (leBytes 2 (s.cntlid n) ++ leBytes 2 (s.cntlid 0) ++ [BitVec.ofNat 8 (b2n c.online), 0, 0, 0] ++ leBytes 2 n ++
      leBytes 2 c.vq ++ leBytes 2 c.vi))

/-- The controllers there are: both Isles' functions in a pair. How many virtual functions the twin has this Isle is not told (log 26). -/
def State.controllers (s : State) : List Nat :=
  let own := s.functions.map s.cntlid
  let theirs := (List.range (Config.twinVfs.toNat + 1)).map ((if s.pkg.straps.isle then 0x0001 else 0x0101) + ·)
  if s.isTwin && s.twin.session then (if s.pkg.straps.isle then theirs ++ own else own ++ theirs) else own

/-- A CNS value's structure, or the status that refuses it. -/
def State.identifyData (s : State) (fn cns nsid cntid csi : Nat) : (List Byte × State) ⊕ Nat :=
  let me := s.cntlid fn
  let attached := s.nvme.namespaces.filter fun n => n.attached.contains me
  let there := 1 ≤ nsid && decide (nsid ≤ 1024)
  let zeros := List.replicate 4096 (0 : Byte)
  match cns with
  | 0x00 =>
    if nsid = 0xFFFFFFFF then .inl (structBytes 4096 [(25, [2]), (27, [3]), (28, [0x1F]), (30, [1]), (31, [0xFF]), (33, [9]),
      (128, [0, 0, 12, 0, 8, 0, 12, 0, 16, 0, 12, 0])], s)
    else if !there then .inr (sc 0 0x0B)
    else .inl (((attached.find? fun n => n.nsid == nsid).map Namespace.identify).getD zeros, s)
  | 0x01 => .inl (s.identifyController fn, s)
  | 0x02 => .inl (nsList (attached.map (·.nsid)) nsid, s)
  | 0x03 =>
    match attached.find? fun n => n.nsid == nsid with
    | none => .inr (sc 0 0x0B)
    | some n => .inl (padTo 4096 ([2, 16, 0, 0] ++ beBytes 16 n.nguid ++ [4, 1, 0, 0, BitVec.ofNat 8 (csiOf nsid)]), s)
  | 0x05 =>
    if !there then .inr (sc 0 0x0B)
    else match attached.find? fun n => n.nsid == nsid && csiOf nsid == csi with
      | none => .inl (zeros, s)
      | some n => .inl (structBytes 4096 [(8, [1]), (20, leBytes 4 (if n.guard64 then 256 else 0))], s)
  | 0x06 => if csi = 0 || csi = 3 || csi = 4 then .inl (zeros, s) else .inr (sc 0 0x02)
  | 0x07 => .inl (nsList ((attached.filter fun n => csiOf n.nsid == csi).map (·.nsid)) nsid, s)
  | 0x08 =>
    if !there then .inr (sc 0 0x0B)
    else match attached.find? fun n => n.nsid == nsid with
      | none => .inl (zeros, s)
      | some n => .inl (structBytes 4096 [(1, [1]), (2, [0xFF]), (4, leBytes 4 n.group), (14, [1])], s)
  | 0x10 => .inl (nsList (s.nvme.namespaces.map (·.nsid)) nsid, s)
  | 0x11 =>
    if !there then .inr (sc 0 0x0B)
    else .inl (((s.namespace? nsid).map Namespace.identify).getD zeros, s)
  | 0x12 =>
    match s.namespace? nsid with
    | none => .inr (sc 0 0x0B)
    | some n => .inl (controllerList n.attached cntid, s)
  | 0x13 => .inl (controllerList s.controllers cntid, s)
  | 0x14 => .inl (s.identifyPrimary, s)
  | 0x15 => .inl (s.identifySecondary cntid, s)
  | 0x1C => .inl (structBytes 4096 [(0, leBytes 8 0x19)], s)
  | _ => .inr (sc 0 0x02)

/-- IDENTIFY. -/
def State.identify (s : State) (r : Sqe) (cns nsid cntid csi : Nat) (w : Walk) : State :=
  s.admin r true fun s =>
    if s.walkStatus r w 4096 false != 0 then s.answer r (s.walkStatus r w 4096 false) 0
    else match s.identifyData r.fn.toNat cns nsid cntid csi with
      | .inl p => p.2.answerData r w p.1 0 4096
      | .inr st => s.answer r st 0

/-! ### Features (R121) -/

/-- The features of R121 and those that are saveable. -/
def featureIds : List Nat := [0x01, 0x02, 0x04, 0x05, 0x07, 0x08, 0x09, 0x0B, 0x0E, 0x0F, 0x81, 0x82, 0x83]
def saveable : List Nat := [0x01, 0x04, 0x08, 0x0B, 0x82, 0x83]

/-- A feature's default (log 27). -/
def featureDefault (key : Nat) : Nat :=
  if key = 0x04 then 378 else if key = 0x0B then 0x0900 + 0xFF else 0

/-- The key a feature's value is kept under: the temperature threshold by its direction, the vector configuration by its
vector, and the reservation mask by its namespace. -/
def featureKey2 (fid dw11 nsid : Nat) : Nat :=
  if fid = 0x04 then 0x04 + 0x40000 * bits dw11 20 2
  else if fid = 0x09 then 0x10000 + bits dw11 0 16
  else if fid = 0x82 then 0x100000 + nsid
  else fid

/-- A feature's current value. -/
def Ctrl.feature (c : Ctrl) (key : Nat) : Nat := Tab.get c.features (featureDefault key) key

/-- The counts Number of Queues grants: those asked for, up to the VQ count; both less one (R112). -/
def Ctrl.grant (c : Ctrl) (dw11 : Nat) : Nat :=
  min (bits dw11 0 16) (c.vq - 1) + min (bits dw11 16 16) (c.vq - 1) * 65536

/-- The bits of a feature's doubleword that have a field; the others are reserved, ignored when written and read as 0 (R6, R121). -/
def featureMask (fid : Nat) : Nat :=
  if fid = 0x01 then 0xFFFFFF07 else if fid = 0x02 then 0xFF else if fid = 0x05 then 0x1FFFF else if fid = 0x08 then 0xFFFF
  else if fid = 0x09 then 0x1FFFF else if fid = 0x0B then 0x9FF else if fid = 0x82 then 0xE else if fid = 0x83 then 0x1 else 0xFFFFFFFF

/-- What a Set Features keeps of its operands. -/
def featureValue (fid dw11 data : Nat) : Nat :=
  if fid = 0x0E then data % 2 ^ 48 else if fid = 0x81 then data % 2 ^ 128 else if fid = 0x04 then bits dw11 0 16
  else dw11 &&& featureMask fid

/-- The namespaces a feature of namespaces names: the one, or with all ones every one attached to the controller; none for one that is
unknown or not attached (R121, R128). -/
def State.featureSpaces (s : State) (fn fid nsid : Nat) : List Nat :=
  let l := (s.nvme.namespaces.filter fun n => n.attached.contains (s.cntlid fn)).map fun (n : Namespace) => n.nsid
  if fid = 0x82 ∧ nsid = 0xFFFFFFFF then l else l.filter (· == nsid)

/-- Whether a feature belongs to namespaces. -/
def perNamespace (fid : Nat) : Bool := fid == 0x82 || fid == 0x83

/-- The keys under which a feature's value is saved: a namespace's Persist Through Power Loss has one of its own. -/
def savedKeys (fid dw11 : Nat) (spaces : List Nat) : List Nat :=
  if fid = 0x82 then spaces.map (0x100000 + ·) else if fid = 0x83 then spaces.map (0x200000 + ·) else [featureKey2 fid dw11 0]

/-- A feature set on a controller or on its namespaces. -/
def State.putFeature (s : State) (fn fid dw11 data : Nat) (spaces : List Nat) : State :=
  let c := s.ctrl fn
  let v := featureValue fid dw11 data
  let key := featureKey2 fid dw11 0
  let put (c : Ctrl) : Ctrl := { c with features := Tab.put c.features key v }
  match fid with
  | 0x07 => s
  | 0x0E => s.setCtrl fn { put c with features := Tab.put (put c).features 0x50000 s.now }
  | 0x0F => s.setCtrl fn { put c with keepAliveMs := ceilDiv dw11 100 * 100, keepAliveAt := s.pkg.timebase }
  | 0x82 => s.setCtrl fn { c with features := spaces.foldl (fun t (n : Nat) => Tab.put t (0x100000 + n) v) c.features }
  | 0x83 =>
    let l := updateIf (fun (n : Namespace) => spaces.contains n.nsid) (fun (n : Namespace) => { n with ptpl := bit dw11 0 }) s.nvme.namespaces
    { s with nvme.namespaces := l }
  | _ => s.setCtrl fn (put c)

/-- Whether a Set Features holds a value the device does not take. -/
def Ctrl.featureBad (c : Ctrl) (fid dw11 : Nat) : Bool :=
  (fid == 0x02 && bits dw11 0 5 != 0) || (fid == 0x05 && bits dw11 0 17 != 0) ||
  (fid == 0x04 && ((bits dw11 16 4 != 0 && bits dw11 16 4 != 15) || decide (1 < bits dw11 20 2))) ||
  (fid == 0x07 && (bits dw11 0 16 == 0xFFFF || bits dw11 16 16 == 0xFFFF)) ||
  (fid == 0x09 && decide (c.vi ≤ bits dw11 0 16)) || (fid == 0x81 && !bit dw11 0)

/-- The data a feature moves: the Timestamp and the Host Identifier. -/
def featureBytes (fid : Nat) : Nat := if fid = 0x0E then 8 else if fid = 0x81 then 16 else 0

/-- SET_FEATURES. `data` is the feature's data buffer, little-endian. A saved value needs the persistent store (R17, R121). -/
def State.setFeatures (s : State) (r : Sqe) (fid nsid dw11 data : Nat) (sv : Bool) (w : Walk) : State :=
  s.admin r true fun s =>
    let fn := r.fn.toNat
    let c := s.ctrl fn
    let spaces := s.featureSpaces fn fid nsid
    let walk := s.walkStatus r w (featureBytes fid) true
    if !(featureIds.contains fid) || c.featureBad fid dw11 then s.answer r (sc 0 0x02) 0
    else if sv && !(saveable.contains fid) then s.answer r (sc 1 0x0D) 0
    else if walk != 0 then s.answer r walk 0
    else if perNamespace fid && spaces.isEmpty && nsid != 0xFFFFFFFF then s.answer r (sc 0 0x0B) 0
    else if fid = 0x83 ∧ nsid = 0xFFFFFFFF then s.answer r (sc 0 0x0B) 0
    else if sv && s.cs.faulted then s.answer r (sc 7 0x0D) 0
    else
      let s := s.putFeature fn fid dw11 data spaces
      let v := featureValue fid dw11 data
      let s := if sv then { s with nvme.saved :=
          (savedKeys fid dw11 spaces).foldl (fun t k => Tab.put t (savedKey fn k) v) s.nvme.saved } else s
      s.answer r 0 (if fid = 0x07 then c.grant dw11 else 0)

/-- A feature's current value. -/
def State.featureNow (s : State) (fn fid nsid dw11 : Nat) : Nat :=
  let c := s.ctrl fn
  match fid with
  | 0x07 => (c.vq - 1) * 65537
  | 0x83 => b2n (((s.namespace? nsid).map (·.ptpl)).getD false)
  | 0x0E => (Tab.get c.features 0 0x0E + (s.now - Tab.get c.features 0 0x50000) / 100000) % 2 ^ 48
  | _ => c.feature (featureKey2 fid dw11 nsid)

/-- GET_FEATURES. `sel`: 0 current, 1 default, 2 saved, 3 capabilities. -/
def State.getFeatures (s : State) (r : Sqe) (fid nsid dw11 sel : Nat) (w : Walk) : State :=
  s.admin r true fun s =>
    let fn := r.fn.toNat
    let c := s.ctrl fn
    let key := featureKey2 fid dw11 nsid
    if !(featureIds.contains fid) || decide (3 < sel) || (fid == 0x09 && decide (c.vi ≤ bits dw11 0 16)) then
      s.answer r (sc 0 0x02) 0
    else if perNamespace fid && (nsid == 0xFFFFFFFF || (s.featureSpaces fn fid nsid).isEmpty) then s.answer r (sc 0 0x0B) 0
    else if sel = 3 then
      s.answer r 0 (b2n (saveable.contains fid) + 2 * b2n (perNamespace fid) + 4)
    else
      let v := if sel = 1 then featureDefault key
        else if sel = 2 then Tab.get s.nvme.saved (featureDefault key) (savedKey fn (((savedKeys fid dw11 [nsid]).head?).getD 0))
        else s.featureNow fn fid nsid dw11
      let need := featureBytes fid
      if need != 0 then
        let walk := s.walkStatus r w need false
        if walk != 0 then s.answer r walk 0 else s.answerData r w (leBytes need v) 0 need
      else s.answer r 0 (v % 2 ^ 32)

/-- What a controller's saved values restore beyond its own registers: the Persist Through Power Loss of its namespaces (R121). -/
def State.restoreSaved (s : State) (fn : Nat) : State :=
  (Tab.keep (fun k _ => k / 2 ^ 24 == fn && 0x200000 ≤ k % 2 ^ 24) s.nvme.saved).foldl (fun (s : State) p =>
    let l := updateIf (fun (n : Namespace) => n.nsid == p.1 % 2 ^ 24 - 0x200000) (fun (n : Namespace) => { n with ptpl := bit p.2 0 })
      s.nvme.namespaces
    { s with nvme.namespaces := l }) s

/-- ASYNCHRONOUS_EVENT_REQUEST: held, up to 16, unless a kept event takes it (R113, R127). -/
def State.asyncRequest (s : State) (r : Sqe) : State :=
  s.admin r true fun s =>
    let c := s.ctrl r.fn.toNat
    if 16 ≤ c.aers.length then s.answer r (sc 1 0x05) 0
    else (s.setCtrl r.fn.toNat { c with aers := c.aers ++ [r.cid.toNat] }).deliverKept r.fn.toNat

/-! ### Firmware (R115, R249) -/

/-- FIRMWARE_IMAGE_DOWNLOAD: offset and length in 4 KiB steps; `numd` dwords less one. -/
def State.firmwareDownload (s : State) (r : Sqe) (ofst numd : Nat) (data : List Byte) (w : Walk) : State :=
  s.admin r false fun s =>
    let len := 4 * (numd + 1)
    let at_ := 4 * ofst
    if len % 4096 != 0 || at_ % 4096 != 0 || decide (maxTransfer < len) then s.answer r (sc 0 0x02) 0
    else if s.walkStatus r w len true != 0 then s.answer r (s.walkStatus r w len true) 0
    else
      let image := ((List.range len).zip (padTo len data)).foldl (fun t p => Tab.set t 0xFF (at_ + p.1) p.2) s.cs.image
      { s with cs.image := image, cs.imageLen := max s.cs.imageLen (at_ + len) }.answer r 0 0

/-- The slot a Firmware Commit names; 0 lets the device choose the slot it does not run (log 28). -/
def CodeStore.commitSlot (c : CodeStore) (fs : Nat) : Option Nat :=
  if fs = 1 ∨ fs = 2 then some fs else if fs = 0 then some (if c.runningSlot = 1 then 2 else 1) else none

/-- Firmware Commit actions 000b and 001b: the image verified, then written with its markers; a failed code store ends it with
`STORE_FAULT` (R17). -/
def State.firmwareCommit (s : State) (r : Sqe) (fs fails : Nat) (select : Bool) : State :=
  s.admin r false fun s =>
    match s.cs.commitSlot fs with
    | none => s.answer r (sc 1 0x06) 0
    | some slot =>
      if s.cs.faulted then s.answer r (sc 7 0x0D) 0
      else if s.cs.slotSize < s.cs.imageLen || s.cs.imageLen = 0 || !Config.imageVerifies s.cs.image s.cs.imageLen then
        { s with cs.image := [], cs.imageLen := 0 }.answer r (sc 1 0x07) 0
      else
        let c := s.cs.writeSlot slot s.cs.image s.cs.imageLen fails select
        let c := { c with image := [], imageLen := 0 }
        let bad := fails != 0 && (select || fails != 6)
        { s with cs := c }.answer r (if bad then sc 1 0x07 else 0) 0

/-- Firmware Commit action 010b: a `SELECT` marker for a slot that is valid. Actions that are none of the three are invalid (R115, R128). -/
def State.firmwareSelect (s : State) (r : Sqe) (fs action : Nat) (fails : Bool) : State :=
  s.admin r false fun s =>
    if action != 2 then s.answer r (sc 0 0x02) 0
    else match s.cs.commitSlot fs with
    | none => s.answer r (sc 1 0x06) 0
    | some slot =>
      if s.cs.faulted then s.answer r (sc 7 0x0D) 0
      else if !s.cs.slotValid slot then s.answer r (sc 1 0x07) 0
      else if fails then { s with cs := s.cs.spoilMarker }.answer r (sc 1 0x07) 0
      else { s with cs := s.cs.addMarker 3 slot 0 [] }.answer r 0 0

/-! ### Self-tests (R150 to R153) -/

/-- A self-test ended: its result and code newest first, and its segment. -/
def State.endSelfTest (s : State) (result : Nat) : State :=
  match s.nvme.selfTest with
  | none => s
  | some t => { s with
      nvme.selfTest := none
      nvme.selfTestLog := ((result + 16 * (if t.extended then 2 else 1), t.segment) :: s.nvme.selfTestLog).take 20 }

/-- DEVICE_SELF_TEST_SHORT and _EXTENDED. -/
def State.selfTestStart (s : State) (r : Sqe) (extended : Bool) : State :=
  s.admin r false fun s =>
    if s.nvme.selfTest.isSome then s.answer r (sc 1 0x1D) 0
    else { s with nvme.selfTest := some ⟨extended, r.fn.toNat, 1, s.pkg.timebase⟩ }.answer r 0 0

/-- DEVICE_SELF_TEST_ABORT: with STC Fh the test that runs ends; 1h and 2h start one; any other code is invalid (R128, R153). -/
def State.selfTestAbort (s : State) (r : Sqe) (stc : Nat) : State :=
  if stc = 1 ∨ stc = 2 then s.selfTestStart r (stc == 2)
  else s.admin r false fun s => if stc != 15 then s.answer r (sc 0 0x02) 0 else (s.endSelfTest 1).answer r 0 0

/-- Whether host work of classes 0 to 3 is queued for a region: in its ready lists, or on its media ports (R150). -/
def State.regionBusy (s : State) (r : Nat) : Bool :=
  ((s.sched.ready[r]?).any fun (l : List Task) => l.any fun t => t.exec) ||
    (s.media.backlog.any fun e => e.1 / 8 == r && decide (e.2.1.cls ≤ 3)) ||
    (List.range 8).any fun k => (List.range 32).any fun l => (s.lun (8 * r + k) l).ops.any fun o => decide (o.desc.cls ≤ 3)

/-- Whether a host command is outstanding on the package. -/
def State.hostBusy (s : State) : Bool := !s.nvme.cmds.isEmpty || !s.nvme.fwdOut.isEmpty

/-- Whether a self-test step may start: no host work for 100 µs in the region it touches, or on the package where it touches none (R150). -/
def State.stepMayStart (s : State) (region : Option (Fin 4)) : Bool :=
  match region with
  | some r => !s.regionBusy r.val && decide (usTicks 100 ≤ s.since (s.nvme.busyAt.get (r.castLE (by omega))))
  | none => !s.hostBusy && decide (usTicks 100 ≤ s.since (s.nvme.busyAt.get 4))

/-- Whether the boot block and the running slot hold what their stored digests say (segment 3 of R151, R248). The boot block's digest is
kept by its own mask ROM: that comparison is the operand's. -/
def State.codeDigestsHold (s : State) : Bool :=
  match s.cs.lastOf 2 s.cs.runningSlot with
  | some m => s.cs.rangeOk (s.cs.slotBase s.cs.runningSlot) m.len && sha384 (s.cs.bytes (s.cs.slotBase s.cs.runningSlot) m.len) == m.digest
  | none => false

/-- SELFTEST_STEP_START: a step of the segment in hand runs where it may start, else it is deferred and counted. `last` ends the
segment; `fails` is an uncorrectable error or a mismatch in it; `refreshed` are pages that decoded through die parity only, which
are refreshed and do not fail segment 6. -/
def State.selfTestStep (s : State) (region : Option (Fin 4)) (last fails : Bool) (refreshed : List (Nat × Nat × Nat)) : State :=
  match s.nvme.selfTest with
  | none => s
  | some t =>
    if !s.stepMayStart region then s.bump 0x3040 0x0B
    else
      let skip := t.segment == 5 && !s.isTwin
      let fails := fails || (t.segment == 3 && last && !s.codeDigestsHold)
      let s := if t.segment = 6 then refreshed.foldl (fun (s : State) p => s.scheduleRefresh p.1 p.2.1 p.2.2) s else s
      if fails && !skip then s.endSelfTest 7
      else if last || skip then
        if (if t.extended then 6 else 5) ≤ t.segment then s.endSelfTest 0
        else { s with nvme.selfTest := some { t with segment := t.segment + 1 } }
      else s

/-- SELFTEST_TIMEOUT: 10 minutes for the short test, 1,440 for the extended. -/
def State.selfTestTimeout (s : State) : State :=
  match s.nvme.selfTest with
  | none => s
  | some t => if usTicks 60000000 * (if t.extended then 1440 else 10) ≤ s.since t.startedAt then s.endSelfTest 8 else s

/-! ### Keep Alive (R113, R180) -/

/-- KEEP_ALIVE. -/
def State.keepAlive (s : State) (r : Sqe) : State :=
  s.admin r true fun s => (s.setCtrl r.fn.toNat { s.ctrl r.fn.toNat with keepAliveAt := s.pkg.timebase }).answer r 0 0

/-- KEEP_ALIVE_EXPIRY. -/
def State.keepAliveExpiry (s : State) (fn : Nat) : State :=
  let c := s.ctrl fn
  if !c.enabled || c.cfs || c.keepAliveMs = 0 || decide (s.since c.keepAliveAt < usTicks (1000 * c.keepAliveMs)) then s
  else (s.fatal fn 2).fbump fn 0x3030 1 1

/-! ### Virtualization Management (R167, R168) -/

/-- The VF of this Isle a secondary controller identifier names. -/
def State.vfOf (s : State) (cntlid : Nat) : Option Nat := (s.functions.drop 1).find? fun n => s.cntlid n == cntlid

/-- Virtualization Management belongs to the PF, the primary controller. -/
def State.virt (s : State) (r : Sqe) (f : State → State) : State :=
  s.admin r false fun s => if r.fn != 0 then s.answer r (sc 0 0x01) 0 else f s

/-- PRIMARY_FLEXIBLE_ALLOCATION. -/
def State.primaryAllocation (s : State) (r : Sqe) : State := s.virt r fun s => s.answer r (sc 0 0x02) 0

/-- The highest I/O queue identifier of a function, and one more than the highest vector its I/O completion queues name. -/
def State.queueTop (s : State) (fn : Nat) : Nat :=
  ((Tab.keys s.nvme.sqs ++ Tab.keys s.nvme.cqs).filter fun k => k / 65536 == fn).foldl (fun m k => max m (k % 65536)) 0
def State.vectorTop (s : State) (fn : Nat) : Nat :=
  s.nvme.cqs.foldl (fun m p => if p.1 / 65536 = fn ∧ p.1 % 65536 ≠ 0 then max m (p.2.vector + 1) else m) 0

/-- SECONDARY_CONTROLLER_ASSIGN: `nr` resources added, or taken away. -/
def State.secondaryAssign (s : State) (r : Sqe) (cntlid nr : Nat) (vi remove : Bool) : State :=
  s.virt r fun s =>
    match s.vfOf cntlid with
    | none => s.answer r (sc 0 0x02) 0
    | some n =>
      let c := s.ctrl n
      let have_ := if vi then c.vi else c.vq
      let pool := if vi then 4032 else 16256
      let floor := if !c.online then 0 else if vi then s.vectorTop n else s.queueTop n
      let ok := if remove then decide (nr ≤ have_) && decide (floor ≤ have_ - nr)
        else decide (s.assigned vi + nr ≤ pool) && decide (have_ + nr ≤ 2048)
      let now := if remove then have_ - nr else have_ + nr
      if !ok then s.answer r (sc 1 0x21) 0
      else (s.setCtrl n (if vi then { c with vi := now } else { c with vq := now })).answer r 0 nr

/-- SECONDARY_CONTROLLER_ONLINE (R167, R187). -/
def State.secondaryOnline (s : State) (r : Sqe) (cntlid : Nat) : State :=
  s.virt r fun s =>
    match s.vfOf cntlid with
    | none => s.answer r (sc 0 0x02) 0
    | some n =>
      let c := s.ctrl n
      if c.vq = 0 || c.vi = 0 || c.scrub = 1 || c.flr.isSome then s.answer r (sc 1 0x21) 0
      else (s.setCtrl n { c with online := true }).answer r 0 0

/-- NUMVFS_WRITE (R101, R179). -/
def State.numVfsWrite (s : State) (n : Nat) : State :=
  if 255 < n || s.nvme.vfEnable then s.bump 0x3010 2 else { s with nvme.numVfs := n }

/-- A VF as VF Enable finds it: offline, with no flexible resources and its saved features; a reset of it still in progress goes on, and
completions that are to arrive late are still counted (R179, R182). -/
def State.enabledVf (s : State) (n : Nat) : Ctrl :=
  let c := s.ctrl n
  { Ctrl.init with
    features := s.savedFeatures n, scrub := c.scrub, tokens := c.tokens, flr := c.flr, lateExpected := c.lateExpected
    offlineCids := c.offlineCids }

/-- VF_ENABLE. -/
def State.vfEnable (s : State) : State :=
  if s.nvme.vfEnable || s.nvme.numVfs = 0 then s
  else
    let s := { s with nvme.vfEnable := true }
    (s.functions.drop 1).foldl (fun s n => s.setCtrl n (s.enabledVf n)) s

/-! ### Token buckets and fetch engines (R137, R155, R160, R170) -/

/-- What a bucket of a rate holds at most: one millisecond of it, and one token while it is above 0. -/
def bucketCap (rate : Nat) : Nat := if rate = 0 then 0 else max 1 (rate / 1000)

/-- CLASS0_TOKEN_REFILL. -/
def State.tokenRefill (s : State) : State :=
  { s with nvme.packageTokens := min (bucketCap (s.val 0x3040 2)) (s.nvme.packageTokens + 1) }

/-- SHARE_TOKEN_REFILL. -/
def State.shareRefill (s : State) (fn : Nat) : State :=
  let c := s.ctrl fn
  s.setCtrl fn { c with tokens := min (bucketCap (s.fval fn 0x4010 9)) (c.tokens + 1) }

/-- FETCH_ENGINE_RESUME: the engine goes on once none of its commands is short of entries. -/
def State.engineResume (s : State) (e : Fin 16) : State :=
  if s.nvme.cmds.any fun c => c.sq % 16 == e.val && c.fwdTag.isNone && s.short c then s
  else { s with nvme.stalledEngines := s.nvme.stalledEngines &&& ~~~BitVec.ofNat 16 (2 ^ e.val) }

/-- Whether a program posted before the last commit of B is still posted or running (R160). -/
def State.modeWaits (s : State) : Bool :=
  s.nvme.modeWait.any s.programsOut.contains

/-- STRIPE_MODE_CHANGE: once the programs posted before the commit have finished, the mode in force follows B (R160). -/
def State.stripeMode (s : State) : State := if s.modeWaits then s else s.followB

/-! ### Host-side errors (R99, R100, R180) -/

/-- The bits of a function's error registers set, with the header of the TLP, which is a free value (log 3), and the Device Status bit
(R97, R99, R100). The masks and enables of the registers decide on the message to the host: 0 correctable, 1 non-fatal, 2 fatal. -/
def State.aer (s : State) (fn unc : Nat) (advisory : Bool) : State :=
  let u := 2 ^ unc
  let s := s.setCfg fn 0x41 (s.cfg fn 0x41 ||| u)
  let logged := s.cfg fn 0x42 &&& u == 0
  let s := if !logged then s else (List.range 4).foldl (fun (s : State) k =>
      let a := s.draw
      a.2.setCfg fn (0x47 + k) (a.1.toNat % 2 ^ 32)) (s.setCfg fn 0x46 (s.cfg fn 0x46 / 32 * 32 + unc))
  let fatal := s.cfg fn 0x43 &&& u != 0
  let level := if advisory then 0 else if fatal then 2 else 1
  let s := if advisory then s.setCfg fn 0x44 (s.cfg fn 0x44 ||| 0x2000) else s
  let s := s.setCfg fn 0x1A (s.cfg fn 0x1A ||| 2 ^ (16 + level))
  let masked := if advisory then bit (s.cfg fn 0x45) 13 else !logged
  if masked || !bit (s.cfg 0 0x1A) level then s else s.emit (.errorMessage fn level)

/-- A command that its host data failed: one that waits for it ends with Data Transfer Error, one forwarded to the twin is stopped there and
ends so, and one still to be fetched is fetched and ends so (R99, R100). -/
def State.dataFailed (s : State) (r : Sqe) : State :=
  let mine (f : FwdCmd) : Bool := f.fn == r.fn.toNat && f.sq == r.sq.toNat && f.cid == r.cid.toNat && !f.failed && !f.silent
  match s.nvme.cmds.find? fun c =>
    c.fn == r.fn.toNat && c.sq == r.sq.toNat && c.cid == r.cid.toNat && c.fwdTag.isNone && !c.filled with
  | some c => ((s.dropWrite c.order).finish c.order (sc 0 0x04)).reexamine
  | none =>
    if s.nvme.fwdOut.any mine then
      let s := s.stopForwarded mine false
      { s with nvme.fwdOut := updateIf mine (fun f => { f with failed := true }) s.nvme.fwdOut }
    else s.onFetch r fun s => s.answer r (sc 0 0x04) 0

/-- POISONED_TLP_RECEIVED: counted, and logged as Poisoned TLP Received, an advisory non-fatal error. -/
def State.poisonedTlp (s : State) (r : Sqe) : State :=
  (((s.bump 0x3000 7).bump 0x3000 5).aer r.fn.toNat 12 true).dataFailed r

/-- The error register bit of a failed read (log 136). -/
def ReadFault.aerBit : ReadFault → Nat
  | .timeout => 14
  | .abort => 15
  | .malformed => 18
  | .unsupported => 20
  | .sram => 22

/-- A block of a write's data lost in the ingress burst buffer, which is payload: it goes on as poison (R362, R364). Which block is free. -/
def State.ingressLost (s : State) (r : Sqe) (addr : Nat) : State :=
  let s := s.payloadError 4 160 ⟨3, 0⟩ addr
  match s.nvme.cmds.find? fun c => c.fn == r.fn.toNat && c.sq == r.sq.toNat && c.cid == r.cid.toNat && c.fwdTag.isNone && !c.filled with
  | none => s
  | some c => match c.op with
    | .write e _ => let k := s.draw
      k.2.onCmd c.order fun c => { c with spoilt := c.spoilt ++ [k.1.toNat % max 1 e.count] }
    | _ => s

/-- An entry or a list lost in hub SRAM, which is control: R100 holds, and the function is lost too (R180, R369). -/
def State.sramLost (s : State) (r : Sqe) (what : HostRead) : State :=
  let a := s.draw
  let addr := a.1.toNat % 2 ^ 48
  let s := a.2
  if what == .data then s.ingressLost r addr
  else
    let s := (((s.controlError 4 160 ⟨3, 0⟩ addr).bump 0x3000 8).bump 0x3000 6).aer r.fn.toNat ReadFault.sram.aerBit false
    let s := if what == .list then s.dataFailed r else s
    if (s.ctrl r.fn.toNat).enabled then s.fatal r.fn.toNat 3 else s

/-- HOST_READ_FAILED. -/
def State.hostReadFailed (s : State) (r : Sqe) (what : HostRead) (why : ReadFault) : State :=
  if why == .sram then s.sramLost r what
  else
    let s := ((s.bump 0x3000 8).bump 0x3000 6).aer r.fn.toNat why.aerBit false
    if what == .entry then (if (s.ctrl r.fn.toNat).enabled then s.fatal r.fn.toNat 1 else s) else s.dataFailed r

/-- LATE_COMPLETION: of a read that a reset abandoned (R182). -/
def State.lateCompletion (s : State) (fn : Nat) : State :=
  let c := s.ctrl fn
  if c.lateExpected = 0 then s else (s.setCtrl fn { c with lateExpected := c.lateExpected - 1 }).fbump fn 0x4020 0x0A 1

/-- AGGREGATION_TIME_EXPIRY: held MSI-X messages go once the aggregation time has run. -/
def State.aggregate (s : State) (fn : Nat) : State :=
  let c := s.ctrl fn
  if c.coalesced.isEmpty || decide (s.since c.coalesceAt < usTicks (100 * bits (Tab.get c.features 0 0x08) 8 8)) then s
  else (Tab.keys c.coalesced).foldl (fun s v => s.signal fn v false) (s.setCtrl fn { c with coalesced := [] })

/-- INVALID_COMMAND_OPCODE. -/
def State.badOpcode (s : State) (r : Sqe) : State := s.onFetch r fun s => s.answer r (sc 0 0x01) 0

/-! ### SPDM and DOE (R104) -/

/-- A DOE data object: vendor `0x0001`, type, length in dwords with its header. -/
def doeObject (type : Nat) (body : List Byte) : List Byte :=
  let n := ceilDiv body.length 4
  leBytes 4 (0x0001 + type * 65536) ++ leBytes 4 (n + 2) ++ padTo (4 * n) body

/-- DOE_DISCOVERY: Discovery at index 0, CMA/SPDM at index 1. -/
def State.doeDiscovery (s : State) (index : Nat) : State :=
  let body := if index = 0 then leBytes 4 (0x0001 + 0 * 65536 + 1 * 2 ^ 24)
    else if index = 1 then leBytes 4 (0x0001 + 1 * 65536) else leBytes 4 0xFFFF
  { s with nvme.doeOut := doeObject 0 body }.emit (.doe (doeObject 0 body))

/-- An SPDM 1.2 message. -/
def spdm (code p1 p2 : Nat) (body : List Byte) : List Byte :=
  [0x12, BitVec.ofNat 8 code, BitVec.ofNat 8 p1, BitVec.ofNat 8 p2] ++ body

/-- A measurement block of a digest. -/
def measurementBlock (index : Nat) (digest : List Byte) : List Byte :=
  [BitVec.ofNat 8 index, 1] ++ leBytes 2 51 ++ [BitVec.ofNat 8 index] ++ leBytes 2 48 ++ padTo 48 digest

/-- The entries of the protection set-up: transport enables, tier maps, field-bus and supervisor keys, tenant windows, key vault access
rules (02_object_dictionary.md, "The protection set-up"; R166). -/
def protectionEntry (idx sub : Nat) : Bool :=
  (idx == 0x4F00 && sub == 1) || idx == 0x4F10 || (idx == 0x4F20 && decide (sub ≤ 2)) ||
    (idx == 0x4010 && [3, 4, 7, 8, 0x0B].contains sub) || idx == 0xB310

/-- The committed protection set-up as bytes: each listed value behind its key. The spec says that a digest is taken of the set-up and not over
which bytes (log 29). -/
def State.protectionBytes (s : State) : List Byte :=
  (Tab.keep (fun k _ => protectionEntry (k / 2 ^ 8 % 2 ^ 16) (k % 2 ^ 8)) s.dict.vals).flatMap fun p => leBytes 8 p.1 ++ leBytes 64 p.2

/-- The responder's answer to a request, by its stage; message layouts are SPDM 1.2's (log 29). -/
def State.spdmAnswer (s : State) (q : SpdmReq) : List Byte × State :=
  let err (code : Nat) : List Byte × State := (spdm 0x7F code 0 [], s)
  let ready := s.nvme.spdm == .algorithms
  if !s.flag 0x3020 5 then err 0x05
  else match q with
    | .getVersion => ([0x10, 0x04, 0, 0, 0, 1] ++ leBytes 2 0x1200, { s with nvme.spdm := .version })
    | .getCapabilities =>
      if s.nvme.spdm == .none then err 0x04
      else
        let f := s.freeBytes 8
        (spdm 0x61 0 0 ([0, 20, 0, 0] ++ leBytes 4 0x16 ++ f.1), { f.2 with nvme.spdm := .capabilities })
    | .negotiate p384 h384 =>
      if s.nvme.spdm == .none || s.nvme.spdm == .version then err 0x04
      else
        let ok := p384 && h384
        (spdm 0x63 0 0 (leBytes 2 36 ++ [1, 0] ++ leBytes 4 4 ++ leBytes 4 (if p384 then 0x80 else 0) ++
          leBytes 4 (if h384 then 2 else 0) ++ List.replicate 16 0), if ok then { s with nvme.spdm := .algorithms } else s)
    | .getDigests => if !ready then err 0x04 else (spdm 0x01 0 1 (sha384 Config.certChain), s)
    | .getCertificate slot offset length =>
      if !ready then err 0x04
      else if slot != 0 || decide (Config.certChain.length ≤ offset.toNat) then err 0x01
      else
        let p := (Config.certChain.drop offset.toNat).take length.toNat
        (spdm 0x02 0 0 (leBytes 2 p.length ++ leBytes 2 (Config.certChain.length - offset.toNat - p.length) ++ p), s)
    | .challenge slot nonce =>
      if !ready then err 0x04
      else if slot != 0 then err 0x01
      else
        let n := s.random 32
        let m := spdm 0x03 0 1 (sha384 Config.certChain ++ padTo 32 n.1 ++ leBytes 2 0)
        (m ++ padTo 96 (Config.signature (leBytes 32 nonce.toNat ++ m)), n.2)
    | .getMeasurements index signed nonce =>
      if !ready then err 0x04
      else
        let n := s.random 32
        let blocks := [
          measurementBlock 1 (sha384 (s.cs.bytes 0 0x40000)),
          measurementBlock 2 (((s.cs.lastOf 2 s.cs.runningSlot).map (·.digest)).getD []),
          measurementBlock 3 (sha384 s.protectionBytes)]
        let i := index.toNat
        let l := if i = 0 then [] else if i = 0xFF then blocks else (blocks.drop (i - 1)).take 1
        if i != 0 && l.isEmpty then err 0x01
        else
          let m := spdm 0x60 (if i = 0 then 3 else 0) 0 ([BitVec.ofNat 8 l.length] ++ leBytes 3 l.flatten.length ++ l.flatten ++
            padTo 32 n.1 ++ leBytes 2 0)
          (if signed then m ++ padTo 96 (Config.signature (leBytes 32 nonce.toNat ++ m)) else m, n.2)
    | .other => err 0x07

/-- A request answered on the DOE mailbox, or held for Security Receive. -/
def State.spdmRequest (s : State) (q : SpdmReq) (doe : Bool) : State :=
  let a := s.spdmAnswer q
  if doe then { a.2 with nvme.doeOut := doeObject 1 a.1 }.emit (.doe (doeObject 1 a.1)) else { a.2 with nvme.spdmOut := a.1 }

/-- SECURITY_SEND of `len` bytes. -/
def State.securitySend (s : State) (r : Sqe) (secp len : Nat) (q : SpdmReq) (w : Walk) : State :=
  s.admin r false fun s =>
    if secp != 0xE8 || decide (maxTransfer < len) then s.answer r (sc 0 0x02) 0
    else if s.walkStatus r w len true != 0 then s.answer r (s.walkStatus r w len true) 0
    else (s.spdmRequest q false).answer r 0 0

/-- SECURITY_RECEIVE: the supported protocol list, or the SPDM response that waits. -/
def State.securityReceive (s : State) (r : Sqe) (secp len : Nat) (w : Walk) : State :=
  s.admin r false fun s =>
    if maxTransfer < len then s.answer r (sc 0 0x02) 0
    else if secp != 0 && secp != 0xE8 then s.answer r (sc 0 0x02) 0
    else if s.walkStatus r w len false != 0 then s.answer r (s.walkStatus r w len false) 0
    else if secp = 0 then s.answerData r w (List.replicate 6 0 ++ beBytes 2 2 ++ [0x00, 0xE8]) 0 len
    else { s with nvme.spdmOut := [] }.answerData r w s.nvme.spdmOut 0 len

end Sys2Proof.Machine
end

