-- ==== Sys2Proof/Machine/HostNs.lean ====
section
/-! DEFINITION. Namespaces, their keys and their deallocation, reservations, Flush and the NVM I/O commands as they are
fetched (R109 to R114, R117, R327, R483, R484). -/
namespace Sys2Proof.Machine

/-! ### Namespaces (R109, R110, R114) -/

/-- The list of namespaces changed at one identifier. -/
def State.onNs (s : State) (nsid : Nat) (f : Namespace → Namespace) : State :=
  let l := updateIf (fun (n : Namespace) => n.nsid == nsid) f s.nvme.namespaces
  { s with nvme.namespaces := l }

/-- Whether Namespace commands are refused with `TWIN_LINK`: split-link operation (R114, R116). -/
def State.splitLink (s : State) : Bool := s.isTwin && s.twin.pair == .split

/-- The status of `TWIN_LINK` on NVMe. -/
def twinLinkStatus : Nat := sc 7 0x10

/-- A change of a namespace seen by hosts: the Changed Namespace list, the notice (R127), and a SYNC frame to the twin, whose
value the spec does not lay out (R89; log 30). -/
def State.nsChanged (s : State) (nsid : Nat) : State :=
  let s := { s with nvme.changedNs := (s.nvme.changedNs.filter (· < nsid)) ++ nsid :: s.nvme.changedNs.filter (nsid < ·) }
  let s := s.raiseAll evNamespace
  match s.twin.pair with
  | .inStep | .resync | .failback =>
    let f := s.freeBytes 200
    { f.2 with dict.pairSeq := f.2.dict.pairSeq + 1 }.strait 5 0x00 (leBytes 8 (f.2.dict.pairSeq + 1) ++ f.1)
  | _ => s

/-- A fresh data key: its generation. -/
def State.newKey (s : State) : Nat × State := (s.nvme.nextKeyGen, { s with nvme.nextKeyGen := s.nvme.nextKeyGen + 1 })

/-- Every mapped unit of a namespace deallocated: one record, the listed entries, and the dirty versions superseded. -/
def State.deallocNamespace (s : State) (n : Namespace) : State :=
  let i := setOfGroup n.group
  if !(s.xset i).live then s
  else
    let s := s.journal i false [.dealloc n.nsid 0 (ceilDiv n.lbas 4)]
    let seq := (s.xset i).seq
    let mine := (s.xset i).map.filter fun p => p.1 / 2 ^ 56 == n.nsid
    let s := mine.foldl (fun s p =>
      let unit := p.1 % 2 ^ 56
      s.mapWrite i n.nsid unit ⟨0, 0, 0, (s.genOf i n.nsid unit + 1) % 256, 0⟩ seq) s
    let l := s.hold.dirty.map fun (d : DirtyUnit) =>
      if d.nsid == n.nsid && d.committed then { d with superseded := true } else d
    { s with hold.dirty := l }.releaseDirty

/-- The group a create names; none for a value that names none here (R110, R114). -/
def State.groupOf (s : State) (anagrp : Nat) : Option Nat :=
  if anagrp = 0 then some s.ownGroup
  else if anagrp = 1 then some 1
  else if anagrp = 2 && s.isTwin then some 2 else none

/-- Whether a format's metadata admits a protection type (R111). -/
def formatOk (lbaf dps : Nat) (guard64 : Bool) : Bool :=
  decide (dps % 8 ≤ 3) && (lbaf != 0 || dps == 0) && (!guard64 || (lbaf == 2 && dps < 8))

/-- NAMESPACE_CREATE (R110, R114, R268). -/
def State.nsCreate (s : State) (r : Sqe) (nsze ncap lbaf dps anagrp : Nat) (guard64 extended nmic : Bool) (w : Walk) : State :=
  s.admin r false fun s =>
    let cap (g : Nat) : Nat := sumOf (fun n => if n.nsid ≤ 1020 ∧ n.group = g then 4096 * n.lbas else 0) s.nvme.namespaces
    let free := (List.range 1020).find? fun k => (s.namespace? (k + 1)).isNone
    let bytes := 4096 * ncap
    if s.walkStatus r w 4096 true != 0 then s.answer r (s.walkStatus r w 4096 true) 0
    else if s.splitLink then s.answer r twinLinkStatus 0
    else if 2 < lbaf then s.answer r (sc 0 0x0B) 0
    else if !nmic || nsze != ncap || nsze % 4 != 0 || !formatOk lbaf dps guard64 then s.answer r (sc 0 0x02) 0
    else match s.groupOf anagrp, free with
      | none, _ => s.answer r (sc 1 0x24) 0
      | some g, f =>
        if s.tnvmcap < s.usedCap + bytes || decide (s.tnvmcap / (if s.isTwin then 2 else 1) < cap g + bytes) then s.answer r (sc 1 0x15) 0
        else match f with
          | none => s.answer r (sc 1 0x16) 0
          | some k =>
            let key := s.newKey
            let n : Namespace := {
              nsid := k + 1, lbas := nsze, lbaf := lbaf, dps := dps, group := g, attached := []
              keyGen := key.1, keyType := s.val 0xB300 3, registrants := [], holder := none, resvType := 0, ptpl := false
              resvGen := 0, nguid := (Config.nguid (s.val 0x3020 2) (k + 1)).toNat, guard64 := guard64, extended := extended }
            let s := key.2
            let l := (s.nvme.namespaces.filter fun m => m.nsid < n.nsid) ++ n :: s.nvme.namespaces.filter fun m => n.nsid < m.nsid
            ({ s with nvme.namespaces := l }.nsChanged n.nsid).answer r 0 n.nsid

/-- One NVM namespace removed with its units and its key. -/
def State.nsRemove (s : State) (nsid : Nat) : State :=
  match s.namespace? nsid with
  | none => s
  | some n =>
    let s := s.deallocNamespace n
    { s with nvme.namespaces := s.nvme.namespaces.filter fun m => m.nsid != nsid }.nsChanged nsid

/-- NAMESPACE_DELETE: one NVM namespace, or all of them. -/
def State.nsDelete (s : State) (r : Sqe) (nsid : Nat) : State :=
  s.admin r false fun s =>
    if s.splitLink then s.answer r twinLinkStatus 0
    else if nsid = 0xFFFFFFFF then
      let l := (s.nvme.namespaces.map fun (n : Namespace) => n.nsid).filter (· ≤ 1020)
      (l.foldl (fun (s : State) n => s.nsRemove n) s).answer r 0 0
    else if (s.namespace? nsid).isNone then s.answer r (sc 0 0x0B) 0
    else if 1020 < nsid then s.answer r (sc 0 0x02) 0
    else (s.nsRemove nsid).answer r 0 0

/-- Whether an identifier names a controller of either Isle. -/
def State.cntlidOk (s : State) (c : Nat) : Bool :=
  (decide (1 ≤ c) && decide (c ≤ 0x100) && (s.isTwin || !s.pkg.straps.isle)) ||
    (decide (0x101 ≤ c) && decide (c ≤ 0x200) && (s.isTwin || s.pkg.straps.isle))

/-- NAMESPACE_ATTACH and NAMESPACE_DETACH (R113, R114). -/
def State.nsAttach (s : State) (r : Sqe) (nsid : Nat) (ctrls : List Nat) (attach : Bool) (w : Walk) : State :=
  s.admin r false fun s =>
    if s.walkStatus r w 4096 true != 0 then s.answer r (s.walkStatus r w 4096 true) 0
    else if s.splitLink then s.answer r twinLinkStatus 0
    else match s.namespace? nsid with
      | none => s.answer r (sc 0 0x0B) 0
      | some n =>
        if ctrls.isEmpty || !(ctrls.all s.cntlidOk) then s.answer r (sc 1 0x1C) 0
        else if attach && ctrls.any n.attached.contains then s.answer r (sc 1 0x18) 0
        else if !attach && !(ctrls.all n.attached.contains) then s.answer r (sc 1 0x1A) 0
        else
          let l := if attach then n.attached ++ ctrls else n.attached.filter fun c => !ctrls.contains c
          ((s.onNs nsid fun n => { n with attached := l }).nsChanged nsid).answer r 0 0

/-- FORMAT_NVM: the units are deallocated, a new key drawn with SES 1 or 2, the format taken, a running self-test ended
(R113, R114, R153, R484). -/
def State.formatNvm (s : State) (r : Sqe) (nsid lbaf dps ses : Nat) (guard64 extended : Bool) : State :=
  s.admin r false fun s =>
    if s.splitLink then s.answer r twinLinkStatus 0
    else match s.namespace? nsid with
      | none => s.answer r (sc 0 0x0B) 0
      | some n =>
        if 1020 < nsid || decide (2 < ses) then s.answer r (sc 0 0x02) 0
        else if 2 < lbaf then s.answer r (sc 0 0x0B) 0
        else if !formatOk lbaf dps guard64 then s.answer r (sc 0 0x02) 0
        else
          let s := s.deallocNamespace n
          let key := s.newKey
          let s := if ses = 0 then s
            else { key.2 with nvme.tableKeyGen := key.2.nvme.tableKeyGen + 1 }.setKept 0xB300 5 (s.val 0xB300 5 + 1)
          let s := s.onNs nsid fun n => { n with
            lbaf := lbaf, dps := dps, guard64 := guard64, extended := extended
            keyGen := if ses = 0 then n.keyGen else key.1
            keyType := if ses = 0 then n.keyType else s.val 0xB300 3 }
          ((s.endSelfTest 4).nsChanged nsid).answer r 0 0

/-! ### Reservations (R117, R128, R327) -/

/-- A reservation notification to the controllers of this Isle among some registrants: 1 registration preempted,
2 reservation released, 3 reservation preempted, unless masked. -/
def State.resvNotify (s : State) (nsid type : Nat) (dest : List Registrant) : State :=
  (s.functions.filter fun fn => dest.any fun g => g.cntlid == s.cntlid fn).foldl (fun s fn =>
    let c := s.ctrl fn
    if bit (Tab.get c.features 0 (0x100000 + nsid)) type then s
    else (s.setCtrl fn { c with resvLog := c.resvLog ++ [(type, nsid)], resvCount := c.resvCount + 1 }).raiseOn fn evReservation) s

/-- The `RESV_STATE` frame of a namespace (R327); the spec gives its payload no layout: the identifier leads, the rest is free
(log 31). -/
def State.sendResv (s : State) (nsid : Nat) : State :=
  match s.twin.pair with
  | .inStep | .resync | .failback =>
    let f := s.freeBytes 200
    f.2.strait 0 0x06 (leBytes 4 nsid ++ f.1)
  | _ => s

/-- Persist Through Power Loss as a Register asks: 2 clears it, 3 sets it. -/
def ptplAfter (n : Namespace) (cptpl : Nat) : Bool := if cptpl = 2 then false else if cptpl = 3 then true else n.ptpl

/-- Whether a type's reservation is held by every registrant. -/
def allHold (type : Nat) : Bool := type == 5 || type == 6

/-- Whether a registrant holds the reservation. -/
def Namespace.holds (n : Namespace) (g : Registrant) : Bool :=
  n.holder.isSome && (allHold n.resvType || n.holder == some g.cntlid)

/-- A reservation command's outcome: status, the namespace after, and notifications with their targets. -/
structure ResvResult where
  status : Nat
  ns : Namespace
  notes : List (Nat × List Registrant)

/-- A reservation command that conflicts (R128). -/
def ResvResult.conflict (n : Namespace) : ResvResult := ⟨sc 0 0x83, n, []⟩

/-- Registrants without one; a reservation its only holder leaves is released. -/
def Namespace.drop (n : Namespace) (out : Registrant → Bool) : Namespace × Bool :=
  let l := n.registrants.filter fun g => !out g
  let lost := n.holder.isSome && (if allHold n.resvType then l.isEmpty else n.registrants.any fun g => out g && n.holder == some g.cntlid)
  let holder := if lost then none
    else if allHold n.resvType then (l.head?).map (·.cntlid) else n.holder
  ({ n with registrants := l, holder := holder, resvType := if lost then 0 else n.resvType }, lost)

/-- Reservation Register. -/
def Namespace.register (n : Namespace) (cntlid host action cptpl crkey nrkey : Nat) (iekey : Bool) : ResvResult :=
  let me := n.registrant cntlid host
  let bump (m : Namespace) : Namespace := { m with resvGen := (m.resvGen + 1) % 2 ^ 32, ptpl := ptplAfter m cptpl }
  match action, me with
  | 0, none => ⟨0, bump { n with registrants := n.registrants ++ [⟨cntlid, host, nrkey⟩] }, []⟩
  | 0, some g => if g.key = nrkey then ⟨0, { n with ptpl := ptplAfter n cptpl }, []⟩ else .conflict n
  | 1, some g =>
    if !iekey && g.key != crkey then .conflict n
    else
      let d := n.drop fun h => h == g
      let note := d.2 && (n.resvType == 3 || n.resvType == 4)
      ⟨0, bump d.1, if note then [(2, d.1.registrants)] else []⟩
  | 2, some g =>
    if !iekey && g.key != crkey then .conflict n
    else
      let l := n.registrants.map fun h => if h == g then { h with key := nrkey } else h
      ⟨0, bump { n with registrants := l }, []⟩
  | 1, none => .conflict n
  | 2, none => .conflict n
  | _, _ => ⟨sc 0 0x02, n, []⟩

/-- Reservation Acquire: acquire, preempt, preempt and abort. No command is aborted (R143). -/
def Namespace.acquire (n : Namespace) (cntlid host action type crkey prkey : Nat) (iekey : Bool) : ResvResult :=
  match n.registrant cntlid host with
  | none => .conflict n
  | some g =>
    if !iekey && g.key != crkey then .conflict n
    else if type = 0 ∨ 6 < type ∨ 2 < action then ⟨sc 0 0x02, n, []⟩
    else if action = 0 then
      if n.holder.isNone then ⟨0, { n with holder := some g.cntlid, resvType := type }, []⟩
      else if n.holds g && n.resvType == type then ⟨0, n, []⟩ else .conflict n
    else
      let victim (h : Registrant) : Bool := if allHold n.resvType && prkey == 0 then h != g else h.key == prkey && h != g
      let gone := n.registrants.filter victim
      let holderHit := n.holder.isSome && ((allHold n.resvType && prkey == 0) ||
        (!allHold n.resvType && n.registrants.any fun h => h.key == prkey && n.holder == some h.cntlid))
      if gone.isEmpty && !holderHit then .conflict n
      else
        let m := (n.drop victim).1
        let m := { m with resvGen := (m.resvGen + 1) % 2 ^ 32 }
        let m := if holderHit then { m with holder := some g.cntlid, resvType := type } else m
        let released := if holderHit && n.resvType != type && 3 ≤ n.resvType then
          [(2, m.registrants.filter fun h => h != g)] else []
        ⟨0, m, (if holderHit then 3 else 1, gone) :: released⟩

/-- Reservation Release: release, clear. -/
def Namespace.release (n : Namespace) (cntlid host action type crkey : Nat) (iekey : Bool) : ResvResult :=
  match n.registrant cntlid host with
  | none => .conflict n
  | some g =>
    if !iekey && g.key != crkey then .conflict n
    else if action = 0 then
      if !n.holds g then ⟨0, n, []⟩
      else if n.resvType != type then ⟨sc 0 0x02, n, []⟩
      else
        let note := if 3 ≤ n.resvType then [(2, n.registrants.filter fun h => h != g)] else []
        ⟨0, { n with holder := none, resvType := 0 }, note⟩
    else if action = 1 then
      ⟨0, { n with registrants := [], holder := none, resvType := 0, resvGen := (n.resvGen + 1) % 2 ^ 32 },
        [(3, n.registrants.filter fun h => h != g)]⟩
    else ⟨sc 0 0x02, n, []⟩

/-- The Reservation Status structure in its extended form, as 128-bit host identifiers need. -/
def Namespace.resvReport (n : Namespace) : List Byte :=
  padTo 64 (leBytes 4 n.resvGen ++ [BitVec.ofNat 8 n.resvType] ++ leBytes 2 n.registrants.length ++ [0, 0, BitVec.ofNat 8 (b2n n.ptpl)]) ++
    n.registrants.flatMap fun g => padTo 64 (leBytes 2 g.cntlid ++ [BitVec.ofNat 8 (b2n (n.holds g)), 0, 0, 0, 0, 0] ++
      leBytes 8 g.key ++ leBytes 16 g.host)

/-- A reservation command carried out on the owning Isle for a controller of either. -/
def State.resvOp (s : State) (n : Namespace) (cntlid host : Nat) (q : ResvOp) : Nat × State :=
  let x := match q with
    | .register a iek c k nk => n.register cntlid host a.toNat c.toNat k.toNat nk.toNat iek
    | .acquire a iek t k pk => n.acquire cntlid host a.toNat t.toNat k.toNat pk.toNat iek
    | .release a iek t k => n.release cntlid host a.toNat t.toNat k.toNat iek
    | .report => ⟨0, n, []⟩
  let s := s.onNs n.nsid fun _ => x.ns
  let s := x.notes.foldl (fun s p => s.resvNotify n.nsid p.1 p.2) s
  (x.status, if x.ns = n then s else s.sendResv n.nsid)

/-- No protection fields. -/
def PrInfo.none : PrInfo := ⟨false, false, false, false, 0, 0, 0⟩

/-- An I/O command to an NVM namespace that takes no range lock: fetched, checked, and run here by `f` once it has passed the class-0 admission,
or forwarded (R154). `need` bytes move by its pointers. -/
def State.ioPlain (s : State) (r : Sqe) (nsid opcode need : Nat) (write : Bool) (w : Walk) (dws : List Nat) (data : List Byte)
    (f : State → Namespace → State) : State :=
  if r.sq = 0 then s
  else s.onFetch r fun s =>
    if s.nvme.sanitize.isSome then s.answer r (sc 0 0x1D) 0
    else if 1021 ≤ nsid ∧ nsid ≤ 1024 then s.answer r (sc 0 0x01) 0
    else match s.namespace? nsid with
      | none => s.answer r (sc 0 0x0B) 0
      | some n =>
        if !n.attached.contains (s.cntlid r.fn.toNat) then s.answer r (sc 0 0x0B) 0
        else match (s.ana n.group).status with
          | some st => s.answer r st 0
          | none =>
            if s.walkStatus r w need write != 0 then s.answer r (s.walkStatus r w need write) 0
            else if (s.xset (setOfGroup n.group)).live then f (s.judgePlain r) n
            else s.forward r.fn.toNat r.sq.toNat r.cid.toNat (s.classOf r.fn.toNat r.sq.toNat) nsid .other PrInfo.none w opcode dws data

/-- Doubleword 10 of a reservation command, and its data: the keys. -/
def ResvOp.entry (q : ResvOp) : Nat × List Byte :=
  match q with
  | .register a iek c k nk => (a.toNat + 8 * b2n iek + c.toNat * 2 ^ 30, leBytes 8 k.toNat ++ leBytes 8 nk.toNat)
  | .acquire a iek t k pk => (a.toNat + 8 * b2n iek + t.toNat * 2 ^ 8, leBytes 8 k.toNat ++ leBytes 8 pk.toNat)
  | .release a iek t k => (a.toNat + 8 * b2n iek + t.toNat * 2 ^ 8, leBytes 8 k.toNat)
  | .report => (0, [])

/-- RESERVATION_REGISTER, _ACQUIRE and _RELEASE. -/
def State.reservation (s : State) (r : Sqe) (nsid opcode : Nat) (q : ResvOp) (w : Walk) : State :=
  s.ioPlain r nsid opcode (match q with
    | .release .. => 8
    | _ => 16) true w [0, q.entry.1] q.entry.2 fun s n =>
    let fn := r.fn.toNat
    let x := s.resvOp n (s.cntlid fn) (s.hostId fn) q
    x.2.answer r x.1 0

/-- RESERVATION_REPORT: the extended structure; without it the host's 128-bit identifier is inconsistent. -/
def State.reservationReport (s : State) (r : Sqe) (nsid numd : Nat) (eds : Bool) (w : Walk) : State :=
  s.ioPlain r nsid 0x0E (4 * (numd + 1)) false w [0, numd, 1] [] fun s n =>
    if !eds then s.answer r (sc 0 0x24) 0
    else if maxTransfer < 4 * (numd + 1) then s.answer r (sc 0 0x02) 0
    else s.answerData r w n.resvReport 0 (4 * (numd + 1))

/-- FLUSH: success with no media action, on device namespaces too (R117). -/
def State.ioFlush (s : State) (r : Sqe) (nsid : Nat) : State :=
  if r.sq = 0 then s
  else s.onFetch r fun s =>
    let attached := match s.namespace? nsid with
      | none => false
      | some n => n.attached.contains (s.cntlid r.fn.toNat)
    let blocked := ((s.namespace? nsid).map fun n => (s.ana n.group).status).getD none
    if s.nvme.sanitize.isSome then s.answer r (sc 0 0x1D) 0
    else if nsid = 0xFFFFFFFF then (s.judgePlain r).answer r 0 0
    else if !attached then s.answer r (sc 0 0x0B) 0
    else match blocked with
      | some st => s.answer r st 0
      | none => (s.judgePlain r).answer r 0 0

/-! ### The NVM commands as fetched (R117, R133, R139, R277) -/

/-- As many blocks as a command names: bytes the host sent, zeros beyond them. -/
def blocksOf (count : Nat) (l : List Lba) : List Lba := (List.range count).map (lbaOf l)

def State.nvmWrite (s : State) (r : Sqe) (nsid lba nlb : Nat) (data : List Lba) (pr : PrInfo) (w : Walk) : State :=
  s.io r (.write ⟨nsid, lba, nlb + 1⟩ (blocksOf (nlb + 1) data)) nsid pr w 0x01
def State.nvmRead (s : State) (r : Sqe) (nsid lba nlb : Nat) (pr : PrInfo) (w : Walk) : State :=
  s.io r (.read ⟨nsid, lba, nlb + 1⟩) nsid pr w 0x02
def State.compare (s : State) (r : Sqe) (nsid lba nlb : Nat) (data : List Lba) (pr : PrInfo) (w : Walk) : State :=
  s.io r (.compare ⟨nsid, lba, nlb + 1⟩ (blocksOf (nlb + 1) data)) nsid pr w 0x05
def State.writeZeroes (s : State) (r : Sqe) (nsid lba nlb : Nat) (pr : PrInfo) : State :=
  s.io r (.zeroes ⟨nsid, lba, nlb + 1⟩) nsid pr .ok 0x08
def State.verify (s : State) (r : Sqe) (nsid lba nlb : Nat) (pr : PrInfo) : State :=
  s.io r (.verify ⟨nsid, lba, nlb + 1⟩) nsid pr .ok 0x0C

/-- DATASET_MANAGEMENT: ranges of first block and length; without the Deallocate attribute nothing is done. -/
def State.datasetManagement (s : State) (r : Sqe) (nsid : Nat) (ranges : List (Nat × Nat)) (ad : Bool) (w : Walk) : State :=
  s.io r (.deallocate (if ad then ranges.map fun p => ⟨nsid, p.1, p.2⟩ else [])) nsid .none w 0x09

/-- A Copy's checks of one of its sources (R111). -/
def CopyPr.range (c : CopyPr) (p : CopyRange) : PrInfo :=
  ⟨c.act, c.guard_, c.app, c.ref, p.appTag.toNat, p.appMask.toNat, p.refTag.toNat⟩

/-- COPY: source ranges of first block and count less one, each with the tags its read is checked against. -/
def State.copy (s : State) (r : Sqe) (nsid sdlba : Nat) (src : List CopyRange) (check : CopyPr) (pr : PrInfo) (w : Walk) : State :=
  let l := src.map fun p => Extent.mk nsid p.lba.toNat (p.nlb.toNat + 1)
  s.io r (.copy l ⟨nsid, sdlba, sumOf (·.count) l⟩ (src.map check.range)) nsid pr w 0x19

end Sys2Proof.Machine
end

