-- ==== Sys2Proof/Machine/Link.lean ====
section
/-! DEFINITION. The Strait link, pairing, mirroring, journal shipping and resynchronization, heartbeats and forwarded commands
(R319 to R335, R349, R350, 10_twin.md). -/
namespace Sys2Proof.Machine

/-! ### The link (R319 to R324) -/

/-- The receive credits a session starts with (R322). -/
def startCredits : Vector Nat 6 := #v[64, 8, 2048, 512, 2048, 32]

/-- The pair state's code (R352). -/
def PairState.code : PairState → Nat
  | .alone => 0
  | .resync => 1
  | .inStep => 2
  | .split => 3
  | .takeover => 4
  | .sole => 5
  | .failback => 6

/-- `HELLO` or `HELLO_ACK`: ordering code, stepping, Isle, firmware version, package serial, pair serial and pair state, in the order of R326;
their widths are the model's (log 33). -/
def State.sendHello (s : State) (type : Nat) : State :=
  s.strait 0 type (padTo 16 (leBytes 16 (s.val 0x1000 2)) ++ [BitVec.ofNat 8 (s.val 0x1000 3), BitVec.ofNat 8 (b2n s.pkg.straps.isle)] ++
    s.cs.revision s.cs.runningSlot ++ serialBytes ++ leBytes 20 (s.val 0x8000 0x10) ++ [BitVec.ofNat 8 s.twin.pair.code])

/-- A fresh link session: sequences and credits start over, nothing is held for replay (R323). -/
def Twin.fresh (t : Twin) (lanes : Nat) : Twin := { t with
  lanes := lanes, session := true, refused := false, txSeq := 0, rxNext := 0, txAcked := 0, nak := false, unackedRx := false
  replay := [], resent := 0, waiting := [], credits := startCredits, owed := #v[0, 0, 0, 0, 0, 0], silent := false }

/-- STRAIT_LINK_UP: training ends with so many lanes usable in each direction; the link runs on 8, or on lanes 0–3 at half rate, and `HELLO` is
sent. With fewer than 4 in a direction it stays down (R319). -/
def State.linkUp (s : State) (tx rx : Nat) (order : BitVec 2) (invert : BitVec 16) : State :=
  if !s.serving || !s.pkg.boot.firmwareUp || s.twin.lanes != 0 || !s.isTwin || decide (min tx rx < 4) then s
  else
    let half := decide (min tx rx < 8)
    let s := if half then s.bump 0x8000 4 else s
    let t := { s.twin.fresh (if half then 4 else 8) with laneOrder := order, laneInvert := invert }
    ({ s with twin := t }.fire (evSrc 42 1)).sendHello 0x01

/-- Every frame from `ACK` + 1 sent again, in order, and counted (R323). -/
def State.resendAll (s : State) : State :=
  let l := s.twin.replay
  (l.foldl (fun (s : State) p => s.sendFrame p) s).fbump 0 0x8000 3 l.length

/-- Held frames resent; eight replays of one frame in a row retrain the link within the session (R320, R323). -/
def State.resend (s : State) : State :=
  let s := s.resendAll
  let n := s.twin.resent + 1
  if 8 ≤ n then { s with twin.resent := 0 }.bump 0x8000 4 else { s with twin.resent := n }

/-- STRAIT_LOCK_LOSS: the link retrains and sends its held frames again (R320). -/
def State.lockLoss (s : State) : State := if s.twin.lanes = 0 then s else (s.bump 0x8000 4).resendAll

/-- The sender's view after an `ACK` and a `CREDIT` field: covered frames leave the replay buffer, credits come back, and
waiting frames go. -/
def State.linkFields (s : State) (l : Link) : State :=
  let t := s.twin
  let left := t.replay.filter fun p => !decide ((l.ack - p.1).toNat < 2 ^ 31)
  let c := l.cls.toNat
  let t := { t with
    replay := left
    resent := if left.length < t.replay.length then 0 else t.resent
    txAcked := if left.length < t.replay.length then l.ack else t.txAcked
    credits := t.credits.setIfInBounds c (t.credit c + l.credit.toNat) }
  { s with twin := t }.pump

/-- A frame received in order: its link fields, an acknowledgement and a credit owed, then what it carries. Nothing is
received while the link is down. -/
def State.frame (s : State) (cls : Nat) (l : Link) (f : State → State) : State :=
  if s.twin.lanes = 0 || !s.twin.session then s
  else
    let t := s.twin
    let s := { s with
      twin.rxNext := t.rxNext + 1, twin.unackedRx := true, twin.silent := false
      twin.owed := t.owed.setIfInBounds cls ((t.owed[cls]?).getD 0 + 1) }
    f (s.linkFields l)

/-- STRAIT_FRAME_ERROR: the frame is discarded and `NAK` goes in the next frame. -/
def State.frameError (s : State) : State :=
  if s.twin.lanes = 0 || !s.twin.session then s else { s with twin.nak := true, twin.silent := false }

/-- STRAIT_NAK: every frame from `ACK` + 1 is sent again. -/
def State.nakReceived (s : State) (l : Link) : State :=
  if s.twin.lanes = 0 || !s.twin.session then s
  else
    let s := s.linkFields l
    if s.twin.replay.isEmpty then s else s.resend

/-- STRAIT_ACK_SEND: with nothing else to send, an acknowledgement-only frame. -/
def State.ackSend (s : State) : State := if s.twin.unackedRx then s.strait 0 0x00 [] else s

/-- UNKNOWN_FRAME (R324). -/
def State.unknownFrame (s : State) (l : Link) (cls : Nat) : State := s.frame cls l fun s => s.bump 0x8000 0x11

/-- The link session ends: what is held or waits is discarded (R323). -/
def State.endSession (s : State) : State :=
  { s with twin.session := false, twin.replay := [], twin.waiting := [], twin.unackedRx := false, twin.nak := false }

/-! ### Pairing (R326, R327) -/

/-- The pair state changed, with its event and the ANA change it brings (R351, R547). -/
def State.setPair (s : State) (p : PairState) : State :=
  if s.twin.pair = p then s else ({ s with twin.pair := p }.fire (evSrc 42 2)).anaChange

/-- Pairing refused: counted, an event, and the link falls silent. -/
def State.refusePairing (s : State) : State :=
  (({ s with twin.refused := true }.endSession.bump 0x8000 0x0D).fire (evSrc 42 2)).setPair .alone

/-- The pair serial after a handshake: the twin's where this Isle has none, Isle 0's own where neither has (R108, R326). -/
def State.adoptSerial (s : State) (theirs theirSerial : Nat) : State :=
  let mine := s.val 0x8000 0x10
  if mine != 0 then s
  else
    let p := if theirs != 0 then theirs else if s.pkg.straps.isle then theirSerial else Config.factorySerial
    (s.setKept 0x8000 0x10 p).setKept 0x3020 2 p

/-- HELLO: checked against this Isle, and answered or refused. -/
def State.hello (s : State) (l : Link) (sameCode isle single : Bool) (serial pair state : Nat) : State :=
  s.frame 0 l fun s =>
    let mine := s.val 0x8000 0x10
    if !sameCode || isle == s.pkg.straps.isle || single || !s.isTwin || (mine != 0 && pair != 0 && mine != pair) then
      s.refusePairing
    else
      let s := { s with twin.twinSerial := serial, twin.twinSole := state == 5, twin.aliveI := true, twin.failI := false }
      (s.adoptSerial pair serial).sendHello 0x02

/-- The request that starts resynchronization of a shadow: the highest sequence applied, or all ones for none (R334). -/
def State.resyncRequest (s : State) (i : Fin 2) : State :=
  let x := s.xset i
  s.strait 3 0x02 ([BitVec.ofNat 8 i.val, 0, 0, 0] ++ leBytes 8 (if x.seq = 0 then 2 ^ 64 - 1 else x.seq))

/-- HELLO_ACK: the pair enters `RESYNC`; the mirror area is asked for, and each shadow asks from where it needs records. An
Isle whose twin serves both groups gives up its claims and its live maps, and adopts the twin's shared entries, as one does that lost the
records of a shared commit (R64, R90, R348). -/
def State.helloAck (s : State) (l : Link) : State :=
  s.frame 0 l fun s =>
    if s.twin.refused then s
    else match s.twin.pair with
      | .alone | .split | .sole =>
        let s := { s with twin.adopt := s.twin.adopt || s.twin.twinSole || s.dict.owesAdopt }
        let s := if s.twin.twinSole then
            let s := (List.range 32).foldl (fun s c =>
              let p := s.port c
              if p.claim == .owned then s else s.setPort c { p with claim := .none }) s
            s.onSet 0 (fun x => { x with live := false }) |>.onSet 1 fun x => { x with live := false }
          else s
        let s := { s with twin.groupDown := false, twin.resyncStart := #v[none, none], twin.mirrorOn := false }.setPair .resync
        let s := s.strait 0 0x03 (leBytes 8 (max s.hold.ceiling (s.hold.raise.getD 0)))
        [0, 1].foldl (fun s (i : Fin 2) => if (s.xset i).live then s else s.resyncRequest i) s
      | _ => s

/-! ### Mirroring (R328 to R332) -/

/-- Dirty units that have no slot in the twin's area get one and are mirrored (R334). -/
def State.mirrorDirty (s : State) : State :=
  (s.hold.dirty.filter fun d => d.slot.isNone && !d.zero && !d.superseded).foldl (fun s d =>
    let slot := s.freeSlot
    let s := { s with
      twin.slotsOut := s.twin.slotsOut ++ [slot]
      hold.dirty := updateIf (fun (q : DirtyUnit) => q.order == d.order) (fun q => { q with slot := some slot, acked := false })
        s.hold.dirty }
    s.sendMirror d slot (((s.namespace? d.nsid).map Namespace.unitMeta).getD 0) none) s

/-- The mirror area held for the twin: the size it last asked for, and the larger one while it holds slots beyond that (R328). -/
def Twin.area (t : Twin) : Nat := t.held.foldl (fun m h => max m (16384 * (h.slot + 1))) t.areaIn

/-- MIRROR_SIZE: a request is confirmed; a confirmation lets the ceiling rise, and the first one in
`RESYNC` turns mirroring on. -/
def State.mirrorSize (s : State) (l : Link) (bytes : Nat) (confirm : Bool) : State :=
  s.frame 0 l fun s =>
    if confirm then
      let s := { s with twin.areaOut := bytes }
      if s.twin.pair == .resync && !s.twin.mirrorOn then
        let s := { s with twin.mirrorOn := true }
        if s.mirroring then s.mirrorDirty else s
      else s
    else { s with twin.areaIn := bytes }.strait 0 0x03 (leBytes 8 bytes)

/-- MIRROR_FLUSHED: the twin sowed everything itself (R298). -/
def State.mirrorFlushed (s : State) (l : Link) : State := s.frame 0 l fun s => { s with twin.held := [] }

/-- MIRROR_DESC: a slot opened for a unit. -/
def State.mirrorDesc (s : State) (l : Link) (h : Held) : State :=
  s.frame 2 l fun s =>
    let rest := s.twin.held.filter fun q => q.slot != h.slot
    { s with twin.held := rest ++ [{ h with chunks := [], acked := false, recorded := false }] }

/-- MIRROR_DATA: a chunk stored; a slot with all 72 is acknowledged, and a forwarded write notes its piece once every unit of
it is here (R330, R342). -/
def State.mirrorData (s : State) (l : Link) (slot chunk : Nat) (data : List Byte) : State :=
  s.frame 2 l fun s =>
    match s.twin.held.find? fun h => h.slot == slot with
    | none => s
    | some h =>
      let h := { h with chunks := Tab.put h.chunks chunk (padTo (if chunk = 71 then 196 else 228) data) }
      let whole := 72 ≤ h.chunks.length && !h.acked
      let h := if whole then { h with acked := true } else h
      let held := s.twin.held.map fun q => if q.slot == slot then h else q
      let s := { s with twin.held := held }
      if !whole then s
      else
        let pieceHere := (held.filter fun q => q.piece == h.piece && q.acked).length == h.pieceUnits
        let s := match h.fwdTag with
          | some tag =>
            if pieceHere then
              let out := updateIf (fun (f : FwdCmd) => f.tag == tag)
                (fun f => { f with pieces := if f.pieces.contains h.piece then f.pieces else f.pieces ++ [h.piece] }) s.nvme.fwdOut
              { s with nvme.fwdOut := out }
            else s
          | none => s
        s.strait 2 0x02 ([1, 0, 0, 0] ++ leBytes 4 slot)

/-- MIRROR_ACK: units acknowledged; pieces whose units all are pass their commit points (R330). -/
def State.mirrorAck (s : State) (l : Link) (slots : List Nat) : State :=
  s.frame 2 l fun s =>
    let d := s.hold.dirty.map fun (q : DirtyUnit) => if q.slot.any slots.contains then { q with acked := true } else q
    { s with hold.dirty := d }.settlePieces

/-- MIRROR_FREE. -/
def State.mirrorFree (s : State) (l : Link) (slots : List Nat) : State :=
  s.frame 2 l fun s => { s with twin.held := s.twin.held.filter fun h => !slots.contains h.slot }

/-- MIRROR_DISCARD: stopped writes' slots dropped, their pieces with them. -/
def State.mirrorDiscard (s : State) (l : Link) (slots : List Nat) : State :=
  s.frame 2 l fun s =>
    let gone := s.twin.held.filter fun h => slots.contains h.slot
    let out := s.nvme.fwdOut.map fun (f : FwdCmd) => { f with pieces := f.pieces.filter fun p => !(gone.any fun h => h.piece == p) }
    { s with twin.held := s.twin.held.filter fun h => !slots.contains h.slot, nvme.fwdOut := out }

/-! ### Shadow maps (R332 to R334) -/

/-- The plaintext a held slot carries, in chunk order. -/
def Held.plain (h : Held) : List Byte := (List.range 72).flatMap fun k => Tab.get h.chunks [] k

/-- The blocks a held slot carries. -/
def Held.lbas (h : Held) : List Lba :=
  let per := h.info.length / 4
  (List.range 4).map fun k => ⟨trimZeros (slice h.plain (4096 * k) 4096), trimZeros (slice h.info (per * k) per)⟩

/-- Whether a held slot carries the data its `MIRROR_DESC` promised; poisoned data came as zeros (R368). -/
def Held.intact (h : Held) : Bool := crc64 (h.plain.take 16384) == h.crc

/-- What lies where the twin sowed a unit: the blocks its held slot still carries, the bytes of the entry it was moved from,
or bytes this Isle has not seen, which are free (log 34). A slot that is not intact was poisoned at its sender, whose bytes are unseen. -/
def State.learnUnit (s : State) (i : Fin 2) (nsid unit : Nat) (e : MapEntry) (move : Bool) : State :=
  if e.state != 1 && e.state != 2 then s
  else
    let old := s.storedAt ((s.xset i).entry nsid unit)
    let slot := s.twin.held.find? fun h => h.nsid == nsid && h.unit == unit && h.gen == e.gen && h.acked
    let n := ((s.namespace? nsid).map Namespace.unitMeta).getD 0
    let unseen (p : Nat) : FlashPage := .raw ((List.range 4).map fun k =>
      let b := Config.sownBytes (4 * p + k)
      ⟨trimZeros (b.take 4096), trimZeros (slice b 4096 31), false⟩)
    let put (s : State) (u : StoredUnit) : State :=
      let pages := (s.unitPages i e).filter fun p => !Tab.has s.flash.pages p
      { s with
        flash.units := Tab.put s.flash.units (flashKey e) u
        flash.pages := pages.foldl (fun t p => Tab.put t p (unseen p)) s.flash.pages }
    let stored (s : State) (l : List Lba) : StoredUnit :=
      { s.storeUnit nsid unit e.gen n l false with raw := e.state == 1, slots := e.slots }
    match move, old, slot with
    | true, some u, _ => put s u
    | _, _, _ =>
      let a := s.freeBytes 16384
      let m := a.2.freeBytes n
      let unknown := stored s ((List.range 4).map fun k => ⟨slice a.1 (4096 * k) 4096, slice m.1 (n / 4 * k) (n / 4)⟩)
      match move, slot with
      | false, some h => if h.intact then put s (stored s h.lbas) else put m.2 { unknown with poison := true }
      | _, _ => put m.2 unknown

/-- Held slots that a record marks as recorded (R332). -/
def JRec.marks (r : JRec) (held : List Held) : List Held :=
  match r.body with
  | .unitMap nsid unit e =>
    if r.move then held
    else
      let mine := held.filter fun h => h.nsid == nsid && h.unit == unit && h.gen == e.gen && !h.recorded
      match mine with
      | [] => held
      | h :: t =>
        let lo := t.foldl (fun m q => min m q.seq) h.seq
        held.map fun q => if q.nsid == nsid && q.unit == unit && decide (q.seq ≤ lo) then { q with recorded := true } else q
  | .dealloc nsid first count =>
    held.map fun q => if q.nsid == nsid && decide (first ≤ q.unit) && decide (q.unit < first + count) then { q with recorded := true } else q
  | _ => held

/-- A bad block that the twin's journal tells of, in this Isle's view of the bad-block tables (R224, R333). -/
def State.learnBad (s : State) (b : BadBlock) : State :=
  if s.flash.bad.any fun x => x.same b then s else { s with flash.bad := s.flash.bad ++ [b] }

/-- One shipped record applied to a shadow, and to the views of the bad-block tables and retired LUNs (R333). -/
def State.applyShipped (s : State) (i : Fin 2) (r : JRec) : State :=
  let s := match r.body with
    | .unitMap nsid unit e => s.learnUnit i nsid unit e r.move
    | .blockBad word _ erases => s.learnBad (BadBlock.ofWord word erases 0)
    | .lunRetired c l cause => (s.setLun c l { s.lun c l with retired := true }).learnBad ⟨c, l, 0, 0, cause, 0, 0⟩
    | _ => s
  let s := s.onSet i fun x => { (x.apply true i.val r) with seq := r.seq }
  { s with twin.held := r.marks s.twin.held }

/-- JOURNAL_RECORDS: records of the set in sequence; complete groups are applied and acknowledged (R333). -/
def State.journalRecords (s : State) (l : Link) (i : Fin 2) (first : Nat) (records : List (List Byte)) : State :=
  s.frame 3 l fun s =>
    let x := s.xset i
    let recs := ((List.range records.length).zip records).filterMap fun p => JRec.ofBytes (first + p.1) p.2
    if x.live || (!x.dram.isEmpty && first != ((x.dram.getLast?).map (·.seq)).getD 0 + 1) then s
    else
      let all := (x.dram ++ recs).filter fun r => x.seq < r.seq
      let whole := wholeGroups all
      let s := s.onSet i fun x => { x with dram := all.drop whole.length }
      let s := whole.foldl (fun s r => s.applyShipped i r) s
      let s := s.onSet i fun x => { x with current := decide (s.twin.view.shipped ≤ x.seq) }
      if whole.isEmpty then s else s.strait 3 0x01 ([BitVec.ofNat 8 i.val, 0, 0, 0] ++ leBytes 8 (s.xset i).seq)

/-- JOURNAL_ACK: the twin acknowledgement of the durable sequence advances; writes complete and buffers go (R281, R333). -/
def State.journalAck (s : State) (l : Link) (i : Fin 2) (seq : Nat) : State :=
  s.frame 3 l fun s => (s.onSet i fun x => { x with twinAck := max x.twinAck seq }).settleWrites.releaseDirty

/-- The 32-bit number a segment travels under: namespace, then the segment within it (log 32). -/
def wireSegment (nsid k : Nat) : Nat := nsid * 2 ^ 22 + k

/-- One segment's frames: 28 entries to a frame (R334). -/
def State.sendSegment (s : State) (i : Fin 2) (nsid k : Nat) : State :=
  (List.range 4682).foldl (fun s f =>
    let n := min 28 (131072 - 28 * f)
    let e := (List.range n).flatMap fun j => leBytes 8 ((s.xset i).entry nsid (131072 * k + 28 * f + j)).bits
    s.strait 3 0x03 ([BitVec.ofNat 8 i.val, 0, 0, 0] ++ leBytes 4 (wireSegment nsid k) ++ leBytes 4 (224 * f) ++ e)) s

/-- RESYNC_FROM: the owner ships from the next record, or the whole live map and then the records from its start (R334). -/
def State.resyncFrom (s : State) (l : Link) (i : Fin 2) (applied : Nat) : State :=
  s.frame 3 l fun s =>
    let x := s.xset i
    if !x.live then s
    else
      let start := (x.checkpoint.map (·.start)).getD 1
      let near := applied != 2 ^ 64 - 1 && decide (start ≤ applied)
      let from_ := if near then applied + 1 else x.seq + 1
      let group := i.val + 1
      let s := { s with twin.resyncStart := s.twin.resyncStart.set i (some from_) }
      let s := s.onSet i fun x => { x with twinAck := if near then applied else 0 }
      if near then
        let recs := (x.flashLog ++ x.dram).filter fun r => decide (from_ ≤ r.seq)
        State.ship i recs.length s recs
      else
        (s.nvme.namespaces.filter fun n => n.group == group && n.nsid ≤ 1020).foldl (fun s n =>
          (List.range (ceilDiv (ceilDiv n.lbas 4) 131072)).foldl (fun s k => s.sendSegment i n.nsid k) s) s

/-- SEGMENT: entries stored in the shadow (R334). -/
def State.segment (s : State) (l : Link) (i : Fin 2) (seg offset : Nat) (entries : List Nat) : State :=
  s.frame 3 l fun s =>
    if (s.xset i).live then s
    else
      let nsid := seg / 2 ^ 22
      let base := 131072 * (seg % 2 ^ 22) + offset / 8
      ((List.range entries.length).zip entries).foldl (fun s p =>
        let e := MapEntry.ofBits p.2
        let same := (s.xset i).entry nsid (base + p.1) == e
        let s := if same then s else s.learnUnit i nsid (base + p.1) e false
        s.onSet i fun x => x.setEntry nsid (base + p.1) e) s

/-! ### Heartbeats (R335) -/

/-- The Isle's `CHOWN_O` lines as driven (R338). -/
def State.chownOut (s : State) : Nat :=
  sumOf (fun c => match (s.port c).claim with
    | .none => 0
    | _ => 2 ^ c) (List.range 32)

/-- HEARTBEAT_SEND. -/
def State.heartbeatSend (s : State) : State :=
  match s.twin.pair with
  | .resync | .inStep | .failback =>
    let regions := sumOf (fun r => b2n (s.regionOnline r) * 2 ^ r) (List.range 4)
    let shipped := max (s.twin.shippedTo.get 0) (s.twin.shippedTo.get 1)
    let applied := [0, 1].foldl (fun m (i : Fin 2) => if (s.xset i).live then m else max m (s.xset i).seq) 0
    s.strait 1 0x00 (leBytes 8 s.now ++ [BitVec.ofNat 8 s.twin.pair.code, BitVec.ofNat 8 regions] ++ leBytes 4 s.chownOut ++
      leBytes 8 shipped ++ leBytes 8 applied ++ leBytes 4 (s.twin.area / 16384 - s.twin.held.length))
  | _ => s

/-- HEARTBEAT: the view of the twin; shadows that have all it shipped are current; a twin that hands a group back draws this Isle into `FAILBACK` (R348 step 1). -/
def State.heartbeat (s : State) (l : Link) (v : TwinView) : State :=
  s.frame 1 l fun s =>
    let s := { s with twin.view := v, twin.twinSole := v.pair == 5 }
    let s := [0, 1].foldl (fun s (i : Fin 2) =>
      s.onSet i fun x => if x.live then x else { x with current := decide (v.shipped ≤ x.seq) }) s
    if v.pair = 6 && s.twin.pair == .inStep && !(s.xset (setOfGroup s.ownGroup)).live then
      { s with twin.failback := some ⟨s.ownGroup, false, false⟩ }.setPair .failback
    else s

/-! ### Forwarded commands (R349, R350) -/

/-- A forwarded command as work of this Isle. -/
def FwdOp.op (nsid : Nat) : FwdOp → IoOp
  | .write a n => .write ⟨nsid, a.toNat, n.toNat + 1⟩ []
  | .read a n => .read ⟨nsid, a.toNat, n.toNat + 1⟩
  | .compare a n => .compare ⟨nsid, a.toNat, n.toNat + 1⟩ []
  | .zeroes a n => .zeroes ⟨nsid, a.toNat, n.toNat + 1⟩
  | .verify a n => .verify ⟨nsid, a.toNat, n.toNat + 1⟩
  | .deallocate l => .deallocate (l.map fun p => ⟨nsid, p.1.toNat, p.2.toNat⟩)
  | .copy d l check =>
    let src := l.map fun p => Extent.mk nsid p.lba.toNat (p.nlb.toNat + 1)
    .copy src ⟨nsid, d.toNat, sumOf (·.count) src⟩ (l.map check.range)
  | .reservation _ _ => .other
  | .device _ d => .device d

/-- The data a forwarded device command waits for. -/
def FwdOp.bytes : FwdOp → Nat
  | .device n _ => n.toNat
  | _ => 0

/-- A completion returned to the twin with no further work. -/
def State.fwdAnswer (s : State) (tag status : Nat) : State :=
  let body := leBytes 4 tag ++ leBytes 8 0 ++ leBytes 2 (status * 2) ++ [BitVec.ofNat 8 (b2n (status != 0)), 0]
  s.strait 4 0x03 (body ++ (if status = 0 then [] else errorBytes status 0 0 0 0))

/-- FWD_CMD: the command enters this Isle's range-lock table; its place in the order is its arrival here (R138). Functions of
the twin are numbered above this Isle's own. -/
def State.fwdCmd (s : State) (l : Link) (tag cntlid cls nsid : Nat) (q : FwdOp) (pr : PrInfo) : State :=
  s.frame 4 l fun s =>
    match s.namespace? nsid with
    | none => s.fwdAnswer tag (sc 0 0x0B)
    | some n =>
      if !(s.xset (setOfGroup n.group)).live then s.fwdAnswer tag (sc 3 2)
      else match q with
        | .reservation host r =>
          let x := s.resvOp n cntlid host.toNat r
          match r with
          | .report =>
            let b := n.resvReport
            let t := (List.range (ceilDiv b.length 228)).foldl (fun s k =>
              s.strait 4 0x02 (leBytes 4 tag ++ leBytes 4 (228 * k) ++ (b.drop (228 * k)).take 228)) x.2
            t.fwdAnswer tag 0
          | _ => x.2.fwdAnswer tag x.1
        | _ =>
          let op := q.op nsid
          let per := 4096 + n.infoMoved pr
          let need := match op with
            | .write e _ | .compare e _ => e.count * per
            | .device _ => q.bytes
            | _ => 0
          let c := s.newCmd (256 + cntlid) 0 0 cls nsid op pr
          let s := { s with twin.fwdIn := Tab.put s.twin.fwdIn tag c.order }
          s.enter { c with fwdTag := some tag, need := need, arrived := s.pkg.timebase }

/-- FWD_PULL: the entering Isle sends the host's data (R349 step 3). -/
def State.fwdPull (s : State) (l : Link) (tag offset count : Nat) : State :=
  s.frame 4 l fun s =>
    match s.nvme.fwdOut.find? fun f => f.tag == tag with
    | none => s
    | some f =>
      if f.failed then s
      else (List.range (ceilDiv count 228)).foldl (fun s k =>
        let n := min 228 (count - 228 * k)
        let body := leBytes 4 tag ++ leBytes 4 (offset + 228 * k) ++ slice f.data (offset + 228 * k) n
        if f.cls = 0 then s.straitUrgent 4 0x02 body else s.strait 4 0x02 body) s

/-- Blocks from bytes: data with extended metadata. -/
def blocksFrom (metaEach count : Nat) (b : List Byte) : List Lba :=
  (List.range count).map fun k =>
    ⟨trimZeros (slice b ((4096 + metaEach) * k) 4096), trimZeros (slice b ((4096 + metaEach) * k + 4096) metaEach)⟩

/-- FWD_DATA: on the owner the data of a write or compare, which goes on when it is whole; on the entering Isle data for the
host, unless a reset of the function has squashed it (R181). -/
def State.fwdData (s : State) (l : Link) (tag offset : Nat) (data : List Byte) : State :=
  s.frame 4 l fun s =>
    match s.nvme.fwdOut.find? fun f => f.tag == tag with
    | some f =>
      if f.mute || (s.ctrl f.fn).flr.isSome then s
      else s.hostData f.fn f.sq f.cid f.ptr f.apart offset data false (s.onVc1 f.cls)
    | none =>
      match s.nvme.cmds.find? fun c => c.fwdTag == some tag && c.need != 0 with
      | none => s
      | some c =>
        let buf := overlay (padTo (max c.inbuf.length (min c.need (offset + data.length))) c.inbuf) offset (data.take (c.need - offset))
        if buf.length < c.need then s.onCmd c.order fun k => { k with inbuf := buf }
        else
          let per := s.nsFigure c.nsid (·.infoMoved c.pr)
          let op := match c.op with
            | .write e _ => IoOp.write e (blocksFrom per e.count buf)
            | .compare e _ => .compare e (blocksFrom per e.count buf)
            | .device d => .device (d.withData buf)
            | o => o
          (s.onCmd c.order fun k => { k with op := op, need := 0, inbuf := [] }).proceed c.order

/-- FWD_CPL: the completion is posted here, and its Error Information entry logged (R349 step 5). -/
def State.fwdCpl (s : State) (l : Link) (tag dw0 dw1 status : Nat) (lba specific : Nat) : State :=
  s.frame 4 l fun s =>
    match s.nvme.fwdOut.find? fun f => f.tag == tag with
    | none => s
    | some f =>
      let s := { s with nvme.fwdOut := s.nvme.fwdOut.filter fun k => k.tag != tag }
      if f.silent then s.deleteCheck f.fn f.sq
      else
        let s := if status = 0 then s else s.logError f.fn f.sq f.cid status lba f.nsid specific
        (s.completionOf ⟨f.fn, f.sq, f.cid, status, dw0, dw1, f.cls == 0, f.arrived, []⟩).deleteCheck f.fn f.sq

/-- `FWD_STOP_ACK` entries, 38 to a frame. -/
def State.stopAcks : Nat → State → List (Nat × Nat) → State
  | 0, s, _ => s
  | n + 1, s, l =>
    if l.isEmpty then s
    else
      let p := l.take 38
      State.stopAcks n (s.strait 4 0x05 ([BitVec.ofNat 8 p.length, 0, 0, 0] ++
        p.flatMap fun e => leBytes 4 e.1 ++ [BitVec.ofNat 8 e.2, 0])) (l.drop 38)

/-- FWD_STOP: R145 applied to each command named. -/
def State.fwdStop (s : State) (l : Link) (tags : List Nat) : State :=
  s.frame 4 l fun s =>
    let x := tags.foldl (fun (a : State × List (Nat × Nat)) tag =>
      match a.1.nvme.cmds.find? fun c => c.fwdTag == some tag with
      | none => (a.1, a.2 ++ [(tag, 2)])
      | some c =>
        if c.past then (a.1, a.2 ++ [(tag, 0)])
        else (a.1.stopCmd c.order none, a.2 ++ [(tag, 1)])) (s, [])
    State.stopAcks (x.2.length / 38 + 1) x.1.reexamine x.2

/-- FWD_STOP_ACK: a stopped command is completed as aborted, or with Data Transfer Error where its host data failed, or discarded in a reset;
the others run to their ends. -/
def State.fwdStopAck (s : State) (l : Link) (entries : List (Nat × Nat)) : State :=
  s.frame 4 l fun s => entries.foldl (fun s e =>
    match s.nvme.fwdOut.find? fun f => f.tag == e.1 with
    | none => s
    | some f =>
      if e.2 = 0 then
        let out := updateIf (fun (k : FwdCmd) => k.tag == e.1) (fun k => { k with stopping := false }) s.nvme.fwdOut
        { s with nvme.fwdOut := out }
      else
        let s := { s with nvme.fwdOut := s.nvme.fwdOut.filter fun k => k.tag != e.1 }
        let st := if f.failed then sc 0 0x04 else sc 0 0x08
        let s := if f.silent || e.2 = 2 then s
          else (s.logError f.fn f.sq f.cid st 0 f.nsid 0).completionOf ⟨f.fn, f.sq, f.cid, st, 0, 0, f.cls == 0, f.arrived, []⟩
        s.deleteCheck f.fn f.sq) s

/-- RESV_STATE: the twin's reservation of a namespace as it now stands (R327). -/
def State.resvState (s : State) (l : Link) (nsid : Nat) (regs : List Registration) (holder : Option Nat) (type gen : Nat)
    (ptpl : Bool) : State :=
  s.frame 0 l fun s => s.onNs nsid fun n => { n with
    registrants := regs.map fun g => ⟨g.cntlid.toNat, g.host.toNat, g.key.toNat⟩
    holder := holder, resvType := type, resvGen := gen, ptpl := ptpl }

end Sys2Proof.Machine
end

