-- ==== Sys2Proof/Machine/Takeover.lean ====
section
/-! DEFINITION. Channel ownership and training, failure detection, takeover, split link, failback, region handover and
proxied media operations (R216, R222, R227, R336 to R348, 10_twin.md and 06_flash_media.md). -/
namespace Sys2Proof.Machine

/-! ### Channel ownership (R216, R222, R227, R338) -/

/-- The hub's junction temperature in tenths of a degree: the third sensor, in the order of the dies in R7 (log 35). -/
def State.hubTemp (s : State) : BitVec 32 := s.pkg.dieTemp.get 2

/-- A channel claimed: `CHOWN_O` asserted, the interlock awaited. The port of an offline region claims nothing. -/
def State.claimChannel (s : State) (c : Nat) : State :=
  let p := s.port c
  if p.claim == .none && (s.pkg.regions[c / 8]?).getD .offline != .offline then s.setPort c { p with claim := .waiting s.pkg.timebase } else s

/-- CHANNEL_RELEASE: the port stops driving and `CHOWN_O` goes low (R338). -/
def State.releaseChannel (s : State) (c : Nat) : State :=
  s.setPort c { s.port c with claim := .none, trained := false, retraining := false, byTwin := false, enable := false }

/-- A release by the firmware: once a ring reset of the port has ended (R578). -/
def State.releaseAfterReset (s : State) (c : Nat) : State :=
  let p := s.port c
  match p.claim with
  | .owned =>
    let s := ((s.setPort c { p with claim := .releasing }).ringReset c).ringResetDone c
    if (s.port c).resetBusy then s else s.releaseChannel c
  | .waiting _ => s.releaseChannel c
  | .none | .releasing => s

/-- CHANNEL_CLAIM_MET: `CHOWN_I` has read low for 10 µs since the claim; the LUNs are to be waited for and trained. -/
def State.claimMet (s : State) (c : Nat) : State :=
  let p := s.port c
  match p.claim with
  | .waiting since =>
    if s.since since < usTicks 10 then s
    else
      let s := s.setPort c { p with claim := .owned, chownI := false, trained := false, retraining := false, proxied := false }
      (List.range 32).foldl (fun s l => if s.hasLun l then s.setLun c l { s.lun c l with unobserved := true } else s) s
  | _ => s

/-- CHANNEL_CLAIM_LUN_WAIT: a LUN becomes ready by itself within tBERS, or is ended by `FFh`, which leaves the unit it worked
on undefined (R215, R216). -/
def State.lunWait (s : State) (c l : Nat) (ready : Bool) : State :=
  let u := s.lun c l
  if !(s.port c).owned || !u.unobserved then s
  else
    let s := match u.erase with
      | some r => if ready then s else s.spoil c r.op.desc
      | none => s
    s.setLun c l { s.lun c l with unobserved := false, erase := none }.freed

/-- First initialization of a channel: a block one of whose first spare bytes is not `FFh` enters the table, and every LUN gets its identity
record (R222, R223). -/
def State.firstScan (s : State) (c : Nat) (spare : List (Nat × Nat × Nat × Byte × Byte)) : State :=
  let marked := spare.filter fun m => s.hasLun m.1 && decide (m.2.1 < s.planes) && decide (m.2.2.1 < s.blocks) &&
    !(m.2.2.2.1 == 0xFF && m.2.2.2.2 == 0xFF)
  let s := marked.foldl (fun s m =>
    let k := blockKey c m.1 m.2.1 m.2.2.1
    if s.isBad c m.1 m.2.1 m.2.2.1 then s
    else
      let b : BadBlock := ⟨c, m.1, m.2.1, m.2.2.1, 1, 0, Tab.get s.flash.badSeq 0 c + 1⟩
      let s := { s with flash.factoryBad := s.flash.factoryBad ++ [k], flash.bad := s.flash.bad ++ [b] }
      s.setWp k ⟨.bad, 0⟩) s
  let digest := Config.geometryDigest ((List.range 9).map fun k => s.geom (k + 1))
  let l := ((List.range 32).filter s.hasLun).foldl (fun (t : Tab LunIdent) l =>
    Tab.put t (32 * c + l) ⟨Config.factorySerial, c, l / 4, l % 4, digest⟩) s.flash.idents
  { s with flash.idents := l }

/-- CHANNEL_TRAINING_DONE: LUNs whose parameter page disagrees are retired; at first initialization the first spare bytes of each block's first
and last page are scanned (LUN, plane, block); else the channel's table is read, from the copies given where the twin has written it (R222 to
R227). A channel on which no LUN trains stays untrained. -/
def State.trainingDone (s : State) (c : Nat) (disagree : Nat) (spare : List (Nat × Nat × Nat × Byte × Byte)) (copies : List (List Byte)) : State :=
  let p := s.port c
  if !p.owned || p.trained || (List.range 32).any (fun l => (s.lun c l).unobserved) then s
  else
    let luns := (List.range 32).filter s.hasLun
    let s := (luns.filter fun l => bit disagree l).foldl (fun s l => s.retireLun c l) s
    let s := if s.flash.initialized then (if p.retraining then s else (s.readTable c copies).compactCheck) else s.firstScan c spare
    let some_ := luns.any fun l => !bit disagree l && !(s.lun c l).retired
    s.setPort c { s.port c with trained := some_, retraining := false, trainedTemp := s.hubTemp }

/-- CHANNEL_RETRAIN: a change of 10 °C since the last training; the channel is trained again. -/
def State.retrain (s : State) (c : Nat) : State :=
  let p := s.port c
  let d := (s.hubTemp.toInt - p.trainedTemp.toInt).natAbs
  if !p.owned || !p.trained || decide (d < 100) || s.queued c != 0 then s else s.setPort c { p with trained := false, retraining := true }

/-- The channels of a group's home set. -/
def homeSet (group : Nat) : List Nat := (List.range 32).filter fun c => c % 2 == group - 1

/-- The group the twin owns by default. -/
def State.twinGroup (s : State) : Nat := 3 - s.ownGroup

/-! ### Proxied media operations (R343 to R345) -/

/-- Sowing furrows with a column on a channel that can no longer be driven are closed at their last confirmed rows; their units are
sown again on the columns that remain (R274). -/
def State.closeLost (s : State) (lost : Nat → Bool) : State :=
  [0, 1].foldl (fun (s : State) (i : Fin 2) =>
    let hit (f : Furrow) : Bool := f.state == .sowing && f.cols.any fun k => !k.gone && lost k.channel
    if (s.xset i).live then ((s.xset i).furrows.filter hit).foldl (fun s f => s.closeFurrow i f.id) s else s) s

/-- The twin drives these channels for this Isle no longer: transfers in flight end `FLUSHED`, to be posted again, and what the channels'
open furrows still held is sown elsewhere (R274, R344, R345). -/
def State.flushProxied (s : State) (which : Nat → Bool) : State :=
  let l := s.twin.mediaOut.filter fun t => which t.channel
  let lost (c : Nat) : Bool := which c && (s.port c).proxied
  let t := { s with twin.mediaOut := s.twin.mediaOut.filter fun t => !which t.channel }
  let t := (List.range 32).foldl (fun (t : State) c => if lost c then t.setPort c { t.port c with proxied := false } else t) t
  let t := t.closeLost lost
  { t with media.done := t.media.done ++ l.map fun (t : Transfer345) => (t.op, mFlushed) }.drained

/-- The bytes a proxied program still needs before it is posted: its pages and their metadata. -/
def State.proxiedNeed (s : State) (c : Nat) (d : MDesc) : Nat := (s.programPages c d).length * (4 * 4096 + 4 * 32)

/-- MEDIA_REQ: a descriptor to run for the twin; `RAW` is denied, and a channel not held for the twin answers `FLUSHED`. -/
def State.mediaReq (s : State) (l : Link) (c number : Nat) (words : Nat) : State :=
  s.frame 4 l fun s =>
    let p := s.port c
    let dword (k : Nat) : Nat := bits words (32 * k) 32
    let cpl (s : State) (status : Nat) : State :=
      s.strait 4 0x12 ([BitVec.ofNat 8 c, 0, 0, 0] ++ leBytes 4 number ++
        mediaEntry (rejectedOp 0 (bits (dword 1) 0 16) false) 0 status 0 0 true)
    if bits (dword 0) 0 8 = 0xF0 then cpl s mDenied
    else if !p.owned || !p.byTwin || p.resetBusy || !p.trained then cpl s mFlushed
    else match s.checkMedia (fun k => if k = 4 || k = 5 || k = 6 || k = 7 then 0 else dword k) with
      | none => cpl s mBadDesc
      | some d =>
        let t : Transfer345 := ⟨number, c, freshOp 0 c d (.proxied number), [], [], [], 0⟩
        let s := { s with twin.mediaIn := s.twin.mediaIn ++ [t] }
        if d.opcode == .program then s else (s.queueOp c d (.proxied number))

/-- MEDIA_DATA: bytes of a proxied program, which is posted once all are here; or bytes this Isle's proxied read delivers. -/
def State.mediaData (s : State) (l : Link) (number stream offset : Nat) (poisoned : Bool) (data : List Byte) : State :=
  s.frame 4 l fun s =>
    let lay (t : Transfer345) : Transfer345 :=
      let place (b : List Byte) : List Byte := overlay (padTo (max b.length (offset + data.length)) b) offset data
      { t with
        data := if stream = 0 then place t.data else t.data
        info := if stream = 0 then t.info else place t.info
        poisoned := if poisoned && stream == 0 then t.poisoned ++ [offset / 4096] else t.poisoned
        got := t.got + data.length }
    match s.twin.mediaIn.find? fun t => t.number == number with
    | some t =>
      let t := lay t
      let s := { s with twin.mediaIn := s.twin.mediaIn.map fun q => if q.number == number then t else q }
      if t.op.desc.opcode == .program && decide (s.proxiedNeed t.channel t.op.desc ≤ t.got) then
        s.queueOp t.channel t.op.desc (.proxied number)
      else s
    | none => { s with twin.mediaOut := s.twin.mediaOut.map fun q => if q.number == number then lay q else q }

/-- What a proxied operation left on flash, by its status: programmed pages, an erased block, or an undefined unit (R213, R215). -/
def State.proxiedEnd (s : State) (o : MOp) (status : Nat) : State :=
  let c := o.channel
  match o.desc.opcode, o.origin with
  | .program, .row furrow w col =>
    if status = mOK then (s.programPages c o.desc).foldl (fun s q => s.setPage q (some (s.rowPage furrow w col q))) s
    else if status = mProgFail ∨ status = mTimeout ∨ status = mLunFault then s.undefine c o.desc else s
  | .erase, _ =>
    if status = mOK then (o.desc.blockKeys c).foldl (fun s k => s.eraseBlock k) s
    else if status = mEraseFail ∨ status = mTimeout ∨ status = mLunFault then s.undefine c o.desc else s
  | _, _ => s

/-- MEDIA_CPL: a proxied descriptor of this Isle ends with a status. -/
def State.mediaCpl (s : State) (l : Link) (number status : Nat) : State :=
  s.frame 4 l fun s =>
    match s.twin.mediaOut.find? fun t => t.number == number with
    | none => s
    | some t =>
      let s := { s with twin.mediaOut := s.twin.mediaOut.filter fun q => q.number != number }.proxiedEnd t.op status
      { s with media.done := s.media.done ++ [({ t.op with poisoned := !t.poisoned.isEmpty }, status)] }.drained

/-! ### Handover and reclaim of a region's channels (R343, R344) -/

/-- REGION_HANDOVER: the same region of this Isle claims the channels named, as proxy. -/
def State.handover (s : State) (l : Link) (region channels : Nat) : State :=
  s.frame 0 l fun s =>
    if s.twin.pair != .inStep || !s.regionOnline region then s
    else (bitList 32 channels).foldl (fun s c =>
      if c / 8 != region then s
      else
        let s := s.claimChannel c
        s.setPort c { s.port c with byTwin := true }) s

/-- REGION_RECLAIM: the proxy stops accepting, ring-resets and then releases (R220, R344). -/
def State.reclaimFrame (s : State) (l : Link) (region channels : Nat) : State :=
  s.frame 0 l fun s => (bitList 32 channels).foldl (fun s c =>
    let p := s.port c
    if c / 8 != region || !p.byTwin then s
    else s.releaseAfterReset c) s

/-- RING_RESET_DONE; a proxied channel being given back is then released. -/
def State.resetDone (s : State) (c : Nat) : State :=
  let s := (s.ringResetDone c).drained
  if (s.port c).claim == .releasing && !(s.port c).resetBusy then s.releaseChannel c else s

/-! ### Forwarded commands that lose their owner (R342, R346) -/

/-- Forwarded commands completed with a status each. -/
def State.endForwarded (s : State) (status : FwdCmd → Nat) : State :=
  let l := s.nvme.fwdOut
  l.foldl (fun s f =>
    let s := if f.silent then s else s.completion f.fn f.sq f.cid (status f) 0 0 (f.cls == 0)
    s.deleteCheck f.fn f.sq) { s with nvme.fwdOut := [] }

/-! ### Takeover (R339 to R342, R347) -/

/-- Mirroring ends: what is dirty goes on with the local copy alone (R346). -/
def State.stopMirroring (s : State) : State :=
  let d := s.hold.dirty.map fun (q : DirtyUnit) => { q with slot := none, acked := true }
  { s with twin.mirrorOn := false, twin.slotsOut := [], twin.resyncStart := #v[none, none], hold.dirty := d }.settlePieces

/-- TAKEOVER: the twin's group goes to Transition and its home set is claimed; channels held as proxy count as claimed. -/
def State.startTakeover (s : State) (restart : Bool) : State :=
  let g := s.twinGroup
  let l := (homeSet g).filter fun c => s.regionOnline (c / 8)
  let s := { s with twin.takeover := some ⟨g, s.pkg.timebase, restart, l, [], restart⟩, twin.groupDown := false,
                    twin.failback := none }
  let s := (s.endSession.setPair .takeover).stopMirroring.flushProxied fun _ => true
  l.foldl (fun s c => (s.setPort c { s.port c with byTwin := false }).claimChannel c) s

/-- Held slots that replay: not recorded, of pieces whose units are all here and acknowledged, in `MIRROR_SEQ` order (R340
step 8). -/
def Twin.replayable (t : Twin) : List Held :=
  let whole (h : Held) : Bool := (t.held.filter fun q => q.piece == h.piece && q.acked).length == h.pieceUnits
  let l := t.held.filter fun h => h.acked && !h.recorded && whole h
  l.mergeSort fun a b => decide (a.seq ≤ b.seq)

/-- A held slot as a dirty unit of the set taken over; one that is not intact becomes `STATE` 11, and an earlier one of its unit is then not
sown (R340, R368). -/
def State.replayUnit (s : State) (i : Fin 2) (h : Held) : State :=
  if !h.intact then
    let old (d : DirtyUnit) : Bool := d.set == i.val && d.nsid == h.nsid && d.unit == h.unit
    { s with hold.dirty := updateIf old (fun (d : DirtyUnit) => { d with superseded := true }) s.hold.dirty }.poisonUnit i h.nsid h.unit
  else
  let d : DirtyUnit := {
    order := s.hold.nextOrder, set := i.val, nsid := h.nsid, unit := h.unit, gen := h.gen, lbas := h.lbas, poison := false
    piece := h.piece, pieceUnits := h.pieceUnits, cmd := 2 ^ 64, slot := none, acked := true, committed := true
    committedAt := s.hold.nextOrder, sowing := false, confirmed := false, recSeq := 0, superseded := false, entry := none, zero := false }
  { s with hold.dirty := s.hold.dirty ++ [d], hold.nextOrder := s.hold.nextOrder + 1 }

/-- A set that goes live goes on with what its records left in hand: furrows being gleaned are gleaned on, and furrows being erased are
erased again (R270, R286). -/
def State.resumeFurrows (s : State) (i : Fin 2) : State :=
  let x := s.xset i
  let g := (x.furrows.filter fun f => f.state == .gleaning).flatMap fun f => x.validIn f.id
  let s := (s.onSet i fun x => { x with gleans := [] }).copyUnits i g
  (x.furrows.filter fun f => f.state == .erasing).foldl (fun (s : State) f =>
    let cols := f.cols.filter fun k => s.reachable k.channel && !f.noErase.contains k.col && !(s.lun k.channel k.lun).retired
    let s := s.onSet i fun x => x.onFurrow f.id fun f => { f with eraseLeft := cols.map (fun k => k.col), eraseFailed := [] }
    cols.foldl (fun (s : State) k => s.postOp k.channel (firmwareDesc .erase (s.gleanClass i) k.planes k.lun k.block 0 0) (.furrowErase f.id k.col)) s) s

/-- The shadow becomes the live map once every channel claimed is trained: records found on flash beyond it are applied in a
restart takeover, open furrows are closed, and the held pieces are to be sown (R340 steps 7, 8, 10). -/
def State.replayStart (s : State) (i : Fin 2) (restart : Bool) (found : List (List Byte)) : State :=
  let x := s.xset i
  let recs := wholeGroups (((List.range found.length).zip found).filterMap fun p => JRec.ofBytes (x.seq + 1 + p.1) p.2)
  let s := if restart then recs.foldl (fun s r => s.applyShipped i r) s else s
  let s := s.onSet i fun x => { x with
    live := true, current := true, dram := [], flashLog := [], programmed := x.seq, twinAck := x.seq
    checkpoint := some ⟨((x.checkpoint.map fun (k : Checkpoint) => k.number).getD 0) + 1, x.seq + 1, x.map, x.furrows⟩ }
  let open_ := ((s.xset i).furrows.filter fun f => f.state == .sowing).map (·.id)
  let s := ((open_.foldl (fun s id => s.closeFurrow i id) s).loadWp fun c => s.setOfChannel c == i).resumeFurrows i
  let l := if restart then [] else s.twin.replayable
  let s := l.foldl (fun s h => s.replayUnit i h) s
  { s with twin.held := [] }

/-- Whether every unit of a set that waits for sowing is on flash with its record. -/
def State.setSettled (s : State) (i : Fin 2) : Bool :=
  s.hold.dirty.all fun d => d.set != i.val || d.superseded || (d.recSeq != 0 && decide (d.recSeq ≤ s.durable i))

/-- TAKEOVER_COMPLETE: with every channel claimed and trained and the replay on flash, the group goes Optimized in `SOLE`, and
forwarded commands end (R340 steps 10 and 11, R342). `found` are journal records a restart takeover reads from flash. -/
def State.takeoverComplete (s : State) (found : List (List Byte)) : State :=
  match s.twin.takeover with
  | none => s
  | some t =>
    let i := setOfGroup t.group
    if !(t.channels.all fun c => (s.port c).owned && (s.port c).trained) then s
    else
      let s := if (s.xset i).live then s else s.replayStart i t.restart found
      if !s.setSettled i then s
      else
        let lossy := t.lossy || !s.flag 0x8010 5
        let s := if lossy then s.warn 2 else s
        let s := (s.setVal 0x8000 7 (s.since t.startAt / 100)).bump 0x8000 6
        let s := { s with twin.takeover := none, twin.groupDown := false }.setPair .sole
        let s := s.endForwarded fun f => if f.write && f.count != 0 && decide (f.count ≤ f.pieces.length) then 0 else sc 3 3
        if s.serving then s.checkpointBegin i else s

/-- A takeover that ends without the set: what it claimed is released and the group is Inaccessible (R341). -/
def State.abandonTakeover (s : State) : State :=
  match s.twin.takeover with
  | none => s
  | some t =>
    let s := t.channels.foldl (fun s c => s.releaseAfterReset c) { s with twin.takeover := none }
    (s.setPair .split).endForwarded fun _ => sc 3 2

/-- A claim withdrawn: it ends a takeover that needed the channel. -/
def State.withdrawClaim (s : State) (c : Nat) : State :=
  let s := s.setPort c { s.port c with claim := .none, byTwin := false }
  match s.twin.takeover with
  | some t => if t.channels.contains c then s.abandonTakeover else s
  | none => s

/-- SIMULTANEOUS_CLAIM: counted; Isle 1 withdraws. -/
def State.simultaneousClaim (s : State) (c : Nat) : State :=
  match (s.port c).claim with
  | .waiting _ =>
    let s := s.bump 0x8000 0x0A
    if s.pkg.straps.isle then s.withdrawClaim c else s.setPort c { s.port c with chownI := true }
  | _ => s

/-- OWNERSHIP_CONFLICT: the owner keeps its channel and counts. -/
def State.ownershipConflict (s : State) (c : Nat) : State :=
  if (s.port c).owned then ({ s with } |>.setPort c { s.port c with chownI := true }).bump 0x8000 0x0A else s

/-- A claim not met within 100 ms is withdrawn (R338). -/
def State.claimExpired (s : State) (c : Nat) : Bool :=
  match (s.port c).claim with
  | .waiting since => decide (usTicks 100000 ≤ s.since since)
  | _ => false

/-! ### Split link and failure detection (R336, R337, R346, R347) -/

/-- SPLIT_LINK: own channels and group are kept; mirroring and shipping stop; forwarded commands end Inaccessible. -/
def State.splitNow (s : State) : State :=
  let s := (s.bump 0x8000 5).endSession
  let s := ({ s with twin.failback := none }.setPair .split).stopMirroring
  (s.endForwarded fun _ => sc 3 2).flushProxied fun _ => true

/-- The twin is down and no takeover may start: its group is Persistent Loss, or a restart takeover runs at once where the
dictionary says so (R339, R347). -/
def State.twinDown (s : State) : State :=
  let s := if s.twin.pair == .split then s else s.splitNow
  let s := if s.twin.groupDown then s else { s with twin.groupDown := true }.anaChange
  if s.flag 0x8010 3 then s.startTakeover true else s

/-- Whether this Isle may act on failure indications: running, not in a flush (R337). -/
def State.mayActOnTwin (s : State) : Bool := s.serving && s.hold.flush.isNone && s.isTwin

/-- A failure of the twin during failback (R348). -/
def State.failbackFailure (s : State) (f : Failback) : State :=
  if f.handingOut then
    if f.released then s.startTakeover true
    else (({ s with twin.failback := none }.endSession).setPair .sole).stopMirroring
  else if f.released then s.endSession
  else s.twinDown

/-- What an indication leads to, from the table of R336: `down` when the twin shows failed or not alive with a silent link. -/
def State.judgeTwin (s : State) (down : Bool) : State :=
  if !s.mayActOnTwin then s
  else
    let s := s.fire (evSrc 42 3)
    match s.twin.pair, s.twin.failback with
    | .failback, some f => s.failbackFailure f
    | .inStep, _ => if down then s.startTakeover false else s.splitNow
    | .resync, _ => if down then s.twinDown else s.splitNow
    | .split, _ => if down then s.twinDown else s
    | _, _ => s

/-- STRAIT_SILENCE: 2 ms without a frame. -/
def State.straitSilence (s : State) : State :=
  if s.twin.silent || !s.isTwin then s
  else
    let s := ({ s with twin.silent := true, twin.lanes := 0 }.endSession).fire (evSrc 42 1)
    s.judgeTwin (s.twin.failI || !s.twin.aliveI)

/-- TWIN_FAIL_ASSERTED: `TWIN_FAIL_I` high for 1 µs. -/
def State.twinFail (s : State) : State := if s.twin.failI then s else { s with twin.failI := true }.judgeTwin true

/-- TWIN_ALIVE_FALL: acted on together with a silent link; alone, with frames arriving, it is counted (R336). -/
def State.aliveFall (s : State) : State :=
  if !s.twin.aliveI then s
  else
    let s := { s with twin.aliveI := false }
    if s.twin.silent then s.judgeTwin true else s.bump 0x8000 0x0E

/-! ### Resynchronization's end and failback (R334, R348) -/

/-- The group this Isle holds that is not its own. -/
def State.strayGroup (s : State) : Option Nat := if (s.xset (setOfGroup s.twinGroup)).live then some s.twinGroup else none

/-- FAILBACK: the holder starts to hand a group back; waiting commands for it end with Transition (R348 steps 1 and 2). The returning Isle, whose
own group is not live, awaits it. -/
def State.startFailback (s : State) : State :=
  match s.strayGroup with
  | none =>
    if (s.xset (setOfGroup s.ownGroup)).live then s
    else { s with twin.failback := some ⟨s.ownGroup, false, false⟩ }.setPair .failback
  | some g =>
    let s := { s with twin.failback := some ⟨g, true, false⟩ }.setPair .failback
    let waits := s.nvme.cmds.filter fun c => !c.admitted && ((s.namespace? c.nsid).map (·.group)) == some g
    waits.foldl (fun s c => s.finish c.order (sc 3 3)) s

/-- The holder's step 4 once the group's work is done: open furrows closed, every channel of the set released after its ring reset, and then
`SET_RELEASED` sent (R348, R578). -/
def State.failbackStep (s : State) : State :=
  match s.twin.failback with
  | none => s
  | some f =>
    let i := setOfGroup f.group
    let busy := s.nvme.cmds.any fun c => ((s.namespace? c.nsid).map (·.group)) == some f.group
    if !f.handingOut || f.released || busy || !s.setSettled i || !(s.xset i).rows.isEmpty then s
    else
      let open_ := ((s.xset i).furrows.filter fun f => f.state == .sowing).map (·.id)
      let s := open_.foldl (fun s id => s.closeFurrow i id) s.releaseDirty
      let s := (homeSet f.group).foldl (fun s c => s.releaseAfterReset c) s
      if (homeSet f.group).all fun c => (s.port c).claim == .none then
        { s with twin.failback := some { f with released := true } }.strait 0 0x09 [BitVec.ofNat 8 f.group]
      else s

/-- SET_RELEASED: the returning Isle claims its home set (R348 step 5). -/
def State.setReleased (s : State) (l : Link) (group : Nat) : State :=
  s.frame 0 l fun s =>
    match s.twin.failback with
    | some f =>
      if f.handingOut || f.group != group then s
      else (homeSet group).foldl (fun s c => s.claimChannel c) { s with twin.failback := some { f with released := true } }
    | none => s

/-- FAILBACK_COMPLETE: on the returning Isle the shadow goes live once its channels are trained; on the holder the live map
becomes the shadow; both go `IN_STEP` (R348 steps 6 and 7). A returning Isle whose twin has failed meanwhile goes on alone. -/
def State.failbackComplete (s : State) : State :=
  match s.twin.failback with
  | none => s
  | some f =>
    let i := setOfGroup f.group
    if !f.released then s
    else if f.handingOut then
      ({ s with twin.failback := none }.onSet i fun x => { x with live := false, current := true, dram := [] }).setPair .inStep
    else
      let l := (homeSet f.group).filter fun c => s.regionOnline (c / 8)
      if !(l.all fun c => (s.port c).owned && (s.port c).trained) then s
      else
        let s := { s with twin.failback := none }.onSet i fun x => { x with
          live := true, dram := [], flashLog := [], programmed := x.seq, twinAck := x.seq
          checkpoint := some ⟨((x.checkpoint.map fun (k : Checkpoint) => k.number).getD 0) + 1, x.seq + 1, x.map, x.furrows⟩ }
        let s := (s.loadWp fun c => s.setOfChannel c == i).resumeFurrows i
        if s.twin.session then s.setPair .inStep else s.twinDown

/-- PAIR_IN_STEP: both shadows are current, both areas confirmed, and what was dirty is mirrored and acknowledged; failback may
follow at once (R334, R348). -/
def State.pairInStep (s : State) : State :=
  let sets : List (Fin 2) := [0, 1]
  let mine := sets.all fun i => (s.xset i).live || (s.xset i).current
  let theirs := sets.all fun i => !(s.xset i).live || decide ((s.xset i).seq ≤ (s.xset i).twinAck)
  let dirty := s.hold.dirty.all fun d => d.acked || d.superseded
  if s.twin.pair != .resync || !mine || !theirs || !dirty || !(s.twin.mirrorOn || !s.flag 0x8010 5) ||
      decide (s.twin.areaOut < s.hold.ceiling) then s
  else
    let s := { s with twin.twinSole := false }.setPair .inStep
    if s.flag 0x8010 1 then s.startFailback else s

/-- ECHO: returned unchanged. -/
def State.echo (s : State) (l : Link) (data : List Byte) : State := s.frame 0 l fun s => s.strait 0 0x0A (data.take 236)

/-- EVENT_FWD: the twin-slot source pulses (R549). -/
def State.eventFwd (s : State) (l : Link) (slot : Nat) : State := s.frame 0 l fun s => s.fire (1920 + slot)

end Sys2Proof.Machine
end

