-- ==== Sys2Proof/Machine/Region.lean ====
section
/-! DEFINITION. Regions: faults, handover of their channels, re-admission; die links (R7, R9, R15, R16, R214, R221, R343, R344, R445,
R554). -/
namespace Sys2Proof.Machine

/-- The channels of a region (R22). -/
def regionChannels (r : Nat) : List Nat := (List.range 8).map fun p => 8 * r + p

/-- A region's state. -/
def State.regionState (s : State) (r : Nat) : RegionState := (s.pkg.regions[r]?).getD .offline

/-- A region's state changed, with its event (R547). -/
def State.setRegion (s : State) (r : Nat) (x : RegionState) : State :=
  { s with pkg.regions := s.pkg.regions.setIfInBounds r x }.fire (evSrc (10 * r) 9)

/-- The channels this package owns by default (R23). -/
def State.defaultChannel (s : State) (c : Nat) : Bool := !s.isTwin || c % 2 == b2n s.pkg.straps.isle

/-- Whether a channel belongs to a set this package serves from. -/
def State.servedChannel (s : State) (c : Nat) : Bool := s.defaultChannel c || (s.xset (s.setOfChannel c)).live

/-! ### Region fault (R15, R221, R343, R445) -/

/-- The work of the firmware, and of the twin, that a port holds: it ends `FLUSHED` and is posted again. -/
def State.portWork (s : State) (c : Nat) : List MOp :=
  (((List.range 32).flatMap fun l =>
    let u := s.lun c l
    u.ops ++ (u.erase.map fun r => r.op).toList).filter fun o => match o.origin with
    | .ring _ => false
    | _ => true) ++
  (s.media.backlog.filter fun e => e.1 == c).map fun e => freshOp 0 c e.2.1 e.2.2

/-- Sowing furrows that a region's loss closes: those it sows, and those whose row has a column unfinished on its channels (R274). -/
def State.closeRegionRows (s : State) (r : Nat) : State :=
  ([0, 1] : List (Fin 2)).foldl (fun (s : State) (i : Fin 2) =>
    let x := s.xset i
    let open_ (w : Row) (k : FCol) : Bool := k.channel / 8 == r && !w.ended.contains k.col && (w.posted.contains k.col || w.waiting.contains k.col)
    let hit (f : Furrow) : Bool := f.state == .sowing && (f.region == r || (match x.row f.id with
      | some w => f.cols.any (open_ w)
      | none => false))
    if x.live then (x.furrows.filter hit).foldl (fun s f => s.closeFurrow i f.id) s else s) s

/-- The region reset: cores, engines, lists and rings end; staging and cluster memories are undefined until admission writes them; the
latches of the region's sources are cleared (R46, R221, R554). -/
def State.regionReset (s : State) (r : Nat) : State :=
  let s := s.endRegionTasks r
  let s := (regionCores r).foldl (fun (s : State) n => s.setCore n (Core.init n)) s
  let s := s.endActive (regionCores r)
  let s := (s.resetRegionEngines r).returnCache r
  let s := (List.range 10).foldl (fun (s : State) g => { s with ev.latch := setGroup s.ev.latch (10 * r + g) 0 }) s
  let s := (regionChannels r).foldl (fun (s : State) c => s.dropPort c) s
  ((s.blurMem (0x100000000000 + r * 0x1000000) 0xC00000).clearWp r).refreshLines

/-- REGION_FAULT: the region goes offline; its channels are released and handed to the twin, or stay undriven (R15, R343, R344). What follows
for the work it held changes nothing of the package's own registers. -/
def State.regionFault (s : State) (r cause : Nat) : State :=
  if s.regionState r == .offline then s
  else
    let owned := (regionChannels r).filter fun c => (s.port c).owned && !(s.port c).byTwin
    let work := (regionChannels r).flatMap s.portWork
    let s := { s with media.backlog := s.media.backlog.filter fun e => e.1 / 8 != r }.setVal (0x2010 + r) 2 cause
    let s := ((s.setVal (0x2010 + r) 3 s.now).bump (0x2010 + r) 5).regionReset r
    let s := (regionChannels r).foldl (fun (s : State) c => s.releaseChannel c) s
    let s := s.setRegion r .offline
    let p := s.pkg
    let hand := s.twin.pair == .inStep && bit s.twin.view.regions r && !owned.isEmpty
    let s := if hand then
        let s := owned.foldl (fun (s : State) c => s.setPort c { s.port c with proxied := true }) s
        s.strait 0 0x07 ([BitVec.ofNat 8 r, 0, 0, 0] ++ leBytes 4 (sumOf (fun c => 2 ^ c) owned))
      else s
    let s := s.closeRegionRows r
    let s := s.closeLost fun c => c / 8 == r && !(s.port c).proxied
    let s := match s.twin.takeover with
      | some t => { s with twin.takeover := some { t with channels := t.channels.filter fun c => c / 8 != r } }
      | none => s
    let s := ({ s with media.done := s.media.done ++ work.map fun (o : MOp) => (o, mFlushed) }.drained).raiseAll evInternal
    { s with pkg := p }

/-! ### Re-admission (R16, R344) -/

/-- An admission fails: the region is offline again and the entry names the step. -/
def State.admissionFailed (s : State) (r cause : Nat) : State :=
  let s := (regionChannels r).foldl (fun (s : State) c => s.releaseChannel c) s
  let s := s.flushProxied fun c => c / 8 == r
  (s.setVal (0x2010 + r) 2 cause).setRegion r .offline

/-- Whether a region's die link has been up for 10 ms (R9). -/
def State.linkSteady (s : State) (r : Nat) : Bool :=
  [2 * (r / 2), 2 * (r / 2) + 1].all fun m => match s.pkg.links[m]? with
    | some k => k.state == .up && decide (usTicks 10000 ≤ s.since k.upAt)
    | none => false

/-- ADMIT: the region is reset, its memories written with zeros, its tempo sampled, and its channels asked back from the twin and claimed. A
region whose link is not steady cannot be reset, and fails at step 2 (log 71). -/
def State.admitRegion (s : State) (r : Nat) : State :=
  let s := s.setRegion r .admitting
  if !s.linkSteady r then s.admissionFailed r 5
  else
    let s := (s.regionReset r).clearMem (0x100000000000 + r * 0x1000000) 0xC00000
    if s.val (0x2020 + r) 1 < s.val (0x2020 + r) 3 then s.admissionFailed r 6
    else
      let mine := (regionChannels r).filter s.servedChannel
      let lent := mine.filter fun c => (s.port c).proxied
      let s := if lent.isEmpty then s
        else s.strait 0 0x08 ([BitVec.ofNat 8 r, 0, 0, 0] ++ leBytes 4 (sumOf (fun c => 2 ^ c) lent))
      let s := { s with pkg.reclaim := s.pkg.reclaim.setIfInBounds r mine }
      mine.foldl (fun (s : State) c => s.claimChannel c) s

/-- Erases of furrows whose operation a lost channel ended, posted again once the channel is back. -/
def State.repostErases (s : State) (r : Nat) : State :=
  ([0, 1] : List (Fin 2)).foldl (fun (s : State) (i : Fin 2) =>
    ((s.xset i).furrows.filter fun f => f.state == .erasing).foldl (fun (s : State) f =>
      (f.cols.filter fun k => k.channel / 8 == r && f.eraseLeft.contains k.col).foldl (fun (s : State) k =>
        s.postOp k.channel (firmwareDesc .erase (s.gleanClass i) k.planes k.lun k.block 0 0) (.furrowErase f.id k.col)) s) s) s

/-- REGION_ONLINE: every channel the admission waits for is owned. -/
def State.regionAdmitted (s : State) (r : Nat) : State :=
  if s.regionState r != .admitting || !((s.pkg.reclaim[r]?).getD []).all (fun c => (s.port c).owned) then s
  else
    let s := { s with pkg.reclaim := s.pkg.reclaim.setIfInBounds r [] }.setRegion r .online
    { (s.loadWp fun c => c / 8 == r).repostErases r with pkg := s.pkg }

/-- CLAIM_TIMEOUT: a claim not met within 100 ms is withdrawn; it ends a takeover that needs the channel, and an admission (R16, R338,
R341). -/
def State.claimTimeout (s : State) (c : Nat) : State :=
  if !s.claimExpired c then s
  else
    let s := s.withdrawClaim c
    if s.regionState (c / 8) == .admitting then s.admissionFailed (c / 8) 7 else s

/-! ### Die links (R9, R49) -/

/-- A module of a die link changed. -/
def State.setDieLink (s : State) (m : Fin 4) (k : DieLink) : State := { s with pkg.links := s.pkg.links.set m k }

/-- DIE_LINK_LOSS: a module that was up goes down; the hosts are told (R127). -/
def State.dieLinkLoss (s : State) (m : Fin 4) : State :=
  let k := s.pkg.links[m]
  if k.state != .up then s
  else ((s.setDieLink m { k with state := .down, downAt := s.pkg.timebase }).bump (0x2030 + m.val) 2).raiseAll evInternal

/-- DIE_LINK_RETRAINED: the link retrained on its own. -/
def State.dieLinkBack (s : State) (m : Fin 4) : State :=
  let k := s.pkg.links[m]
  if k.state == .up || !s.pkg.boot.linksUp then s else s.setDieLink m { k with state := .up, upAt := s.pkg.timebase }

/-- DIE_LINK_DOWN_TIMEOUT: a module has been down for 1 ms; both regions of its die take a region fault. -/
def State.dieLinkDown (s : State) (m : Fin 4) : State :=
  let k := s.pkg.links[m]
  if k.state == .up || !s.pkg.boot.linksUp || decide (s.since k.downAt < usTicks 1000) then s
  else (s.regionFault (2 * (m.val / 2)) 1).regionFault (2 * (m.val / 2) + 1) 1

/-- REGION_WATCHDOG_EXPIRY. -/
def State.regionWatchdog (s : State) (r : Fin 4) : State := if s.serving then s.regionFault r.val 3 else s

end Sys2Proof.Machine
end

