-- ==== Sys2Proof/Machine/BasizMem.lean ====
section
/-! DEFINITION. Loads, stores and compare-and-swap of a core (R362, R364 to R366, R369, R382, R385, R386, R389, R395, R402, R404). -/
namespace Sys2Proof.Machine

/-- Its op within its group of R382. -/
def LoadKind.num : LoadKind → Nat
  | .u8 => 0
  | .s8 => 1
  | .u16 => 2
  | .s16 => 3
  | .u32 => 4
  | .s32 => 5
  | .d64 => 6

/-- Its bytes. -/
def LoadKind.bytes : LoadKind → Nat
  | .u8 | .s8 => 1
  | .u16 | .s16 => 2
  | .u32 | .s32 => 4
  | .d64 => 8

/-- The value loaded. -/
def LoadKind.value (k : LoadKind) (v : Nat) : Word :=
  match k with
  | .s8 => (BitVec.ofNat 8 v).signExtend 64
  | .s16 => (BitVec.ofNat 16 v).signExtend 64
  | .s32 => (BitVec.ofNat 32 v).signExtend 64
  | _ => BitVec.ofNat 64 v

/-- Its op within its group of R382. -/
def StoreKind.num : StoreKind → Nat
  | .b8 => 8
  | .b16 => 9
  | .b32 => 10
  | .b64 => 11

/-- Its bytes. -/
def StoreKind.bytes : StoreKind → Nat
  | .b8 => 1
  | .b16 => 2
  | .b32 => 4
  | .b64 => 8

/-- The op of R382 from `0x10`. -/
def MemOp.num : MemOp → Nat
  | .load k _ => k.num
  | .pair _ => 7
  | .store k _ => k.num
  | .storePair _ => 12
  | .loadA _ => 13
  | .storeA _ => 14

/-- The register field. -/
def MemOp.field : MemOp → Nat
  | .load _ d | .pair d | .store _ d | .storePair d => fD d
  | .loadA d | .storeA d => fA d

/-- Bytes of the access. -/
def MemOp.bytes : MemOp → Nat
  | .load k _ => k.bytes
  | .store k _ => k.bytes
  | .pair _ | .storePair _ => 16
  | .loadA _ | .storeA _ => 8

/-- The D and A registers it reads, its base apart (D0–D15 are 0–15, A0–A7 16–23). -/
def MemOp.sources : MemOp → List Nat
  | .store _ d => [d.val]
  | .storePair d => [d.val, (pairOf d).val]
  | .storeA d => [fA d]
  | _ => []

/-- Whether the registers it names make an instruction: pairs start at 0 to 14; a post-increment `LDA` not into its base. -/
def MemOp.legal (o : MemOp) (a : Fin 8) (post : Bool) : Bool :=
  match o with
  | .pair d | .storePair d => isPair d
  | .loadA d => !(post && d == a)
  | _ => true

/-! ### Data in and out -/

/-- What a load finds: bytes, each with whether it lies in a poisoned granule; a bus error; or that the access is not over. -/
inductive Got where
  | ok (s : State) (data : List Byte) (bad : List Bool)
  | bus (s : State)
  | wait (s : State)

/-- Whether both ends of an access lie in memory the core reaches. -/
def State.memSpan (s : State) (n a len : Nat) : Bool := s.memAt n a && s.memAt n (a + len - 1)

/-- What the check bits found on a load from memory (R364, R369): control traffic gets a bus error, payload the poison mark. The second
component says that no data comes (log 153). -/
def State.loadEcc (s : State) (n a : Nat) (ctrl : Bool) (e : LoadEcc) : State × Bool :=
  let i := s.instanceAt n a
  match e with
  | .clean => (s, false)
  | .corrected => (s.correctedIn i.1 i.2 (coreReq n) a (s.coreClass n), false)
  | .uncorrectable =>
    if ctrl then (s.controlError i.1 i.2 (coreReq n) a, true)
    else if s.mem.poisoned (s.phys n a) 1 then (s, false)
    else (s.uncorrectableAt i.1 i.2 (coreReq n) (s.phys n a) a, false)
  | .shared => (s.controlError i.1 i.2 (coreReq n) a, true)

/-- Whether an address lies in an entry of a media or engine ring of a region, in its staging (R15). -/
def State.ringAt (s : State) (r a : Nat) : Bool :=
  s.area a == .staging r &&
    (((List.range 8).any fun p =>
      let x := s.port (8 * r + p)
      x.enable && ((decide (x.descBase ≤ a) && decide (a < x.descBase + 8192)) || (decide (x.cplBase ≤ a) && decide (a < x.cplBase + 4096)))) ||
    s.eng.queues.any fun q => q.1 / 64 / 4 == r && q.2.assigned &&
      ((decide (q.2.descBase ≤ a) && decide (a < q.2.descBase + 4096)) || (decide (q.2.cplBase ≤ a) && decide (a < q.2.cplBase + 2048))))

/-- The region that a load by a core takes offline: a reserved unit met an uncorrectable error in a ring's entry (R15). -/
def State.ringFault (s : State) (n a : Nat) (e : LoadEcc) : Option Nat :=
  match s.area a with
  | .staging r => if s.isReserved n && e == .uncorrectable && s.ringAt r a then some r else none
  | _ => none

/-- Data loaded by a core. Logic its cluster shares that fails resets the cluster, and the instruction with it (R13, R369). -/
def State.getData (s : State) (n a len : Nat) (e : LoadEcc) : Got :=
  match s.area a with
  | .hubMmio | .regionMmio _ =>
    match s.mmioRead n a len with
    | .ok t v => .ok t (leBytes len v) (List.replicate len false)
    | .error => .bus s
    | .wait t => .wait t
  | .xip =>
    let ecc := match e with
      | .clean => Ecc.clean
      | .corrected => Ecc.corrected
      | _ => Ecc.uncorrectable
    match s.xipAccess (a - 0x120000000000) len ecc (coreReq n) with
    | (.bytes l, t) => .ok t l (List.replicate len false)
    | (.busError, t) => .bus t
    | (.stalled, t) => .wait t
  | _ =>
    if !s.memSpan n a len then .bus s
    else if let some r := s.ringFault n a e then .wait ((s.loadEcc n a true e).1.regionFault r 2)
    else if e == .shared && decide (n < 128) then .wait ((s.loadEcc n a true e).1.clusterReset (coreCluster n))
    else
      let ctrl := (s.core n).control a
      let r := s.loadEcc n a ctrl e
      let t := r.1
      let m := t.coreMem n
      let p := t.phys n a
      if r.2 || (ctrl && m.poisoned p len) then .bus t
      else .ok t (m.read p len) ((List.range len).map fun i => m.poisoned (p + i) 1)

/-- Whether a store would change bytes an unfinished `MACX` of the core has yet to read (R398). -/
def Core.macxReads (c : Core) (a len : Nat) : Bool :=
  match c.macx with
  | none => false
  | some m => overlaps (a, len) (m.a, 64 * m.left) || overlaps (a, len) (m.b, 64 * m.left)

/-- Data stored by a core; none is a bus error. A poisoned store to MMIO is one (R395); any other is issued once every earlier store of the
core has been performed (R386). -/
def State.putData (s : State) (n a : Nat) (data : List Byte) (p : Bool) : Option State :=
  match s.area a with
  | .hubMmio | .regionMmio _ => if p then none else (s.fence n).mmioWrite n a data.length (ofLe data)
  | _ => if s.memSpan n a data.length then some (s.coreStore n (s.phys n a) data p) else none

/-! ### The instructions (R382) -/

/-- The base register after a post-increment access. -/
def Core.stepBase (c : Core) (a : Fin 8) (i : Imm) (post : Bool) : Core := if post then c.setA a (c.av a + i.addr) else c

/-- A load that got no data: its register holds a free value and owes the bus error to its first use (R404, log 3). -/
def State.owe (s : State) (n : Nat) (o : MemOp) (addr : Addr) : State :=
  let f := s.draw
  let g := f.2.draw
  let s := g.2
  match o with
  | .load _ d => s.onCore n fun c => { c.setD d f.1 false with owed := c.owed.setIfInBounds d.val (some addr) }
  | .pair d => s.onCore n fun c =>
      { (c.setD d f.1 false).setD (pairOf d) g.1 false with
        owed := (c.owed.setIfInBounds d.val (some addr)).setIfInBounds (pairOf d).val (some addr) }
  | .loadA d => s.onCore n fun c => { c.setA d (f.1.setWidth 48) with owed := c.owed.setIfInBounds (fA d) (some addr) }
  | _ => s

/-- The registers a load writes. Each register of a pair is poisoned only by a poisoned byte of its own (R395). -/
def Core.loaded (c : Core) (o : MemOp) (data : List Byte) (bad : List Bool) : Core :=
  match o with
  | .load k d => c.setD d (k.value (ofLe data)) (bad.any id)
  | .pair d =>
    (c.setD d (BitVec.ofNat 64 (ofLe (data.take 8))) ((bad.take 8).any id)).setD (pairOf d) (BitVec.ofNat 64 (ofLe (data.drop 8)))
      ((bad.drop 8).any id)
  | .loadA d => c.setA d (BitVec.ofNat 48 (ofLe data))
  | _ => c

/-- The pieces a store writes: offset, bytes, poison. -/
def Core.pieces (c : Core) (o : MemOp) : List (Nat × List Byte × Bool) :=
  match o with
  | .store k d => [(0, leBytes k.bytes (c.dv d).toNat, c.pv d)]
  | .storePair d => [(0, leBytes 8 (c.dv d).toNat, c.pv d), (8, leBytes 8 (c.dv (pairOf d)).toNat, c.pv (pairOf d))]
  | .storeA d => [(0, leBytes 8 (c.av d).toNat, false)]
  | _ => []

/-- Every piece of a store; none is a bus error with nothing written. -/
def State.putPieces (s : State) (n a : Nat) (l : List (Nat × List Byte × Bool)) : Option State :=
  l.foldl (fun (s : Option State) p => s.bind fun s => s.putData n (a + p.1) p.2.1 p.2.2) (some s)

/-- The first granule that a store of `len` bytes at a model address writes in part, read and merged (R355). -/
def mergedGranule (p len : Nat) : Option Nat := (granules p len).find? fun g => !(decide (p ≤ g) && decide (g + granuleAt p ≤ p + len))

/-- What the check bits found when a store read the granule it writes in part (R355, R364, R369). The second component says that nothing
is stored (log 153). -/
def State.storeEcc (s : State) (n a len : Nat) (e : LoadEcc) : State × Bool :=
  match mergedGranule (s.phys n a) len with
  | none => (s, false)
  | some g => let b := a + (g - s.phys n a)
    s.loadEcc n b ((s.core n).control b) e

/-- A store: one of 16 bytes lies in memory, whole (R385). Logic its cluster shares that fails resets the cluster (R13, R369). -/
def State.storeOp (s : State) (n : Nat) (o : MemOp) (addr : Addr) (e : LoadEcc) : Flow :=
  let a := addr.toNat
  let c := s.core n
  let inMem := s.memSpan n a o.bytes
  let r := if inMem then s.storeEcc n a o.bytes e else (s, false)
  if c.macxReads (s.phys n a) o.bytes then .wait s
  else if o.bytes == 16 && !inMem then .trap s 6 (some addr) 0
  else if inMem && e == .shared && decide (n < 128) then .wait ((s.loadEcc n a true e).1.clusterReset (coreCluster n))
  else if r.2 then .trap r.1 6 (some addr) 0
  else match r.1.putPieces n a (c.pieces o) with
    | some t => .go t
    | none => .trap s 6 (some addr) 0

/-- A load. `LDA` from a poisoned granule consumes the poison (R395). -/
def State.loadOp (s : State) (n : Nat) (o : MemOp) (addr : Addr) (e : LoadEcc) : Flow :=
  match s.getData n addr.toNat o.bytes e with
  | .wait t => .wait t
  | .bus t => .go (t.owe n o addr)
  | .ok t data bad =>
    let isA := match o with
      | .loadA _ => true
      | _ => false
    if isA && bad.any id then t.poisonTrap n else .go (t.onCore n fun c => c.loaded o data bad)

/-- Whether it loads. -/
def MemOp.loads : MemOp → Bool
  | .load _ _ | .pair _ | .loadA _ => true
  | _ => false

/-- A load or store at Aa + imm, or the post-increment form at Aa (R382). The window check comes before the access. -/
def State.memOp (s : State) (x : Issue) (o : MemOp) (a : Fin 8) (i : Imm) (post : Bool) (e : LoadEcc) : State :=
  let n := x.core.val
  s.issue x (ri ((if post then 0x20 else 0x10) + o.num) o.field (fA a) i.field) i.ext (fA a :: o.sources) fun s =>
    let c := s.core n
    let addr := if post then c.av a else c.av a + i.addr
    if !o.legal a post then s.illegal
    else if c.violates addr.toNat o.bytes [if o.loads then .rd else .wr] then .trap s 3 (some addr) 0
    else
      match if o.loads then s.loadOp n o addr e else s.storeOp n o addr e with
      | .go t => .go (t.onCore n fun c => c.stepBase a i post)
      | f => f

/-- LD8U. -/
def execLd8u (x : Issue) (d : Fin 16) (a : Fin 8) (i : Imm) (e : LoadEcc) (s : State) : Done := s.done (s.memOp x (.load .u8 d) a i false e)
/-- LD8S. -/
def execLd8s (x : Issue) (d : Fin 16) (a : Fin 8) (i : Imm) (e : LoadEcc) (s : State) : Done := s.done (s.memOp x (.load .s8 d) a i false e)
/-- LD16U. -/
def execLd16u (x : Issue) (d : Fin 16) (a : Fin 8) (i : Imm) (e : LoadEcc) (s : State) : Done := s.done (s.memOp x (.load .u16 d) a i false e)
/-- LD16S. -/
def execLd16s (x : Issue) (d : Fin 16) (a : Fin 8) (i : Imm) (e : LoadEcc) (s : State) : Done := s.done (s.memOp x (.load .s16 d) a i false e)
/-- LD32U. -/
def execLd32u (x : Issue) (d : Fin 16) (a : Fin 8) (i : Imm) (e : LoadEcc) (s : State) : Done := s.done (s.memOp x (.load .u32 d) a i false e)
/-- LD32S. -/
def execLd32s (x : Issue) (d : Fin 16) (a : Fin 8) (i : Imm) (e : LoadEcc) (s : State) : Done := s.done (s.memOp x (.load .s32 d) a i false e)
/-- LD64. -/
def execLd64 (x : Issue) (d : Fin 16) (a : Fin 8) (i : Imm) (e : LoadEcc) (s : State) : Done := s.done (s.memOp x (.load .d64 d) a i false e)
/-- LDP. -/
def execLdp (x : Issue) (d : Fin 16) (a : Fin 8) (i : Imm) (e : LoadEcc) (s : State) : Done := s.done (s.memOp x (.pair d) a i false e)
/-- LDA. -/
def execLda (x : Issue) (d a : Fin 8) (i : Imm) (e : LoadEcc) (s : State) : Done := s.done (s.memOp x (.loadA d) a i false e)
/-- ST8. -/
def execSt8 (x : Issue) (d : Fin 16) (a : Fin 8) (i : Imm) (e : LoadEcc) (s : State) : Done := s.done (s.memOp x (.store .b8 d) a i false e)
/-- ST16. -/
def execSt16 (x : Issue) (d : Fin 16) (a : Fin 8) (i : Imm) (e : LoadEcc) (s : State) : Done := s.done (s.memOp x (.store .b16 d) a i false e)
/-- ST32. -/
def execSt32 (x : Issue) (d : Fin 16) (a : Fin 8) (i : Imm) (e : LoadEcc) (s : State) : Done := s.done (s.memOp x (.store .b32 d) a i false e)
/-- ST64. -/
def execSt64 (x : Issue) (d : Fin 16) (a : Fin 8) (i : Imm) (e : LoadEcc) (s : State) : Done := s.done (s.memOp x (.store .b64 d) a i false e)
/-- STP. -/
def execStp (x : Issue) (d : Fin 16) (a : Fin 8) (i : Imm) (e : LoadEcc) (s : State) : Done := s.done (s.memOp x (.storePair d) a i false e)
/-- STA. -/
def execSta (x : Issue) (d a : Fin 8) (i : Imm) (e : LoadEcc) (s : State) : Done := s.done (s.memOp x (.storeA d) a i false e)

/-- POST_INCREMENT_ACCESS: the `.P` forms. -/
def execPostIncrement (x : Issue) (o : MemOp) (a : Fin 8) (i : Imm) (e : LoadEcc) (s : State) : Done := s.done (s.memOp x o a i true e)

/-! ### CAS (R389, R395) -/

/-- Where `CAS` is accepted: scratch, cluster memory, region staging and hub SRAM. -/
def casArea : Area → Bool
  | .scratch | .cluster _ | .staging _ | .ingress | .tables => true
  | _ => false

/-- CAS: fences before and after; poisoned operands and a poisoned word are consumed. -/
def execCas (x : Issue) (d : Fin 16) (a : Fin 8) (b : Fin 16) (e : LoadEcc) (s : State) : Done :=
  let n := x.core.val
  s.done (s.issue x (rrr 0x1F (fD d) (fA a) (fD b) 0) false [d.val, fA a, b.val] fun s =>
    let c := s.core n
    let addr := c.av a
    let p := addr.toNat
    if c.pv d || c.pv b then s.poisonTrap n
    else if c.violates p 8 [.rd, .wr] then .trap s 3 (some addr) 0
    else if p % 8 != 0 || !casArea (s.area p) || !s.memAt n p then .trap s 6 (some addr) 0
    else if c.macxReads (s.phys n p) 8 then .wait s
    else
      let s := s.fence n
      match s.getData n p 8 e with
      | .wait t => .wait t
      | .bus t => .trap t 6 (some addr) 0
      | .ok t data bad =>
        if bad.any id then t.poisonTrap n
        else
          let old : Word := BitVec.ofNat 64 (ofLe data)
          let u := if old = c.dv d then t.store (t.phys n p) (leBytes 8 (c.dv b).toNat) false else t
          u.regs n fun c => c.setD d old false)

/-- REGISTER_WRITE: a register of an MMIO block written by a core. -/
def execRegisterWrite (n : Fin 132) (a : Addr) (wide : Bool) (v : Word) (s : State) : Done :=
  s.done ((s.fence n.val).registerWrite n.val a.toNat wide v.toNat)

end Sys2Proof.Machine
end

