-- ==== Sys2Proof/Machine/DictBase.lean ====
section
/-! DEFINITION. The dictionary engine's own operations: sessions and tiers, the checks of an access, stages, transfers and answers
(R50 to R62, R68 to R72, R77 to R86, R88, 02_object_dictionary.md). -/
namespace Sys2Proof.Machine

/-! ### Abort codes (R92) -/

def aNoObject : Nat := 0x01
def aNoSubindex : Nat := 0x02
def aAccessRo : Nat := 0x03
def aAccessWo : Nat := 0x04
def aTier : Nat := 0x05
def aBadLength : Nat := 0x06
def aBadValue : Nat := 0x07
def aBadState : Nat := 0x08
def aStageFull : Nat := 0x09
def aCommitFailed : Nat := 0x0A
def aSegment : Nat := 0x0B
def aDomainBusy : Nat := 0x0C
def aStoreFault : Nat := 0x0D
def aAuth : Nat := 0x0E
def aFactoryLocked : Nat := 0x0F
def aTwinLink : Nat := 0x10
def aDisabled : Nat := 0x11

/-! ### Sessions, tiers and entries (R50 to R59) -/

/-- The tier of a session (R55). -/
def Session.tier : Session → Nat
  | .nvme fn => if fn = 0 then 1 else 0
  | .mctp _ => 2
  | .t1s _ sup => if sup then 3 else 2
  | .strait => 3
  | .firmware => 3

/-- The function a session's accesses select: its own for a tier-0 session, else the one it names (R57). -/
def Session.function (x : Session) (named : Nat) : Nat :=
  match x with
  | .nvme fn => if fn = 0 then named else fn
  | _ => named

/-- The rows that stand under an index. -/
def recordRows (idx : Nat) : List EntryRow := entryRows.filter fun r => r.index ≤ idx && idx < r.index + r.count

/-- Subindex 0 of a record: its highest subindex, at the tier of its lowest-tier entry (R50). It is function-scoped where every entry of
the record is (log 65). -/
def countRow (idx : Nat) (rows : List EntryRow) : EntryRow where
  index := idx
  count := 1
  sub := 0
  subLast := 0
  type := .uint 1
  access := .ro
  tier := rows.foldl (fun m r => min m r.tier) 3
  default := .val (rows.foldl (fun m r => max m r.subLast) 0)
  range := .any
  persist := .volatile
  scope := if rows.any fun r => r.scope == .package then .package else .function false
  shared := false

/-- The row of an entry, subindex 0 included; the offset of pool 0 is `RO` (R556). -/
def entryRow? (idx sub : Nat) : Option EntryRow :=
  if sub = 0 then
    match recordRows idx with
    | [] => none
    | r :: rs => some (countRow idx (r :: rs))
  else (rowOf idx sub).map fun r => if idx = 0xD010 ∧ sub = 2 then { r with access := .ro } else r

/-- Whether a tier-map rule covers an index (R58, R95). -/
def ruleCovers (v idx : Nat) : Bool := decide (bits v 0 16 ≤ idx) && decide (idx ≤ bits v 16 16)

/-- The tier the tier map requires of an index. -/
def State.mapTier (s : State) (idx : Nat) : Nat :=
  (List.range 16).foldl (fun t k =>
    let v := s.val 0x4F10 (k + 1)
    if ruleCovers v idx then max t (bits v 32 2) else t) 0

/-- An entry's own tier: the supervisor key may be enrolled at tier 2 (R87). -/
def State.ownTier (s : State) (r : EntryRow) (idx sub : Nat) : Nat :=
  if idx = 0x4F20 ∧ sub = 2 ∧ !s.flag 0x4F20 3 then 2 else r.tier

/-- The required tier of an access (R56). -/
def State.needTier (s : State) (r : EntryRow) (idx sub : Nat) : Nat := max (s.ownTier r idx sub) (s.mapTier idx)

/-- Whether a tier-0 session sees a package-scoped entry (R57). -/
def State.tenantSees (s : State) (r : EntryRow) (idx sub : Nat) : Bool :=
  s.needTier r idx sub == 0 && (r.access == .ro || (idx == 0x1100 && sub == 1))

/-- Whether an index is hidden from a tier-0 session: no entry of it is function-scoped or seen. -/
def State.hidden (s : State) (x : Session) (idx : Nat) : Bool :=
  x.tier == 0 && !(recordRows idx).any fun r => r.scope != .package || s.tenantSees r idx r.sub

/-- The checks of existence, access and tier (R56 to R60, R94): an abort code, or 0. The whole of `0xF000`–`0xFFFF` has no entry that a
chapter defines: it answers by R59 (log 66). -/
def State.accessCheck (s : State) (x : Session) (idx sub : Nat) (write : Bool) : Nat :=
  if 0xF000 ≤ idx then
    (if write then aFactoryLocked else if x.tier = 0 then aNoObject else if x.tier < 3 then aTier else aNoObject)
  else match entryRow? idx sub with
    | none => if (recordRows idx).isEmpty || s.hidden x idx then aNoObject else aNoSubindex
    | some r =>
      let codes : Nat := if write then (if r.access = .ro then aAccessRo else 0) else if r.access = .wo then aAccessWo else 0
      match r.scope with
      | .package =>
        if x.tier = 0 && !s.tenantSees r idx sub then aNoObject
        else if codes != 0 then codes
        else if x.tier < s.needTier r idx sub then aTier
        else 0
      | .function self =>
        if codes != 0 then codes
        else if !write && self && x.tier = 0 then (if 0 < s.mapTier idx then aTier else 0)
        else if x.tier < s.needTier r idx sub then aTier
        else 0

/-! ### Values (R51, R60) -/

/-- Whether a value is in an entry's fixed range. -/
def ERange.holds (r : ERange) (v : Nat) : Bool :=
  match r with
  | .any => true
  | .between lo hi => decide (lo ≤ v) && decide (v ≤ hi)
  | .oneOf l => l.contains v
  | .multiple m => v % m == 0
  | .steps lo hi step => decide (lo ≤ v) && decide (v ≤ hi) && v % step == 0
  | .powerOfTwo lo hi => decide (lo ≤ v) && decide (v ≤ hi) && v == 2 ^ v.log2
  | .below n => decide (v < 2 ^ n)

/-- Whether a length fits a type. -/
def EType.fits (t : EType) (n : Nat) : Bool :=
  match t with
  | .str m => decide (1 ≤ n) && decide (n ≤ m)
  | t => n == t.size

/-- Whether a type is a DOMAIN. -/
def EType.isDomain : EType → Bool
  | .domain _ => true
  | _ => false

/-- The checks of type, length and fixed range (R51, R52, R60): an abort code, or 0. -/
def EntryRow.valueCheck (r : EntryRow) (value : List Byte) : Nat :=
  let v := ofLe value
  if !r.type.fits value.length then aBadLength
  else if r.access = .rwc then (if v = 0 then 0 else aBadValue)
  else if r.type = .bool && decide (1 < v) then aBadValue
  else if r.range.holds v then 0
  else aBadValue

/-! ### Stages (R60 to R63) -/

/-- A session's stage. -/
def State.stage (s : State) (x : Session) : Stage := (s.dict.stages.find? fun g => g.session == x).getD ⟨x, [], none⟩

/-- A stage with nothing in it. -/
def Stage.isEmpty (g : Stage) : Bool := g.vals.isEmpty && g.domain.isNone

/-- A session's stage replaced; an empty one is not listed. -/
def State.setStage (s : State) (g : Stage) : State :=
  let rest := s.dict.stages.filter fun (h : Stage) => h.session != g.session
  { s with dict.stages := if g.isEmpty then rest else rest ++ [g] }

/-- Bytes of the values a stage holds; a DOMAIN's bytes lie in DRAM of their own (R72). -/
def Stage.used (g : Stage) : Nat := sumOf (fun (v : Staged) => v.len) g.vals

/-- A value staged, in the place of one staged before for the same entry; none beyond 64 entries or 8 KiB (R60, R61). -/
def Stage.put (g : Stage) (v : Staged) : Option Stage :=
  let same (w : Staged) : Bool := w.key == v.key
  let others := sumOf (fun (w : Staged) => if same w then 0 else w.len) g.vals
  if 8192 < others + v.len then none
  else if g.vals.any same then some { g with vals := updateIf same (fun (_ : Staged) => v) g.vals }
  else if 64 ≤ g.vals.length then none
  else some { g with vals := g.vals ++ [v] }

/-- What a session ends of its own (R68): its stage, its transfers, its commits that wait, and the commit in hand unless that has passed
its commit point (R78), whose answer is then discarded. -/
def State.dropSession (s : State) (x : Session) : State :=
  let d := s.dict
  let mine := match d.current with
    | some c => c.session == x
    | none => false
  let passed := match d.current with
    | some c => c.shared && (c.phase == .awaitMarker || c.answer == some 0)
    | none => false
  { s with dict := { d with
    stages := d.stages.filter fun (g : Stage) => g.session != x
    transfers := d.transfers.filter fun (t : Transfer) => t.session != x
    queue := d.queue.filter fun (q : CommitReq) => q.session != x
    current := if mine then (if passed then d.current.map fun c => { c with reply := .none } else none) else d.current
    unmarked := if mine && !passed then [] else d.unmarked } }

/-- Whether a session has a commit queued or in hand. -/
def State.committing (s : State) (x : Session) : Bool :=
  (s.dict.queue.any fun q => q.session == x) ||
    match s.dict.current with
    | some c => c.session == x
    | none => false

/-! ### Answers (R77, R79, R80, R82, R83, R88) -/

/-- The counters' record of a transport (R95). -/
def Reply.counters : Reply → Nat
  | .nvme _ _ _ _ => 0x1110
  | .header (.mctp _ _) _ => 0x1111
  | .header (.t1s _ _ _ _) _ => 0x1112
  | .header .strait _ => 0x1113
  | .none => 0x1113

/-- A header with its value, as a response carries it: it echoes the request's entry, function, flags and `SUPERVISOR` (log 128), with
every reserved bit 0 (R6). -/
def Hdr.response (h : Hdr) (status offset : Nat) (value : List Byte) : List Byte :=
  [0x01, BitVec.ofNat 8 (h.op % 128 + 128), BitVec.ofNat 8 h.tag, BitVec.ofNat 8 status] ++ leBytes 2 h.index ++
    [BitVec.ofNat 8 h.sub, BitVec.ofNat 8 (h.flags % 8)] ++ leBytes 4 offset ++ leBytes 2 value.length ++
    [BitVec.ofNat 8 h.function, BitVec.ofNat 8 (b2n h.supervisor)] ++ value

/-- A header as this device sends it in a SYNC request. -/
def Hdr.request (h : Hdr) (len : Nat) (value : List Byte) : List Byte :=
  [0x01, BitVec.ofNat 8 h.op, BitVec.ofNat 8 h.tag, 0] ++ leBytes 2 h.index ++
    [BitVec.ofNat 8 h.sub, BitVec.ofNat 8 h.flags] ++ leBytes 4 h.offset ++ leBytes 2 len ++
    [BitVec.ofNat 8 h.function, BitVec.ofNat 8 (b2n h.supervisor)] ++ value

/-- A header and its value as a requester sent them. -/
def HdrIn.bytes (h : HdrIn) (op : Nat) (value : List Byte) : List Byte :=
  [h.version, BitVec.ofNat 8 op, h.tag, 0] ++ leBytes 2 h.index.toNat ++ [h.sub, h.flags] ++ leBytes 4 h.offset.toNat ++
    leBytes 2 h.length.toNat ++ [h.function, h.security] ++ value

/-- The bytes of a dictionary message over MCTP before its integrity check (R80). -/
def mctpBody (ic : Bool) (body : List Byte) : List Byte := [BitVec.ofNat 8 (0x7E + 128 * b2n ic), 0x1C, 0x7E] ++ body

/-- A dictionary message over MCTP, with its integrity check where `IC` is set (R80). -/
def mctpMessage (ic : Bool) (body : List Byte) : List Byte :=
  let m := mctpBody ic body
  if ic then m ++ leBytes 4 (crc32c m) else m

/-- A 10BASE-T1S frame as it leaves: padded with zeros to the Ethernet minimum of 60 bytes, then the frame check sequence (R82) (log
159). -/
def t1sSent (f : List Byte) : List Byte :=
  let p := f ++ List.replicate (60 - f.length) 0
  p ++ leBytes 4 (crc32 p)

/-- The bytes of a 10BASE-T1S frame up to its tag (R82). -/
def t1sFrame (dst src seq : Nat) (body : List Byte) : List Byte :=
  beBytes 6 dst ++ beBytes 6 src ++ [0x88, 0xB5] ++ leBytes 8 seq ++ body

/-- The tag of a frame under a key: over the epoch, then the frame (R83). -/
def State.authTag (s : State) (key frame : List Byte) : List Byte :=
  (hmac256 key (leBytes 8 s.dict.epoch.toNat ++ frame)).take 16

/-- A header response sent the way its request came. A T1S answer's source is the address the request was sent to (log 67). -/
def State.sendHeader (s : State) (via : Via) (body : List Byte) : State :=
  match via with
  | .mctp eid ic => s.emit (.mctp eid (mctpMessage ic body))
  | .t1s dst mac seq key =>
    let f := t1sFrame mac dst seq body
    s.emit (.t1s (t1sSent (f ++ s.authTag key f)))
  | .strait => s.strait 5 0x00 (leBytes 8 s.dict.pairSeq ++ body)

/-- An answer: on NVMe the status, DW0, DW1 and any data, on the header transports the response, with the total size of a
snapshot in `OFFSET` where one is given. A nonzero code is counted. -/
def State.reply (s : State) (dest : Reply) (status dw0 dw1 : Nat) (total : Option Nat) (value : List Byte) : State :=
  let s := if status = 0 || dest = .none then s else s.bump dest.counters 6
  match dest with
  | .none => s
  | .nvme fn sq cid ptr =>
    let st := if status = 0 then 0 else sc 7 status
    let s := if status = 0 then s else s.logError fn sq cid st 0 0 0
    let s := if value.isEmpty then s else s.hostData fn sq cid ptr 0 0 value false (s.onVc1 (s.classOf fn sq))
    s.completion fn sq cid st dw0 dw1 false
  | .header via h => s.sendHeader via (h.response status (total.getD h.offset) value)

/-- An answer that carries a code alone. -/
def State.abort (s : State) (dest : Reply) (status : Nat) : State := s.reply dest status 0 0 none []

/-- A request taken: counted as accepted (R95). -/
def State.accepted (s : State) (dest : Reply) : State := s.bump dest.counters 1

/-- The answer to a commit or discard (R77, R79): entries applied, and on `COMMIT_FAILED` the first failing entry with its code. -/
def State.commitReply (s : State) (dest : Reply) (status applied idx sub code : Nat) : State :=
  let value := match dest with
    | .nvme _ _ _ _ => []
    | _ => leBytes 4 applied ++ leBytes 2 idx ++ [BitVec.ofNat 8 sub, BitVec.ofNat 8 code]
  s.reply dest status applied (code * 2 ^ 24 + idx * 2 ^ 8 + sub) none value

end Sys2Proof.Machine
end

