-- ==== Sys2Proof/Machine/Programs.lean ====
section
/-! DEFINITION. The commands to device namespaces: loading, activating and unloading programs, memory range sets, Execute
Program, and the SLM commands (R118, R119, R173, R174, R411 to R423, R430, R432). -/
namespace Sys2Proof.Machine

/-- A device command ends; an error's Error Information entry names the field at byte `param`. -/
def State.devDone (s : State) (order status param : Nat) : State :=
  (s.onCmd order fun c => { c with errParam := param, past := true }).finish order status

/-- The byte of the entry that holds the program index (log 48). -/
def indexField : Nat := 8

/-- An answer that names the program index field (R411). -/
def State.badIndex (s : State) (order : Nat) : State := s.devDone order (sc 0 0x02) indexField

/-- Invalid Field in Command. -/
def State.badField (s : State) (order : Nat) : State := s.devDone order (sc 0 0x02) 0

/-- A load that fails: counted (R413, R417). -/
def State.loadRejected (s : State) (order : Nat) : State := (s.bump 0xA030 2).badField order

/-- A slot emptied; its generation stays. -/
def State.emptySlot (s : State) (k : Nat) : State := s.setSlot k { Slot.init with gen := (s.slot k).gen }

/-- Bytes of images that slots other than one hold. -/
def State.otherBytes (s : State) (k : Nat) : Nat :=
  sumOf (fun (p : Nat × Slot) => if p.1 = k ∨ p.2.state = .empty then 0 else imgLength p.2.image) s.sched.slots

/-- LOAD_PROGRAM: a part of an image (R413, R417, R418). -/
def State.loadPart (s : State) (c : HostCmd) (index offset : Nat) (data : List Byte) : State :=
  match slotOf index with
  | none => s.badIndex c.order
  | some k =>
    let x := s.slot k
    let starts := decide (offset = 0) && x.state == .empty
    let goesOn := x.state == .loading && x.fn == c.fn && offset == x.image.length
    if !starts && !goesOn then
      (if x.state == .empty || (x.state == .loading && x.fn == c.fn) then s.badField c.order else s.badIndex c.order)
    else
      let img := x.image ++ data
      let known := decide (12 ≤ img.length)
      let total := imgLength img
      if known && decide (s.sched.programArea * 2 ^ 20 < s.otherBytes k + total) then (s.emptySlot k).loadRejected c.order
      else if known && decide (total < img.length) then s.badField c.order
      else
        let s := s.store (programAt k + offset) data false
        let y : Slot := { x with state := .loading, fn := c.fn, image := img, at_ := s.pkg.timebase }
        if !(known && img.length == total) then (s.setSlot k y).devDone c.order 0 0
        else if s.imageOk c.fn img then
          (s.setSlot k { y with state := .loaded, gen := (x.gen + 1) % 65536 }).devDone c.order 0 0
        else (s.emptySlot k).loadRejected c.order

/-- PROGRAM_UNLOAD: a loaded slot goes to `UNLOADING`, and the command waits (R420). -/
def State.unloadProgram (s : State) (c : HostCmd) (index : Nat) : State :=
  match slotOf index with
  | none => s.badIndex c.order
  | some k =>
    let x := s.slot k
    if x.state == .loaded && x.ownedBy c.fn then
      (s.setSlot k { x with state := .unloading, unload := some c.order }).onCmd c.order fun h => { h with past := true }
    else s.badIndex c.order

/-- Whether a descriptor names a slot's program, in a ready list, a prefetch slot, a core or a stalled port. -/
def State.named (s : State) (k : Nat) : Bool :=
  let is (t : Task) : Bool := t.program == 0x100 + k
  s.sched.ready.toList.any (fun l => l.any is) || s.sched.stalled.any (fun x => is x.task) ||
  (Tab.values s.cores).any fun c => (c.task.map is).getD false || (c.prefetch.map fun p => is p.1).getD false

/-- SLOT_UNLOADED: an unloading slot that no descriptor names becomes `EMPTY`, and its command completes (R420). -/
def State.slotUnloaded (s : State) (k : Nat) : State :=
  let x := s.slot k
  if x.state == .unloading && !s.named k then
    let s := s.emptySlot k
    match x.unload with
    | some order => s.devDone order 0 0
    | none => s
  else s

/-- LOADING_TIMEOUT: a slot with no part for 60 s returns to `EMPTY` (R418). -/
def State.loadingTimeout (s : State) (k : Nat) : State :=
  let x := s.slot k
  if x.state == .loading && decide (usTicks 60000000 ≤ s.since x.at_) then s.emptySlot k else s

/-- PROGRAM_ACTIVATE and PROGRAM_DEACTIVATE (R411, R419). -/
def State.activation (s : State) (c : HostCmd) (index : Nat) (on : Bool) : State :=
  if isFixed index then (if on then s.devDone c.order 0 0 else s.badIndex c.order)
  else match slotOf index with
    | none => s.badIndex c.order
    | some k =>
      let x := s.slot k
      if !x.ownedBy c.fn then s.badIndex c.order
      else if x.state == .loaded || x.state == .active then
        (s.setSlot k { x with state := if on then .active else .loaded }).devDone c.order 0 0
      else s.badIndex c.order

/-- Whether a range lies inside a function's SLM window. -/
def State.inWindow (s : State) (fn base len : Nat) : Bool := decide (base + len ≤ s.slmLen fn)

/-- MEMORY_RANGE_SET_MANAGEMENT, create: the set takes the lowest free identifier from 1, which DW0 returns (R118, R174,
log 46). -/
def State.makeSet (s : State) (c : HostCmd) (ranges : List (Nat × Nat)) : State :=
  let used := s.sched.sets.map fun q => q.id
  match ((List.range 64).map (· + 1)).find? fun i => !used.contains i with
  | none => s.badField c.order
  | some id =>
    if ranges.isEmpty || decide (128 < ranges.length) || !(ranges.all fun p => s.inWindow c.fn p.1 p.2) then s.badField c.order
    else
      let q : RangeSet := ⟨id, c.fn, ranges.map fun p => MemRange.mk p.1 p.2⟩
      let s := { s with sched.sets := s.sched.sets ++ [q] }
      (s.onCmd c.order fun h => { h with past := true }).finishDw c.order 0 id 0

/-- MEMORY_RANGE_SET_MANAGEMENT, delete. -/
def State.dropSet (s : State) (c : HostCmd) (id : Nat) : State :=
  if s.sched.sets.any fun q => q.id == id && q.fn == c.fn then
    ({ s with sched.sets := s.sched.sets.filter fun (q : RangeSet) => q.id != id }).devDone c.order 0 0
  else s.badField c.order

/-! ### Execute Program (R421 to R423, R430, R432) -/

/-- Whether the task header keeps R421. -/
def headerOk (p : List Byte) : Bool :=
  decide (32 ≤ p.length) && decide (p.length ≤ 4096) && field p 0 2 == 1 &&
  decide (1 ≤ field p 4 4) && decide (field p 4 4 ≤ 65536) && (bit (field p 2 2) 0 || field p 4 4 == 1) &&
  decide (field p 8 1 ≤ 7)

/-- The four selectors of a task header. -/
def headerSels (p : List Byte) : List Nat := (List.range 4).map fun i => field p (12 + 2 * i) 2

/-- Whether the selectors fit the image and the set (R422). -/
def selsOk (img : List Byte) (sels : List Nat) (count : Nat) (set : List MemRange) : Bool :=
  decide (imgRanges img ≤ (sels.filter fun x => bit x 15).length) &&
  !(bit (imgFlags img) 1 && bit ((sels[3]?).getD 0) 15) &&
  sels.all fun x => !bit x 15 || decide (bits x 0 7 + (if bit x 14 then count - 1 else 0) < set.length)

/-- The checks a fixed program makes of its common block: the first that fails (R430, R432). -/
def State.fixedCheck (s : State) (p : List Byte) : Nat :=
  let kind := field p 32 1
  if kind = 0 then 0
  else if kind ≠ 1 then sc 0 0x02
  else
    match s.namespace? (field p 36 4) with
    | none => sc 0 0x02
    | some n =>
      if 1020 < n.nsid || field p 40 8 % 4 != 0 || field p 48 8 % 16384 != 0 then sc 0 0x02
      else if s.ana n.group != .optimized then sc 3 0x02
      else 0

/-- EXECUTE_PROGRAM: validated; its parameters copied; its tasks then enter one by one (R422, R423). -/
def State.execute (s : State) (c : HostCmd) (index setId : Nat) (p : List Byte) : State :=
  let runs := isFixed index || (match slotOf index with
    | some k => (s.slot k).state == .active && (s.slot k).ownedBy c.fn
    | none => false)
  let x := match slotOf index with
    | some k => s.slot k
    | none => Slot.init
  let set := match s.sched.sets.find? fun (q : RangeSet) => q.id == setId && q.fn == c.fn with
    | some q => some q.ranges
    | none => if setId = 0 then some [] else none
  if !runs then s.badIndex c.order
  else match set with
    | none => s.badField c.order
    | some ranges =>
      let mask := bits (field p 9 1) 0 4
      if !headerOk p || !selsOk x.image (headerSels p) (field p 4 4) ranges || !(ranges.all fun g => s.inWindow c.fn g.base g.len) ||
          (s.maskRegions mask).isEmpty || s.fval c.fn 0x4010 5 == 0 then s.badField c.order
      else
        let st := if isFixed index then s.fixedCheck p else 0
        if st != 0 then s.devDone c.order st 0
        else
          let e : Exec := ⟨c.order, c.fn, index, x.gen, c.cls, setId, field p 4 4, field p 8 1, mask, headerSels p, 0, 0, 0, 0, none,
            false, false⟩
          { s with sched.execs := s.sched.execs ++ [e] }.store (paramAt c.order) p false

/-! ### SLM commands (R118, R119, R174, R367) -/

/-- The check of an SLM access: alignment and length, then the window and the installed size. -/
def State.slmCheck (s : State) (fn offset len : Nat) : Nat :=
  if offset % 4 ≠ 0 ∨ len % 4 ≠ 0 ∨ 0x200000 < len then sc 0 0x02
  else if s.slmLen fn < offset + len ∨ s.pkg.slmSize < s.fval fn 0x4010 3 + offset + len then sc 0 0x80
  else 0

/-- Where a function's SLM offset lies in memory. -/
def State.slmAt (s : State) (fn offset : Nat) : Nat := slmOffset + s.fval fn 0x4010 3 + offset

/-- MEMORY_READ: every TLP with a poisoned byte is counted and recorded, and the command ends in error (R367). -/
def State.memoryRead (s : State) (c : HostCmd) (offset len : Nat) : State :=
  let st := s.slmCheck c.fn offset len
  if st != 0 then s.devDone c.order st 0
  else
    let a := s.slmAt c.fn offset
    let bad (k : Nat) : Bool := s.mem.poisoned (a + k) 1
    let s := (s.onCmd c.order fun h => { h with past := true }).sendData c 0 (s.mem.read a len) (if s.mem.poisoned a len then some bad else none) a
    match (granules a len).find? fun g => Tab.get s.mem.poison false g with
    | none => s.finish c.order 0
    | some g => (s.errCmd c.order (sc 2 0x81) 0 (2 ^ 60 + b2n s.pkg.straps.isle * 2 ^ 59 + g)).finish c.order (sc 2 0x81)

/-- MEMORY_WRITE. -/
def State.memoryWrite (s : State) (c : HostCmd) (offset : Nat) (data : List Byte) : State :=
  let st := s.slmCheck c.fn offset data.length
  if st != 0 then s.devDone c.order st 0
  else (s.store (s.slmAt c.fn offset) data false).devDone c.order 0 0

/-- MEMORY_COPY: checked, then read as a source of NVM data; what it writes goes to the window as the check found it (R73, R118, R174). -/
def State.memoryCopy (s : State) (c : HostCmd) (dst nsid : Nat) (src : List (Nat × Nat)) : State :=
  let l := src.map fun p => Extent.mk nsid p.1 (p.2 + 1)
  let bytes := 4096 * sumOf (fun (e : Extent) => e.count) l
  match s.namespace? nsid with
  | none => s.devDone c.order (sc 0 0x0B) 0
  | some n =>
    let st := s.slmCheck c.fn dst bytes
    if 1020 < nsid || l.isEmpty || decide (128 < l.length) then s.badField c.order
    else if c.fwdTag.isNone && !n.attached.contains (s.cntlid c.fn) then s.devDone c.order (sc 0 0x0B) 0
    else if s.ana n.group != .optimized then s.devDone c.order (sc 3 0x02) 0
    else if l.any fun e => decide (n.lbas < e.lba + e.count) then s.devDone c.order (sc 0 0x80) 0
    else if n.conflict (if c.fwdTag.isSome then c.fn - 256 else s.cntlid c.fn) (s.hostId c.fn) false then s.devDone c.order (sc 0 0x83) 0
    else if st != 0 then s.devDone c.order st 0
    else
      let s := { s with nvme.cmds := s.nvme.cmds.filter fun (k : HostCmd) => k.order != c.order }
      let op := IoOp.memCopy l (s.slmAt c.fn dst)
      s.enter { c with order := s.nvme.nextOrder, nsid := nsid, op := op, spans := op.spans, admitted := false, filled := false }

/-! ### Running device commands -/

/-- A device command carried out. -/
def State.runDevice (s : State) (c : HostCmd) : State :=
  match c.op with
  | .device d =>
    let s := s.onCmd c.order fun h => { h with filled := true }
    match d with
    | .load i o b => s.loadPart c i.toNat o.toNat b
    | .unload i => s.unloadProgram c i.toNat
    | .activate i on => s.activation c i.toNat on
    | .makeSet l => s.makeSet c (l.map fun p => (p.1.toNat, p.2.toNat))
    | .dropSet id => s.dropSet c id.toNat
    | .execute i q p => s.execute c i.toNat q.toNat p
    | .memRead o n => s.memoryRead c o.toNat n.toNat
    | .memWrite o b => s.memoryWrite c o.toNat b
    | .memCopy dst n l => s.memoryCopy c dst.toNat n.toNat (l.map fun p => (p.1.toNat, p.2.toNat))
  | _ => s

/-- Whether a device command is ready to be carried out. -/
def HostCmd.deviceReady (c : HostCmd) : Bool :=
  c.admitted && c.need == 0 && !c.filled && (match c.op with
    | .device _ => true
    | _ => false)

/-- Every device command that is ready carried out, in order. -/
def State.runDevices (s : State) : State := (s.nvme.cmds.filter fun c => c.deviceReady).foldl (fun s c => s.runDevice c) s

/-- Whether a command is one of the compute namespace's. -/
def DevOp.compute : DevOp → Bool
  | .memRead .. | .memWrite .. | .memCopy .. => false
  | _ => true

/-- The bytes a device command moves by its pointers, and whether they come from the host. -/
def DevOp.moves : DevOp → Nat × Bool
  | .memRead _ n => (n.toNat, false)
  | d => (d.payload.length, true)

/-- A command to a device namespace: checked, then carried out here or forwarded to the Isle it belongs to (R109, R118, R349). -/
def State.device (s : State) (r : Sqe) (nsid : Nat) (w : Walk) (d : DevOp) : State :=
  if r.sq = 0 then s
  else s.onFetch r fun s =>
    let fn := r.fn.toNat
    if s.nvme.sanitize.isSome then s.answer r (sc 0 0x1D) 0
    else match s.namespace? nsid with
      | none => s.answer r (sc 0 0x0B) 0
      | some n =>
        if !n.attached.contains (s.cntlid fn) then s.answer r (sc 0 0x0B) 0
        else if nsid ≤ 1020 || d.compute != decide (nsid ≤ 1022) then s.answer r (sc 0 0x01) 0
        else match (s.ana n.group).status with
          | some st => s.answer r st 0
          | none =>
            let walk := s.walkStatus r w d.moves.1 d.moves.2
            if walk != 0 then s.answer r walk 0
            else
              let cls := s.classOf fn r.sq.toNat
              if n.group = s.ownGroup then
                (s.enter { s.newCmd fn r.sq.toNat r.cid.toNat cls nsid (.device d) PrInfo.none with ptr := w }).runDevices
              else if s.twin.pair == .sole || s.twin.pair == .takeover then s.answer r (sc 3 0x02) 0
              else s.forward fn r.sq.toNat r.cid.toNat cls nsid (.device d) PrInfo.none w d.opcode [] d.payload

/-- TASK_ENQUEUE: the next task of an Execute Program, or a firmware descriptor (R423). -/
def State.taskEnqueue (s : State) (tag : Option Nat) (r : Nat) (t : Task) : State :=
  match tag with
  | some k => s.enqueueNext k
  | none => s.enqueueFirmware r t

end Sys2Proof.Machine
end

