-- ==== Sys2Proof/Machine/Tenants.lean ====
section
/-! DEFINITION. Controller reset, Function Level Reset and VF disable, Secondary Controller Offline, the tenant scrub, Sanitize
(R116, R145 to R149, R172, R181 to R187, R484). -/
namespace Sys2Proof.Machine

/-! ### What stops with a function (R145, R181) -/

/-- The queues of a function gone. -/
def State.dropQueues (s : State) (fn : Nat) : State :=
  let sqs := Tab.keep (fun k _ => k / 65536 != fn) s.nvme.sqs
  let cqs := Tab.keep (fun k _ => k / 65536 != fn) s.nvme.cqs
  let held := s.nvme.heldCpl.filter fun (h : HeldCpl) => h.fn != fn
  { s with nvme.sqs := sqs, nvme.cqs := cqs, nvme.heldCpl := held }

/-- A function's commands: those not past their commit points are discarded, the others go on with no completion; forwarded ones
are stopped on the twin (R145, R183). -/
def State.stopCommands (s : State) (fn : Nat) : State :=
  let mine (c : HostCmd) : Bool := c.fn == fn && c.fwdTag.isNone
  let s := (s.nvme.cmds.filter fun c => mine c && !c.past).foldl (fun (s : State) c => s.stopCmd c.order none) s
  let l := updateIf mine (fun (c : HostCmd) => { c with silent := true }) s.nvme.cmds
  let s := { s with nvme.cmds := l }
  (s.stopForwarded (fun f => f.fn == fn) true).reexamine

/-- Whether a task belongs to an Execute Program that a function entered on this Isle. -/
def State.tenantTask (s : State) (fn : Nat) (t : Task) : Bool :=
  t.exec && t.fn == fn && match s.cmd? t.tag with
    | some c => c.fwdTag.isNone
    | none => true

/-- A function's tasks: running ones stop at their next instruction boundary, queued, waiting and prefetched ones are removed, and
its Execute Programs are forgotten (R181 step 5). -/
def State.stopTasks (s : State) (fn : Nat) : State :=
  let mine (t : Task) : Bool := s.tenantTask fn t
  let own (e : Exec) : Bool := e.fn == fn && match s.cmd? e.tag with
    | some c => c.fwdTag.isNone
    | none => true
  let tags := (s.sched.execs.filter own).map (·.tag)
  let ready := s.sched.ready.map fun (l : List Task) => l.filter fun t => !mine t
  let stalled := s.sched.stalled.filter fun (x : Stalled) => !mine x.task
  let execs := s.sched.execs.filter fun (e : Exec) => !own e
  let cmds := s.nvme.cmds.filter fun (c : HostCmd) => !tags.contains c.order
  let t := { s with sched.ready := ready, sched.stalled := stalled, sched.execs := execs, nvme.cmds := cmds }
  let running (c : Core) : Bool := match c.task with
    | some k => mine k
    | none => false
  let fetched (c : Core) : Bool := match c.prefetch with
    | some p => mine p.1
    | none => false
  let cores := Tab.mapVals (fun _ (c : Core) =>
    { c with stop := c.stop || running c, prefetch := if fetched c then none else c.prefetch }) t.cores
  let t := { t with cores := cores }
  { (List.range 4).foldl (fun (s : State) r => s.stallLevel r) t with nvme := t.nvme }

/-- Whether a task of a function still runs towards its stop. -/
def State.stopping (s : State) (fn : Nat) : Bool :=
  s.cores.any fun p => p.2.stop && match p.2.task with
    | some t => t.exec && t.fn == fn
    | none => false

/-- The slots a function is loading return to `EMPTY` (R418). -/
def State.emptyLoading (s : State) (fn : Nat) : State :=
  (Tab.keys s.sched.slots).foldl (fun (s : State) k =>
    let x := s.slot k
    if x.state == .loading && x.fn == fn then s.emptySlot k else s) s

/-! ### Function reset (R181 to R186) -/

/-- Secondary Controller Offline commands that wait go on, with no completion entry: the PF, which sent them, is reset (R145). -/
def State.offlineSilent (s : State) : State :=
  { s with nvme.ctrls := Tab.mapVals (fun _ (c : Ctrl) => { c with offlineCids := c.offlineCids.map fun k => k % 65536 + 65536 }) s.nvme.ctrls }

/-- The reset of a function begins, or is merged into one that has not reported complete (R181 steps 1 to 6, R186). -/
def State.startFunctionReset (s : State) (fn : Nat) : State :=
  let c := s.ctrl fn
  if c.flr.isSome then s
  else
    let s := s.setCtrl fn { c with flr := some s.pkg.timebase, aers := [], coalesced := [], events := [] }
    let s := if fn = 0 then s.offlineSilent else s
    let s := ((s.setFval fn 0x4020 8 0).bump 0x4000 2).fire (evSrc 44 19)
    let s := (((s.emptyLoading fn).stopTasks fn).stopCommands fn).dropQueues fn
    let s := { s with nvme.fwdOut := updateIf (fun (f : FwdCmd) => f.fn == fn) (fun f => { f with mute := true }) s.nvme.fwdOut }
    { (s.stopFunctionEngines fn).dropSession (.nvme fn) with nvme := s.nvme }

/-- VF Enable cleared: every VF is reset in parallel (R179, R181). -/
def State.vfDisable (s : State) : State :=
  if !s.nvme.vfEnable then s
  else
    let vfs := s.functions.drop 1
    vfs.foldl (fun (s : State) n => s.startFunctionReset n) { s with nvme.vfEnable := false }

/-- FUNCTION_LEVEL_RESET: of a function there is. One of the PF clears VF Enable too (R185). -/
def State.functionLevelReset (s : State) (fn : Nat) : State :=
  if !s.serving || !s.pkg.boot.configReady || !s.functions.contains fn then s
  else if fn = 0 then (s.startFunctionReset 0).vfDisable
  else s.startFunctionReset fn

/-- A controller as its reset leaves it: registers at their reset values, saved features restored; assignments, tokens, scrub and logs
stay, and so does the Timestamp, which only a package reset loses (R121, R184). -/
def State.freshCtrl (s : State) (fn : Nat) : Ctrl :=
  let c := s.ctrl fn
  let stamp := Tab.keep (fun k _ => k == 0x0E || k == 0x50000) c.features
  { Ctrl.base fn with
    online := c.online, vq := c.vq, vi := c.vi, lateExpected := c.lateExpected, features := Tab.putAll stamp (s.savedFeatures fn)
    errors := c.errors, errorCount := c.errorCount, resvLog := c.resvLog, resvCount := c.resvCount
    anaChanges := c.anaChanges, tokens := c.tokens, scrub := c.scrub }

/-- The Secondary Controller Offline commands that waited answer (R172). -/
def State.offlineDone (s : State) (fn : Nat) : State :=
  let c := s.ctrl fn
  if c.offlineCids.isEmpty then s
  else
    (c.offlineCids.filter (· < 65536)).foldl (fun (s : State) cid => s.completion 0 0 cid 0 0 0 false)
      (s.setCtrl fn { c with online := false, offlineCids := [] })

/-- Whether a doubleword of configuration space stays over a reset of its function: error registers, link control, the virtual channels of the port
(PRESUMED, log 73). -/
def cfgSticky (dw : Nat) : Bool := (decide (0x41 ≤ dw) && decide (dw ≤ 0x4A)) || [0x1C, 0x24, 0x55, 0x58].contains dw

/-- A function's configuration space and MSI-X table at their reset values; Max_Payload_Size stays (R181 step 9, log 73). -/
def State.resetConfig (s : State) (fn : Nat) : State :=
  let mps := s.cfg fn 0x1A &&& 0xE0
  let config := Tab.keep (fun k _ => k / 1024 != fn || cfgSticky (k % 1024)) s.nvme.config
  let msix := Tab.keep (fun k _ => k / 8192 != fn) s.nvme.msix
  let pend := Tab.keep (fun k _ => k / 2048 != fn) s.nvme.msixPend
  let s := { s with
    nvme.config := config, nvme.msix := msix, nvme.msixPend := pend
    nvme.numVfs := if fn = 0 then 0 else s.nvme.numVfs, nvme.doeOut := if fn = 0 then [] else s.nvme.doeOut }
  s.setCfg fn 0x1A (((s.cfg fn 0x1A) &&& (2 ^ 32 - 1 - 0xE0)) ||| mps)

/-- FLR_READS_DRAINED: with no task of the function left to stop and every stop of its forwarded commands acknowledged, its references are
released, and the reset reports complete once no host read is outstanding, or after 90 ms, which leaves `left` completions to
arrive late (R181 steps 7 to 9, R182, R183). -/
def State.functionResetDone (s : State) (fn left : Nat) : State :=
  let c := s.ctrl fn
  match c.flr with
  | none => s
  | some t =>
    if s.stopping fn || (s.nvme.fwdOut.any fun f => f.fn == fn && f.stopping) || (left != 0 && decide (s.since t < usTicks 90000)) then s
    else
      let s := { (s.stopFunctionEngines fn).freeOwned fn with nvme := s.nvme }
      let gone := fn != 0 && !s.functions.contains fn
      let x := s.freshCtrl fn
      let x := if gone then { Ctrl.init with lateExpected := x.lateExpected, scrub := x.scrub, tokens := x.tokens } else x
      (((s.setCtrl fn { x with lateExpected := x.lateExpected + left, offlineCids := c.offlineCids }).restoreSaved fn).resetConfig fn).offlineDone fn

/-- SECONDARY_CONTROLLER_OFFLINE: at once, or after the reset of a VF that is enabled (R172). -/
def State.secondaryOffline (s : State) (r : Sqe) (cntlid : Nat) : State :=
  s.virt r fun s =>
    match s.vfOf cntlid with
    | none => s.answer r (sc 0 0x02) 0
    | some n =>
      let c := s.ctrl n
      if !c.online then s.answer r 0 0
      else if c.enabled || c.flr.isSome then (s.setCtrl n { c with offlineCids := c.offlineCids ++ [r.cid.toNat] }).startFunctionReset n
      else ((s.setCtrl n { c with online := false }).dropQueues n).answer r 0 0

/-! ### Controller reset (R145, R148) -/

/-- CONTROLLER_RESET: `CC.EN` cleared. -/
def State.controllerReset (s : State) (fn : Nat) : State :=
  let c := s.ctrl fn
  if !c.enabled || c.flr.isSome then s
  else
    let s := match s.nvme.selfTest with
      | some t => if t.fn = fn then s.endSelfTest 2 else s
      | none => s
    let s := if fn = 0 then s.offlineSilent else s
    let s := (s.emptyLoading fn).setCtrl fn { s.ctrl fn with enabled := false, resetting := true, aers := [], coalesced := [], events := [] }
    (((s.stopCommands fn).dropQueues fn).dropSession (.nvme fn))

/-- CONTROLLER_RESET_DONE: every command past its commit point has ended. `CC` keeps its other fields, and the admin queue registers stay. -/
def State.controllerResetDone (s : State) (fn : Nat) : State :=
  let c := s.ctrl fn
  if !c.resetting || c.flr.isSome || (s.nvme.cmds.any fun k => k.fn == fn && k.fwdTag.isNone) || (s.nvme.fwdOut.any fun f => f.fn == fn) then s
  else (s.setCtrl fn { s.freshCtrl fn with
    cc := c.cc / 2 * 2, asq := c.asq, acq := c.acq, aqaSq := c.aqaSq, aqaCq := c.aqaCq, lateExpected := c.lateExpected
    offlineCids := c.offlineCids }).restoreSaved fn

/-! ### The tenant scrub (R187) -/

/-- TENANT_SCRUB_DONE: the window reads zero, the keys are unloaded and the ternary entries of the window invalid. -/
def State.scrubDone (s : State) (fn : Nat) : State :=
  let c := s.ctrl fn
  if c.scrub != 1 then s
  else
    let s := s.clearMem (s.slmAt fn 0) (s.slmLen fn)
    let s := s.unloadKeys fn
    let base := s.fval fn 0x4010 7
    let len := s.fval fn 0x4010 8
    let entries := Tab.mapVals (fun i (e : Tern) => if base ≤ i ∧ i < base + len then { e with valid := false } else e) s.tern.entries
    let entries := Tab.keep (fun _ (e : Tern) => e != Tern.init) entries
    let s := { s with tern.entries := entries }
    s.setCtrl fn { s.ctrl fn with scrub := 2 }

/-! ### Storage keys (R483, R484) -/

/-- The storage slots follow the namespaces: a key drawn for each new key generation, a slot cleared for each namespace gone. -/
def State.syncKeys (s : State) (old : List Namespace) : State :=
  let nvm (l : List Namespace) : List Namespace := l.filter fun n => decide (n.nsid ≤ 1020)
  let s := (nvm old).foldl (fun (s : State) n =>
    if (s.nvme.namespaces.any fun m => m.nsid == n.nsid) then s else s.dropStorageKey n.nsid) s
  (nvm s.nvme.namespaces).foldl (fun (s : State) n =>
    if (old.any fun m => m.nsid == n.nsid && m.keyGen == n.keyGen) then s else s.drawStorageKey n.nsid) s

/-! ### Sanitize (R116, R484) -/

/-- What every sanitize operation begins with: the namespaces read as zero, SLM is zero, and the loadable slots empty, at once or
once nothing names them. -/
def State.sanitizeClear (s : State) (block : Bool) : State :=
  let s := (s.nvme.namespaces.filter fun n => decide (n.nsid ≤ 1020)).foldl (fun (s : State) n => s.deallocNamespace n) (s.endSelfTest 9)
  let s := s.clearMem slmOffset s.pkg.slmSize
  let s := (Tab.keys s.sched.slots).foldl (fun (s : State) k =>
    let x := s.slot k
    match x.state with
    | .loading => s.emptySlot k
    | .loaded | .active => s.setSlot k { x with state := .unloading }
    | _ => s) s
  { s with nvme.sanitize := some ⟨block, true, s.isTwin && s.mirrorPartner⟩ }

/-- A Sanitize begun on this Isle. A crypto erase draws new data keys for the namespaces, a new pair key, a new table key (R484). -/
def State.sanitizeHere (s : State) (block : Bool) : State :=
  let s := s.sanitizeClear block
  if block then s
  else
    let old := s.nvme.namespaces
    let s := (old.filter fun n => decide (n.nsid ≤ 1020)).foldl (fun (s : State) n =>
      let key := s.newKey
      key.2.onNs n.nsid fun n => { n with keyGen := key.1, keyType := s.val 0xB300 3 }) s
    let s := { s with nvme.pairKeyGen := s.nvme.pairKeyGen + 1, nvme.tableKeyGen := s.nvme.tableKeyGen + 1 }
    (s.setKept 0xB300 5 (s.val 0xB300 5 + 1)).syncKeys old

/-- A SYNC frame that tells the twin of a Sanitize; the spec lays no such frame out, and its bytes are free (log 121). -/
def State.sendSan (s : State) : State :=
  if s.isTwin && s.mirrorPartner then
    let f := s.freeBytes 200
    { f.2 with dict.pairSeq := f.2.dict.pairSeq + 1 }.strait 5 0x00 (leBytes 8 (f.2.dict.pairSeq + 1) ++ f.1)
  else s

/-- A Sanitize received, for the whole subsystem: begun here and on the twin. -/
def State.sanitizeStart (s : State) (r : Sqe) (block : Bool) : State :=
  if s.splitLink then s.answer r twinLinkStatus 0 else ((s.sanitizeHere block).sendSan).answer r 0 0

/-- SANITIZE_CRYPTO_ERASE. -/
def State.sanitizeCrypto (s : State) (r : Sqe) : State := s.admin r false fun s => s.sanitizeStart r false

/-- SANITIZE_BLOCK_ERASE: with action 010b a block erase, with 100b a crypto erase. Exit Failure Mode (001b) has no failure to leave and completes;
with a field of overwrite set it is invalid, and so are overwrite and any other action (R116, log 138). -/
def State.sanitizeBlock (s : State) (r : Sqe) (cdw10 : Nat) : State :=
  let action := bits cdw10 0 3
  s.admin r false fun s =>
    if action = 2 then s.sanitizeStart r true
    else if action = 4 then s.sanitizeStart r false
    else if action = 1 ∧ bits cdw10 4 5 = 0 then s.answer r 0 0
    else s.answer r (sc 0 0x02) 0

/-- Whether a page of the array is one a block erase takes: a data block of a channel this Isle owns. -/
def State.sanitizePage (s : State) (ppn : Nat) : Bool :=
  s.ownedChannels.contains (pageChannel ppn) && s.dataBlock (pageChannel ppn) (pageLun ppn) (bits ppn 13 14)

/-- The data blocks of the owned channels erased: pages and units gone, erase counts up, and no furrow left open or full. Blocks that
hold nothing are not counted as erased (log 68). -/
def State.eraseArray (s : State) : State :=
  let blocks := ((Tab.keys s.flash.pages).filter s.sanitizePage).foldl (fun (l : List Nat) p =>
    if l.contains (p / 2 ^ 13) then l else p / 2 ^ 13 :: l) []
  let s := blocks.foldl (fun (s : State) k =>
    { s with flash.erases := Tab.put s.flash.erases k (Tab.get s.flash.erases 0 k + 1) }.setWp k ⟨.opened, 0⟩) s
  let pages := Tab.keep (fun p _ => !s.sanitizePage p) s.flash.pages
  let units := Tab.keep (fun k _ => !s.sanitizePage (k / 64)) s.flash.units
  let marks := Tab.keep (fun p _ => !s.sanitizePage p) s.flash.marks
  let s := { s with flash.pages := pages, flash.units := units, flash.marks := marks }
  [0, 1].foldl (fun (s : State) (i : Fin 2) =>
    if !(s.xset i).live then s
    else
      let s := (s.xset i).furrows.foldl (fun (s : State) f => s.setFurrowState i f.id .fallow) s
      s.onSet i fun x => { x with furrows := [], rows := [], crossing := [], moved := [], gleans := [], refreshes := [] }) s

/-- The operation ends, and its event is raised, once neither this Isle's part nor that of a twin in the pair still runs. -/
def State.sanitizeSettle (s : State) : State :=
  match s.nvme.sanitize with
  | none => s
  | some z =>
    if z.own || (z.twin && s.isTwin && s.mirrorPartner) then s
    else { s with nvme.sanitize := none, nvme.sanitizeDone := if z.block then 2 else 4 }.raiseAll evSanitize

/-- SANITIZE_DONE: this Isle's part ends once the slots are empty, and the twin is told. -/
def State.sanitizeEnd (s : State) : State :=
  match s.nvme.sanitize with
  | none => s
  | some z =>
    if !z.own then s.sanitizeSettle
    else if s.sched.slots.any fun p => p.2.state != .empty then s
    else
      let s := if z.block then s.eraseArray else s
      { s with nvme.sanitize := some { z with own := false } }.sendSan.sanitizeSettle

/-- What the twin says of a Sanitize: one it has begun is begun here, and the end of its part is noted. -/
def State.twinSanitize (s : State) (p : SanPart) : State :=
  match p, s.nvme.sanitize with
  | .done, some z => { s with nvme.sanitize := some { z with twin := false } }.sanitizeSettle
  | .done, none => s
  | p, none => s.sanitizeHere (p == .block)
  | _, some _ => s

end Sys2Proof.Machine
end

