-- ==== Sys2Proof/Machine/HostPci.lean ====
section
/-! DEFINITION. Requests of the host to configuration space and to the BARs: what a read finds and what a write brings about (R42, R43, R97, R101,
R102, R105 to R107, R179, R181). Offsets are those of PCI Express and of NVM Express (PRESUMED, log 73). -/
namespace Sys2Proof.Machine

/-- Whether a function decodes memory requests: it exists, is in D0, and is not in reset. Memory Space Enable is not consulted (log 73). -/
def State.decodes (s : State) (fn : Nat) : Bool :=
  s.functions.contains fn && s.pkg.boot.configReady && bits (s.cfg fn 0x11) 0 2 == 0 && (s.ctrl fn).flr.isNone

/-- A doubleword as a configuration read finds it: the DOE mailbox shows the response that waits (R104). -/
def State.configRead (s : State) (fn dw : Nat) : Nat :=
  if fn = 0 ∧ dw = 0xCB then b2n (!s.nvme.doeOut.isEmpty) * 2 ^ 31
  else if fn = 0 ∧ dw = 0xCD then ofLe (s.nvme.doeOut.take 4)
  else s.configValue fn dw

/-- A BAR of a VF written: its address keeps to the system page size (R101). -/
def vfBarMask (pages : Nat) : Nat :=
  let p := ((List.range 32).find? fun k => bit pages k).getD 0
  2 ^ 32 - 2 ^ (min 31 (12 + p))

/-- A doubleword of configuration space written (R97, R101, R103, R179, R181). -/
def State.configWrite (s : State) (fn dw v : Nat) : State :=
  let row := cfgRow fn dw
  let t := s.setCfg fn dw (row.written (s.cfg fn dw) v)
  match dw with
  | 0x11 => if bits v 0 2 = 1 ∨ bits v 0 2 = 2 then s else t
  | 0x14 => t.signalPending fn
  | 0x1A => if bit v 15 then t.functionLevelReset fn else t
  | 0x58 => if fn = 0 then { t with nvme.vc1 := bit v 31, nvme.tcMap := BitVec.ofNat 8 (bits v 0 8 / 2 * 2) } else t
  | 0x60 =>
    if fn != 0 then t
    else if bit v 0 && !s.nvme.vfEnable then t.vfEnable
    else if !bit v 0 && s.nvme.vfEnable then t.vfDisable
    else t
  | 0x62 => if fn = 0 then s.numVfsWrite (bits v 0 16) else t
  | 0x67 | 0x69 => if fn = 0 then s.setCfg fn dw (row.written (s.cfg fn dw) (v &&& vfBarMask (s.cfg 0 0x66))) else t
  | 0xCA => if fn = 0 && bit v 0 then { t with nvme.doeOut := [] } else t
  | 0xCD => if fn = 0 then { t with nvme.doeOut := t.nvme.doeOut.drop 4 } else t
  | _ => t

/-- How far BAR0 reaches: 256 KiB of the PF, 32 KiB of a VF; BAR2 is 64 KiB (R105). -/
def barSize (fn : Nat) (bar2 : Bool) : Nat := if bar2 then 65536 else if fn = 0 then 262144 else 32768

/-- A doubleword of a BAR as a read finds it. What a doorbell reads as is not given, and is free (log 73). -/
def State.barRead (s : State) (fn : Nat) (bar2 : Bool) (offset : Nat) : Nat × State :=
  let o := offset / 4 * 4
  if !s.decodes fn || decide (barSize fn bar2 ≤ o) then (2 ^ 32 - 1, s)
  else if bar2 then
    (if o < 0x8000 then s.msixDw fn (o / 4) else if o < 0x8100 then s.pbaDw fn ((o - 0x8000) / 4) else 0, s)
  else if o < 0x1000 then ((s.ctrl fn).register o, s)
  else
    let r := s.draw
    (r.1.toNat % 2 ^ 32, r.2)

/-- `CC` written: EN set starts the controller, EN cleared resets it; its other fields change while it is not enabled, and the shutdown
field at any time (R43, R145). -/
def State.ccWrite (s : State) (fn v : Nat) : State :=
  let c := s.ctrl fn
  let keepShutdown (c : Ctrl) : Ctrl := { c with cc := (c.cc &&& (2 ^ 32 - 1 - 0xC000)) ||| (v &&& 0xC000) }
  if c.enabled then
    let s := s.setCtrl fn (keepShutdown c)
    if bit v 0 then s else s.controllerReset fn
  else
    let s := s.setCtrl fn { c with cc := v / 2 * 2 }
    if bit v 0 then s.startController fn v else s

/-- A controller register written. -/
def State.ctrlWrite (s : State) (fn o v : Nat) : State :=
  let c := s.ctrl fn
  match o with
  | 0x14 => s.ccWrite fn v
  | 0x24 => s.setCtrl fn { c with aqaSq := bits v 0 12 + 1, aqaCq := bits v 16 12 + 1 }
  | 0x28 => s.setCtrl fn { c with asq := c.asq / 2 ^ 32 * 2 ^ 32 + v / 4096 * 4096 }
  | 0x2C => s.setCtrl fn { c with asq := v * 2 ^ 32 + c.asq % 2 ^ 32 }
  | 0x30 => s.setCtrl fn { c with acq := c.acq / 2 ^ 32 * 2 ^ 32 + v / 4096 * 4096 }
  | 0x34 => s.setCtrl fn { c with acq := v * 2 ^ 32 + c.acq % 2 ^ 32 }
  | _ => s

/-- A doubleword of a BAR written: a controller register, a doorbell, an entry of the MSI-X table; the PBA is read only. -/
def State.barWrite (s : State) (fn : Nat) (bar2 : Bool) (offset v : Nat) : State :=
  let o := offset / 4 * 4
  if !s.decodes fn || decide (barSize fn bar2 ≤ o) then s
  else if bar2 then (if o < 0x8000 then (s.setMsixDw fn (o / 4) v).signalPending fn else s)
  else if o < 0x1000 then s.ctrlWrite fn o v
  else
    let y := (o - 0x1000) / 8
    if o % 8 = 0 then s.sqDoorbell fn y (v % 65536) else s.cqDoorbell fn y (v % 65536)

/-- CONFIG_REQUEST: before step 3 has ended, and of a function in reset, configuration requests are answered with Request Retry Status; a
function that is not there answers all ones (R42, R181). A request to a BAR travels with this command too (log 73). -/
def State.configRequest (s : State) (fn : Nat) (q : CfgReq) : State :=
  if !s.serving then s
  else
    let retry := !s.pkg.boot.configReady || (s.ctrl fn).flr.isSome
    let there := s.functions.contains fn
    match q with
    | .read reg => if retry then s.emit .configRetry else s.emit (.config (if there then s.configRead fn reg.val else 2 ^ 32 - 1))
    | .write reg v => if retry then s.emit .configRetry else if there then s.configWrite fn reg.val v.toNat else s
    | .barRead b o => let r := s.barRead fn b o.toNat
      r.2.emit (.config r.1)
    | .barWrite b o v => s.barWrite fn b o.toNat v.toNat

end Sys2Proof.Machine
end

