-- ==== Sys2Proof/Machine/DramCtl.lean ====
section
/-! DEFINITION. The DDR5 controllers: address mapping, request order, real-time ports, row tables, tracking, retraining, refresh
and self-refresh (R519 to R533). -/
namespace Sys2Proof.Machine

/-! ### Request order (R524 to R528) -/

/-- The level a request ranks at: a later request to its burst lends it a higher one (R526). -/
def State.levelOf (s : State) (l : List DramReq) (r : DramReq) : Nat :=
  (l.filter fun q => burstOf q.addr == burstOf r.addr && decide (r.id < q.id)).foldl (fun m q => min m (s.ownLevel q)) (s.ownLevel r)

/-- Whether a request may be issued: its bank can take a command, and no earlier request waits at its burst. -/
def State.eligible (s : State) (l : List DramReq) (busy : List Nat) (r : DramReq) : Bool :=
  !busy.contains (s.placeOf r.addr).bankNo && !(l.any fun q => burstOf q.addr == burstOf r.addr && decide (q.id < r.id))

/-- Of some requests, the one of the best level, the earliest on a tie. -/
def bestReq (level : DramReq → Nat) (l : List DramReq) : Option DramReq :=
  l.foldl (fun b r =>
    match b with
    | none => some r
    | some q => if level r < level q || (level r == level q && decide (r.id < q.id)) then some r else b) none

/-- The request a subchannel issues next: at most three of every four bursts go to panic while class 0 is eligible (R528). -/
def State.nextReq (s : State) (c sub : Nat) (busy : List Nat) : Option DramReq :=
  let x := s.dchan c
  let l := x.reqs.filter fun r => (s.placeOf r.addr).sub == sub
  let e := l.filter fun r => s.eligible l busy r
  let level := s.levelOf l
  let urgent := e.filter fun r => r.cls == 0
  if 3 ≤ (x.panicRun[sub]?).getD 0 then
    match bestReq level urgent with
    | some r => some r
    | none => bestReq level e
  else bestReq level e

/-! ### Row disturbance (R530, R531) -/

/-- The index of the entry with the lowest count, the lowest-numbered on a tie. -/
def lowestEntry : List (Nat × Nat) → Nat → Nat × Nat → Nat
  | [], _, best => best.1
  | e :: l, i, best => lowestEntry l (i + 1) (if e.2 < best.2 then (i, e.2) else best)

/-- A table after an activate of a row. -/
def activated (t : List (Nat × Nat)) (row : Nat) : List (Nat × Nat) :=
  if t.any fun e => e.1 == row then updateIf (fun (e : Nat × Nat) => e.1 == row) (fun e => (e.1, e.2 + 1)) t
  else if t.length < 16 then t ++ [(row, 1)]
  else match t with
    | [] => [(row, 1)]
    | e :: l =>
      let i := lowestEntry l 1 (0, e.2)
      t.set i (row, ((t[i]?).getD (0, 0)).2 + 1)

/-- An activate: counted in its bank's table; at the threshold the neighbouring rows are refreshed and the count is set to 0. -/
def State.activate (s : State) (p : DramPlace) : State :=
  let key := p.chan * 128 + p.bankNo
  let t := activated (Tab.get s.dram.rows [] key) p.row
  let hit := t.any fun e => e.1 == p.row && decide (s.val 0xC000 5 ≤ e.2)
  let t := if hit then updateIf (fun (e : Nat × Nat) => e.1 == p.row) (fun e => (e.1, 0)) t else t
  let s := { s with dram.rows := Tab.set s.dram.rows [] key t }
  if hit then s.bump (0xC100 + p.chan) 5 else s

/-! ### Requests (R521, R523, R524) -/

/-- The bytes of a write that lie within its burst. -/
def DramReq.data (r : DramReq) : List Byte := (r.write.getD []).take (64 - r.addr % 64)

/-- A read that finds writes to its burst queued: the burst with their data (R526, log 164). -/
def State.forwarded (s : State) (l : List DramReq) (r : DramReq) : Memory :=
  (l.filter fun q => q.write.isSome && burstOf q.addr == burstOf r.addr).foldl
    (fun m q => (m.write q.addr q.data).markStore q.addr q.data.length q.poison) s.mem

/-- A burst delivered to its requester. -/
def State.dramDeliver (s : State) (id : Nat) (m : Memory) (a : Nat) : State :=
  let b := burstOf a * 64
  s.emit (.dram id (some (m.read b 64)) (m.poisoned b 64))

/-- A request arrives (R521, R524, R526, R533). -/
def State.dramArrive (s : State) (r : DramReq) : State :=
  if !s.dram.trained then s
  else if s.dramSize ≤ r.addr then { s with dram.nextId := s.dram.nextId + 1 }.emit (.dram r.id none false)
  else
    let c := (s.placeOf r.addr).chan
    let x := s.dchan c
    let s := s.setDchan c { x with selfRefresh := false, lastReq := s.pkg.timebase }
    let x := s.dchan c
    if r.write.isNone && x.reqs.any (fun q => q.write.isSome && burstOf q.addr == burstOf r.addr) then
      { s with dram.nextId := s.dram.nextId + 1 }.dramDeliver r.id (s.forwarded x.reqs r) r.addr
    else if !s.queueRoom r then s
    else
      let s := if r.write.isSome then { s with dram := s.dram.stored r.addr r.data.length } else s
      let x := s.dchan c
      { s with dram.nextId := s.dram.nextId + 1 }.setDchan c { x with reqs := x.reqs ++ [r] }

/-- A write-back performed: a read, corrected, and a write of the burst as it stands (R360). -/
def State.writeBackEnd (s : State) (r : DramReq) (c : Nat) (e : Ecc) : State :=
  let b := burstOf r.addr * 64
  let q : Requester := ⟨r.reqType, r.reqNum⟩
  let s := if e == .corrected then s.corrected 0 c q b else s
  let s := if e == .uncorrectable && !s.mem.poisoned b 64 then s.uncorrectable 0 c q b else s
  s.bump (0xC100 + c) 2

/-- A write performed: a partial one is merged, and a merge into a burst that reads poisoned or uncorrectable leaves it poisoned
(R364, R523). -/
def State.dramWrite (s : State) (r : DramReq) (c : Nat) (e : Ecc) : State :=
  let b := burstOf r.addr * 64
  let part := decide (r.data.length < 64)
  let q : Requester := ⟨r.reqType, r.reqNum⟩
  let s := if part && e == .corrected then s.corrected 0 c q b else s
  let s := if part && e == .uncorrectable && !s.mem.poisoned b 64 then s.uncorrectable 0 c q b else s
  let s := if part then s.bump (0xC100 + c) 9 else s
  let s := { s with mem := s.mem.write r.addr r.data }
  let s := { s with mem := if r.poison then s.mem.mark b true else if part then s.mem else s.mem.mark b false }
  s.bump (0xC100 + c) 2

/-- A copy of a journal page not yet programmed that cannot be corrected: the other copy is read in its place; with both in error nothing
comes (R370). -/
def State.journalCopy (s : State) (r : DramReq) (c other : Nat) : State :=
  let b := burstOf r.addr * 64
  let s := s.controlError 0 c ⟨r.reqType, r.reqNum⟩ b
  match r.bad with
  | some _ => s.emit (.dram r.id none false)
  | none => s.dramQueue { r with addr := other, bad := some r.addr }

/-- A read performed: payload that cannot be corrected comes with poison, control traffic ends in a bus error (R362 to R369); a journal
record's second copy replaces the first (R370). -/
def State.dramRead (s : State) (r : DramReq) (c : Nat) (e : Ecc) : State :=
  let b := burstOf r.addr * 64
  let q : Requester := ⟨r.reqType, r.reqNum⟩
  let s := s.bump (0xC100 + c) 1
  let rewrite (s : State) : State := match r.bad with
    | some a => s.dramQueue ⟨s.dram.nextId, s.pkg.timebase, burstOf a * 64, some (s.mem.read b 64), false, r.cls, none, r.use_, r.reqType,
        r.reqNum, false, false, none⟩
    | none => s
  match e, r.use_ with
  | .clean, _ => rewrite (s.dramDeliver r.id s.mem r.addr)
  | .corrected, _ => rewrite ((s.correctedIn 0 c q b r.cls).dramDeliver r.id s.mem r.addr)
  | .uncorrectable, .journal other => s.journalCopy r c other.toNat
  | .uncorrectable, _ =>
    if r.use_ != .payload then (s.controlError 0 c q b).emit (.dram r.id none false)
    else
      let s := if s.mem.poisoned b 64 then s else s.uncorrectable 0 c q b
      s.dramDeliver r.id s.mem r.addr

/-- The writes that a channel holds take the entries that are free (R524, log 161). -/
def State.takeHeld (s : State) (c : Nat) : State :=
  (s.dchan c).held.foldl (fun s r =>
    if s.queueRoom r then
      let x := s.dchan c
      s.setDchan c { x with reqs := x.reqs ++ [r], held := x.held.filter fun (q : DramReq) => q.id != r.id }
    else s) s

/-- A subchannel issues its next request. -/
def State.dramIssue (s : State) (c sub : Nat) (busy : List Nat) (act : Bool) (e : Ecc) : State :=
  match s.nextReq c sub busy with
  | none => s
  | some r =>
    let x := s.dchan c
    let run := if s.ownLevel r = 1 then (x.panicRun[sub]?).getD 0 + 1 else 0
    let s := s.setDchan c { x with
      reqs := x.reqs.filter fun (q : DramReq) => q.id != r.id
      panicRun := x.panicRun.setIfInBounds sub run
      lastReq := s.pkg.timebase }
    let s := if act then s.activate (s.placeOf r.addr) else s
    let took := s.since r.at_
    let s := if r.cls = 0 ∧ r.write.isNone ∧ s.val (0xC100 + c) 8 < took then s.setVal (0xC100 + c) 8 took else s
    let s := if r.back then s.writeBackEnd r c e else if r.write.isSome then s.dramWrite r c e else s.dramRead r c e
    s.takeHeld c

/-- DRAM_REQUEST. -/
def State.dramRequest (s : State) : DramOp → State
  | .arrive a w p cls port u t n =>
    s.dramArrive ⟨s.dram.nextId, s.pkg.timebase, a.toNat, w, p, cls.val, port.map fun k => k.val, u, t.val, n.toNat, false, false, none⟩
  | .issue c sub busy act e => s.dramIssue c.val sub.val (busy.map fun b => b.val) act e

/-- REQUEST_AGED (R525). -/
def State.requestAged (s : State) (c id : Nat) : State :=
  let x := s.dchan c
  match x.reqs.find? fun r => r.id == id with
  | none => s
  | some r =>
    if r.cls = 0 || r.aged || decide (s.since r.at_ < usTicks (s.val 0xC000 2)) then s
    else
      let l := updateIf (fun (q : DramReq) => q.id == id) (fun q => { q with aged := true }) x.reqs
      (s.setDchan c { x with reqs := l }).bump (0xC100 + c) 4

/-! ### Panic (R527) -/

/-- Whether a FIFO level puts a port into panic: the ingress port fills, the program streams run dry. -/
def State.panicEnters (s : State) (port level : Nat) : Bool :=
  if port = 4 then decide (s.val 0xC000 4 < level) else decide (level < s.val 0xC000 3)

/-- Whether a FIFO level ends a port's panic. -/
def State.panicLeaves (s : State) (port level : Nat) : Bool :=
  if port = 4 then decide (level ≤ s.val 0xC000 3) else decide (s.val 0xC000 4 ≤ level)

/-- PANIC_ENTER. -/
def State.panicEnter (s : State) (port level : Nat) : State :=
  if ((s.dram.panic[port]?).getD none).isSome || !s.panicEnters port level then s
  else { s with dram.panic := s.dram.panic.setIfInBounds port (some s.pkg.timebase) }

/-- PANIC_LEAVE: the time is counted on every channel, time shared with another port's panic once (log 54). -/
def State.panicLeave (s : State) (port level : Nat) : State :=
  match (s.dram.panic[port]?).getD none with
  | none => s
  | some t =>
    if !s.panicLeaves port level then s
    else
      let s := { s with dram.panic := s.dram.panic.setIfInBounds port none }
      let others := s.dram.panic.toList.filterMap id
      let upTo := others.foldl (fun m o => min m (s.since t - min (s.since t) (s.since o))) (s.since t)
      (List.range 8).foldl (fun s c => s.fbump 0 (0xC100 + c) 3 upTo) s

/-! ### Windows, tracking, retraining, refresh (R529, R530, R533) -/

/-- ROW_TABLE_WINDOW_END: every table is emptied; windows follow each other without a gap (R530). -/
def State.rowWindowEnd (s : State) : State :=
  let past := s.since s.dram.windowAt
  if past < usTicks 32000 then s
  else { s with dram.rows := [], dram.windowAt := s.dram.windowAt + BitVec.ofNat 64 (past - past % usTicks 32000) }

/-- DQS_TRACKING of a channel. -/
def State.dqsTracking (s : State) (c : Nat) : State :=
  let x := s.dchan c
  if x.selfRefresh || decide (s.since x.tracked < usTicks (1000 * s.val 0xC000 7)) then s
  else s.setDchan c { x with tracked := s.pkg.timebase }

/-- Whether a class-0 request waits on a channel, for a bank or for any. -/
def State.urgentWaits (s : State) (c : Nat) (bank : Option Nat) : Bool :=
  (s.dchan c).reqs.any fun r => r.cls == 0 && (match bank with
    | some b => (s.placeOf r.addr).bankNo == b
    | none => true)

/-- DRAM_RETRAIN: one step of a channel's retraining, the first once the hub sensor has moved far enough, the last ending it. -/
def State.dramRetrain (s : State) (c : Nat) (last : Bool) : State :=
  let x := s.dchan c
  let moved := (s.hubTemp.toInt - x.trainedTemp.toInt).natAbs
  if x.selfRefresh || s.urgentWaits c none || (x.retrainLeft = 0 && decide (moved < 10 * s.val 0xC000 8)) then s
  else if last then (s.setDchan c { x with retrainLeft := 0, trainedTemp := s.hubTemp }).bump (0xC100 + c) 6
  else s.setDchan c { x with retrainLeft := 1 }

/-- SELF_REFRESH_ENTRY. -/
def State.selfRefresh (s : State) (c : Nat) : State :=
  let x := s.dchan c
  if x.selfRefresh || !x.reqs.isEmpty || !x.held.isEmpty || decide (s.since x.lastReq < usTicks (s.val 0xC000 6)) then s
  else (s.setDchan c { x with selfRefresh := true }).bump (0xC100 + c) 7

/-- DRAM_REFRESH of a bank: postponed while a class-0 request waits for it, within the limit (R529, log 53). -/
def State.dramRefresh (s : State) (c bank : Nat) : State :=
  let x := s.dchan c
  let n := Tab.get x.postponed 0 bank
  if s.urgentWaits c (some bank) && decide (n < Config.refreshPostpone) then
    s.setDchan c { x with postponed := Tab.set x.postponed 0 bank (n + 1) }
  else s.setDchan c { x with postponed := Tab.set x.postponed 0 bank 0 }

end Sys2Proof.Machine
end

