-- ==== Sys2Proof/Machine/Assign.lean ====
section
/-! DEFINITION. Which function owns which queues of the region engines (R178, R451, R468, R469). -/
namespace Sys2Proof.Machine

/-- The record that holds an engine kind's firmware count; the share of a function stands 16 indexes above. -/
def EngKind.record : EngKind → Nat
  | .comp => 0xB000
  | .cipher => 0xB100
  | .digest => 0xB200
  | .pat => 0xB400

/-- The kinds of engines. -/
def engKinds : List EngKind := [.comp, .cipher, .digest, .pat]

/-- The queues of an engine that belong to firmware: the count in force. -/
def State.fwQueues (s : State) (k : EngKind) : Nat := s.force k.record 1

/-- The queues of an engine that a function owns, in rising order. -/
def State.ownQueues (s : State) (ek fn : Nat) : List Nat := (List.range 64).filter fun n => (s.equeue (64 * ek + n)).ownedBy fn

/-- Whether a queue is closed with empty rings: nothing open, nothing fetched, nothing waiting. -/
def EQueue.atRest (q : EQueue) : Bool :=
  q.ctx.state == .closed && q.message.isNone && q.cursor.isNone && q.scan.isNone && q.queue.isEmpty && q.descHead == q.descTail

/-- Whether queues b to b + w − 1 of an engine could be a function's run: past the firmware's, free or its own, and over the run it has. -/
def State.runFits (s : State) (k : EngKind) (ek fn w b : Nat) : Bool :=
  decide (s.fwQueues k ≤ b) && decide (b + w ≤ 64) &&
    ((List.range w).all fun i => let q := s.equeue (64 * ek + b + i); !q.assigned || q.ownedBy fn) &&
    (s.ownQueues ek fn).all fun n => decide (b ≤ n) && decide (n < b + w)

/-- The runs of w queues that a function could take on an engine. -/
def State.runsFor (s : State) (k : EngKind) (ek fn w : Nat) : List Nat := (List.range 64).filter fun b => s.runFits k ek fn w b

/-- Whether an engine can give a function w queues. -/
def State.runExists (s : State) (k : EngKind) (ek fn w : Nat) : Bool :=
  decide (w ≤ (s.ownQueues ek fn).length) || !(s.runsFor k ek fn w).isEmpty

/-- An owned queue that its function's share no longer covers is released once it is at rest, highest number first. -/
def State.trimRun (s : State) (ek fn w : Nat) : State :=
  (s.ownQueues ek fn).reverse.foldl (fun (s : State) n =>
    let l := s.ownQueues ek fn
    if w < l.length && l.getLast? == some n && (s.equeue (64 * ek + n)).atRest then
      s.onQueue (64 * ek + n) fun q => { q with assigned := false, setup.tenant := false, setup.fn := 0 }
    else s) s

/-- A function's run on one engine brought to its share: grown over a contiguous run (log 72), or released from its top. -/
def State.assignRun (s : State) (k : EngKind) (ek fn : Nat) : State :=
  let w := s.fval fn (k.record + 0x10) 1
  if w ≤ (s.ownQueues ek fn).length then s.trimRun ek fn w
  else
    let l := s.runsFor k ek fn w
    match l[Config.runPlace ek fn w % max 1 l.length]? with
    | none => s
    | some b => (List.range w).foldl (fun (s : State) i =>
        s.onQueue (64 * ek + b + i) fun q => { q with assigned := true, setup.tenant := true, setup.fn := fn }) s

/-- The functions whose share of a kind of engine is above 0, or that own a queue of one of a region. -/
def State.sharers (s : State) (k : EngKind) (ek : Nat) : List Nat :=
  (List.range 256).filter fun fn => decide (0 < s.fval fn (k.record + 0x10) 1) || !(s.ownQueues ek fn).isEmpty

/-- The engines of a region divided: the firmware's queues, then every function's run. -/
def State.assignRegion (s : State) (r : Nat) : State :=
  engKinds.foldl (fun (s : State) k =>
    let ek := 4 * r + k.num
    let s := (List.range (s.fwQueues k)).foldl (fun (s : State) n =>
      s.onQueue (64 * ek + n) fun q => { q with assigned := true, setup.tenant := false, setup.fn := 0 }) s
    (s.sharers k ek).foldl (fun (s : State) fn => s.assignRun k ek fn) s) s

/-- A function's share of one kind brought into effect in every online region. -/
def State.assignShare (s : State) (k : EngKind) (fn : Nat) : State :=
  (List.range 4).foldl (fun (s : State) r => if s.regionOnline r then s.assignRun k (4 * r + k.num) fn else s) s

/-- Whether every online region can give a function a share. -/
def State.shareFits (s : State) (k : EngKind) (fn w : Nat) : Bool :=
  (List.range 4).all fun r => !s.regionOnline r || s.runExists k (4 * r + k.num) fn w

/-- Queues that wait to be released looked at again, on the engine of a queue. -/
def State.trimEngine (s : State) (ek : Nat) : State :=
  let k := engKind ek
  let fns := (s.eng.queues.filter fun p => p.1 / 64 == ek && p.2.assigned && p.2.setup.tenant).foldl (fun (l : List Nat) p =>
    if l.contains p.2.setup.fn then l else l ++ [p.2.setup.fn]) []
  fns.foldl (fun (s : State) fn => s.trimRun ek fn (s.fval fn (k.record + 0x10) 1)) s

/-- The first queue of a function's run in a region, 0xFF for none. -/
def State.runBase (s : State) (k : EngKind) (r fn : Nat) : Nat := ((s.ownQueues (4 * r + k.num) fn).head?).getD 0xFF

end Sys2Proof.Machine
end

