-- ==== Sys2Proof/Machine/Flush.lean ====
section
/-! DEFINITION. Package reset and the flush: what stops, what is sown, the power-fail record, what is cleared, and how start-up begins (R38,
R46, R47, R295 to R301, R311 to R314, 01_architecture.md and 09_power_loss.md). -/
namespace Sys2Proof.Machine

/-! ### What a package reset clears (R46) -/

/-- Operations in the dies and in the code store are abandoned: what they worked on is undefined (R215, R245). -/
def State.dropStores (s : State) : State :=
  let s := (List.range 32).foldl (fun (s : State) c => s.dropPort c) s
  let live := s.cs.banks.toList.flatMap fun k => k.running.toList ++ k.suspended.toList
  { s with cs := live.foldl CodeStore.spoil s.cs }

/-- A namespace after a reset: a reservation that does not persist is gone. -/
def Namespace.afterReset (n : Namespace) : Namespace :=
  if n.ptpl then n else { n with registrants := [], holder := none, resvType := 0 }

/-- The fabric cleared: what is left is what the flash array, the code store, the persistent store, the pins and the timebase hold. -/
def State.packageClear (old : State) : State :=
  let s := old.dropStores
  let p := old.pkg
  let c := s.cs
  { State.reset with
    pkg := { Pkg.init with
      phase := p.phase, perst := p.perst, perstCycled := p.perstCycled, pwrFail := p.pwrFail, refclk := p.refclk
      straps := p.straps, nextStraps := p.nextStraps, timebase := p.timebase, ticking := p.ticking
      resetKind := p.resetKind, nextReset := p.nextReset, twinFailO := p.twinFailO, thermTrip := p.thermTrip, dieTemp := p.dieTemp }
    dict := { Dict.init with
      store := old.dict.store, storeLog := old.dict.storeLog, storeOpen := old.dict.storeOpen, storeErases := old.dict.storeErases,
      owesAdopt := old.dict.owesAdopt }
    flash := s.flash.fromCompact c.compact
    media := { Media.init with luns := s.media.luns }
    cs := { CodeStore.init old.cs.big with
      array := c.array, undefinedLines := c.undefinedLines, badLines := c.badLines, markerOff := c.markerOff, nextPf := c.nextPf
      compact := c.compact, compactErases := c.compactErases }
    sets := old.sets.map fun (x : XSet) => { XSet.init with
      openings := x.openings, flashLog := x.flashLog, checkpoint := x.checkpoint, headland0 := x.headland0 }
    nvme := { Nvme.init with
      saved := old.nvme.saved, namespaces := old.nvme.namespaces.map Namespace.afterReset, selfTestLog := old.nvme.selfTestLog
      pairKeyGen := old.nvme.pairKeyGen, tableKeyGen := old.nvme.tableKeyGen, nextKeyGen := old.nvme.nextKeyGen
      sanitize := old.nvme.sanitize, sanitizeDone := old.nvme.sanitizeDone }
    hold := { Hold.init with foundRun := old.hold.foundRun }
    twin := { Twin.init with aliveI := old.twin.aliveI, failI := old.twin.failI }
    vault := { Vault.init with table := old.vault.table }
    out := old.out, free := s.free, pending := old.pending }

/-- Start-up step 1 begins: the array of the code store is asked, keys and the device epoch are drawn, core 128 stands at the boot block. A
power failure holds the package in reset instead (R41, R83, R313, R579). -/
def State.startUp (s : State) (csAnswers : Bool) : State :=
  if s.pkg.pwrFail then { s with pkg.phase := .heldPowerFail }
  else
    let s := { s with
      pkg.phase := .running, pkg.boot := { Boot.init with startAt := s.pkg.timebase }, pkg.resetKind := s.pkg.nextReset
      pkg.straps := s.pkg.nextStraps, pkg.thermTrip := false, pkg.perstCycled := false
      pkg.links := Vector.replicate 4 ⟨.training, 0, 0⟩, cs.faulted := !csAnswers }.resetVault
    let r := s.draw
    { r.2 with dict.epoch := r.1 }

/-! ### Entry (R296) -/

/-- Commands not past their commit points are discarded with no completion entry; forwarded ones with them, and the mirroring of what
stays ends. -/
def State.stopUnpast (s : State) : State :=
  let d := s.hold.dirty.map fun (q : DirtyUnit) => { q with slot := none }
  let s := { s with hold.dirty := d, twin.slotsOut := [], nvme.fwdOut := [] }
  let s := (s.nvme.cmds.filter fun c => !c.past).foldl (fun (s : State) c => s.stopCmd c.order none) s
  s.stopMirroring

/-- Tasks stop at their next instruction boundary, tenant engine jobs end, and Execute Programs are forgotten. The tasks of firmware on its
reserved units go on. -/
def State.stopAllTasks (s : State) : State :=
  let tags := s.sched.execs.map fun (e : Exec) => e.tag
  let cmds := s.nvme.cmds.filter fun (c : HostCmd) => !tags.contains c.order
  let ready := s.sched.ready.map fun (l : List Task) => l.filter fun t => t.target
  let stalled := s.sched.stalled.filter fun (x : Stalled) => x.task.target
  let cores := Tab.mapVals (fun _ (c : Core) =>
    { c with
      stop := c.stop || c.task.any (fun t => !t.target)
      prefetch := if c.prefetch.any (fun p => !p.1.target) then none else c.prefetch }) s.cores
  let s := { s with nvme.cmds := cmds, sched.execs := [], sched.ready := ready, sched.stalled := stalled, cores := cores }
  let s := (s.eng.queues.filter fun p => p.2.assigned && p.2.setup.tenant).foldl (fun (s : State) p =>
    let s := s.stopQueue p.1
    (s.resumePipe (p.1 / 64) 0).resumePipe (p.1 / 64) 1) s
  (List.range 4).foldl (fun (s : State) r => s.stallLevel r) s

/-- Whether an operation of the firmware is background work that a flush stops: a copy's read, a patrol read, an erase. -/
def stopsInFlush (o : Origin) : Bool :=
  match o with
  | .glean _ _ | .patrol | .furrowErase _ _ => true
  | _ => false

/-- Class-4 work stops: gleaning, refresh, wear swaps, patrol reads, self-tests, a checkpoint in progress, a hold-up measurement. -/
def State.stopBackground (s : State) : State :=
  let s := { s with media.backlog := s.media.backlog.filter fun e => !stopsInFlush e.2.2 }
  let sets := s.sets.map fun (x : XSet) => { x with gleans := [], refreshes := [], running := none, swapRunning := none }
  { s with sets := sets, nvme.selfTest := none, hold.series := none, hold.huTest := false }

/-- A power failure in write-through mode sows nothing: a piece with a unit that waits is abandoned whole, and so is its command (R139, R311). -/
def State.abandonUnsown (s : State) : State :=
  let waits (d : DirtyUnit) : Bool := !d.sowing && !d.confirmed && !d.superseded
  let gone (d : DirtyUnit) : Bool := s.hold.dirty.any fun q => waits q && q.piece == d.piece && q.set == d.set
  let orders := (s.hold.dirty.filter gone).map fun (d : DirtyUnit) => d.cmd
  let dirty := s.hold.dirty.filter fun (d : DirtyUnit) => !gone d
  let cmds := s.nvme.cmds.filter fun (c : HostCmd) => !orders.contains c.order
  { s with hold.dirty := dirty, nvme.cmds := cmds }

/-- The flush is entered, with the `HU_SENSE` code at that moment. What stops changes nothing of the package's own registers. -/
def State.enterFlush (s : State) (e : FlushEntry) (sense : Nat) : State :=
  let through := s.writeThrough
  let d := (s.hold.dirty.filter fun q => !q.zero).length
  let f : Flush := ⟨e, s.pkg.timebase, 16384 * d, sense, s.mirroring, through, false, 0, 0, 0⟩
  let p := { s.pkg with phase := .flushing e }
  let s := { s with pkg := p, hold.flush := some f }
  let s := (s.stopAllTasks.stopUnpast.stopBackground).csSuspend 1
  let s := (List.range 32).foldl (fun (s : State) c => s.setPort c { s.port c with inputYield := false }) s
  let s := if e == .powerFail && through then s.abandonUnsown else s
  { s with pkg := p, hold.flush := some f }

/-- PWR_FAIL: once a run has begun the flush is entered; before that start-up stops and no record is written (R295, R296, R313). -/
def State.powerFail (s : State) (sense : Nat) : State :=
  let s := { s with pkg.pwrFail := true }
  match s.pkg.phase with
  | .running =>
    let s := { s with pkg.nextReset := .powerFail }
    if s.pkg.boot.rdySeen then (s.enterFlush .powerFail sense).fire (evSrc 42 5)
    else { s with pkg.phase := .heldPowerFail }.packageClear
  | .flushing _ => s.fire (evSrc 42 5)
  | _ => s

/-- A package reset of a kind begins with its flush; one that arrives during a flush joins it (R47, R301). -/
def State.packageReset (s : State) (kind : ResetKind) (sense : Nat) : State :=
  match s.pkg.phase with
  | .running => { s with pkg.nextReset := kind }.enterFlush .packageReset sense
  | _ => s

/-- PERST_ASSERT: a package reset, or the end of a package fault's hold (R19, R47). -/
def State.perstAssert (s : State) (sense : Nat) : State :=
  if s.pkg.perst || s.pkg.phase == .off then s
  else
    let s := { s with pkg.perst := true }
    match s.pkg.phase with
    | .heldFault => { s with pkg.phase := .inReset, pkg.twinFailO := false }
    | _ => s.packageReset .perst sense

/-- PERST_DEASSERT: the straps are sampled; start-up begins unless something else holds the package (R41, R568). -/
def State.perstDeassert (s : State) (isle twin bootBank csAnswers : Bool) : State :=
  if !s.pkg.perst || s.pkg.phase == .off then s
  else
    let held := s.pkg.phase == .heldThermal
    let s := { s with
      pkg.perst := false, pkg.nextStraps := ⟨isle, twin, bootBank⟩, pkg.ticking := true, pkg.refclk := true
      pkg.perstCycled := s.pkg.perstCycled || held }
    if s.pkg.phase == .inReset then s.startUp csAnswers else s

/-- HOT_RESET: of a link that is up. -/
def State.hotReset (s : State) (sense : Nat) : State := if s.pkg.perst then s else s.packageReset .hotReset sense

/-- THERMAL_TRIP: a sensor reads 125 °C or more (R38). -/
def State.thermalTrip (s : State) (sense : Nat) : State :=
  let hot := s.pkg.dieTemp.toList.any fun t => decide (1250 ≤ t.toInt)
  if !hot || s.pkg.thermTrip || !s.powered then s
  else
    let s := { s with pkg.thermTrip := true, pkg.perstCycled := false }
    let s := s.setKept 0x1010 6 (s.val 0x1010 6 + 1)
    match s.pkg.phase with
    | .running => { s with pkg.nextReset := .thermalTrip }.enterFlush .thermal sense
    | _ => { s with pkg.nextReset := .thermalTrip }

/-! ### The flush (R299, R314) -/

/-- The sets this Isle sows. -/
def State.liveSets (s : State) : List (Fin 2) := ([0, 1] : List (Fin 2)).filter fun i => (s.xset i).live

/-- Journal pages programmed until a set's journal holds no whole group. -/
def State.journalOut (i : Fin 2) : Nat → State → State
  | 0, s => s
  | n + 1, s => State.journalOut i n (s.journalPage i)

/-- The furrows of a set that are sowing. -/
def XSet.open_ (x : XSet) : List Nat := (x.furrows.filter fun f => f.state == .sowing).map fun f => f.id

/-- A takeover that was running when the flush began has its channels trained and its replay still to start: the flush goes on with it before
it closes the sets (R298, R337). -/
def State.replayWaits (s : State) : Bool :=
  s.twin.takeover.any fun t => !(s.xset (setOfGroup t.group)).live && t.channels.all fun c => (s.port c).owned && (s.port c).trained

/-- FLUSH_SOWN: nothing is left to sow; the open furrows are closed and the last journal pages programmed (R299 steps 3 and 4, R337). -/
def State.flushSown (s : State) : State :=
  match s.hold.flush with
  | none => s
  | some f =>
    let busy := s.liveSets.any fun i => !(s.xset i).rows.isEmpty
    let unsown := s.hold.dirty.any fun d => !d.confirmed && !d.superseded
    if f.dataDone || busy || unsown || s.replayWaits then s
    else
      let closed := sumOf (fun i => (s.xset i).open_.length) s.liveSets
      let s := s.liveSets.foldl (fun (s : State) i =>
        let s := (s.xset i).open_.foldl (fun (s : State) id => s.closeFurrow i id) s
        State.journalOut i ((s.xset i).dram.length + 1) s) s
      let own := setOfGroup s.ownGroup
      { s with hold.flush := some { f with dataDone := true, closed := closed, durable := s.durable own, endsAt := s.pkg.timebase } }

/-- The code of a flush entry in the record. -/
def FlushEntry.code : FlushEntry → Nat
  | .powerFail => 1
  | .packageReset => 2
  | .thermal => 3

/-- The power-fail record of the flush in hand, with the `HU_SENSE` code at step 5 (R314). -/
def State.pfRecord (s : State) (f : Flush) (sense : Nat) : List Byte :=
  let own := setOfGroup s.ownGroup
  let flags := b2n f.mirroring + 2 * b2n f.through + 4 * b2n (s.flag 0x7010 8)
  let b := leBytes 4 0x50465231 ++
    [BitVec.ofNat 8 f.entry.code, BitVec.ofNat 8 (b2n s.pkg.straps.isle), BitVec.ofNat 8 flags, 0] ++
    leBytes 8 s.hold.runNumber ++ leBytes 8 f.durable ++
    leBytes 8 (((s.xset own).checkpoint.map fun (k : Checkpoint) => k.number).getD 0) ++ leBytes 8 f.t0.toNat ++
    leBytes 4 ((f.endsAt - f.t0).toNat / 100) ++ leBytes 8 f.dirty0 ++ leBytes 4 (s.hold.ceiling / 2 ^ 20) ++ leBytes 4 f.closed ++
    leBytes 2 f.sense0 ++ leBytes 2 sense
  let b := padTo 252 b
  b ++ leBytes 4 (crc32c b)

/-- What follows a flush, by the way it was entered (R312). A trip that joined it holds the package as well (R38, R301, log 92). -/
def State.afterFlush (s : State) (e : FlushEntry) (csAnswers : Bool) : State :=
  if s.pkg.thermTrip then { s with pkg.phase := .heldThermal }
  else match e with
  | .thermal => { s with pkg.phase := .heldThermal }
  | .powerFail =>
    if s.pkg.pwrFail then { s with pkg.phase := .heldPowerFail }
    else if s.pkg.perst then { s with pkg.phase := .inReset }
    else s.startUp csAnswers
  | .packageReset => if s.pkg.perst then { s with pkg.phase := .inReset } else s.startUp csAnswers

/-- FLUSH_END: the record is programmed, the twin told, every channel released and the fabric cleared (R298, R299 steps 5 and 6, R312). A package
reset before `CSTS.RDY` was first set writes no record, as R313 has it of a power failure (DESIGN CHOICE, log 91). -/
def State.flushEnd (s : State) (sense : Nat) (csAnswers : Bool) : State :=
  match s.hold.flush with
  | none => s
  | some f =>
    if !f.dataDone || (s.cs.bank 1).running.isSome then s
    else
      let s := if s.cs.faulted || !s.pkg.boot.rdySeen then s else { s with cs := s.cs.pfWrite (s.pfRecord f sense) }
      let s := if s.twin.session then s.strait 0 0x04 [] else s
      let s := s.setKept 0x7030 1 (s.val 0x7030 1 + 1)
      s.packageClear.afterFlush f.entry csAnswers

/-- Whether the flush in hand has come to its step 5 (R299). -/
def State.flushReady (s : State) : Bool := s.hold.flush.any (fun f => f.dataDone) && (s.cs.bank 1).running.isNone

/-- POWER_RETURN: `PWR_FAIL_N` has been high for 10 ms (R312). -/
def State.powerReturn (s : State) (csAnswers : Bool) : State :=
  let s := { s with pkg.pwrFail := false }
  match s.pkg.phase with
  | .heldPowerFail => if s.pkg.perst then { s with pkg.phase := .inReset } else s.startUp csAnswers
  | _ => s

/-- THERMAL_HOLD_RELEASE: every sensor reads below 105 °C and PERST# has been asserted and released (R38). -/
def State.thermalRelease (s : State) (csAnswers : Bool) : State :=
  let cool := s.pkg.dieTemp.toList.all fun t => decide (t.toInt < 1050)
  if s.pkg.phase == .heldThermal && s.pkg.perstCycled && !s.pkg.perst && cool then s.startUp csAnswers else s

end Sys2Proof.Machine
end

