-- ==== Sys2Proof/Machine/Package.lean ====
section
/-! DEFINITION. The package: power, start-up step by step, the timebase, sensors and tempo, package faults (R7 to R9, R19, R20, R33, R34, R38,
R41 to R49, R98, R246, R248, R284, R315, R316, R520, R532, R568, R576). -/
namespace Sys2Proof.Machine

/-! ### Power (R46) -/

/-- POWER_ON: the rails come up with PERST# asserted. -/
def State.powerOn (s : State) : State :=
  if s.pkg.phase != .off then s
  else
    let t := s.packageClear
    { t with
      pkg := { Pkg.init with dieTemp := s.pkg.dieTemp }
      flash.lunFeatures := [] }

/-- POWER_COLLAPSE: everything volatile is lost where it stands; the dies and the array stop with it (R46, R215, R245). -/
def State.powerCollapse (s : State) : State :=
  if s.pkg.phase == .off then s
  else
    let t := s.packageClear
    let luns := Tab.mapVals (fun _ (u : Lun) => { u with unobserved := false }) t.media.luns
    { t with pkg := { Pkg.init with phase := .off, dieTemp := s.pkg.dieTemp }, media.luns := Tab.keep (fun _ (u : Lun) => u != Lun.init) luns }

/-! ### Start-up (R41) -/

/-- The strap record's byte (R576). -/
def Straps.record (x : Straps) : Nat := b2n x.isle + 2 * b2n x.twin

/-- A device namespace: compute 1021 and 1022, SLM 1023 and 1024, of group 1 and 2 (R109). It is attached to no controller at first (log 139). -/
def deviceNamespace (nsid : Nat) : Namespace where
  nsid := nsid
  lbas := 0
  lbaf := 0
  dps := 0
  group := 2 - nsid % 2
  attached := []
  keyGen := 0
  keyType := 0
  registrants := []
  holder := none
  resvType := 0
  ptpl := false
  resvGen := 0
  nguid := (Config.nguid Config.factorySerial nsid).toNat
  guard64 := false
  extended := true

/-- The namespaces with the device namespaces among them: of both groups in twin topology, of group 1 alone in single topology (R109). -/
def State.withDevices (s : State) : List Namespace :=
  let l := (if s.isTwin then [1021, 1022, 1023, 1024] else [1021, 1023]).filter fun n => (s.namespace? n).isNone
  let of (n : Nat) : List Namespace := s.nvme.namespaces.filter fun m => m.nsid == n
  s.nvme.namespaces.filter (fun m => decide (m.nsid ≤ 1020)) ++
    [1021, 1022, 1023, 1024].flatMap fun n => if l.contains n then [deviceNamespace n] else of n

/-- PERSISTENT_ENTRIES_LOADED: records without a marker are gone, the others are the values of their entries (R53); the straps are recorded at the first
initialization and else compared; configuration space is filled (step 3, R568). -/
def State.persistentLoaded (s : State) : State :=
  if !s.serving || s.pkg.boot.configReady || s.cs.faulted then s
  else
    let s := { s with dict.vals := Tab.putAll s.dict.vals s.dict.store, dict.force := s.dict.store, dict.unmarked := [], pkg.boot.configReady := true }
    let fns := (Tab.keys s.nvme.saved).foldl (fun (l : List Nat) k => if l.contains (k / 2 ^ 24) then l else l ++ [k / 2 ^ 24]) []
    let s := fns.foldl (fun (s : State) n => (s.setCtrl n { s.ctrl n with features := s.savedFeatures n }).restoreSaved n) s
    let s := { s with nvme.namespaces := s.withDevices }.followB
    let s := if s.flag 0x6030 1 then s.warn 3 else s
    let s := s.markWriteThrough
    if s.flash.initialized then s
    else
      let s := s.setKept 0x1000 5 s.pkg.straps.record
      { s with dict.force := Tab.put s.dict.force (ekey 0 0x1000 5) s.pkg.straps.record }

/-- Whether the straps disagree with the record (R568). -/
def State.strapMismatch (s : State) : Bool := s.pkg.boot.configReady && s.force 0x1000 5 != s.pkg.straps.record

/-- `TWIN_ALIVE_O` (R325, R520, R568). -/
def State.aliveO (s : State) : Bool :=
  s.pkg.boot.configReady && !s.pkg.boot.stopped && !s.strapMismatch && match s.pkg.phase with
    | .running => true
    | .flushing e => e != .packageReset
    | _ => false

/-- DIE_LINKS_TRAINED: training has ended; a module that did not train stays down (step 4). -/
def State.linksTrained (s : State) (up : Nat) : State :=
  if !s.serving || s.pkg.boot.linksUp then s
  else
    let now := s.pkg.timebase
    let links : Vector DieLink 4 := Vector.ofFn fun (m : Fin 4) => if bit up m.val then ⟨.up, now, now⟩ else ⟨.down, now, now⟩
    { s with pkg.links := links, pkg.boot.linksUp := true }

/-- The DRAM organizations of R519 as the dictionary shows them, with the bytes of a channel. -/
def dramChannelBytes (org : Nat) : Nat :=
  let gib := 2 ^ 30
  if org = 4 + 16 * 1 + 256 * 16 then 32 * gib
  else if org = 8 + 16 * 1 + 256 * 16 then 16 * gib
  else if org = 8 + 16 * 2 + 256 * 16 then 32 * gib
  else if org = 8 + 16 * 1 + 256 * 32 then 32 * gib
  else 0

/-- DDR_TRAINING_DONE: every channel trained with one listed organization and reads zero, or start-up stops here (step 5, R520, R532).
`failed` are the channels that do not answer, failed training three times, or differ. -/
def State.ddrTrained (s : State) (org us failed : Nat) : State :=
  if !s.serving || !s.pkg.boot.configReady || s.pkg.boot.ddrUp || s.pkg.boot.stopped then s
  else
    let bytes := 8 * dramChannelBytes org
    let failed := if bytes = 0 then 0xFF else failed
    let s := s.setKept 0xC010 4 failed
    if failed != 0 then { s with pkg.boot.stopped := true }
    else
      let s := ((s.setVal 0xC010 1 org).setVal 0xC010 2 bytes).setVal 0xC010 3 us
      let chans := s.dram.chans.map fun (x : DramChan) => { x with trainedTemp := s.hubTemp, lastReq := s.pkg.timebase, tracked := s.pkg.timebase }
      { s with dram.chans := chans, dram.trained := true, dram.windowAt := s.pkg.timebase, pkg.boot.ddrUp := true }

/-- Whether a slot's copy passes: it was copied without error, and the digest of the slot's image is its marker's (R248). -/
def State.slotPasses (s : State) (slot copies : Nat) : Bool :=
  s.cs.slotValid slot && bit copies (slot - 1) && match s.cs.lastOf 2 slot with
    | some m => s.cs.rangeOk (s.cs.slotBase slot) m.len && sha384 (s.cs.bytes (s.cs.slotBase slot) m.len) == m.digest
    | none => false

/-- A core of firmware started, at an address that firmware chooses. -/
def State.startFirmwareCore (s : State) (n : Nat) : State :=
  let r := s.draw
  r.2.setCore n { Core.cleared with pc := r.1.setWidth 46 ++ (0 : BitVec 2) }

/-- Steps 6 and 7 with a firmware slot chosen: sizes in force, cores 129 to 131 and the reserved units, pools, engine queues, storage keys; then
the default channels are claimed and the hold-up is measured, unless a strap mismatch stops start-up before step 7. None of these changes the package's own
registers or the code store. -/
def State.firmwareStarts (s : State) (slot : Nat) : State :=
  let s := { s with
    cs.runningSlot := slot, pkg.boot.firmwareUp := true, pkg.slmSize := s.force 0x4000 1
    ev.holdoff := Vector.ofFn fun (g : Fin 64) => BitVec.ofNat 16 (s.val (0xD100 + g.val) 1)
    sched.traceBytes := s.force 0xA050 2, sched.reservedUnits := s.force 0xA040 1, sched.programArea := s.force 0xA030 6 }
  let p := s.pkg
  let c := s.cs
  let units := ((List.range 128).filter fun n => decide (n % 8 < s.sched.reservedUnits))
  let s := ([129, 130, 131] ++ units).foldl (fun (s : State) n => s.startFirmwareCore n) s
  let s := (List.range 4).foldl (fun (s : State) r => s.assignRegion r) s.buildPools
  let s := { s.loadStorageKeys with pkg := p, cs := c }
  if s.strapMismatch then s
  else
    let s := ((List.range 32).filter s.defaultChannel).foldl (fun (s : State) c => s.claimChannel c) s
    { s.startSeries with pkg := p, cs := c }

/-- FIRMWARE_COPY_DONE: the slot chosen is tried, then the other valid one; with none the controller stays not ready (step 6, R248). `copies`
says of slots A and B whether the copy came out as the array holds it. -/
def State.firmwareCopied (s : State) (copies : Nat) : State :=
  let b := s.pkg.boot
  if !s.serving || !b.ddrUp || !b.linksUp || b.firmwareUp then s
  else
    let first := s.cs.nextSlot s.pkg.straps.bootBank
    let other := if first = 1 then 2 else 1
    if first != 0 && s.slotPasses first copies then s.firmwareStarts first
    else if first != 0 && s.slotPasses other copies then (s.setVal 0xE000 6 1).firmwareStarts other
    else s

/-- TWIN_WAIT_TIMEOUT: the wait of step 8 ends and the package goes on alone (R44). -/
def State.twinWaitEnds (s : State) : State :=
  if !s.serving || !s.isTwin || !s.pkg.boot.firmwareUp || s.pkg.boot.twinWaitOver || s.twin.session then s
  else { s with pkg.boot.twinWaitOver := true }

/-! ### Restart (R284, R315, R316) -/

/-- The valid power-fail records (R246, R315). -/
def CodeStore.pfRecords (c : CodeStore) : List (List Byte) :=
  ((List.range 64).filter fun i => c.rangeOk (c.pfBase i) 256).map (fun i => c.bytes (c.pfBase i) 256) |>.filter fun b =>
    ofLe (slice b 0 4) == 0x50465231 && ofLe (slice b 252 4) == crc32c (slice b 0 252)

/-- The run a record closes. -/
def recordRun (b : List Byte) : Nat := ofLe (slice b 8 8)

/-- The latest valid record: the one of highest run number. -/
def CodeStore.latestRecord (c : CodeStore) : Option (List Byte) :=
  c.pfRecords.foldl (fun b r => match b with
    | none => some r
    | some q => if recordRun q ≤ recordRun r then some r else b) none

/-- A furrow still sowing at restart: a matching end marker makes it full, else the marker is written (R284). -/
def State.restartFurrow (s : State) (i : Fin 2) (id : Nat) : State :=
  match (s.xset i).furrow id with
  | none => s
  | some f =>
    let found := match s.markerPage f with
      | some ppn => match Tab.find s.flash.marks ppn with
        | some m => m.furrow == id && m.wordline == f.confirmed
        | none => false
      | none => false
    if found then s.setFurrowState i id .full else s.closeFurrow i id

/-- A set's live map restored: the latest checkpoint, the journal over it as far as it reads (`good`), the open furrows closed. -/
def State.restoreSet (s : State) (i : Fin 2) (good : Nat) : State :=
  let x := s.xset i
  let log := wholeGroups (x.flashLog.takeWhile fun r => decide (r.seq ≤ good))
  let y := x.replayed s.isTwin i log
  let seq := max y.seq ((x.checkpoint.map fun (k : Checkpoint) => k.start).getD 0)
  let s := s.onSet i fun _ => { y with
    live := true, current := true, flashLog := log, dram := [], seq := seq, programmed := seq, twinAck := seq, checkpointAt := s.pkg.timebase }
  let s := (s.xset i).open_.foldl (fun (s : State) id => s.restartFurrow i id) s
  s.resumeFurrows i

/-- The default channels of the online regions. -/
def State.homeChannels (s : State) : List Nat := (List.range 32).filter fun c => s.defaultChannel c && s.regionOnline (c / 8)

/-- Whether step 7 still waits for a channel: a claim not met, or a die not yet ready. -/
def State.channelPending (s : State) (c : Nat) : Bool :=
  match (s.port c).claim with
  | .waiting _ => true
  | .owned => (List.range 32).any fun l => s.hasLun l && (s.lun c l).unobserved
  | _ => false

/-- LIVE_MAP_LOADED: the live map is restored where this Isle holds its channels, the shutdown classed, and an unclean one reported (step 9, R45,
R315, R316). `good` is the last journal sequence that reads without error. -/
def State.liveMapLoaded (s : State) (good : Nat) : State :=
  let b := s.pkg.boot
  if !s.serving || !b.firmwareUp || b.mapLoaded || s.strapMismatch || s.homeChannels.any s.channelPending then s
  else
    let i := setOfGroup s.ownGroup
    let best := s.cs.latestRecord
    let first := best.isNone && (s.xset i).checkpoint.isNone && (s.xset i).flashLog.isEmpty
    let s := if s.homeChannels.all fun c => (s.port c).owned then s.restoreSet i good else s
    let s := if first && !s.flash.initialized then
        let s := s.onSet i fun x => { x with headland0 := s.headland }
        { s with flash.initialized := true }.setKept 0x5020 3 1
      else s
    let s := s.loadWp s.defaultChannel
    let clean := first || best.any fun r => recordRun r == s.hold.foundRun
    let lost := best.any fun r => clean && decide ((s.xset i).programmed < ofLe (slice r 16 8)) && (s.xset i).live
    let s := { s with
      pkg.boot.mapLoaded := true, pkg.startupUs := s.since s.pkg.boot.startAt / 100, pkg.unclean := !clean }
    let s := if !clean || lost then s.warn 2 else s
    s.checkHeadland

/-- CSTS_RDY_SET of a controller whose host has set `CC.EN`: it is ready, and the first time a run begins under a new number (step 11, R43,
R246, R315). An Isle that is to adopt its twin's shared entries waits for them (R90). -/
def State.rdySet (s : State) (fn : Nat) : State :=
  let c := s.ctrl fn
  let b := s.pkg.boot
  if !s.serving || !b.mapLoaded || !c.enabled || c.ready || c.cfs || c.resetting || c.flr.isSome || s.cs.pfErasedCount = 0 || (s.twin.adopt && s.mirrorPartner) then s
  else
    let s := s.setCtrl fn { c with ready := true }
    if b.rdySeen then s
    else
      let run := (s.cs.pfRecords.foldl (fun m r => max m (recordRun r)) 0) + 1
      { s with pkg.boot.rdySeen := true, hold.runNumber := run, hold.foundRun := run }

/-- PF_SLOT_ERASE: in the background once a record stands in the first slot of a sector, or at start-up while no erased slot remains (R246). -/
def State.pfSlotErase (s : State) : State :=
  if !s.serving || s.cs.faulted || !s.pkg.boot.configReady then s
  else
    let last := (s.cs.nextPf + 63) % 64
    if s.cs.pfErasedCount = 0 || last % 32 = 0 then { s with cs := s.cs.pfErase } else s

/-! ### Timebase, tempo and sensors (R20, R33, R34, R49, R576) -/

/-- The times at which host work was last queued for each region, or a host command was last outstanding on the package: what is busy now is
busy still at the end of the tick (R150). -/
def State.busyNow (s : State) : Vector Word 5 :=
  Vector.ofFn fun (i : Fin 5) =>
    if (if i.val < 4 then s.regionBusy i.val else s.hostBusy) then s.pkg.timebase + 1 else s.nvme.busyAt.get i

/-- TIMEBASE_TICK. -/
def State.tick (s : State) : State :=
  if s.pkg.ticking && s.pkg.refclk && s.pkg.phase != .off then
    { s with nvme.busyAt := s.busyNow, pkg.timebase := s.pkg.timebase + 1 }
  else s

/-- TEMPO_SAMPLE: the rate of a region over the last 100 µs. -/
def State.tempoSample (s : State) (r : Fin 4) (rate : Nat) : State :=
  if !s.powered then s
  else
    let idx := 0x2020 + r.val
    let low := decide (rate < s.val idx 3)
    let was := srcBit s.ev.level (evSrc (10 * r.val) 8)
    let s := (s.setVal idx 1 rate).setVal idx 2 (min (s.val idx 2) rate)
    let s := if low && !was then s.bump idx 4 else s
    s.setLevel (evSrc (10 * r.val) 8) low

/-- A controller's threshold test of a composite temperature (R121). -/
def Ctrl.tooHot (c : Ctrl) (kelvin : Nat) : Bool := decide (c.feature 0x04 ≤ kelvin) || decide (kelvin ≤ c.feature 0x40004)

/-- Critical warning bit 1 follows the thresholds; a controller whose threshold has just been passed is told (R121, R124, R127). -/
def State.checkTemperature (s : State) (before : Nat) : State :=
  let now := s.composite
  let hot := s.functions.any fun fn => (s.ctrl fn).tooHot now
  let s := { s with nvme.warnings := if hot then s.nvme.warnings ||| 2 else s.nvme.warnings &&& 0xFD }
  s.functions.foldl (fun (s : State) fn =>
    if (s.ctrl fn).tooHot now && !(s.ctrl fn).tooHot before then s.raiseOn fn evTemperature else s) s

/-- DIE_TEMP_UPDATE: the four sensors, in tenths of a degree. -/
def State.dieTempUpdate (s : State) (t : Vector (BitVec 32) 4) : State :=
  if s.pkg.phase == .off then s
  else
    let before := s.composite
    let s := { s with pkg.dieTemp := t }
    if !s.powered then s
    else
      let hottest := t.toList.foldl (fun (m : BitVec 32) v => if m.toInt < v.toInt then v else m) (t.get 0)
      let old := BitVec.ofNat 32 (s.val 0x1010 5)
      let peak := if s.pkg.tempPeakValid && hottest.toInt < old.toInt then old else hottest
      let s := { s with pkg.tempPeakValid := true }.setVal 0x1010 5 peak.toNat
      (s.setLevel (evSrc 42 6) (decide (1048 < hottest.toInt))).checkTemperature before

/-! ### Package faults (R19, R20) -/

/-- PACKAGE_FAULT: channels are released, `TWIN_FAIL_O` is asserted, and the package holds itself in reset without a flush. -/
def State.packageFault (s : State) : State :=
  if !s.powered then s
  else { s with pkg.phase := .heldFault, pkg.twinFailO := true, pkg.nextReset := .packageFault }.packageClear

/-- The region whose tempo monitor counts: the lowest online one whose die link is up (R20). -/
def State.tempoCounter (s : State) : Option Nat :=
  (List.range 4).find? fun r => s.regionOnline r && [2 * (r / 2), 2 * (r / 2) + 1].all fun m => (s.pkg.links[m]?).any fun k => k.state == .up

/-- TEMPO_COUNT_EXPIRY: no tick has come in 48,000 handshakes of that region. -/
def State.tempoExpiry (s : State) : State :=
  if s.tempoCounter.isNone || !s.powered then s else { s with pkg.refclk := false }.packageFault

/-- REFCLK_LOSS_DETECTED. -/
def State.refclkLoss (s : State) : State := if s.pkg.phase == .off then s else { s with pkg.refclk := false }.packageFault

/-- HUB_WATCHDOG_EXPIRY. -/
def State.hubWatchdog (s : State) : State := s.packageFault

/-- FLIT_REPLAY: counted, and otherwise unseen (R8). -/
def State.flitReplay (s : State) (m : Fin 4) : State := if s.powered then s.bump (0x2030 + m.val) 3 else s

end Sys2Proof.Machine
end

