-- ==== Sys2Proof/Machine/Live.lean ====
section
/-! DEFINITION. What a read of the dictionary shows: the entries that follow the state of a block, and the snapshots of DOMAIN entries (R49, R95,
R129, R177, R224, R294, R318, R352, R373, R446, R468, R556, R576 and the other entry tables). -/
namespace Sys2Proof.Machine

/-- Ports as a bitmap. -/
def State.portBits (s : State) (f : Port → Bool) : Nat := sumOf (fun c => if f (s.port c) then 2 ^ c else 0) (List.range 32)

/-- The coding of `0x2010.01`. -/
def RegionState.code : RegionState → Nat
  | .online => 0
  | .offline => 1
  | .admitting => 2

/-- The coding of `0x2030.01`. -/
def LinkState.code : LinkState → Nat
  | .down => 0
  | .training => 1
  | .up => 2

/-- The coding of `0x2040.01` (log 70). -/
def ResetKind.code : ResetKind → Nat
  | .powerOn => 1
  | .perst => 2
  | .hotReset => 3
  | .commanded => 4
  | .packageFault => 5
  | .thermalTrip => 6
  | .powerFail => Config.heldResetKind % 256

/-- The valid ternary entries. -/
def State.ternValid (s : State) : Nat := (s.tern.entries.filter fun p => p.2.valid).length

/-- The valid ternary entries a function owns (R501). -/
def State.ternOwned (s : State) (fn : Nat) : Nat := (s.tern.entries.filter fun p => p.2.valid && p.2.owner == fn).length

/-- The map units of the namespaces of a group. -/
def State.groupUnits (s : State) (live : Nat → Bool) : Nat :=
  sumOf (fun (n : Namespace) => if decide (n.nsid ≤ 1020) && live n.group then (n.lbas + 3) / 4 else 0) s.nvme.namespaces

/-- The set of this Isle's own group. -/
def State.ownSet (s : State) : XSet := s.xset (setOfGroup s.ownGroup)

/-- The cores halted, a bit each. -/
def State.coresHalted (s : State) : Nat := sumOf (fun n => if (s.core n).halted then 2 ^ n else 0) (List.range 132)

/-- The engine kind of a record of the share entries. -/
def shareKind (idx : Nat) : Option EngKind := engKinds.find? fun k => k.record + 0x10 == idx

/-- The live value of an entry under `0x1000` to `0x3FFF`. -/
def State.livePackage (s : State) (x : Session) (idx sub : Nat) : Option Nat :=
  let p := s.pkg
  match idx, sub with
  | 0x1000, 4 => some (b2n p.straps.isle + 2 * b2n p.straps.twin + 4 * b2n p.straps.bootBank)
  | 0x1000, 6 => some (b2n s.strapMismatch)
  | 0x1100, 5 => some (s.stage x).used
  | 0x1100, 7 => some s.dict.free
  | 0x2000, 4 => some (b2n p.straps.twin)
  | 0x2000, 5 => some (b2n p.straps.isle)
  | 0x2040, 1 => some p.resetKind.code
  | 0x2040, 2 => some p.startupUs
  | 0x2040, 3 => some (b2n p.unclean)
  | 0x2050, 1 => some s.now
  | 0x3000, 1 => some p.linkSpeed
  | 0x3000, 2 => some p.linkWidth
  | 0x3040, 8 => some (s.locksHeld true + s.locksHeld false)
  | _, _ =>
    if idx = 0x1010 ∧ 1 ≤ sub ∧ sub ≤ 4 then (p.dieTemp[sub - 1]?).map fun t => t.toNat
    else if 0x2010 ≤ idx ∧ idx < 0x2014 ∧ sub = 1 then some (s.regionState (idx - 0x2010)).code
    else if 0x2030 ≤ idx ∧ idx < 0x2034 ∧ sub = 1 then (p.links[idx - 0x2030]?).map fun k => k.state.code
    else none

/-- The live value of an entry under `0x4000` to `0x6FFF`. -/
def State.liveTenant (s : State) (fn idx sub : Nat) : Option Nat :=
  let c := s.ctrl fn
  let x := s.ownSet
  let own := setOfGroup s.ownGroup
  let wear := s.liveSets.flatMap s.wearCounts
  match idx, sub with
  | 0x4010, 4 => some (s.slmLen fn)
  | 0x4020, 2 => some (sumOf (fun r => 2 ^ (8 * r) * s.runningOf r fn) (List.range 4))
  | 0x4020, 3 => some (s.keysHeld fn)
  | 0x4020, 4 => some (s.ternOwned fn)
  | 0x4020, 6 => some (c.vq + 2 ^ 16 * c.vi)
  | 0x4020, 9 => some c.scrub
  | 0x5030, 1 => some (s.flash.bad.filter fun b => (s.port b.channel).owned).length
  | 0x6000, 6 => some s.usableBytes
  | 0x6000, 7 => some (8 * s.groupUnits fun g => (s.xset (setOfGroup g)).live)
  | 0x6010, 1 => some (sumOf s.fallow s.liveSets)
  | 0x6010, 4 => some (s.flushReserve s.hold.ceiling)
  | 0x6010, 5 => some s.headland
  | 0x6020, 5 => some (wear.foldl min (wear.headD 0))
  | 0x6020, 6 => some (wear.foldl max 0)
  | 0x6020, 7 => some (sumOf id wear / max 1 wear.length)
  | 0x6020, 0xA => some (sumOf (fun c => ((List.range 32).filter fun l => (s.lun c l).retired).length) s.ownedChannels)
  | 0x6030, 2 => some x.seq
  | 0x6030, 3 => some (s.durable own)
  | 0x6030, 0xA => some (sumOf (fun i => ((s.xset i).map.filter fun p => p.2.state == 3).length) s.liveSets)
  | _, _ => none

/-- The live value of an entry under `0x7000` to `0x9FFF`. -/
def State.liveHold (s : State) (idx sub : Nat) : Option Nat :=
  let h := s.hold
  let field (i n : Nat) : Option Nat := some (((s.cs.latestRecord).map fun r => ofLe (slice r i n)).getD 0)
  match idx, sub with
  | 0x7000, 1 => some h.ceiling
  | 0x7000, 3 => some (16384 * s.dirtyLoad)
  | 0x7000, 4 => some (b2n s.writeThrough)
  | 0x7020, 1 => some h.lastC
  | 0x7020, 2 => some h.lastV0
  | 0x7020, 3 => some h.lastE
  | 0x7020, 4 => some h.lastTime.toNat
  | 0x7020, 6 => some h.computed
  | 0x7030, 2 => field 40 4
  | 0x7030, 3 => field 44 8
  | 0x7030, 4 => some h.runNumber
  | 0x8000, 1 => some s.twin.pair.code
  | 0x8000, 2 => some s.twin.lanes
  | 0x8000, 8 => some (s.portBits fun p => p.owned)
  | 0x8000, 9 => some (s.portBits fun p => p.owned && p.byTwin)
  | 0x8000, 0xB => some (([0, 1] : List (Fin 2)).foldl (fun m i => if (s.xset i).live then m else max m (s.xset i).seq) 0)
  | 0x8000, 0xC => some s.twin.held.length
  | _, _ =>
    if 0x9100 ≤ idx ∧ idx < 0x91E3 ∧ sub = 4 then some (s.bucket (idx - 0x9100)) else none

/-- The live value of an entry under `0xA000` to `0xEFFF`. -/
def State.liveEngine (s : State) (fn idx sub : Nat) : Option Nat :=
  match idx, sub with
  | 0xA020, 1 => some s.coresHalted
  | 0xA030, 1 => some ((s.sched.slots.filter fun p => p.2.state != .empty).length)
  | 0xB300, 1 => some s.freeKeys
  | 0xB300, 2 => some (ofLe s.vault.importPublic)
  | 0xB420, 5 => some s.ternValid
  | 0xE000, 3 => some s.cs.runningSlot
  | 0xE000, 4 => some (s.cs.nextSlot s.pkg.straps.bootBank)
  | 0xE000, 5 => some (s.cs.slotState 1 + 2 ^ 8 * s.cs.slotState 2)
  | 0xE000, 0xA => some s.cs.markerSeq
  | 0xE000, 0xB => some s.cs.pfErasedCount
  | 0xE000, 0xD => some (b2n s.cs.faulted)
  | _, _ =>
    if 0xA044 ≤ idx ∧ idx < 0xA048 ∧ sub = 1 then some (s.readyDepth (idx - 0xA044))
    else if 0xD010 ≤ idx ∧ idx < 0xD050 ∧ sub = 4 then some (s.poolFree (idx - 0xD010))
    else if 0xD010 ≤ idx ∧ idx < 0xD050 ∧ sub = 5 then some (s.pool (idx - 0xD010)).state
    else if idx = 0xD010 ∧ sub = 2 then some (s.pool 0).base
    else if 2 ≤ sub ∧ sub ≤ 5 then (shareKind idx).map fun k => s.runBase k (sub - 2) fn
    else none

/-- The number of subindexes a record shows at subindex 0, or the value an entry's instance holds now, as a session reads it. -/
def State.readVal (s : State) (x : Session) (fn idx sub : Nat) : Nat :=
  if sub = 0 then
    match entryRow? idx 0 with
    | some r => defaultOf r fn idx 0
    | none => 0
  else
    let live :=
      if idx < 0x4000 then s.livePackage x idx sub
      else if idx < 0x7000 then s.liveTenant fn idx sub
      else if idx < 0xA000 then s.liveHold idx sub
      else s.liveEngine fn idx sub
    live.getD (s.fval fn idx sub)

/-- The bytes of an entry's value: all of its type's size, a `STR` with its padding (R51). -/
def valueBytes (t : EType) (v : Nat) : List Byte := leBytes t.size v

/-! ### DOMAIN snapshots (R69) -/

/-- An error record's 32 bytes (R373). -/
def ErrorRecord.bytes (r : ErrorRecord) : List Byte :=
  let b := leBytes 8 r.time.toNat ++ [BitVec.ofNat 8 r.kind, BitVec.ofNat 8 r.cls] ++ leBytes 2 r.instance_ ++
    leBytes 2 (r.requester % 4096 + 4096 * r.reqType) ++ [0, 0] ++ leBytes 6 r.address ++ [0, 0] ++ leBytes 4 r.extra
  b ++ leBytes 4 (crc32c b)

/-- A trace record's 16 bytes (R446). -/
def TraceRec.bytes (t : TraceRec) : List Byte :=
  leBytes 6 t.time.toNat ++ [BitVec.ofNat 8 t.kind, BitVec.ofNat 8 (t.priority + 8 * b2n t.target)] ++ leBytes 4 t.task ++
    [BitVec.ofNat 8 t.core, BitVec.ofNat 8 t.fn] ++ leBytes 2 t.extra

/-- The bytes a DOMAIN entry reads as. -/
def State.domainBytes (s : State) (idx sub : Nat) : List Byte :=
  if idx = 0x5030 ∧ sub = 2 then ((List.range 32).filter fun c => (s.port c).owned).flatMap s.badTable
  else if idx = 0x7030 ∧ sub = 5 then (s.cs.latestRecord).getD (List.replicate 256 0)
  else if idx = 0x9090 ∧ sub = 1 then s.integ.records.flatMap ErrorRecord.bytes
  else if 0xA054 ≤ idx ∧ idx < 0xA058 ∧ sub = 1 then ((s.sched.traces[idx - 0xA054]?).getD []).flatMap TraceRec.bytes
  else []

end Sys2Proof.Machine
end

