-- ==== Sys2Proof/Machine/DictCommit.lean ====
section
/-! DEFINITION. Commits: the rules a value must meet in the device's present state, the restore of defaults, the steps of R64, what a committed value
does at once, and the shared entries of a pair (R63 to R67, R73, R78, R87 to R90, R93, 02_object_dictionary.md). -/
namespace Sys2Proof.Machine

/-! ### The changes a stage stands for (R52, R93) -/

/-- Function, index and subindex of a key. -/
def keyFn (k : Nat) : Nat := k / 2 ^ 24
def keyIdx (k : Nat) : Nat := k / 256 % 65536
def keySub (k : Nat) : Nat := k % 256

/-- The row of a key's entry. -/
def keyRow (k : Nat) : Option EntryRow := entryRow? (keyIdx k) (keySub k)

/-- The key of `RESTORE_DEFAULTS`. -/
def restoreKey : Nat := ekey 0 0x1100 4

/-- Whether a restore returns an entry to its default (R93). -/
def State.restorable (s : State) (mask k : Nat) : Bool :=
  let idx := keyIdx k
  let n := idx / 0x1000
  let listed := (idx == 0x4F20 && decide (keySub k ≤ 3)) || (idx == 0x1000 && keySub k == 5) || (idx == 0x6030 && keySub k == 1) ||
    (s.flash.initialized && idx == 0x6000 && decide (3 ≤ keySub k) && decide (keySub k ≤ 5))
  decide (1 ≤ n) && decide (n ≤ 14) && bit mask n && !listed && match keyRow k with
    | some r => (r.access == .rw || r.access == .rwc) && r.persist != .factory
    | none => false

/-- A change of an entry: a value, or a return to its default. -/
abbrev Change := Nat × Option Nat

/-- The changes a stage stands for: the restore first, then the staged values over it. A clear returns its entry to its default. -/
def State.changes (s : State) (vals : List Staged) : List Change :=
  let mask := ((vals.find? fun w => w.key == restoreKey).map fun w => w.val).getD 0
  let given := vals.filter fun (w : Staged) => w.key != restoreKey
  let back := (Tab.keys s.dict.vals).filter fun k => s.restorable mask k && !(given.any fun w => w.key == k)
  (back.map fun (k : Nat) => ((k, none) : Change)) ++ given.map fun (w : Staged) =>
    ((w.key, if ((keyRow w.key).map fun r => r.access) == some .rwc then none else some w.val) : Change)

/-- The value a change leaves. -/
def Change.value (c : Change) : Nat := c.2.getD (entryDefault (keyFn c.1) (keyIdx c.1) (keySub c.1))

/-- What an entry's instance holds after the changes. -/
def State.after (s : State) (l : List Change) (fn idx sub : Nat) : Nat :=
  match l.find? fun c => c.1 == ekey fn idx sub with
  | some c => c.value
  | none => s.fval fn idx sub

/-! ### Rules that depend on the device's state (R64 step 1) -/

/-- Whether the geometry after a commit is within R191: whole wordlines, and a write-pointer table of at most 4 MiB. -/
def State.geometryOk (s : State) (l : List Change) : Bool :=
  let v (sub : Nat) : Nat := s.after l 0 0x5000 sub
  v 7 % max 1 (v 9) == 0 && decide (2 * (8 * v 3 * v 4 * v 5 * v 6) ≤ 4 * 2 ^ 20)

/-- The highest data rate of the interface in force (R190). -/
def State.maxRate (s : State) : Nat :=
  if s.force 0x5000 1 = 0 then (if s.isTwin then 3200 else 3600) else if s.isTwin then 1200 else 1600

/-- Whether a function's SLM window ends within SLM (R173). -/
def State.slmWindowOk (s : State) (l : List Change) (fn : Nat) : Bool :=
  let len := match l.find? fun c => c.1 == ekey fn 0x4010 4 with
    | some (_, some v) => v
    | some (_, none) => if fn = 0 then s.pkg.slmSize else 0
    | none => s.slmLen fn
  decide (s.after l fn 0x4010 3 + len ≤ s.pkg.slmSize)

/-- Whether the pool entries after a commit can be built (R535). -/
def State.poolsOk (s : State) (l : List Change) : Bool :=
  let size (p : Nat) : Nat := s.after l 0 (0xD010 + p) 1
  let off (p : Nat) : Nat := s.after l 0 (0xD010 + p) 2
  let used := ((List.range 64).drop 1).filter fun p => size p != 0
  decide (sumOf size (List.range 64) ≤ 2097152) &&
    (used.all fun p => off p % 16384 == 0 && decide (off p + 16384 * size p ≤ s.pkg.slmSize)) &&
    used.all fun p => used.all fun q => p == q || decide (off p + 16384 * size p ≤ off q) || decide (off q + 16384 * size q ≤ off p)

/-- Whether a scrub may start: of a VF that is offline or disabled (R187). -/
def State.scrubRule (s : State) (fn : Nat) : Nat :=
  if fn = 0 then aBadValue else if s.functions.contains fn && (s.ctrl fn).online then aBadState else 0

/-- Whether the full-drive latch may be cleared: the namespaces the Isle owns fit in what is usable (R293). -/
def State.latchRule (s : State) : Nat :=
  let own := sumOf (fun (n : Namespace) =>
    if decide (n.nsid ≤ 1020) && (s.xset (setOfGroup n.group)).live then 4096 * n.lbas else 0) s.nvme.namespaces
  if own ≤ s.usableBytes then 0 else aBadState

/-- The rule on one change of a package's or a tenant's entry. -/
def State.ruleTenant (s : State) (l : List Change) (c : Change) : Nat :=
  let fn := keyFn c.1
  match keyIdx c.1, keySub c.1 with
  | 0x4010, 3 | 0x4010, 4 => if s.slmWindowOk l fn then 0 else aBadValue
  | 0x4010, 5 => if 32 - 4 * s.sched.reservedUnits < c.value then aBadValue else 0
  | 0x4010, 7 =>
    if 262144 < s.after l fn 0x4010 7 + s.after l fn 0x4010 8 then aBadValue
    else if c.value != s.fval fn 0x4010 7 && s.ternOwned fn != 0 then aBadState
    else 0
  | 0x4010, 8 => if 262144 < s.after l fn 0x4010 7 + s.after l fn 0x4010 8 then aBadValue else 0
  | 0x4010, 0xC => s.scrubRule fn
  | 0x5000, 2 => if s.maxRate < c.value then aBadValue else 0
  | 0x5000, 3 | 0x5000, 4 | 0x5000, 5 | 0x5000, 6 | 0x5000, 7 | 0x5000, 9 => if s.geometryOk l then 0 else aBadValue
  | 0x6000, 3 | 0x6000, 4 | 0x6000, 5 => if s.flash.initialized then aBadState else 0
  | 0x6010, 2 | 0x6010, 3 => if s.after l 0 0x6010 3 < s.after l 0 0x6010 2 then 0 else aBadValue
  | 0x6030, 1 => s.latchRule
  | _, _ => 0

/-- The rule on one change of a region's, the pair's, an engine's, the DRAM's or a pool's entry. -/
def State.ruleBlock (s : State) (l : List Change) (c : Change) : Nat :=
  let idx := keyIdx c.1
  let sub := keySub c.1
  if 0x2010 ≤ idx ∧ idx < 0x2014 ∧ sub = 4 then
    (if c.value = 2 ∧ s.regionState (idx - 0x2010) ≠ .offline then aBadState else 0)
  else if idx = 0x8010 ∧ sub = 2 then (if s.twin.pair = .inStep ∧ s.strayGroup.isSome then 0 else aBadState)
  else if idx = 0x8010 ∧ sub = 4 then (if s.twin.pair = .split ∧ s.twin.groupDown then 0 else aBadState)
  else if (idx = 0x9005 ∨ idx = 0x9006) ∧ sub = 1 then (if c.value = 1 then aBadValue else 0)
  else if idx = 0xC000 ∧ (sub = 3 ∨ sub = 4) then (if s.after l 0 0xC000 3 < s.after l 0 0xC000 4 then 0 else aBadValue)
  else if 0xD010 ≤ idx ∧ idx < 0xD050 ∧ sub ≤ 2 then
    (if idx = 0xD010 ∧ sub = 1 ∧ c.value < 589824 then aBadValue else if s.poolsOk l then 0 else aBadValue)
  else if sub = 1 then
    match shareKind idx with
    | some k => if s.shareFits k (keyFn c.1) c.value then 0 else aBadValue
    | none => 0
  else 0

/-- The rule on one change. -/
def State.stateRule (s : State) (l : List Change) (c : Change) : Nat :=
  let a := s.ruleTenant l c
  if a != 0 then a else s.ruleBlock l c

/-- The rule on a staged image: one that fits its slot and verifies, in a code store that answers (R249). -/
def State.imageRule (s : State) (b : List Byte) : Nat :=
  if s.cs.slotSize < b.length then aBadLength
  else if s.cs.faulted then aStoreFault
  else if b.isEmpty || !Config.imageVerifies ((List.range b.length).zip b) b.length then aBadValue
  else 0

/-- The first entry of a stage that fails: index, subindex and abort code. Tiers are those of now; a restore's entries fail in its place
(log 156). -/
def State.firstFailure (s : State) (x : Session) (vals : List Staged) (domain : Option (Nat × List Byte)) : Option (Nat × Nat × Nat) :=
  let l := s.changes vals
  let fail (k : Nat) (a : Nat) : Option (Nat × Nat × Nat) := if a = 0 then none else some (keyIdx k, keySub k, a)
  let back := l.filter fun (c : Change) => !(vals.any fun w => w.key == c.1)
  let entry (w : Staged) : Option (Nat × Nat × Nat) :=
    match fail w.key (s.accessCheck x (keyIdx w.key) (keySub w.key) true) with
    | some f => some f
    | none =>
      if w.key == restoreKey then back.findSome? fun c => fail c.1 (s.stateRule l c)
      else (l.find? fun c => c.1 == w.key).bind fun c => fail c.1 (s.stateRule l c)
  match vals.findSome? entry with
  | some f => some f
  | none => match domain with
    | none => none
    | some (k, b) =>
      match fail k (s.accessCheck x (keyIdx k) (keySub k) true) with
      | some f => some f
      | none => fail k (s.imageRule b)

/-! ### What a committed value does at once (R64 step 6) -/

/-- Supervisor sessions end (R86). -/
def State.endSupervisors (s : State) : State :=
  let s := (s.dict.peers.filter fun p => p.session.isSome).foldl (fun (s : State) p => s.dropSession (.t1s p.mac true)) s
  let l := s.dict.peers.map fun (p : Peer) => { p with session := none }
  { s with dict.peers := l }

/-- A function's window epoch raised in every online region (R436). -/
def State.bumpEpochs (s : State) (fn : Nat) : State :=
  (List.range 4).foldl (fun (s : State) r =>
    if s.regionOnline r then { s with sched.epochs := Tab.put s.sched.epochs (256 * r + fn) ((s.epoch r fn + 1) % 65536) } else s) s

/-- The ceiling from the last valid measurement (R304, R306). -/
def State.recomputeCeiling (s : State) : State :=
  let h := s.hold
  if !h.valid || (h.needRetry && h.computed == 0) then s
  else
    let vmin := s.val 0x7010 3
    let e := h.lastC * (h.lastV0 * h.lastV0 - vmin * vmin) / 2000000000
    { s with hold.computed := s.computeCeiling h.lastC (if s.flag 0x7010 8 then e / 2 else e) }.aimCeiling

/-- The instances of a memory class: the first, and how many (R374). -/
def classInstances (cls : Nat) : Nat × Nat :=
  match cls with
  | 0 => (0, 8)
  | 1 => (8, 4)
  | 2 => (12, 16)
  | 3 => (28, 132)
  | 4 => (160, 1)
  | 5 => (161, 2)
  | _ => (163, 64)

/-- A class whose mode changes: its bucket levels are 0 (R359, R361). -/
def State.emptyBuckets (s : State) (cls : Nat) : State :=
  let r := classInstances cls
  { s with integ.buckets := Tab.keep (fun i _ => !(decide (r.1 ≤ i) && decide (i < r.1 + r.2))) s.integ.buckets }

/-- The full-drive latch cleared (R293). -/
def State.clearLatch (s : State) : State :=
  let i := setOfGroup s.ownGroup
  let s := (s.setKept 0x6030 1 0).unwarn 3
  if (s.xset i).live then s.journal i false [.readOnly false] else s

/-- A restart takeover that `SPLIT_TAKEOVER` allows starts at once (R347). -/
def State.splitTakeover (s : State) : State :=
  if s.flag 0x8010 3 && s.twin.pair == .split && s.twin.groupDown then s.startTakeover true else s

/-- A tenant's or the package's class-0 bucket within its new limit (R155, R170). -/
def State.clampShare (s : State) (fn : Nat) : State :=
  let c := s.ctrl fn
  s.setCtrl fn { c with tokens := min (bucketCap (s.fval fn 0x4010 9)) c.tokens }

/-- What a changed entry brings with it, once every value of the commit is in place; `old` is the state before. -/
def State.valueEffect (s : State) (old : State) (k : Nat) : State :=
  let fn := keyFn k
  let idx := keyIdx k
  let sub := keySub k
  match idx, sub with
  | 0x1010, 5 => { s with pkg.tempPeakValid := false }
  | 0x3040, 5 => { s with nvme.modeWait := s.programsOut }
  | 0x3040, 2 => { s with nvme.packageTokens := min (bucketCap (s.val 0x3040 2)) s.nvme.packageTokens }
  | 0x4010, 3 | 0x4010, 4 => s.bumpEpochs fn
  | 0x4010, 9 => s.clampShare fn
  | 0x4F00, 1 => if bit (s.val 0x4F00 1) 3 then s else s.endSupervisors
  | 0x4F20, 2 => (s.setKept 0x4F20 3 1).endSupervisors
  | 0x6010, 6 => s.checkHeadland
  | 0x6030, 1 => s.clearLatch
  | 0x7000, 2 => s.aimCeiling
  | 0x7010, 3 | 0x7010, 4 | 0x7010, 5 | 0x7010, 6 => s.recomputeCeiling
  | 0x8010, 3 => s.splitTakeover
  | 0xA050, 1 => if s.flag 0xA050 1 then { s with sched.traceBytes := s.val 0xA050 2 } else s
  | 0xA050, 2 => { s with sched.traces := Vector.replicate 4 [] }
  | _, _ =>
    if 0x9000 ≤ idx ∧ idx < 0x9007 ∧ sub = 1 then
      (if s.val idx 1 = old.val idx 1 then s else s.emptyBuckets (idx - 0x9000))
    else if 0xD010 ≤ idx ∧ idx < 0xD050 ∧ sub = 3 then s.poolLevel (idx - 0xD010)
    else if 0xD100 ≤ idx ∧ idx < 0xD140 ∧ sub = 1 then
      { s with ev.holdoff := s.ev.holdoff.setIfInBounds (idx - 0xD100) (BitVec.ofNat 16 (s.val idx 1)) }
    else if sub = 1 then
      match shareKind idx with
      | some e => s.assignShare e fn
      | none => s
    else s

/-- What a write to a command entry does (R13, R15, R16, R187, R308, R347, R348, R373, R447). -/
def State.commandEffect (s : State) (k v : Nat) : State :=
  let fn := keyFn k
  let idx := keyIdx k
  match idx, keySub k with
  | 0x2070, 1 => ((List.range 16).filter fun c => bit v c).foldl (fun (s : State) c => s.clusterReset c) s
  | 0x4010, 0xC => s.setCtrl fn { s.ctrl fn with scrub := 1 }
  | 0x7010, 9 => s.startSeries
  | 0x8010, 2 => s.startFailback
  | 0x8010, 4 => s.startTakeover true
  | 0x9090, 2 => { s with integ.records := [] }
  | idx, sub =>
    if 0x2010 ≤ idx ∧ idx < 0x2014 ∧ sub = 4 then
      (if v = 1 then s.regionFault (idx - 0x2010) 4 else s.admitRegion (idx - 0x2010))
    else if 0xA054 ≤ idx ∧ idx < 0xA058 ∧ sub = 2 then
      let r := idx - 0xA054
      { s with sched.traces := s.sched.traces.setIfInBounds r (((s.sched.traces[r]?).getD []).drop v) }
    else s

/-- Whether an entry is one whose write is a command and holds no value: a `WO` entry other than the keys. -/
def isCommand (k : Nat) : Bool := keyIdx k != 0x4F20 && ((keyRow k).map fun r => r.access) == some .wo

/-- Whether an entry's value is kept in the persistent store. -/
def isPersistent (k : Nat) : Bool := ((keyRow k).map fun r => r.persist) == some .persistent

/-- Whether a change travels to the twin: of an entry its chapter marks as shared, but for `FORCE_TAKEOVER`, whose one state is a split (R90,
R347, log 75). -/
def isShared (k : Nat) : Bool := k != ekey 0 0x8010 4 && ((keyRow k).map fun r => r.shared) == some true

/-- One value in place, and with `kept` its record; an explicit length of the PF's SLM window stays listed (R173), and
so does an explicit SUBNQN (R108). -/
def State.putChange (s : State) (kept : Bool) (c : Change) : State :=
  let k := c.1
  if isCommand k then s
  else
    let d := entryDefault (keyFn k) (keyIdx k) (keySub k)
    let vals := match c.2 with
      | none => Tab.erase s.dict.vals k
      | some v => if k = ekey 0 0x4010 4 ∨ k = ekey 0 0x3020 1 then Tab.put s.dict.vals k v else Tab.set s.dict.vals d k v
    let store := if !(kept && isPersistent k && !s.cs.faulted) then s.dict.store
      else match c.2 with
        | none => Tab.erase s.dict.store k
        | some v => Tab.put s.dict.store k v
    { s with dict.vals := vals, dict.store := store }

/-- The changes in force: every value in place, then what each brings with it, then the commands. -/
def State.putChanges (s : State) (kept : Bool) (l : List Change) : State :=
  let t := l.foldl (fun (t : State) c => t.putChange kept c) s
  let t := (l.filter fun c => !isCommand c.1).foldl (fun (t : State) c => t.valueEffect s c.1) t
  (l.filter fun c => isCommand c.1).foldl (fun (t : State) c => t.commandEffect c.1 c.value) t

/-- The records a commit writes (R66). -/
def changeRecords (l : List Change) : List (Nat × Nat) := (l.filter fun (c : Change) => isPersistent c.1).map fun (c : Change) => entryRecord c.1

/-! ### Shared entries and the Strait (R88 to R90) -/

/-- Bytes of the value a change leaves; SUBNQN at its default follows the subsystem's serial number (R108). -/
def State.changeBytes (s : State) (c : Change) : List Byte :=
  match keyRow c.1 with
  | some r => leBytes r.type.size (if c.1 = ekey 0 0x3020 1 then c.2.getD (subnqnOf s.subsysSerial) else c.value)
  | none => []

/-- The value bytes a SYNC frame has room for: 236 bytes of payload less the sequence and the header. -/
def syncRoom : Nat := 212

/-- One entry sent as SYNC, split with ascending offsets and `LAST_SEGMENT` on the final frame; `OP` bit 7 marks a response. -/
def State.sendSyncValue (s : State) (seq op status : Nat) (k : Nat) (b : List Byte) : State :=
  let n := max 1 (ceilDiv b.length syncRoom)
  (List.range n).foldl (fun (s : State) i =>
    let part := slice b (syncRoom * i) (min syncRoom (b.length - syncRoom * i))
    let h : Hdr := ⟨op, seq % 256, keyIdx k, keySub k, if i + 1 = n then 4 else 0, syncRoom * i, keyFn k, false⟩
    let head := (h.request part.length part).set 3 (BitVec.ofNat 8 status)
    s.strait 5 0x00 (leBytes 8 seq ++ head)) s

/-- The shared changes of a commit sent as SYNC under a pair commit sequence; a request to Isle 0 carries 0, which Isle 0 replaces (log 76). -/
def State.sendSync (s : State) (seq : Nat) (l : List Change) : State :=
  l.foldl (fun (s : State) c => s.sendSyncValue seq 0x07 0 c.1 (s.changeBytes c)) s

/-- Every shared entry and namespace sent as one whole set, for a twin that is to adopt them (R90, log 30). -/
def State.sendShared (s : State) : State :=
  let rows := entryRows.filter fun r => r.shared && (r.access == .rw || r.access == .ro)
  let keys := rows.flatMap fun r => (List.range (r.subLast + 1 - r.sub)).map fun i => ekey 0 r.index (r.sub + i)
  let seq := s.dict.pairSeq + 1
  let s := { s with dict.pairSeq := seq }.sendSync seq (keys.map fun (k : Nat) => ((k, some (s.val (keyIdx k) (keySub k))) : Change))
  (s.nvme.namespaces.filter fun n => decide (n.nsid ≤ 1020)).foldl (fun (s : State) _ =>
    let f := s.freeBytes 200
    f.2.strait 5 0x00 (leBytes 8 seq ++ f.1)) s

/-- Whether a shared commit waits for the twin; a split refuses it, and every other pair state applies it here alone (R90). -/
def State.sharesWithTwin (s : State) : Bool := s.isTwin && s.mirrorPartner

/-! ### The commit (R64) -/

/-- The stage of a commit that has been applied, without what it held; a value staged since stays. -/
def State.unstage (s : State) (c : Committing) : State :=
  let g := s.stage c.session
  s.setStage { g with
    vals := g.vals.filter fun (w : Staged) => !c.vals.contains w
    domain := if g.domain == c.domain then none else g.domain }

/-- A commit that applies nothing: counted, and the stage kept. -/
def State.failCommit (s : State) (dest : Reply) (status idx sub code : Nat) : State :=
  ({ s with dict.current := none, dict.unmarked := [] }.bump 0x1100 6).commitReply dest status 0 idx sub code

/-- Steps 6 and 7: every value takes effect, the commit is counted and its event raised, an image is written, the answer goes, the stage
empties; a package reset that the commit commands comes last (log 77). `marked` is false where step 5 failed (log 157). -/
def State.applyCommit (s : State) (c : Committing) (marked : Bool) : State :=
  let l := s.changes c.vals
  let s := { s with dict.current := none, dict.unmarked := [] }
  let s := if marked && c.persistent then s.logRecords [(0, 8)] else s
  let s := s.putChanges marked l
  let s := match c.domain with
    | some (_, b) => { s with cs := s.cs.writeSlot 1 ((List.range b.length).zip b) b.length 0 true }
    | none => s
  let s := if !marked && c.shared then { s with dict.owesAdopt := true } else s
  let s := ((s.bump 0x1100 2).setVal 0x1100 3 s.now).fire (evSrc 42 7)
  let n := c.vals.length + b2n c.domain.isSome
  let s := if marked then s.commitReply c.reply 0 n 0 0 0
    else (s.bump 0x1100 6).commitReply c.reply aStoreFault 0 0 0 0
  let s := s.unstage c
  if c.vals.any fun w => w.key == ekey 0 0x2060 1 then
    let d := s.draw
    d.2.packageReset .commanded (d.1.toNat % 4096)
  else s

/-- Step 5, or step 6 at once where nothing is persistent. -/
def State.passShared (s : State) (c : Committing) : State :=
  if c.persistent then { s with dict.current := some { c with phase := .awaitMarker } } else s.applyCommit c true

/-- COMMIT_PROCESS: the next commit is taken, its stage checked again, its records written, its shared entries sent; `written` says whether the
records could be written. -/
def State.commitProcess (s : State) (written : Bool) : State :=
  if !s.serving || s.dict.current.isSome then s
  else match s.dict.queue with
    | [] => s
    | q :: rest =>
      let s := { s with dict.queue := rest }
      let g := s.stage q.session
      match s.firstFailure q.session g.vals g.domain with
      | some (idx, sub, code) => s.failCommit q.reply aCommitFailed idx sub code
      | none =>
        let l := s.changes g.vals
        let keep := l.any fun c => isPersistent c.1
        let joint := l.filter fun (c : Change) => isShared c.1
        if keep && (s.cs.faulted || !written) then s.failCommit q.reply aStoreFault 0 0 0
        else
          let s := if keep then s.logRecords (changeRecords l) else s
          if !joint.isEmpty && s.splitLink then s.failCommit q.reply aTwinLink 0 0 0
          else
            let c : Committing := ⟨q.session, q.reply, g.vals, 0, g.domain, .awaitTwin, !joint.isEmpty, keep, none⟩
            let s := if keep then { s with dict.unmarked := l.map fun (c : Change) => (c.1, c.value) } else s
            if joint.isEmpty || !s.sharesWithTwin then s.passShared c
            else
              let seq := if s.pkg.straps.isle then 0 else s.dict.pairSeq + 1
              let s := if s.pkg.straps.isle then s else { s with dict.pairSeq := seq }
              { s with dict.current := some { c with seq := seq } }.sendSync seq joint

/-- COMMIT_SHARED_APPLIED: the twin has applied the shared entries; a refusal, or a pair that has come apart, ends the commit with `TWIN_LINK`. -/
def State.sharedApplied (s : State) : State :=
  match s.dict.current with
  | none => s
  | some c =>
    if c.phase != .awaitTwin then s
    else match c.answer with
      | some 0 => s.passShared c
      | some _ => s.failCommit c.reply aTwinLink 0 0 0
      | none => if s.sharesWithTwin then s else s.failCommit c.reply aTwinLink 0 0 0

/-- COMMIT_MARKER_WRITTEN: step 5 and what follows; a marker that cannot be written is a fault of the code store (R17). -/
def State.markerWritten (s : State) (ok : Bool) : State :=
  match s.dict.current with
  | none => s
  | some c =>
    if c.phase != .awaitMarker || !s.powered then s
    else if ok && !s.cs.faulted then s.applyCommit c true
    else if s.cs.faulted then s.applyCommit c false
    else (s.csFault).applyCommit c false

/-- A shared commit past its commit point runs to its end over a package reset: its marker is written and its values are in the store for
the next start-up; its response is discarded (R68, R78). -/
def State.keepShared (s : State) : State :=
  match s.dict.current with
  | some c =>
    if c.shared && c.persistent && !s.cs.faulted && (c.phase == .awaitMarker || c.answer == some 0) then
      let l := s.changes c.vals
      let s := s.logRecords [(0, 8)]
      l.foldl (fun (t : State) x => t.putChange true x) { s with dict.current := none, dict.unmarked := [] }
    else s
  | none => s

/-- FLUSH_END: what a commit past its commit point has still to write is written before the fabric is cleared (R47, R68). -/
def State.endFlush (s : State) (sense : Nat) (csAnswers : Bool) : State :=
  if s.flushReady then s.keepShared.flushEnd sense csAnswers else s

/-! ### SYNC received (R89) -/

/-- A received value as a change. -/
def SyncVal.change (v : SyncVal) : Change := (ekey v.fn.toNat v.index.toNat v.sub.toNat, some (ofLe v.value))

/-- Frames a SYNC of so many values takes. -/
def syncFrames (l : List SyncVal) (ns : List NsSync) : Nat :=
  sumOf (fun (v : SyncVal) => max 1 (ceilDiv v.value.length syncRoom)) l + ns.length

/-- Several frames received in order: the link's account of each, then what they carry. -/
def State.frames (s : State) (cls : Nat) (l : Link) : Nat → (State → State) → State
  | 0, _ => s
  | 1, f => s.frame cls l f
  | n + 2, f => s.frame cls l fun t => State.frames t cls l (n + 1) f

/-- A namespace as the twin now has it (R89, R483). -/
def State.syncNamespace (s : State) (x : NsSync) : State :=
  let old := s.nvme.namespaces
  let id := x.nsid.toNat
  let mine := s.namespace? id
  let s := match mine with
    | some n => if x.gone || x.formatted then s.deallocNamespace n else s
    | none => s
  let rest := s.nvme.namespaces.filter fun (n : Namespace) => n.nsid != id
  let s := { s with nvme.namespaces := rest }
  let s := if x.gone then s
    else
      let fresh := x.rekeyed || mine.isNone
      let key := if fresh then s.newKey else (((mine.map fun n => n.keyGen).getD 0), s)
      let b : Namespace := mine.getD {
        nsid := id, lbas := 0, lbaf := 0, dps := 0, group := 1, attached := [], keyGen := 0, keyType := 0, registrants := [], holder := none
        resvType := 0, ptpl := false, resvGen := 0, nguid := 0, guard64 := false, extended := true }
      let n := { b with
        lbas := x.lbas.toNat, lbaf := x.lbaf.toNat, dps := x.dps.toNat, group := x.group.toNat, nguid := x.nguid.toNat, guard64 := x.guard64, extended := x.extended
        attached := x.attached.map fun c => c.toNat
        keyGen := key.1, keyType := if fresh then s.val 0xB300 3 else b.keyType }
      let s := key.2
      let l := (s.nvme.namespaces.filter fun m => m.nsid < id) ++ n :: s.nvme.namespaces.filter fun m => id < m.nsid
      { s with nvme.namespaces := l }
  let s := s.syncKeys old
  let s := { s with nvme.changedNs := (s.nvme.changedNs.filter (· < id)) ++ id :: s.nvme.changedNs.filter (id < ·) }
  s.raiseAll evNamespace

/-- The twin's answer to the commit in hand: a SYNC response with its sequence, or, on Isle 1, the request that brings its own values back. -/
def State.syncAnswer (s : State) (own : Bool) (seq status : Nat) : State :=
  match s.dict.current with
  | some c =>
    if c.phase == .awaitTwin && c.shared && (own || c.seq == seq) then
      { s with dict.current := some { c with answer := some status } }
    else s
  | none => s

/-- The shared entries of the dictionary that hold a value of their own. -/
def State.sharedKeys (s : State) : List Nat := (Tab.keys s.dict.vals).filter isShared

/-- What a SYNC request brings: the values given; with `whole` also the shared entries and namespaces that the survivor does not have,
which go (R89, R90). -/
def State.takeShared (s : State) (ch : List Change) (ns : List NsSync) (whole : Bool) : State :=
  let gone := if whole then (s.sharedKeys.filter fun k => !ch.any fun c => c.1 == k).map fun (k : Nat) => ((k, none) : Change) else []
  let all := gone ++ ch
  let keep := all.any fun c => isPersistent c.1
  let s := (if keep then s.logRecords (changeRecords all ++ [(0, 8)]) else s).putChanges true all
  let s := ns.foldl (fun (s : State) x => s.syncNamespace x) s
  if !whole then s
  else
    let lost := s.nvme.namespaces.filter fun (n : Namespace) => decide (n.nsid ≤ 1020) && !ns.any fun x => x.nsid.toNat == n.nsid
    let s := lost.foldl (fun (s : State) n => s.syncNamespace
      { nsid := BitVec.ofNat 32 n.nsid, gone := true, lbas := 0, lbaf := 0, dps := 0, group := 0, attached := [], nguid := 0, guard64 := false, extended := true
        formatted := false, rekeyed := false }) s
    { s with twin.adopt := false, dict.owesAdopt := false }

/-- A SYNC request: on Isle 0 the values get the next sequence, take effect and go to Isle 1; on Isle 1 they take effect, or are those of its own
commit in hand, which then passes step 4. An Isle whose code store cannot take the records refuses (R89). -/
def State.syncRequest (s : State) (seq : Nat) (l : List SyncVal) (ns : List NsSync) (whole : Bool) : State :=
  let ch := l.map SyncVal.change
  let keep := ch.any fun c => isPersistent c.1
  let back (s : State) (seq status : Nat) : State :=
    s.sendSyncValue seq 0x87 status ((ch.head?.map fun c => c.1).getD 0) []
  if keep && s.cs.faulted then (back s seq aStoreFault).bump 0x1113 6
  else if !whole && !s.pkg.straps.isle && seq == 0 then
    let n := s.dict.pairSeq + 1
    ({ s with dict.pairSeq := n }.takeShared ch ns false).sendSync n ch
  else
    let s := { s with dict.pairSeq := max s.dict.pairSeq seq }
    let plain (l : List Change) : List (Nat × Nat) := l.map fun (x : Change) => (x.1, x.value)
    let own : Bool := match s.dict.current with
      | some c => !whole && c.phase == .awaitTwin && c.shared && plain ((s.changes c.vals).filter fun (x : Change) => isShared x.1) == plain ch
      | none => false
    if own then back (s.syncAnswer true seq 0) seq 0
    else if whole && !s.twin.adopt then back s seq 0
    else back (s.takeShared ch ns whole) seq 0

/-- SYNC: accepted only from the Strait; a response is no request and is not counted as one (R95). -/
def State.sync (s : State) (k : Link) (response : Bool) (seq : Nat) (l : List SyncVal) (ns : List NsSync) (whole : Bool) (status : Nat)
    (san : Option SanPart) : State :=
  s.frames 5 k (max 1 (syncFrames l ns)) fun s =>
    if response then s.syncAnswer false seq status
    else match san with
      | none => (s.bump 0x1113 1).syncRequest seq l ns whole
      | some p => ((s.bump 0x1113 1).twinSanitize p).sendSyncValue seq 0x87 0 0 []

end Sys2Proof.Machine
end

