-- ==== Sys2Proof/Machine/DictIo.lean ====
section
/-! DEFINITION. The dictionary's transports: reads, writes and transfers, NVMe commands, header requests over MCTP, 10BASE-T1S and the Strait, the
supervisor challenge, and the end of sessions (R60 to R63, R68 to R86, R91, R577, 02_object_dictionary.md). -/
namespace Sys2Proof.Machine

/-! ### Reads (R62, R70, R76) -/

/-- What a request on an entry comes to: an abort code, or a read's bytes with the total size of a snapshot. -/
structure ReadResult where
  status : Nat
  total : Option Nat
  bytes : List Byte

/-- An abort. -/
def ReadResult.abort (code : Nat) : ReadResult := ⟨code, none, []⟩

/-- The key of an entry's instance as a session names it: function 0 for a package-scoped entry. -/
def Session.key (x : Session) (r : EntryRow) (fn idx sub : Nat) : Nat :=
  ekey (if r.scope == .package then 0 else x.function fn) idx sub

/-- Whether a transfer is a session's own of an entry in a direction. -/
def Transfer.is (t : Transfer) (x : Session) (key : Nat) (write : Bool) : Bool := t.session == x && t.key == key && t.write == write

/-- A read segment (R70, R72): at offset 0 a snapshot is taken; later ones go on at its next byte; the last byte closes it. -/
def State.readSegment (s : State) (x : Session) (key off len : Nat) : State × ReadResult :=
  let others := s.dict.transfers.filter fun (t : Transfer) => !t.is x key false
  let give (s : State) (data : List Byte) : State × ReadResult :=
    let b := slice data off (min len (data.length - off))
    let next := off + b.length
    let l := if next < data.length then others ++ [Transfer.mk x key false data next s.pkg.timebase] else others
    ({ s with dict.transfers := l }, ⟨0, some data.length, b⟩)
  if len = 0 then (s, .abort aBadLength)
  else if off = 0 then
    if 16 ≤ others.length then (s, .abort aDomainBusy) else give s (s.domainBytes (keyIdx key) (keySub key))
  else match s.dict.transfers.find? fun t => t.is x key false with
    | some t => if t.next = off then give s t.data else (s, .abort aSegment)
    | none => (s, .abort aSegment)

/-- A read of an entry. -/
def State.readEntry (s : State) (x : Session) (fn idx sub : Nat) (staged segment : Bool) (off len : Nat) : State × ReadResult :=
  let a := s.accessCheck x idx sub false
  if a != 0 then (s, .abort a)
  else match entryRow? idx sub with
    | none => (s, .abort aNoSubindex)
    | some r =>
      if r.type.isDomain != segment then (s, .abort aSegment)
      else
        let key := x.key r fn idx sub
        if segment then s.readSegment x key off len
        else
          let mine := if staged then (s.stage x).vals.find? fun w => w.key == key else none
          let v := match mine with
            | some w => w.val
            | none => s.readVal x (keyFn key) idx sub
          let b := valueBytes r.type v
          if len < b.length then (s, .abort aBadLength) else (s, ⟨0, none, b⟩)

/-! ### Writes (R60, R61, R71, R72) -/

/-- A write segment: a transfer opens at offset 0, goes on without a gap and stages its value with the last segment; a segment out of
place discards it. Answers the abort code and whether a value has been staged. -/
def State.writeSegment (s : State) (x : Session) (key off limit : Nat) (last : Bool) (data : List Byte) : State × Nat × Bool :=
  let own := s.dict.transfers.find? fun t => t.is x key true
  let rest := s.dict.transfers.filter fun (t : Transfer) => !t.is x key true
  let drop : State := { s with dict.transfers := rest }
  let held := (own.map fun t => t.data).getD []
  let next := (own.map fun t => t.next).getD 0
  let whole := held ++ data
  if own.isNone && off != 0 then (s, aSegment, false)
  else if off != next then (drop, aSegment, false)
  else if own.isNone && (s.dict.transfers.any fun t => t.key == key && t.write) then (s, aDomainBusy, false)
  else if own.isNone && decide (16 ≤ s.dict.transfers.length) then (s, aDomainBusy, false)
  else if data.isEmpty || decide (limit < whole.length) then (drop, aBadLength, false)
  else if !last then
    ({ s with dict.transfers := rest ++ [Transfer.mk x key true whole whole.length s.pkg.timebase] }, 0, false)
  else
    let g := s.stage x
    match g.domain with
    | some (k, _) => if k = key then (drop.setStage { g with domain := some (key, whole) }, 0, true) else (drop, aStageFull, false)
    | none => (drop.setStage { g with domain := some (key, whole) }, 0, true)

/-- A write of a value: checked and staged. -/
def State.writeValue (s : State) (x : Session) (key : Nat) (r : EntryRow) (data : List Byte) : State × Nat :=
  let a := r.valueCheck data
  if a != 0 then (s, a)
  else match (s.stage x).put ⟨key, r.type.size, ofLe data⟩ with
    | some g => (s.setStage g, 0)
    | none => (s, aStageFull)

/-- Whether the tier map denies a session every commit and discard (R57). -/
def State.commitDenied (s : State) (x : Session) : Bool := x.tier == 0 && decide (0 < s.mapTier 0x1100)

/-- A discard: the stage is emptied (R63). -/
def State.discard (s : State) (x : Session) (dest : Reply) : State := (s.setStage ⟨x, [], none⟩).commitReply dest 0 0 0 0 0

/-- A commit asked for: queued behind those that have arrived. -/
def State.queueCommit (s : State) (x : Session) (dest : Reply) : State :=
  { s with dict.queue := s.dict.queue ++ [CommitReq.mk x dest] }

/-- A commit asked for with a write: with none ahead and no records to write, it is processed at once. -/
def State.commitAtOnce (s : State) (x : Session) (dest : Reply) : State :=
  let first := s.dict.queue.isEmpty && s.dict.current.isNone
  let keep := (s.changes (s.stage x).vals).any fun c => isPersistent c.1
  let s := s.queueCommit x dest
  if first && !keep then s.commitProcess true else s

/-- A write request with what its flags ask. -/
def State.writeRequest (s : State) (x : Session) (dest : Reply) (fn idx sub : Nat) (now segment last : Bool) (off : Nat) (data : List Byte) : State :=
  let isCommit := idx == 0x1100 && sub == 1
  let no (s : State) (a : Nat) : State := if now || isCommit then s.commitReply dest a 0 0 0 0 else s.abort dest a
  let ok (s : State) : State := s.reply dest 0 data.length 0 none []
  if now && s.commitDenied x then no s aNoObject
  else
    let a := s.accessCheck x idx sub true
    if a != 0 then no s a
    else match entryRow? idx sub with
      | none => no s aNoSubindex
      | some r =>
        let key := x.key r fn idx sub
        match r.type with
        | .domain limit =>
          if !segment then no s aSegment
          else
            let w := s.writeSegment x key off limit last data
            let t := w.1
            if w.2.1 != 0 then no t w.2.1
            else if now && w.2.2 then t.commitAtOnce x dest
            else ok t
        | _ =>
          if segment then no s aSegment
          else if isCommit then
            let b := r.valueCheck data
            if b != 0 then no s b else if ofLe data = 2 then s.discard x dest else s.commitAtOnce x dest
          else
            let w := s.writeValue x key r data
            let t := w.1
            if w.2 != 0 then no t w.2 else if now then t.commitAtOnce x dest else ok t

/-! ### NVMe admin (R75 to R78) -/

/-- A dictionary command fetched and taken; one whose session has a commit of its own under way waits (R78). -/
def State.nvmeDict (s : State) (r : Sqe) (w : Walk) (f : State → Session → Reply → State) : State :=
  let fn := r.fn.toNat
  let x := Session.nvme fn
  if s.committing x then s
  else s.admin r false fun s =>
    let dest := Reply.nvme fn r.sq.toNat r.cid.toNat w
    if fn != 0 && !bit (s.val 0x4F00 1) 0 then (s.accepted dest).abort dest aDisabled else f s x dest

/-- Whether a `LENGTH` is in the range of R75. -/
def nvmeLength (len : Nat) : Bool := decide (1 ≤ len) && decide (len ≤ 65536)

/-- DICTIONARY_READ. -/
def State.nvmeRead (s : State) (r : Sqe) (c : DictCdw) (w : Walk) : State :=
  s.nvmeDict r w fun s x dest =>
    if !nvmeLength c.len then s.answer r (sc 0 0x02) 0
    else if s.walkStatus r w c.len false != 0 then s.answer r (s.walkStatus r w c.len false) 0
    else
      let a := (s.accepted dest).readEntry x c.fn c.index c.sub c.flag c.segment c.offset c.len
      let v := a.2
      if v.status != 0 then a.1.abort dest v.status else a.1.reply dest 0 v.bytes.length (v.total.getD 0) none v.bytes

/-- DICTIONARY_WRITE. -/
def State.nvmeWrite (s : State) (r : Sqe) (c : DictCdw) (data : List Byte) (w : Walk) : State :=
  s.nvmeDict r w fun s x dest =>
    if !nvmeLength c.len then s.answer r (sc 0 0x02) 0
    else if s.walkStatus r w c.len true != 0 then s.answer r (s.walkStatus r w c.len true) 0
    else (s.accepted dest).writeRequest x dest c.fn c.index c.sub c.flag c.segment c.last c.offset (padTo c.len data)

/-- DICTIONARY_COMMIT and DICTIONARY_DISCARD. -/
def State.nvmeCommit (s : State) (r : Sqe) (action : Nat) : State :=
  s.nvmeDict r .ok fun s x dest =>
    if action != 1 && action != 2 then s.answer r (sc 0 0x02) 0
    else
      let s := s.accepted dest
      if s.commitDenied x then s.commitReply dest aNoObject 0 0 0 0
      else if action = 2 then s.discard x dest else s.queueCommit x dest

/-! ### Header requests (R79) -/

/-- A header as the model keeps it; reserved bits are ignored (R6). -/
def HdrIn.hdr (h : HdrIn) (op : Nat) : Hdr :=
  ⟨op, h.tag.toNat, h.index.toNat, h.sub.toNat, h.flags.toNat, h.offset.toNat, h.function.toNat, h.supervisor⟩

/-- Whether the response to a header request carries the 8-byte commit value. -/
def Hdr.commits (h : Hdr) : Bool := h.op == 3 || (h.op == 2 && (bit h.flags 0 || (h.index == 0x1100 && h.sub == 1)))

/-- A header request refused. -/
def State.refuse (s : State) (dest : Reply) (h : Hdr) (code : Nat) : State :=
  if h.commits then s.commitReply dest code 0 0 0 0 else s.abort dest code

/-- A READ, WRITE or COMMIT header request of a session served. A COMMIT whose value is not one byte, or whose `ACTION` is not 1 or 2, is
answered as an entry's value would be (log 132). -/
def State.serve (s : State) (x : Session) (q : HdrReq) : State :=
  let h := q.h
  let dest := Reply.header q.via h
  match h.op with
  | 1 =>
    let a := s.readEntry x h.function h.index h.sub (bit h.flags 0) (bit h.flags 1) h.offset q.len
    let v := a.2
    if v.status != 0 then a.1.abort dest v.status else a.1.reply dest 0 0 0 v.total v.bytes
  | 2 => s.writeRequest x dest h.function h.index h.sub (bit h.flags 0) (bit h.flags 1) (bit h.flags 2) h.offset q.value
  | _ =>
    if q.value.length != 1 then s.refuse dest h aBadLength
    else
      let action := ofLe q.value
      if action != 1 && action != 2 then s.refuse dest h aBadValue
      else if s.commitDenied x then s.refuse dest h aNoObject
      else if action = 2 then s.discard x dest else s.queueCommit x dest

/-- Whether a request is whole at frame level: its `VERSION`, and a `LENGTH` that agrees with the bytes present and is in the range of R79; one
outside the range is taken as damage of the frame (R91, log 129). -/
def HdrIn.frameOk (h : HdrIn) (op : Nat) (value : List Byte) : Bool :=
  h.version == 1 && decide (h.length.toNat ≤ 1024) &&
    if op = 1 then decide (1 ≤ h.length.toNat) && value.isEmpty else h.length.toNat == value.length

/-- A header request as it came by a transport. -/
def HdrIn.req (h : HdrIn) (op : Nat) (value : List Byte) (via : Via) : HdrReq := ⟨via, h.hdr op, h.length.toNat, value⟩

/-! ### MCTP over I3C (R80, R81) -/

/-- An MCTP request executed: refused where the transport is disabled, or where it asks for tier 3. -/
def State.mctpRun (s : State) (eid : Nat) (q : HdrReq) : State :=
  let dest := Reply.header q.via q.h
  if !bit (s.val 0x4F00 1) 1 then s.refuse dest q.h aDisabled
  else if q.h.supervisor || decide (4 ≤ q.h.op) then s.refuse dest q.h aTier
  else s.serve (.mctp eid) q

/-- An MCTP request that arrives: eight endpoints have sessions, each holding up to four requests answered in order; one more is dropped. -/
def State.mctpReceive (s : State) (eid : Nat) (ic : Bool) (check : Nat) (op : Nat) (h : HdrIn) (value : List Byte) : State :=
  let q := h.req op value (.mctp eid ic)
  if !s.serving then s
  else if !h.frameOk op value || (ic && crc32c (mctpBody ic (h.bytes op value)) != check) then s.bump 0x1111 2
  else
    let known := s.dict.mctp.any fun m => m.eid == eid
    if !known && decide (8 ≤ s.dict.mctp.length) then s.bump 0x1111 5
    else
      let s := if known then s else { s with dict.mctp := s.dict.mctp ++ [McSession.mk eid []] }
      let waiting := ((s.dict.mctp.find? fun m => m.eid == eid).map fun m => m.waiting).getD []
      if s.committing (.mctp eid) then
        if 4 ≤ waiting.length + 1 then s.bump 0x1111 5
        else
          let l := updateIf (fun (m : McSession) => m.eid == eid) (fun (m : McSession) => { m with waiting := m.waiting ++ [q] }) s.dict.mctp
          { s with dict.mctp := l }.bump 0x1111 1
      else (s.bump 0x1111 1).mctpRun eid q

/-- The next waiting request of an endpoint whose commit has ended. -/
def State.mctpNext (s : State) : Option (Nat × HdrReq) :=
  (s.dict.mctp.find? fun m => !m.waiting.isEmpty && !s.committing (.mctp m.eid)).bind fun m => m.waiting.head?.map fun q => (m.eid, q)

/-- Waiting requests executed, at most so many. -/
def State.mctpDrain : Nat → State → State
  | 0, s => s
  | n + 1, s =>
    match s.mctpNext with
    | none => s
    | some (eid, q) =>
      let l := updateIf (fun (m : McSession) => m.eid == eid) (fun (m : McSession) => { m with waiting := m.waiting.drop 1 }) s.dict.mctp
      State.mctpDrain n ({ s with dict.mctp := l }.mctpRun eid q)

/-- Requests that waited behind a commit, once it has ended (R81). -/
def State.afterCommits (s : State) : State := State.mctpDrain 32 s

/-- An MCTP endpoint's session ends with its requests (R68). -/
def State.mctpGone (s : State) (eid : Nat) : State :=
  let s := s.dropSession (.mctp eid)
  { s with dict.mctp := s.dict.mctp.filter fun (m : McSession) => m.eid != eid }

/-- I3C_BUS_RESET. -/
def State.i3cReset (s : State) : State := s.dict.mctp.foldl (fun (s : State) m => s.mctpGone m.eid) s

/-! ### 10BASE-T1S (R82 to R86) -/

/-- The bus key. -/
def State.busKey (s : State) : List Byte := leBytes 32 (s.val 0x4F20 1)

/-- The supervisor key, where one is set. -/
def State.supervisorKey (s : State) : Option (List Byte) := if s.flag 0x4F20 3 then some (leBytes 32 (s.val 0x4F20 2)) else none

/-- The peer entry of an address. -/
def State.peer? (s : State) (mac : Nat) : Option Peer := s.dict.peers.find? fun p => p.mac == mac

/-- A peer entry changed. -/
def State.onPeer (s : State) (mac : Nat) (f : Peer → Peer) : State :=
  { s with dict.peers := updateIf (fun (p : Peer) => p.mac == mac) f s.dict.peers }

/-- Whether a sequence is one a peer has not seen and whose window still covers it (R84). -/
def Peer.fresh (p : Peer) (seq : Nat) : Bool :=
  !(seq == 0 || decide (seq + 64 ≤ p.high) || (decide (seq ≤ p.high) && p.seen.getLsbD (p.high - seq)))

/-- A sequence marked as seen; bit n stands for the highest less n. -/
def Peer.mark (p : Peer) (seq : Nat) (now : Word) : Peer :=
  if p.high < seq then { p with high := seq, seen := (p.seen <<< (seq - p.high)) ||| 1, last := now }
  else { p with seen := p.seen ||| ((1 : BitVec 64) <<< (p.high - seq)), last := now }

/-- A frame that passes every check of R84 runs `f` with the key it is tagged under; it is counted as accepted by `f`. -/
def State.t1sReceive (s : State) (dst mac seq : Nat) (auth : List Byte) (op : Nat) (h : HdrIn) (value : List Byte) (f : State → HdrReq → State) : State :=
  if !s.serving then s
  else if !h.frameOk op value then s.bump 0x1112 2
  else
    let key := if h.supervisor then (s.peer? mac).bind fun p => p.session else some s.busKey
    match key with
    | none => s.bump 0x1112 3
    | some k =>
      if s.authTag k (t1sFrame dst mac seq (h.bytes op value)) != auth then s.bump 0x1112 3
      else
        let known := (s.peer? mac).isSome
        if !known && decide (16 ≤ s.dict.peers.length) then s.bump 0x1112 5
        else
          let s := if known then s else { s with dict.peers := s.dict.peers ++ [Peer.mk mac 0 0 s.pkg.timebase none none] }
          match s.peer? mac with
          | none => s
          | some p =>
            if !p.fresh seq then s.bump 0x1112 4
            else f (s.onPeer mac fun p => p.mark seq s.pkg.timebase) (h.req op value (.t1s dst mac seq k))

/-- The enable bit a 10BASE-T1S request needs (R577). -/
def Hdr.t1sBit (h : Hdr) : Nat := if h.supervisor || h.op == 5 || h.op == 6 then 3 else 2

/-- A READ, WRITE, COMMIT or foreign SYNC over 10BASE-T1S executed: at once, also while a commit of the session waits, whose stage a value written then
joins (log 133). -/
def State.t1sRun (s : State) (mac : Nat) (q : HdrReq) : State :=
  let dest := Reply.header q.via q.h
  let s := s.accepted dest
  if !bit (s.val 0x4F00 1) q.h.t1sBit then s.refuse dest q.h aDisabled
  else if q.h.op = 7 then s.refuse dest q.h aTier
  else s.serve (.t1s mac q.h.supervisor) q

/-! ### Requests from anywhere -/

/-- A request on a management port. -/
def State.portRequest (s : State) (p : MgmtPort) (op : Nat) (h : HdrIn) (value : List Byte) : State :=
  match p with
  | .mctp eid ic check => s.mctpReceive eid.toNat ic check.toNat op h value
  | .t1s dst mac seq auth => s.t1sReceive dst.toNat mac.toNat seq.toNat auth op h value fun s q => s.t1sRun mac.toNat q

/-- A request on a management port or on the Strait, whose session is tier 3 and cannot be disabled (R95). -/
def State.headerRequest (s : State) (o : Sender) (op : Nat) (h : HdrIn) (value : List Byte) : State :=
  match o with
  | .port p => s.portRequest p op h value
  | .strait l => s.frame 5 l fun s =>
      if !h.frameOk op value then s.bump 0x1113 2 else (s.bump 0x1113 1).serve .strait (h.req op value .strait)

/-- GET_EPOCH: answered before any check of tag or sequence, under the bus key (R83, R84, R577). -/
def State.getEpoch (s : State) (p : MgmtPort) (h : HdrIn) (value : List Byte) : State :=
  match p with
  | .mctp eid ic check => s.mctpReceive eid.toNat ic check.toNat 4 h value
  | .t1s dst mac seq _ =>
    if !s.serving then s
    else if !h.frameOk 4 value || h.supervisor then s.bump 0x1112 2
    else
      let dest := Reply.header (.t1s dst.toNat mac.toNat seq.toNat s.busKey) (h.hdr 4)
      let s := s.bump 0x1112 1
      if bit (s.val 0x4F00 1) 2 || bit (s.val 0x4F00 1) 3 then s.reply dest 0 0 0 none (leBytes 8 s.dict.epoch.toNat)
      else s.abort dest aDisabled

/-- A MAC address's record of failed ANSWERs. -/
def State.authRecord (s : State) (mac : Nat) : AuthRecord := Tab.get s.dict.auth ⟨0, none⟩ mac

/-- Such a record given. -/
def State.setAuth (s : State) (mac : Nat) (a : AuthRecord) : State := { s with dict.auth := Tab.set s.dict.auth ⟨0, none⟩ mac a }

/-- Whether an address's CHALLENGEs are dropped now. -/
def State.lockedOut (s : State) (mac : Nat) : Bool :=
  match (s.authRecord mac).lockedAt with
  | some t => decide (s.since t < usTicks (1000000 * s.val 0x4F20 4))
  | none => false

/-- CHALLENGE (R86 step 1). R86 speaks of frames under the bus key; one under a supervisor session's key is taken too, and answered under that
key (log 130). -/
def State.challenge (s : State) (p : MgmtPort) (h : HdrIn) (value : List Byte) : State :=
  match p with
  | .mctp eid ic check => s.mctpReceive eid.toNat ic check.toNat 5 h value
  | .t1s dst mac seq auth =>
    s.t1sReceive dst.toNat mac.toNat seq.toNat auth 5 h value fun s q =>
      let dest := Reply.header q.via q.h
      if !bit (s.val 0x4F00 1) 3 then (s.bump 0x1112 1).abort dest aDisabled
      else if s.lockedOut mac.toNat then s.bump 0x1112 3
      else
        let n := (s.bump 0x1112 1).random 32
        let nonce := padTo 32 n.1
        (n.2.onPeer mac.toNat fun p => { p with nonce := some (nonce, s.pkg.timebase) }).reply dest 0 0 0 none nonce

/-- An ANSWER that does not match: counted, and the third in a row locks its address out (R86 step 4). -/
def State.mismatch (s : State) (mac : Nat) (dest : Reply) : State :=
  let s := s.bump 0x1112 3
  let n := (s.authRecord mac).misses + 1
  let s := if 3 ≤ n then s.setAuth mac ⟨0, some s.pkg.timebase⟩ else s.setAuth mac { s.authRecord mac with misses := n }
  s.abort dest aAuth

/-- ANSWER (R86 steps 2 to 4). A match while a session is open replaces it and discards its stage (log 131). -/
def State.answerChallenge (s : State) (p : MgmtPort) (h : HdrIn) (value : List Byte) : State :=
  match p with
  | .mctp eid ic check => s.mctpReceive eid.toNat ic check.toNat 6 h value
  | .t1s dst mac seq auth =>
    s.t1sReceive dst.toNat mac.toNat seq.toNat auth 6 h value fun s q =>
      let dest := Reply.header q.via q.h
      let m := mac.toNat
      let s := s.bump 0x1112 1
      if !bit (s.val 0x4F00 1) 3 then s.abort dest aDisabled
      else
        let held := (s.peer? m).bind fun p => p.nonce
        let s := s.onPeer m fun p => { p with nonce := none }
        match held, s.supervisorKey with
        | some (n, t), some k =>
          if s.since t < usTicks 10000000 ∧ value = hmac256 k (n ++ beBytes 6 m ++ leBytes 8 s.dict.epoch.toNat) then
            let s := (s.setAuth m { s.authRecord m with misses := 0 }).dropSession (.t1s m true)
            (s.onPeer m fun p => { p with session := some (hmac256 k (textBytes "SESS" ++ n)) }).reply dest 0 0 0 none []
          else s.mismatch m dest
        | _, _ => s.mismatch m dest

/-- SYNC: from the Strait, or a foreign one, which is refused (R80, R88). -/
def State.syncMessage (s : State) (m : SyncMsg) : State :=
  match m with
  | .strait l response seq vals ns whole status san => s.sync l response seq.toNat vals ns whole status.toNat san
  | .port p h value => s.portRequest p 7 h value

/-! ### What time ends (R70, R71, R84, R86) -/

/-- NONCE_EXPIRY. -/
def State.nonceExpiry (s : State) (mac : Nat) : State :=
  match (s.peer? mac).bind fun p => p.nonce with
  | some (_, t) => if s.since t < usTicks 10000000 then s else s.onPeer mac fun p => { p with nonce := none }
  | none => s

/-- CHALLENGE_LOCKOUT_EXPIRY. -/
def State.lockoutExpiry (s : State) (mac : Nat) : State :=
  match (s.authRecord mac).lockedAt with
  | some _ => if s.lockedOut mac then s else s.setAuth mac { s.authRecord mac with lockedAt := none }
  | none => s

/-- DOMAIN_TRANSFER_TIMEOUT of the transfer in a place of the list. -/
def State.transferTimeout (s : State) (n : Nat) : State :=
  match s.dict.transfers[n]? with
  | some t =>
    if s.since t.last < usTicks 60000000 then s else { s with dict.transfers := s.dict.transfers.filter fun (u : Transfer) => u != t }
  | none => s

/-- PEER_IDLE_TIMEOUT: the entry is freed and its sessions end. -/
def State.peerIdle (s : State) (mac : Nat) : State :=
  match s.peer? mac with
  | some p =>
    if s.since p.last < usTicks (1000000 * s.val 0x4F00 2) then s
    else
      let s := (s.dropSession (.t1s mac false)).dropSession (.t1s mac true)
      { s with dict.peers := s.dict.peers.filter fun (q : Peer) => q.mac != mac }
  | none => s

end Sys2Proof.Machine
end

