-- ==== Sys2Proof/Machine/Integrity.lean ====
section
/-! DEFINITION. Background checking, and what an uncorrectable error in control traffic brings down (R19, R180, R356 to R358, R369,
11_data_integrity.md). -/
namespace Sys2Proof.Machine

/-- LEAK_INTERVAL_EXPIRY of a class: every bucket of it falls by 1, never below 0 (R357). -/
def State.leak (s : State) (cls : Fin 7) : State :=
  let r := classInstances cls.val
  if !s.powered then s
  else
    let l := (List.range r.2).foldl (fun t i => Tab.set t 0 (r.1 + i) (Tab.get t 0 (r.1 + i) - 1)) s.integ.buckets
    { s with integ.buckets := l }

/-- DRAM_SCRUB_READ of a burst: a correction is counted and written back in class 4; what cannot be corrected is marked as poison (R358, R364). -/
def State.dramScrub (s : State) (addr : Nat) (e : Ecc) : State :=
  let b := burstOf addr * 64
  let c := (s.placeOf b).chan
  let q : Requester := ⟨5, 0⟩
  if !s.serving || !s.dram.trained || s.dramSize ≤ b then s
  else
    let s := s.setDchan c { s.dchan c with selfRefresh := false, lastReq := s.pkg.timebase }
    match e with
    | .clean => s
    | .corrected => (s.corrected 0 c q b).writeBack b 4
    | .uncorrectable => if s.mem.poisoned b 64 then s else s.uncorrectable 0 c q b

/-- The command that read a map entry in error ends with Internal Error (R256). -/
def State.stopUnread (s : State) (order : Nat) : State :=
  match s.cmd? order with
  | some c => if c.past then s else s.stopCmd order (some (sc 0 0x06))
  | none => s

/-- An uncorrectable error in a pool's state table, ring or cache: a tenant pool is faulted until the next package reset, and with pool 0
the package is (R544). -/
def State.poolFault (s : State) (p : Nat) : State :=
  if p = 0 then s.packageFault else (s.setPool p { s.pool p with state := 2 }).poolLevel p

/-- The pool an `ALLOC` of a core takes from. -/
def State.allocPool (s : State) (n : Nat) : AllocAt → Nat
  | .hub p => p.val
  | .port => if (s.bufPort n).tenant then (s.bufPort n).pool else (s.bufPort n).select

/-- Whether an `ALLOC` of a core reads a cache of its pool: a pool that is not ready, a tenant's port without a pool or at its quota, and
caches that hold nothing are not read (R538 to R540). -/
def State.allocReads (s : State) (n : Nat) (w : AllocAt) : Bool :=
  let q := s.bufPort n
  let p := s.allocPool n w
  let cached := !(s.pool p).cache.isEmpty
  w.reach n && (s.pool p).state == 1 &&
    match w with
    | .hub _ => cached
    | .port =>
      if q.tenant then q.pool != 0 && decide (s.fval q.fn 0x4020 1 < s.fval q.fn 0x4010 2) && cached
      else cached || (decide (q.select = 0) && decide (n < 128) && !(s.regionCache (coreRegion n)).isEmpty)

/-- ALLOC with what the read of a cache met: `lost` is an uncorrectable error, at an address that is not given (R544, log 78). -/
def State.allocRead (s : State) (n : Nat) (w : AllocAt) (lost : Bool) : State :=
  if lost && s.allocReads n w then
    let a := s.draw
    ((a.2.controlError 4 160 (coreReq n) (a.1.toNat % 2 ^ 48)).poolFault (s.allocPool n w)).alloc n w
  else s.alloc n w

/-- What an uncorrectable error in control traffic brings down beside its requester (R180, R369); `second` says that a journal record's other
copy was in error before (R370). -/
def State.controlFault (s : State) (u : DramUse) (second : Bool) : State :=
  match u with
  | .payload | .own => s
  | .journal _ => if second then s.packageFault else s
  | .queueState fn => s.fatal fn.toNat 3
  | .completion fn => s.fatal fn.toNat 4
  | .region r => s.regionFault r.val 2
  | .mapEntry i seg order => (s.onSet i fun x =>
      if x.badSegments.contains seg.toNat then x else { x with badSegments := x.badSegments ++ [seg.toNat] }).stopUnread order
  | .pool p => s.poolFault p.val
  | .hub => s.packageFault

/-- DRAM_REQUEST: the controllers' step, and what an uncorrectable control read brings down. -/
def State.dramStep (s : State) (op : DramOp) : State :=
  match op with
  | .issue c sub busy _ .uncorrectable =>
    match s.nextReq c.val sub.val (busy.map fun b => b.val) with
    | some r => if r.write.isNone then (s.dramRequest op).controlFault r.use_ r.bad.isSome else s.dramRequest op
    | none => s.dramRequest op
  | op => s.dramRequest op

end Sys2Proof.Machine
end

