-- ==== Sys2Proof/Machine/Settle.lean ====
section
/-! DEFINITION. What follows a command's own effect: ended work handed on, and the few commands that are no more than a sequence of
operations of several chapters (03_host_interface.md, 06_flash_media.md, 10_twin.md, 18_buffers_and_events.md). -/
namespace Sys2Proof.Machine

/-- Ended media work handed to the firmware that waits for it, and a failback carried on when its group's work is done (R273, R348). -/
def State.worked (s : State) : State := s.drained.postMore.failbackStep

/-- Work of the firmware that needs the fabric. -/
def State.fw (s : State) (f : State → State) : State := if s.powered then (f s).worked else s

/-- Work of the firmware that a flush stops (R296). -/
def State.bg (s : State) (f : State → State) : State := if s.serving then (f s).worked else s

/-- Writes that waited for their records complete, and buffers are released (R273, R275). -/
def State.landed (s : State) : State := s.settleWrites.releaseDirty.worked

/-- A read by the scheduler or a port's check of its region's own tables in staging: an uncorrectable error takes the region offline
(R15, R369). The place of an entry is not given, so the record's address is a free value (log 78). -/
def State.regionTable (s : State) (r : Fin 4) (q : Requester) (e : Ecc) (f : State → State) : State :=
  match e with
  | .clean => f s
  | .corrected => let a := s.draw
    f (a.2.corrected 1 (8 + r.val) q (a.1.toNat % 2 ^ 48))
  | .uncorrectable => let a := s.draw
    (a.2.controlError 1 (8 + r.val) q (a.1.toNat % 2 ^ 48)).regionFault r.val 2

/-- The scheduler's reads of ready lists. The spec gives it no requester type; it is shown as DMA (log 78). -/
def State.readyLists (s : State) (r : Fin 4) (e : Ecc) (f : State → State) : State := s.regionTable r ⟨4, r.val⟩ e f

/-- A port's reads of the write-pointer table. -/
def State.wpTable (s : State) (c : Fin 32) (e : Ecc) (f : State → State) : State :=
  s.regionTable ⟨c.val / 8, by omega⟩ ⟨2, c.val⟩ e f

/-- The command a host read belongs to. -/
def MOp.hostOrder (o : MOp) : Option Nat :=
  match o.origin with
  | .host order _ => some order
  | _ => none

/-- A sense's end, and the class-0 charge on its die released (R155). -/
def State.senseDone (s : State) (c l : Nat) : State :=
  match (s.lun c l).ops.find? fun o => o.holds && !o.sensed with
  | none => s
  | some o =>
    match o.hostOrder with
    | none => s.senseEnd c l
    | some n => (s.senseEnd c l).releaseCharge n o true

/-- A transfer's end, and the class-0 charge on its channel released (R155). -/
def State.transferDone (s : State) (c : Nat) : State :=
  match (s.nextTransfer c).bind (s.findOp c) with
  | none => s.transferEnd c
  | some p =>
    match p.2.hostOrder with
    | none => s.transferEnd c
    | some n => (s.transferEnd c).releaseCharge n p.2 false

/-- What a command may change of a namespace's keys, sent to the twin (R484). -/
def State.keyed (s : State) (f : State → State) : State := (f s).syncKeys s.nvme.namespaces

/-- ABORT: successful, reporting that the command was not aborted (R113, R143). -/
def State.abortCmd (s : State) (r : Sqe) : State := s.admin r true fun s => s.answer r 0 1

/-- POISONED_TLP_RECEIVED of data; poison in an entry or a list is a failed read of it (R99). -/
def State.poisoned (s : State) (r : Sqe) (what : HostRead) : State :=
  if what == .data then s.poisonedTlp r else s.hostReadFailed r what .timeout

/-- PCIE_LINK_TRAINING_DONE at one of six rates and five widths; the rate is at most `TARGET_LINK_SPEED`. The link runs in Flit mode at 64 GT/s,
and below it where the partner advertises it too; `reversed` is lane reversal, which the device detects (R96). -/
def State.pcieTrained (s : State) (rate : Fin 6) (width : Fin 5) (flit reversed : Bool) : State :=
  if s.pkg.perst then s
  else
    let s := if s.pkg.linkSpeed = 0 then s else s.bump 0x3000 3
    let speed := min (rate.val + 1) (s.val 0x3000 4)
    { s with
      pkg.linkSpeed := speed, pkg.linkWidth := 2 ^ width.val, pkg.linkFlit := decide (speed = 6) || flit, pkg.laneReversed := reversed }

/-- RESERVED_OP_FRAME on 10BASE-T1S or MCTP: dropped unanswered and counted (R91). -/
def State.droppedFrame (s : State) (t1s : Bool) : State :=
  if s.serving then s.bump (if t1s then 0x1112 else 0x1111) 2 else s

/-- REGION_ONLINE; a region back in service is given its engine queues again (R16). -/
def State.regionOnlineAgain (s : State) (r : Fin 4) : State :=
  let t := s.regionAdmitted r.val
  if s.regionState r.val == .admitting && t.regionState r.val == .online then { t.assignRegion r.val with pkg := t.pkg } else t

/-- HELLO_ACK; as a pair forms, an Isle that has nothing to adopt itself sends its shared entries, which a twin that is to adopt them takes
(R64, R90, R326, log 30). -/
def State.paired (s : State) (l : Link) : State :=
  let t := s.helloAck l
  if s.twin.pair != .resync && t.twin.pair == .resync && !t.twin.adopt then t.sendShared else t

/-- Engine work of a region, after which queues that wait to be released are looked at. -/
def State.onEng (s : State) (r : Fin 4) (k : EngKind) (f : State → Nat → State) : State := (f s (engKey r k)).trimEngine (engKey r k)

/-- Work on one queue of an engine. -/
def State.onEngQ (s : State) (r : Fin 4) (k : EngKind) (q : Fin 64) (f : State → Nat → State) : State :=
  s.onEng r k fun s ek => f s (64 * ek + q.val)

/-- Work on the ternary table, which serves the match queues of every region. -/
def State.onTern (s : State) (f : State → State) : State :=
  ([0, 1, 2, 3] : List (Fin 4)).foldl (fun (s : State) r => s.trimEngine (engKey r .pat)) (f s)

/-- ENGINE_ENABLE. -/
def State.engineOn (s : State) (r : Fin 4) (k : EngKind) (on : Bool) : State :=
  s.onEng r k fun s ek =>
    let s := s.engEnable ek on
    if k == .pat && on then State.resumeLanes ek 4 s else s

/-- XIP_FETCH by a core, of 4 or 8 bytes in the window; a load gives its value (R242). -/
def State.xipFetch (s : State) (n : Fin 132) (addr : Nat) (wide : Bool) (e : Ecc) : State :=
  let len := if wide then 8 else 4
  match s.xipAccess addr len e (coreReq n.val) with
  | (.bytes b, t) => t.emit (.value n.val (ofLe b))
  | (_, t) => t

/-- A handle written to a port, or by a supervisor core to the hub (R542, R545, R546). -/
def State.handleWrite (s : State) (n : Fin 132) (hub : Bool) (f : State → Option Nat → Option Nat → State) : State :=
  if hub then (if isSupCore n.val then f s none none else s)
  else f s (s.portTenant n.val) (portRegion n.val)

/-- QUERY by a supervisor core (R545). -/
def State.queryHandle (s : State) (n : Fin 132) (h : Nat) : State := if isSupCore n.val then { s with bpm.query := h } else s

/-- A claim for a target by a core that reaches the event controller, and the source it reads (R550, R555). -/
def State.claimAt (s : State) (n : Fin 132) (t : Nat) : State :=
  if isSupCore n.val || s.isReserved n.val then (s.claim t).1.emit (.value n.val (s.claim t).2) else s

/-- A completion for a target by a core that reaches the event controller. -/
def State.completeAt (s : State) (n : Fin 132) (t src : Nat) : State :=
  if isSupCore n.val || s.isReserved n.val then s.complete t src else s

end Sys2Proof.Machine
end

