-- ==== Sys2Proof/Machine/CmdDict.lean ====
section
/-! DEFINITION. The meanings of the commands of the object dictionary and its transports (02_object_dictionary.md): each one operation over the state. -/
namespace Sys2Proof.Machine

/-- DICTIONARY_READ (R76). -/
def execDictionaryRead (q : Sqe) (c : DictCdw) (w : Walk) (s : State) : Done :=
  s.done ((s.nvmeRead q c w).afterCommits)

/-- DICTIONARY_WRITE (R60). -/
def execDictionaryWrite (q : Sqe) (c : DictCdw) (data : List Byte) (w : Walk) (s : State) : Done :=
  s.done ((s.nvmeWrite q c data w).afterCommits)

/-- DICTIONARY_COMMIT (R64). -/
def execDictionaryCommit (q : Sqe) (cdw10 : BitVec 32) (s : State) : Done := s.done ((s.nvmeCommit q (cdw10.toNat % 256)).afterCommits)

/-- DICTIONARY_DISCARD (R63). -/
def execDictionaryDiscard (q : Sqe) (s : State) : Done := s.done ((s.nvmeCommit q 2).afterCommits)

/-- HEADER_READ (R79). -/
def execHeaderRead (o : Sender) (h : HdrIn) (value : List Byte) (s : State) : Done :=
  s.done ((s.headerRequest o 1 h value).afterCommits)

/-- HEADER_WRITE (R79). -/
def execHeaderWrite (o : Sender) (h : HdrIn) (value : List Byte) (s : State) : Done :=
  s.done ((s.headerRequest o 2 h value).afterCommits)

/-- HEADER_COMMIT (R79). -/
def execHeaderCommit (o : Sender) (h : HdrIn) (value : List Byte) (s : State) : Done :=
  s.done ((s.headerRequest o 3 h value).afterCommits)

/-- HEADER_DISCARD (R79). -/
def execHeaderDiscard (o : Sender) (h : HdrIn) (value : List Byte) (s : State) : Done := s.done ((s.headerRequest o 3 h value).afterCommits)

/-- GET_EPOCH (R83). -/
def execGetEpoch (p : MgmtPort) (h : HdrIn) (value : List Byte) (s : State) : Done := s.done (s.getEpoch p h value)

/-- CHALLENGE (R86). -/
def execChallenge (p : MgmtPort) (h : HdrIn) (value : List Byte) (s : State) : Done := s.done (s.challenge p h value)

/-- ANSWER (R86). -/
def execAnswer (p : MgmtPort) (h : HdrIn) (value : List Byte) (s : State) : Done := s.done ((s.answerChallenge p h value).afterCommits)

/-- NONCE_EXPIRY (R86). -/
def execNonceExpiry (mac : BitVec 48) (s : State) : Done := s.done (s.nonceExpiry mac.toNat)

/-- CHALLENGE_LOCKOUT_EXPIRY (R86). -/
def execChallengeLockoutExpiry (mac : BitVec 48) (s : State) : Done := s.done (s.lockoutExpiry mac.toNat)

/-- SYNC (R89). -/
def execSync (m : SyncMsg) (s : State) : Done := s.done ((s.syncMessage m).afterCommits)

/-- RESERVED_OP_FRAME (R91). -/
def execReservedOpFrame (t1s : Bool) (s : State) : Done := s.done (s.droppedFrame t1s)

/-- COMMIT_PROCESS (R64). -/
def execCommitProcess (written : Bool) (s : State) : Done :=
  s.done ((s.commitProcess written).afterCommits.worked)

/-- COMMIT_SHARED_APPLIED (R64). -/
def execCommitSharedApplied (s : State) : Done := s.done (s.sharedApplied.afterCommits)

/-- COMMIT_MARKER_WRITTEN (R64). -/
def execCommitMarkerWritten (ok : Bool) (s : State) : Done := s.done ((s.markerWritten ok).afterCommits)

/-- DOMAIN_TRANSFER_TIMEOUT (R71). -/
def execDomainTransferTimeout (n : BitVec 8) (s : State) : Done := s.done (s.transferTimeout n.toNat)

/-- PEER_IDLE_TIMEOUT (R84). -/
def execPeerIdleTimeout (mac : BitVec 48) (s : State) : Done := s.done ((s.peerIdle mac.toNat).afterCommits)

/-- I3C_BUS_RESET (R68). -/
def execI3cBusReset (s : State) : Done := s.done (s.i3cReset.afterCommits)

/-- MCTP_ENDPOINT_REMOVED (R68). -/
def execMctpEndpointRemoved (eid : BitVec 8) (s : State) : Done := s.done ((s.mctpGone eid.toNat).afterCommits)

end Sys2Proof.Machine
end

