-- ==== Sys2Proof/Machine/CmdEngine.lean ====
section
/-! DEFINITION. The meanings of the commands of the region engines and the ternary table (14_compression.md, 15_cipher_and_digest.md, 16_match_engine.md): each one operation over the state. -/
namespace Sys2Proof.Machine

/-- ENGINE_ENABLE (R467). -/
def execEngineEnable (r : Fin 4) (k : EngKind) (on : Bool) (s : State) : Done := s.done (s.engineOn r k on)

/-- ENGINE_DESC_DOORBELL (R456). -/
def execEngineDescDoorbell (r : Fin 4) (k : EngKind) (q : Fin 64) (tail : Fin 64) (busErr : Bool) (s : State) : Done :=
  s.done (s.onEngQ r k q fun s qk => s.engDoorbell qk tail.val busErr)

/-- CONTEXT_RING_RESET (R466). -/
def execContextRingReset (r : Fin 4) (q : Fin 64) (s : State) : Done := s.done (s.onEngQ r .comp q fun s qk => s.engRingReset qk)

/-- OPEN (R456). -/
def execCompOpen (r : Fin 4) (pipe : Fin 2) (s : State) : Done := s.done (s.onEng r .comp fun s ek => s.compOpen ek pipe.val)

/-- DATA (R453). -/
def execCompData (r : Fin 4) (pipe : Fin 2) (s : State) : Done := s.done (s.onEng r .comp fun s ek => s.compData ek pipe.val)

/-- RESUME (R459). -/
def execCompResume (r : Fin 4) (pipe : Fin 2) (s : State) : Done := s.done (s.onEng r .comp fun s ek => s.compResume ek pipe.val)

/-- CLOSE (R456). -/
def execCompClose (r : Fin 4) (pipe : Fin 2) (s : State) : Done := s.done (s.onEng r .comp fun s ek => s.compClose ek pipe.val)

/-- COMP_BOUNDARY (R463). -/
def execCompBoundary (r : Fin 4) (pipe : Fin 2) (n : BitVec 16) (s : State) : Done :=
  s.done (s.onEng r .comp fun s ek => s.boundary ek pipe.val n.toNat)

/-- XTS_ENC (R475). -/
def execXtsEnc (r : Fin 4) (s : State) : Done := s.done (s.onEng r .cipher fun s ek => s.xtsOp ek true)

/-- XTS_DEC (R475). -/
def execXtsDec (r : Fin 4) (s : State) : Done := s.done (s.onEng r .cipher fun s ek => s.xtsOp ek false)

/-- GCM_ENC (R476). -/
def execGcmEnc (r : Fin 4) (s : State) : Done := s.done (s.onEng r .cipher fun s ek => s.gcmOp ek true)

/-- GCM_DEC (R477). -/
def execGcmDec (r : Fin 4) (s : State) : Done := s.done (s.onEng r .cipher fun s ek => s.gcmOp ek false)

/-- KW_WRAP (R473). -/
def execKwWrap (r : Fin 4) (s : State) : Done := s.done (s.onEng r .cipher fun s ek => s.kwOp ek true)

/-- KW_UNWRAP (R473). -/
def execKwUnwrap (r : Fin 4) (s : State) : Done := s.done (s.onEng r .cipher fun s ek => s.kwOp ek false)

/-- KEY_IMPORT (R481). -/
def execKeyImport (r : Fin 4) (s : State) : Done := s.done (s.onEng r .cipher fun s ek => s.keyImport ek)

/-- KEY_UNWRAP_LOAD (R481). -/
def execKeyUnwrapLoad (r : Fin 4) (s : State) : Done := s.done (s.onEng r .cipher fun s ek => s.keyUnwrapLoad ek)

/-- KEY_GENERATE (R481). -/
def execKeyGenerate (r : Fin 4) (s : State) : Done := s.done (s.onEng r .cipher fun s ek => s.keyGenerate ek)

/-- KEY_EXPORT (R481). -/
def execKeyExport (r : Fin 4) (s : State) : Done := s.done (s.onEng r .cipher fun s ek => s.keyExport ek)

/-- KEY_UNLOAD (R482). -/
def execKeyUnload (r : Fin 4) (s : State) : Done := s.done (s.onEng r .cipher fun s ek => s.keyUnload ek)

/-- CIPHER_BOUNDARY (R472). -/
def execCipherBoundary (r : Fin 4) (digest : Bool) (pipe : Fin 2) (n : BitVec 16) (s : State) : Done :=
  s.done (s.onEng r (if digest then .digest else .cipher) fun s ek => s.boundary ek pipe.val n.toNat)

/-- HASH (R487). -/
def execDigestHash (r : Fin 4) (s : State) : Done := s.done (s.onEng r .digest fun s ek => s.hashOp ek)

/-- CTX_EXPORT (R490). -/
def execCtxExport (r : Fin 4) (s : State) : Done := s.done (s.onEng r .digest fun s ek => s.ctxExport ek)

/-- CTX_IMPORT (R490). -/
def execCtxImport (r : Fin 4) (s : State) : Done := s.done (s.onEng r .digest fun s ek => s.ctxImport ek)

/-- QUEUE_RING_RESET (R493). -/
def execQueueRingReset (r : Fin 4) (k : EngKind) (q : Fin 64) (s : State) : Done :=
  s.done (s.onEngQ r k q fun s qk => if k == .pat then s.matchRingReset qk else s.engRingReset qk)

/-- SEARCH (R499). -/
def execTernSearch (ecc : Ecc) (delayed : Bool) (s : State) : Done := s.done (s.onTern fun s => s.ternSearchOp ecc delayed)

/-- NEXT (R500). -/
def execTernNext (ecc : Ecc) (delayed : Bool) (s : State) : Done := s.done (s.onTern fun s => s.ternNext ecc delayed)

/-- SEARCH_BATCH (R499). -/
def execTernSearchBatch (ecc : Ecc) (delayed : Bool) (s : State) : Done := s.done (s.onTern fun s => s.searchBatch ecc delayed)

/-- TERN_WRITE (R501). -/
def execTernWrite (r : Fin 4) (q : Fin 64) (s : State) : Done := s.done (s.onEngQ r .pat q fun s qk => s.ternWrite qk)

/-- INVALIDATE (R501). -/
def execTernInvalidate (r : Fin 4) (q : Fin 64) (steps : BitVec 18) (s : State) : Done :=
  s.done (s.onEngQ r .pat q fun s qk => s.ternInvalidate qk steps.toNat)

/-- MOVE_BLOCK (R502). -/
def execMoveBlock (r : Fin 4) (q : Fin 64) (steps : BitVec 18) (s : State) : Done :=
  s.done (s.onEngQ r .pat q fun s qk => s.moveBlock qk steps.toNat)

/-- TERN_READ (R501). -/
def execTernRead (r : Fin 4) (q : Fin 64) (s : State) : Done := s.done (s.onEngQ r .pat q fun s qk => s.ternRead qk)

/-- SCAN (R509). -/
def execScanStart (r : Fin 4) (lane : Fin 4) (s : State) : Done := s.done (s.onEng r .pat fun s _ => s.scanStart r lane.val)

/-- PATTERN_SET_LOADED (R508). -/
def execPatternSetLoaded (r : Fin 4) (lane : Fin 4) (s : State) : Done := s.done (s.onEng r .pat fun s _ => s.setLoaded r lane.val)

/-- RESULT_RING_DRAINED (R510). -/
def execResultRingDrained (r : Fin 4) (q : Fin 64) (head : BitVec 32) (s : State) : Done :=
  s.done (s.onEngQ r .pat q fun s qk => s.ringDrained qk head.toNat)

/-- SCAN_BOUNDARY (R511). -/
def execScanBoundary (r : Fin 4) (lane : Fin 4) (s : State) : Done := s.done (s.onEng r .pat fun s _ => s.scanBoundary r lane.val)

end Sys2Proof.Machine
end

