-- ==== Sys2Proof/Machine/CmdFlush.lean ====
section
/-! DEFINITION. The meanings of the commands of power loss and the hold-up (09_power_loss.md): each one operation over the state. -/
namespace Sys2Proof.Machine

/-- PWR_FAIL (R296). -/
def execPwrFail (sense : BitVec 16) (s : State) : Done := s.done (s.powerFail sense.toNat)

/-- FLUSH_SOWN (R299). -/
def execFlushSown (s : State) : Done := s.done s.flushSown

/-- FLUSH_END (R299). -/
def execFlushEnd (sense : BitVec 16) (csAnswers : Bool) (s : State) : Done := s.done (s.endFlush sense.toNat csAnswers)

/-- POWER_RETURN (R312). -/
def execPowerReturn (csAnswers : Bool) (s : State) : Done := s.done (s.powerReturn csAnswers)

/-- DIRTY_RESERVATION_GRANTED (R303). -/
def execDirtyReservationGranted (s : State) : Done := s.done (s.bg fun s => s.grantReservation)

/-- CEILING_RAISE_EFFECTIVE (R304). -/
def execCeilingRaiseEffective (s : State) : Done := s.done (s.bg fun s => s.ceilingRaise)

/-- HU_MEASUREMENT_START (R305). -/
def execHuMeasurementStart (sum : BitVec 32) (s : State) : Done := s.done (s.huStart sum.toNat)

/-- HU_TEST_END (R306). -/
def execHuTestEnd (sum : BitVec 32) (s : State) : Done := s.done (s.huEnd sum.toNat)

/-- HU_PERIOD_EXPIRY (R308). -/
def execHuPeriodExpiry (s : State) : Done := s.done s.huPeriod

/-- HU_SERIES_RETRY (R308). -/
def execHuSeriesRetry (s : State) : Done := s.done s.huRetry

/-- HU_SHARED_TIMEOUT (R309). -/
def execHuSharedTimeout (s : State) : Done := s.done s.huShared

end Sys2Proof.Machine
end

