-- ==== Sys2Proof/Machine/CmdHost.lean ====
section
/-! DEFINITION. The meanings of the commands of the host interface: doorbells, queues, admission, the rest of the front end (03_host_interface.md, 04_command_order.md): each one operation over the state. -/
namespace Sys2Proof.Machine

/-- POISONED_TLP_RECEIVED (R99). -/
def execPoisonedTlpReceived (q : Sqe) (what : HostRead) (s : State) : Done := s.done (s.poisoned q what)

/-- HOST_READ_FAILED (R100). -/
def execHostReadFailed (q : Sqe) (what : HostRead) (why : ReadFault) (s : State) : Done := s.done (s.hostReadFailed q what why)

/-- SQ_TAIL_DOORBELL (R107). -/
def execSqTailDoorbell (fn : BitVec 8) (q : BitVec 16) (tail : BitVec 16) (s : State) : Done :=
  s.done (s.sqDoorbell fn.toNat q.toNat tail.toNat)

/-- CQ_HEAD_DOORBELL (R107). -/
def execCqHeadDoorbell (fn : BitVec 8) (q : BitVec 16) (head : BitVec 16) (s : State) : Done :=
  s.done (s.cqDoorbell fn.toNat q.toNat head.toNat)

/-- CONTROLLER_ENABLE (R43). -/
def execControllerEnable (fn : BitVec 8) (asqs : BitVec 12) (acqs : BitVec 12) (asq : BitVec 64) (acq : BitVec 64) (cc : BitVec 32) (s : State) : Done :=
  s.done (s.controllerEnable fn.toNat asqs.toNat acqs.toNat asq.toNat acq.toNat cc.toNat)

/-- CONTROLLER_RESET (R145). -/
def execControllerReset (fn : BitVec 8) (s : State) : Done := s.done (s.controllerReset fn.toNat)

/-- CONTROLLER_RESET_DONE (R148). -/
def execControllerResetDone (fn : BitVec 8) (s : State) : Done := s.done (s.controllerResetDone fn.toNat)

/-- DELETE_IO_SQ (R145). -/
def execDeleteIoSq (q : Sqe) (id : BitVec 16) (s : State) : Done := s.done (s.deleteSq q id.toNat)

/-- DELETE_IO_CQ (R113). -/
def execDeleteIoCq (q : Sqe) (id : BitVec 16) (s : State) : Done := s.done (s.deleteCq q id.toNat)

/-- CREATE_IO_SQ (R113). -/
def execCreateIoSq (q : Sqe) (id : BitVec 16) (size : BitVec 16) (cq : BitVec 16) (prio : BitVec 2) (pc : Bool) (s : State) : Done :=
  s.done (s.createSq q id.toNat size.toNat cq.toNat prio.toNat pc)

/-- CREATE_IO_CQ (R113). -/
def execCreateIoCq (q : Sqe) (id : BitVec 16) (size : BitVec 16) (vector : BitVec 16) (pc : Bool) (ien : Bool) (s : State) : Done :=
  s.done (s.createCq q id.toNat size.toNat vector.toNat pc ien)

/-- GET_LOG_PAGE (R124). -/
def execGetLogPage (q : Sqe) (lid : BitVec 8) (nsid : BitVec 32) (offset : BitVec 64) (numd : BitVec 32) (rae : Bool) (rgo : Bool) (w : Walk) (s : State) : Done :=
  s.done (s.getLogPage q lid.toNat nsid.toNat offset.toNat numd.toNat rae rgo w)

/-- RANGE_LOCK_ADMIT (R134). -/
def execRangeLockAdmit (s : State) : Done := s.done (s.reexamine.runDevices.worked)

/-- FETCH_ENGINE_RESUME (R137). -/
def execFetchEngineResume (e : Fin 16) (s : State) : Done := s.done (s.engineResume e)

/-- CLASS0_TOKEN_REFILL (R155). -/
def execClass0TokenRefill (s : State) : Done := s.done s.tokenRefill

/-- SHARE_TOKEN_REFILL (R170). -/
def execShareTokenRefill (fn : BitVec 8) (s : State) : Done := s.done (s.shareRefill fn.toNat)

/-- STRIPE_MODE_CHANGE (R160). -/
def execStripeModeChange (s : State) : Done := s.done s.stripeMode

/-- AGGREGATION_TIME_EXPIRY (R121). -/
def execAggregationTimeExpiry (fn : BitVec 8) (s : State) : Done := s.done (s.aggregate fn.toNat)

/-- INVALID_COMMAND_OPCODE (R113). -/
def execInvalidCommandOpcode (q : Sqe) (s : State) : Done := s.done (s.badOpcode q)

/-- DOE_DISCOVERY (R104). -/
def execDoeDiscovery (index : BitVec 8) (s : State) : Done := s.done (s.doeDiscovery index.toNat)

end Sys2Proof.Machine
end

