-- ==== Sys2Proof/Machine/CmdMedia.lean ====
section
/-! DEFINITION. The meanings of the commands of the media ports (06_flash_media.md): each one operation over the state. -/
namespace Sys2Proof.Machine

/-- PORT_ENABLE (R196). -/
def execPortEnable (c : Fin 32) (s : State) : Done := s.done (s.portEnable c.val)

/-- PORT_DISABLE (R194). -/
def execPortDisable (c : Fin 32) (s : State) : Done := s.done (s.portDisable c.val)

/-- RING_RESET (R220). -/
def execRingReset (c : Fin 32) (s : State) : Done := s.done (s.fw fun s => s.ringReset c.val)

/-- RING_RESET_DONE (R220). -/
def execRingResetDone (c : Fin 32) (s : State) : Done := s.done (s.fw fun s => s.resetDone c.val)

/-- DESC_TAIL_DOORBELL (R197). -/
def execDescTailDoorbell (c : Fin 32) (tail : BitVec 8) (s : State) : Done := s.done (s.mediaDoorbell c.val tail.toNat)

/-- MEDIA_DESC_FETCH (R200). -/
def execMediaDescFetch (c : Fin 32) (busErr : Bool) (s : State) : Done := s.done (s.fw fun s => s.mediaFetch c.val busErr)

/-- READ (R201). -/
def execMediaRead (c : Fin 32) (l : Fin 32) (s : State) : Done := s.done (s.fw fun s => s.mediaRead c.val l.val .read)

/-- READ_CONT (R203). -/
def execMediaReadCont (c : Fin 32) (l : Fin 32) (s : State) : Done := s.done (s.fw fun s => s.mediaRead c.val l.val .readCont)

/-- PROGRAM (R212). -/
def execMediaProgram (c : Fin 32) (l : Fin 32) (ecc : Ecc) (s : State) : Done :=
  s.done (s.fw fun s => s.wpTable c ecc fun s => s.mediaProgram c.val l.val)

/-- ERASE (R213). -/
def execMediaErase (c : Fin 32) (l : Fin 32) (ecc : Ecc) (s : State) : Done :=
  s.done (s.fw fun s => s.wpTable c ecc fun s => s.mediaErase c.val l.val)

/-- MEDIA_GET_FEATURES (R201). -/
def execMediaGetFeatures (c : Fin 32) (l : Fin 32) (die : Option (BitVec 32)) (s : State) : Done :=
  s.done (s.fw fun s => s.mediaGetFeatures c.val l.val die)

/-- MEDIA_SET_FEATURES (R201). -/
def execMediaSetFeatures (c : Fin 32) (l : Fin 32) (ready : Bool) (s : State) : Done :=
  s.done (s.fw fun s => s.mediaSetFeatures c.val l.val ready)

/-- READ_STATUS (R201). -/
def execMediaReadStatus (c : Fin 32) (l : Fin 32) (status : BitVec 8) (s : State) : Done :=
  s.done (s.fw fun s => s.mediaReadStatus c.val l.val status.toNat)

/-- RESET_LUN (R201). -/
def execMediaResetLun (c : Fin 32) (l : Fin 32) (s : State) : Done := s.done (s.fw fun s => s.mediaResetLun c.val l.val)

/-- RAW (R204). -/
def execMediaRaw (c : Fin 32) (l : Fin 32) (die : List Byte) (waits : BitVec 8) (busErr : Bool) (s : State) : Done :=
  s.done (s.fw fun s => s.mediaRaw c.val l.val die waits.toNat busErr)

/-- SENSE_END (R209). -/
def execSenseEnd (c : Fin 32) (l : Fin 32) (s : State) : Done := s.done (s.fw fun s => s.senseDone c.val l.val)

/-- CHANNEL_TRANSFER_END (R161). -/
def execChannelTransferEnd (c : Fin 32) (s : State) : Done := s.done (s.fw fun s => s.transferDone c.val)

/-- CODEWORD_DECODED (R217). -/
def execCodewordDecoded (c : Fin 32) (l : Fin 32) (r : CwResult) (s : State) : Done :=
  s.done (s.fw fun s => s.codewordDecoded c.val l.val r)

/-- PROGRAM_END (R213). -/
def execProgramEnd (c : Fin 32) (l : Fin 32) (ok : Bool) (status : BitVec 8) (s : State) : Done :=
  s.done (s.fw fun s => s.programEnd c.val l.val ok status.toNat)

/-- ERASE_END (R213). -/
def execEraseEnd (c : Fin 32) (l : Fin 32) (ok : Bool) (status : BitVec 8) (s : State) : Done :=
  s.done (s.fw fun s => s.eraseEnd c.val l.val ok status.toNat)

/-- ERASE_SUSPENDED (R209). -/
def execEraseSuspended (c : Fin 32) (l : Fin 32) (s : State) : Done := s.done (s.fw fun s => s.eraseSuspended c.val l.val)

/-- MEDIA_OP_TIMEOUT (R210). -/
def execMediaOpTimeout (c : Fin 32) (l : Fin 32) (s : State) : Done := s.done (s.fw fun s => s.mediaTimeout c.val l.val)

/-- LUN_RECOVERY_END (R210). -/
def execLunRecoveryEnd (c : Fin 32) (l : Fin 32) (ready : Bool) (s : State) : Done :=
  s.done (s.fw fun s => s.recoveryEnd c.val l.val ready)

/-- CHANNEL_CLAIM_LUN_WAIT (R216). -/
def execChannelClaimLunWait (c : Fin 32) (l : Fin 32) (ready : Bool) (s : State) : Done :=
  s.done (s.fw fun s => s.lunWait c.val l.val ready)

/-- CHANNEL_TRAINING_DONE (R227). -/
def execChannelTrainingDone (c : Fin 32) (disagree : BitVec 32) (spare : List (Fin 32 × Fin 8 × BitVec 16 × Byte × Byte))
    (copies : List (List Byte)) (s : State) : Done :=
  s.done (s.fw fun s => s.trainingDone c.val disagree.toNat (spare.map fun m => (m.1.val, m.2.1.val, m.2.2.1.toNat, m.2.2.2)) copies)

/-- CHANNEL_RETRAIN (R227). -/
def execChannelRetrain (c : Fin 32) (s : State) : Done := s.done (s.fw fun s => s.retrain c.val)

/-- BAD_BLOCK_TABLE_REWRITE (R224). -/
def execBadBlockTableRewrite (c : Fin 32) (s : State) : Done := s.done (s.fw fun s => s.rewriteTable c.val)

end Sys2Proof.Machine
end

