-- ==== Sys2Proof/Machine/CmdMemory.lean ====
section
/-! DEFINITION. The meanings of the commands of the DRAM controllers, the buffer pool manager and the event controller (17_dram_controller.md, 18_buffers_and_events.md): each one operation over the state. -/
namespace Sys2Proof.Machine

/-- DRAM_REQUEST (R524). -/
def execDramRequest (op : DramOp) (s : State) : Done := s.done (s.dramStep op)

/-- REQUEST_AGED (R525). -/
def execRequestAged (c : Fin 8) (id : BitVec 32) (s : State) : Done := s.done (s.requestAged c.val id.toNat)

/-- PANIC_ENTER (R527). -/
def execPanicEnter (port : Fin 5) (level : BitVec 16) (s : State) : Done := s.done (s.panicEnter port.val level.toNat)

/-- PANIC_LEAVE (R527). -/
def execPanicLeave (port : Fin 5) (level : BitVec 16) (s : State) : Done := s.done (s.panicLeave port.val level.toNat)

/-- ROW_TABLE_WINDOW_END (R530). -/
def execRowTableWindowEnd (s : State) : Done := s.done s.rowWindowEnd

/-- DQS_TRACKING (R533). -/
def execDqsTracking (c : Fin 8) (s : State) : Done := s.done (s.dqsTracking c.val)

/-- DRAM_RETRAIN (R533). -/
def execDramRetrain (c : Fin 8) (last : Bool) (s : State) : Done := s.done (s.dramRetrain c.val last)

/-- SELF_REFRESH_ENTRY (R533). -/
def execSelfRefreshEntry (c : Fin 8) (s : State) : Done := s.done (s.selfRefresh c.val)

/-- ALLOC (R538). -/
def execBufferAlloc (n : Fin 132) (at_ : AllocAt) (lost : Bool) (s : State) : Done := s.done (s.allocRead n.val at_ lost)

/-- HUB_CACHE_REFILL (R538). -/
def execHubCacheRefill (p : Fin 64) (s : State) : Done := s.done (s.hubRefill p.val)

/-- REGION_CACHE_RECALL (R539). -/
def execRegionCacheRecall (s : State) : Done := s.done s.recallCaches

/-- INC (R542). -/
def execBufferInc (n : Fin 132) (hub : Bool) (h : BitVec 32) (s : State) : Done :=
  s.done (s.handleWrite n hub fun s t _ => s.incRef h.toNat t)

/-- DEC (R542). -/
def execBufferDec (n : Fin 132) (hub : Bool) (h : BitVec 32) (s : State) : Done :=
  s.done (s.handleWrite n hub fun s t region => s.decRef h.toNat t region)

/-- QUERY (R545). -/
def execBufferQuery (n : Fin 132) (h : BitVec 32) (s : State) : Done := s.done (s.queryHandle n h.toNat)

/-- CLAIM (R550). -/
def execEventClaim (n : Fin 132) (t : Fin 137) (s : State) : Done := s.done (s.claimAt n t.val)

/-- COMPLETE (R550). -/
def execEventComplete (n : Fin 132) (t : Fin 137) (src : BitVec 12) (s : State) : Done := s.done (s.completeAt n t.val src.toNat)

/-- CLAIM_SELF (R555). -/
def execEventClaimSelf (n : Fin 132) (s : State) : Done := s.done (s.claimAt n n.val)

/-- COMPLETE_SELF (R555). -/
def execEventCompleteSelf (n : Fin 132) (src : BitVec 12) (s : State) : Done := s.done (s.completeAt n n.val src.toNat)

/-- PENDING_WRITE (R552). -/
def execPendingWrite (g : Fin 64) (v : BitVec 32) (s : State) : Done := s.done (s.writePending g.val v.toNat)

/-- HOLDOFF_EXPIRY (R551). -/
def execHoldoffExpiry (g : Fin 64) (s : State) : Done := s.done (s.holdoffExpiry g.val)

/-- DRAM_REFRESH (R529). -/
def execDramRefresh (c : Fin 8) (bank : Fin 128) (s : State) : Done := s.done (s.dramRefresh c.val bank.val)

end Sys2Proof.Machine
end

