-- ==== Sys2Proof/Machine/CmdNvme.lean ====
section
/-! DEFINITION. The meanings of the commands of the admin commands, SPDM and the NVM command set (03_host_interface.md): each one operation over the state. -/
namespace Sys2Proof.Machine

/-- IDENTIFY (R120). -/
def execIdentify (q : Sqe) (cns : BitVec 8) (nsid : BitVec 32) (cntid : BitVec 16) (csi : BitVec 8) (w : Walk) (s : State) : Done :=
  s.done (s.identify q cns.toNat nsid.toNat cntid.toNat csi.toNat w)

/-- ABORT (R143). -/
def execAbort (q : Sqe) (s : State) : Done := s.done (s.abortCmd q)

/-- SET_FEATURES (R121). -/
def execSetFeatures (q : Sqe) (fid : BitVec 8) (nsid : BitVec 32) (dw11 : BitVec 32) (data : BitVec 256) (sv : Bool) (w : Walk) (s : State) : Done :=
  s.done (s.setFeatures q fid.toNat nsid.toNat dw11.toNat data.toNat sv w)

/-- GET_FEATURES (R121). -/
def execGetFeatures (q : Sqe) (fid : BitVec 8) (nsid : BitVec 32) (dw11 : BitVec 32) (sel : BitVec 3) (w : Walk) (s : State) : Done :=
  s.done (s.getFeatures q fid.toNat nsid.toNat dw11.toNat sel.toNat w)

/-- ASYNCHRONOUS_EVENT_REQUEST (R127). -/
def execAsynchronousEventRequest (q : Sqe) (s : State) : Done := s.done (s.asyncRequest q)

/-- NAMESPACE_CREATE (R114). -/
def execNamespaceCreate (q : Sqe) (nsze : BitVec 64) (ncap : BitVec 64) (lbaf : BitVec 4) (dps : BitVec 8) (group : BitVec 32) (guard64 : Bool) (extended : Bool) (shared : Bool) (w : Walk) (s : State) : Done :=
  s.done (s.keyed fun s => s.nsCreate q nsze.toNat ncap.toNat lbaf.toNat dps.toNat group.toNat guard64 extended shared w)

/-- NAMESPACE_DELETE (R114). -/
def execNamespaceDelete (q : Sqe) (nsid : BitVec 32) (s : State) : Done := s.done (s.keyed fun s => s.nsDelete q nsid.toNat)

/-- NAMESPACE_ATTACH (R113). -/
def execNamespaceAttach (q : Sqe) (nsid : BitVec 32) (ctrls : List (BitVec 16)) (w : Walk) (s : State) : Done :=
  s.done (s.nsAttach q nsid.toNat (ctrls.map fun c => c.toNat) true w)

/-- NAMESPACE_DETACH (R113). -/
def execNamespaceDetach (q : Sqe) (nsid : BitVec 32) (ctrls : List (BitVec 16)) (w : Walk) (s : State) : Done :=
  s.done (s.nsAttach q nsid.toNat (ctrls.map fun c => c.toNat) false w)

/-- FIRMWARE_IMAGE_DOWNLOAD (R115). -/
def execFirmwareImageDownload (q : Sqe) (offset : BitVec 32) (numd : BitVec 32) (data : List Byte) (w : Walk) (s : State) : Done :=
  s.done (s.firmwareDownload q offset.toNat numd.toNat data w)

/-- FIRMWARE_COMMIT_WRITE (R249). -/
def execFirmwareCommitWrite (q : Sqe) (fs : BitVec 3) (fails : Fin 7) (s : State) : Done :=
  s.done (s.firmwareCommit q fs.toNat fails.val false)

/-- FIRMWARE_COMMIT_WRITE_SELECT (R249). -/
def execFirmwareCommitWriteSelect (q : Sqe) (fs : BitVec 3) (fails : Fin 7) (s : State) : Done :=
  s.done (s.firmwareCommit q fs.toNat fails.val true)

/-- FIRMWARE_COMMIT_SELECT (R249). -/
def execFirmwareCommitSelect (q : Sqe) (fs : BitVec 3) (action : BitVec 3) (fails : Bool) (s : State) : Done :=
  s.done (s.firmwareSelect q fs.toNat action.toNat fails)

/-- DEVICE_SELF_TEST_SHORT (R151). -/
def execDeviceSelfTestShort (q : Sqe) (s : State) : Done := s.done (s.selfTestStart q false)

/-- DEVICE_SELF_TEST_EXTENDED (R151). -/
def execDeviceSelfTestExtended (q : Sqe) (s : State) : Done := s.done (s.selfTestStart q true)

/-- DEVICE_SELF_TEST_ABORT (R153). -/
def execDeviceSelfTestAbort (q : Sqe) (stc : BitVec 4) (s : State) : Done := s.done (s.selfTestAbort q stc.toNat)

/-- SELFTEST_STEP_START (R150). -/
def execSelftestStepStart (region : Option (Fin 4)) (last : Bool) (fails : Bool) (refreshed : List (Fin 32 × Fin 32 × BitVec 16)) (s : State) : Done :=
  s.done (s.selfTestStep region last fails (refreshed.map fun p => (p.1.val, p.2.1.val, p.2.2.toNat)))

/-- SELFTEST_TIMEOUT (R152). -/
def execSelftestTimeout (s : State) : Done := s.done s.selfTestTimeout

/-- KEEP_ALIVE (R113). -/
def execKeepAlive (q : Sqe) (s : State) : Done := s.done (s.keepAlive q)

/-- KEEP_ALIVE_EXPIRY (R180). -/
def execKeepAliveExpiry (fn : BitVec 8) (s : State) : Done := s.done (s.keepAliveExpiry fn.toNat)

/-- PRIMARY_FLEXIBLE_ALLOCATION (R167). -/
def execPrimaryFlexibleAllocation (q : Sqe) (s : State) : Done := s.done (s.primaryAllocation q)

/-- SECONDARY_CONTROLLER_OFFLINE (R172). -/
def execSecondaryControllerOffline (q : Sqe) (cntlid : BitVec 16) (s : State) : Done := s.done (s.secondaryOffline q cntlid.toNat)

/-- SECONDARY_CONTROLLER_ASSIGN (R167). -/
def execSecondaryControllerAssign (q : Sqe) (cntlid : BitVec 16) (nr : BitVec 16) (vi : Bool) (remove : Bool) (s : State) : Done :=
  s.done (s.secondaryAssign q cntlid.toNat nr.toNat vi remove)

/-- SECONDARY_CONTROLLER_ONLINE (R167). -/
def execSecondaryControllerOnline (q : Sqe) (cntlid : BitVec 16) (s : State) : Done := s.done (s.secondaryOnline q cntlid.toNat)

/-- FORMAT_NVM (R113). -/
def execFormatNvm (q : Sqe) (nsid : BitVec 32) (lbaf : BitVec 4) (dps : BitVec 8) (ses : BitVec 3) (guard64 : Bool) (extended : Bool) (s : State) : Done :=
  s.done (s.keyed fun s => s.formatNvm q nsid.toNat lbaf.toNat dps.toNat ses.toNat guard64 extended)

/-- SECURITY_SEND (R104). -/
def execSecuritySend (q : Sqe) (secp : BitVec 8) (len : BitVec 32) (m : SpdmReq) (w : Walk) (s : State) : Done :=
  s.done (s.securitySend q secp.toNat len.toNat m w)

/-- SECURITY_RECEIVE (R104). -/
def execSecurityReceive (q : Sqe) (secp : BitVec 8) (len : BitVec 32) (w : Walk) (s : State) : Done :=
  s.done (s.securityReceive q secp.toNat len.toNat w)

/-- SANITIZE_CRYPTO_ERASE (R484). -/
def execSanitizeCryptoErase (q : Sqe) (s : State) : Done := s.done (s.sanitizeCrypto q)

/-- SANITIZE_BLOCK_ERASE (R116). -/
def execSanitizeBlockErase (q : Sqe) (cdw10 : BitVec 10) (s : State) : Done := s.done (s.sanitizeBlock q cdw10.toNat)

/-- SANITIZE_DONE (R116). -/
def execSanitizeDone (s : State) : Done := s.done s.sanitizeEnd

/-- GET_VERSION (R104). -/
def execSpdmGetVersion (doe : Bool) (s : State) : Done := s.done (s.spdmRequest .getVersion doe)

/-- GET_CAPABILITIES (R104). -/
def execSpdmGetCapabilities (doe : Bool) (s : State) : Done := s.done (s.spdmRequest .getCapabilities doe)

/-- NEGOTIATE_ALGORITHMS (R104). -/
def execSpdmNegotiate (p384 : Bool) (sha384 : Bool) (doe : Bool) (s : State) : Done := s.done (s.spdmRequest (.negotiate p384 sha384) doe)

/-- GET_DIGESTS (R104). -/
def execSpdmGetDigests (doe : Bool) (s : State) : Done := s.done (s.spdmRequest .getDigests doe)

/-- GET_CERTIFICATE (R104). -/
def execSpdmGetCertificate (slot : BitVec 8) (offset : BitVec 16) (len : BitVec 16) (doe : Bool) (s : State) : Done :=
  s.done (s.spdmRequest (.getCertificate slot offset len) doe)

/-- SPDM_CHALLENGE (R104). -/
def execSpdmChallenge (slot : BitVec 8) (nonce : BitVec 256) (doe : Bool) (s : State) : Done :=
  s.done (s.spdmRequest (.challenge slot nonce) doe)

/-- GET_MEASUREMENTS (R104). -/
def execSpdmGetMeasurements (index : BitVec 8) (signed : Bool) (nonce : BitVec 256) (doe : Bool) (s : State) : Done :=
  s.done (s.spdmRequest (.getMeasurements index signed nonce) doe)

/-- FLUSH (R117). -/
def execNvmFlush (q : Sqe) (nsid : BitVec 32) (s : State) : Done := s.done (s.ioFlush q nsid.toNat)

/-- NVM_WRITE (R139). -/
def execNvmWrite (q : Sqe) (nsid : BitVec 32) (lba : BitVec 64) (nlb : BitVec 16) (data : List Lba) (pr : PrInfo) (w : Walk) (s : State) : Done :=
  s.done (s.nvmWrite q nsid.toNat lba.toNat nlb.toNat data pr w)

/-- NVM_READ (R277). -/
def execNvmRead (q : Sqe) (nsid : BitVec 32) (lba : BitVec 64) (nlb : BitVec 16) (pr : PrInfo) (w : Walk) (s : State) : Done :=
  s.done (s.nvmRead q nsid.toNat lba.toNat nlb.toNat pr w)

/-- COMPARE (R117). -/
def execNvmCompare (q : Sqe) (nsid : BitVec 32) (lba : BitVec 64) (nlb : BitVec 16) (data : List Lba) (pr : PrInfo) (w : Walk) (s : State) : Done :=
  s.done (s.compare q nsid.toNat lba.toNat nlb.toNat data pr w)

/-- WRITE_ZEROES (R117). -/
def execWriteZeroes (q : Sqe) (nsid : BitVec 32) (lba : BitVec 64) (nlb : BitVec 16) (pr : PrInfo) (s : State) : Done :=
  s.done (s.writeZeroes q nsid.toNat lba.toNat nlb.toNat pr)

/-- DATASET_MANAGEMENT (R292). -/
def execDatasetManagement (q : Sqe) (nsid : BitVec 32) (ranges : List (BitVec 64 × BitVec 32)) (ad : Bool) (w : Walk) (s : State) : Done :=
  s.done (s.datasetManagement q nsid.toNat (ranges.map fun p => (p.1.toNat, p.2.toNat)) ad w)

/-- VERIFY (R117). -/
def execNvmVerify (q : Sqe) (nsid : BitVec 32) (lba : BitVec 64) (nlb : BitVec 16) (pr : PrInfo) (s : State) : Done :=
  s.done (s.verify q nsid.toNat lba.toNat nlb.toNat pr)

/-- RESERVATION_REGISTER (R117). -/
def execReservationRegister (q : Sqe) (nsid : BitVec 32) (action : BitVec 3) (iekey : Bool) (cptpl : BitVec 2) (crkey : BitVec 64) (nrkey : BitVec 64) (w : Walk) (s : State) : Done :=
  s.done (s.reservation q nsid.toNat 0x0D (.register action iekey cptpl crkey nrkey) w)

/-- RESERVATION_REPORT (R117). -/
def execReservationReport (q : Sqe) (nsid : BitVec 32) (numd : BitVec 32) (eds : Bool) (w : Walk) (s : State) : Done :=
  s.done (s.reservationReport q nsid.toNat numd.toNat eds w)

/-- RESERVATION_ACQUIRE (R117). -/
def execReservationAcquire (q : Sqe) (nsid : BitVec 32) (action : BitVec 3) (iekey : Bool) (type : BitVec 8) (crkey : BitVec 64) (prkey : BitVec 64) (w : Walk) (s : State) : Done :=
  s.done (s.reservation q nsid.toNat 0x11 (.acquire action iekey type crkey prkey) w)

/-- RESERVATION_RELEASE (R117). -/
def execReservationRelease (q : Sqe) (nsid : BitVec 32) (action : BitVec 3) (iekey : Bool) (type : BitVec 8) (crkey : BitVec 64) (w : Walk) (s : State) : Done :=
  s.done (s.reservation q nsid.toNat 0x15 (.release action iekey type crkey) w)

/-- COPY (R117). -/
def execNvmCopy (q : Sqe) (nsid : BitVec 32) (sdlba : BitVec 64) (src : List CopyRange) (check : CopyPr) (pr : PrInfo) (w : Walk) (s : State) : Done :=
  s.done (s.copy q nsid.toNat sdlba.toNat src check pr w)

end Sys2Proof.Machine
end

