-- ==== Sys2Proof/Machine/CmdPackage.lean ====
section
/-! DEFINITION. The meanings of the commands of the package: power, start-up, timebase, sensors, die links (01_architecture.md): each one operation over the state. -/
namespace Sys2Proof.Machine

/-- POWER_ON (R46). -/
def execPowerOn (s : State) : Done := s.done s.powerOn

/-- PERST_DEASSERT (R41). -/
def execPerstDeassert (isle : Bool) (twin : Bool) (bootBank : Bool) (csAnswers : Bool) (s : State) : Done :=
  s.done (s.perstDeassert isle twin bootBank csAnswers)

/-- PERST_ASSERT (R47). -/
def execPerstAssert (sense : BitVec 16) (s : State) : Done := s.done (s.perstAssert sense.toNat)

/-- HOT_RESET (R46). -/
def execHotReset (sense : BitVec 16) (s : State) : Done := s.done (s.hotReset sense.toNat)

/-- CONFIG_REQUEST (R42). -/
def execConfigRequest (fn : BitVec 8) (q : CfgReq) (s : State) : Done := s.done (s.configRequest fn.toNat q)

/-- PERSISTENT_ENTRIES_LOADED (R41). -/
def execPersistentEntriesLoaded (s : State) : Done := s.done s.persistentLoaded

/-- DIE_LINKS_TRAINED (R41). -/
def execDieLinksTrained (up : BitVec 4) (s : State) : Done := s.done (s.linksTrained up.toNat)

/-- DDR_TRAINING_DONE (R532). -/
def execDdrTrainingDone (org : BitVec 32) (us : BitVec 32) (failed : BitVec 8) (s : State) : Done :=
  s.done (s.ddrTrained org.toNat us.toNat failed.toNat)

/-- FIRMWARE_COPY_DONE (R41). -/
def execFirmwareCopyDone (copies : BitVec 2) (s : State) : Done := s.done (s.firmwareCopied copies.toNat)

/-- TWIN_WAIT_TIMEOUT (R44). -/
def execTwinWaitTimeout (s : State) : Done := s.done s.twinWaitEnds

/-- LIVE_MAP_LOADED (R316). -/
def execLiveMapLoaded (good : BitVec 64) (s : State) : Done := s.done (s.liveMapLoaded good.toNat)

/-- CSTS_RDY_SET (R43). -/
def execCstsRdySet (fn : BitVec 8) (s : State) : Done := s.done (s.rdySet fn.toNat)

/-- PF_SLOT_ERASE (R246). -/
def execPfSlotErase (s : State) : Done := s.done s.pfSlotErase

/-- TIMEBASE_TICK (R34). -/
def execTimebaseTick (s : State) : Done := s.done s.tick

/-- TEMPO_SAMPLE (R49). -/
def execTempoSample (r : Fin 4) (rate : BitVec 32) (s : State) : Done := s.done (s.tempoSample r rate.toNat)

/-- TEMPO_COUNT_EXPIRY (R20). -/
def execTempoCountExpiry (s : State) : Done := s.done s.tempoExpiry

/-- REFCLK_LOSS_DETECTED (R20). -/
def execRefclkLossDetected (s : State) : Done := s.done s.refclkLoss

/-- HUB_WATCHDOG_EXPIRY (R19). -/
def execHubWatchdogExpiry (s : State) : Done := s.done s.hubWatchdog

/-- DIE_TEMP_UPDATE (R576). -/
def execDieTempUpdate (t : Vector (BitVec 32) 4) (s : State) : Done := s.done (s.dieTempUpdate t)

/-- THERMAL_TRIP (R38). -/
def execThermalTrip (sense : BitVec 16) (s : State) : Done := s.done (s.thermalTrip sense.toNat)

/-- THERMAL_HOLD_RELEASE (R38). -/
def execThermalHoldRelease (csAnswers : Bool) (s : State) : Done := s.done (s.thermalRelease csAnswers)

/-- FLIT_REPLAY (R8). -/
def execFlitReplay (m : Fin 4) (s : State) : Done := s.done (s.flitReplay m)

/-- DIE_LINK_DOWN_TIMEOUT (R9). -/
def execDieLinkDownTimeout (m : Fin 4) (s : State) : Done := s.done (s.dieLinkDown m)

/-- REGION_WATCHDOG_EXPIRY (R15). -/
def execRegionWatchdogExpiry (r : Fin 4) (s : State) : Done := s.done (s.regionWatchdog r)

/-- REGION_ONLINE (R16). -/
def execRegionOnline (r : Fin 4) (s : State) : Done := s.done (s.regionOnlineAgain r)

/-- POWER_COLLAPSE (R301). -/
def execPowerCollapse (s : State) : Done := s.done s.powerCollapse

/-- DIE_LINK_LOSS (R9). -/
def execDieLinkLoss (m : Fin 4) (s : State) : Done := s.done (s.dieLinkLoss m)

/-- DIE_LINK_RETRAINED (R9). -/
def execDieLinkRetrained (m : Fin 4) (s : State) : Done := s.done (s.dieLinkBack m)

/-- STRAIT_LOCK_LOSS (R320). -/
def execStraitLockLoss (s : State) : Done := s.done s.lockLoss

/-- PCIE_LINK_TRAINING_DONE (R96). -/
def execPcieLinkTrainingDone (rate : Fin 6) (width : Fin 5) (flit : Bool) (reversed : Bool) (s : State) : Done :=
  s.done (s.pcieTrained rate width flit reversed)

end Sys2Proof.Machine
end

