-- ==== Sys2Proof/Machine/CmdStore.lean ====
section
/-! DEFINITION. The meanings of the commands of the code store (07_code_store.md): each one operation over the state. -/
namespace Sys2Proof.Machine

/-- CS_ENABLE (R235). -/
def execCsEnable (s : State) : Done := s.done s.csEnable

/-- QUEUE_RESET (R244). -/
def execCsQueueReset (s : State) : Done := s.done s.csQueueReset

/-- XIP_INVALIDATE (R234). -/
def execXipInvalidate (s : State) : Done := s.done s.xipInvalidate

/-- CS_DESC_TAIL_DOORBELL (R236). -/
def execCsDescTailDoorbell (tail : Fin 64) (busErr : Bool) (s : State) : Done := s.done (s.csDoorbell tail.val busErr)

/-- CS_READ (R237). -/
def execCsRead (b : Fin 2) (ecc : Ecc) (s : State) : Done := s.done (s.csRead b ecc)

/-- CS_PROGRAM (R238). -/
def execCsProgram (b : Fin 2) (busErr : Bool) (s : State) : Done := s.done (s.csProgram b busErr)

/-- CS_ERASE (R241). -/
def execCsErase (b : Fin 2) (s : State) : Done := s.done (s.csErase b)

/-- BLANK_CHECK (R237). -/
def execCsBlankCheck (b : Fin 2) (s : State) : Done := s.done (s.csBlankCheck b)

/-- CS_PROGRAM_END (R240). -/
def execCsProgramEnd (b : Fin 2) (ok : Bool) (s : State) : Done := s.done (s.csProgramEnd b ok)

/-- CS_ERASE_END (R240). -/
def execCsEraseEnd (b : Fin 2) (ok : Bool) (s : State) : Done := s.done (s.csEraseEnd b ok)

/-- CS_OP_TIMEOUT (R243). -/
def execCsOpTimeout (b : Fin 2) (s : State) : Done := s.done (s.csTimeout b)

/-- BANK_READY_TIMEOUT (R579). -/
def execCsBankTimeout (b : Fin 2) (s : State) : Done := s.done (s.csBankTimeout b)

/-- XIP_FETCH (R242). -/
def execXipFetch (n : Fin 132) (addr : BitVec 48) (wide : Bool) (ecc : Ecc) (s : State) : Done :=
  s.done (s.xipFetch n addr.toNat wide ecc)

end Sys2Proof.Machine
end

