-- ==== Sys2Proof/Machine/CmdTasks.lean ====
section
/-! DEFINITION. The meanings of the commands of the device namespaces and the task scheduler (13_programs_and_scheduling.md): each one operation over the state. -/
namespace Sys2Proof.Machine

/-- LOAD_PROGRAM (R418). -/
def execLoadProgram (q : Sqe) (nsid : BitVec 32) (index : BitVec 16) (offset : BitVec 32) (data : List Byte) (w : Walk) (s : State) : Done :=
  s.done (s.device q nsid.toNat w (.load index offset data))

/-- PROGRAM_UNLOAD (R420). -/
def execProgramUnload (q : Sqe) (nsid : BitVec 32) (index : BitVec 16) (w : Walk) (s : State) : Done :=
  s.done (s.device q nsid.toNat w (.unload index))

/-- SLOT_UNLOADED (R420). -/
def execSlotUnloaded (k : BitVec 8) (s : State) : Done := s.done (s.slotUnloaded k.toNat)

/-- LOADING_TIMEOUT (R418). -/
def execLoadingTimeout (k : BitVec 8) (s : State) : Done := s.done (s.loadingTimeout k.toNat)

/-- PROGRAM_ACTIVATE (R419). -/
def execProgramActivate (q : Sqe) (nsid : BitVec 32) (index : BitVec 16) (w : Walk) (s : State) : Done :=
  s.done (s.device q nsid.toNat w (.activate index true))

/-- PROGRAM_DEACTIVATE (R419). -/
def execProgramDeactivate (q : Sqe) (nsid : BitVec 32) (index : BitVec 16) (w : Walk) (s : State) : Done :=
  s.done (s.device q nsid.toNat w (.activate index false))

/-- MEMORY_RANGE_SET_MANAGEMENT (R174). -/
def execMemoryRangeSetManagement (q : Sqe) (nsid : BitVec 32) (drop : Option (BitVec 16)) (ranges : List (BitVec 64 × BitVec 64)) (w : Walk) (s : State) : Done :=
  s.done (s.device q nsid.toNat w (match drop with | some id => .dropSet id | none => .makeSet ranges))

/-- EXECUTE_PROGRAM (R422). -/
def execExecuteProgram (q : Sqe) (nsid : BitVec 32) (index : BitVec 16) (rangeSet : BitVec 16) (params : List Byte) (w : Walk) (s : State) : Done :=
  s.done (s.device q nsid.toNat w (.execute index rangeSet params))

/-- MEMORY_READ (R174). -/
def execSlmRead (q : Sqe) (nsid : BitVec 32) (offset : BitVec 64) (len : BitVec 32) (w : Walk) (s : State) : Done :=
  s.done (s.device q nsid.toNat w (.memRead offset len))

/-- MEMORY_WRITE (R174). -/
def execSlmWrite (q : Sqe) (nsid : BitVec 32) (offset : BitVec 64) (data : List Byte) (w : Walk) (s : State) : Done :=
  s.done (s.device q nsid.toNat w (.memWrite offset data))

/-- MEMORY_COPY (R118). -/
def execSlmCopy (q : Sqe) (nsid : BitVec 32) (dst : BitVec 64) (src : BitVec 32) (ranges : List (BitVec 64 × BitVec 16)) (w : Walk) (s : State) : Done :=
  s.done (s.device q nsid.toNat w (.memCopy dst src ranges))

/-- TASK_ENQUEUE (R423). -/
def execTaskEnqueue (tag : Option (BitVec 32)) (r : Fin 4) (t : Task) (s : State) : Done :=
  s.done (s.taskEnqueue (tag.map fun k => k.toNat) r.val t)

/-- ENQUEUE_RESUME (R443). -/
def execEnqueueResume (r : Fin 4) (target : Bool) (s : State) : Done := s.done (s.enqueueResume r.val target)

/-- TASK_DISPATCH (R439). -/
def execTaskDispatch (r : Fin 4) (ecc : Ecc) (lost : Bool) (s : State) : Done :=
  s.done (s.readyLists r ecc fun s => s.dispatch r.val lost)

/-- PREFETCH_FILL (R440). -/
def execPrefetchFill (r : Fin 4) (ecc : Ecc) (lost : Bool) (s : State) : Done :=
  s.done (s.readyLists r ecc fun s => s.prefetchFill r.val lost)

end Sys2Proof.Machine
end

