-- ==== Sys2Proof/Machine/CmdTenant.lean ====
section
/-! DEFINITION. The meanings of the commands of functions and their resets (05_tenants.md): each one operation over the state. -/
namespace Sys2Proof.Machine

/-- NUMVFS_WRITE (R179). -/
def execNumvfsWrite (n : BitVec 16) (s : State) : Done := s.done (s.numVfsWrite n.toNat)

/-- VF_ENABLE (R179). -/
def execVfEnable (s : State) : Done := s.done s.vfEnable

/-- VF_DISABLE (R181). -/
def execVfDisable (s : State) : Done := s.done s.vfDisable

/-- FUNCTION_LEVEL_RESET (R181). -/
def execFunctionLevelReset (fn : BitVec 8) (s : State) : Done := s.done (s.functionLevelReset fn.toNat)

/-- FLR_READS_DRAINED (R181). -/
def execFlrReadsDrained (fn : BitVec 8) (left : BitVec 16) (s : State) : Done := s.done (s.functionResetDone fn.toNat left.toNat)

/-- LATE_COMPLETION (R182). -/
def execLateCompletion (fn : BitVec 8) (s : State) : Done := s.done (s.lateCompletion fn.toNat)

/-- TENANT_SCRUB_DONE (R187). -/
def execTenantScrubDone (fn : BitVec 8) (s : State) : Done := s.done (s.scrubDone fn.toNat)

end Sys2Proof.Machine
end

