-- ==== Sys2Proof/Machine/CmdTwin.lean ====
section
/-! DEFINITION. The meanings of the commands of the Strait, the twin and data integrity (10_twin.md, 11_data_integrity.md): each one operation over the state. -/
namespace Sys2Proof.Machine

/-- STRAIT_LINK_UP (R320). -/
def execStraitLinkUp (tx : Fin 9) (rx : Fin 9) (order : BitVec 2) (invert : BitVec 16) (s : State) : Done :=
  s.done (s.linkUp tx.val rx.val order invert)

/-- STRAIT_FRAME_ERROR (R323). -/
def execStraitFrameError (s : State) : Done := s.done s.frameError

/-- STRAIT_NAK (R323). -/
def execStraitNak (l : Link) (s : State) : Done := s.done (s.nakReceived l)

/-- STRAIT_ACK_SEND (R323). -/
def execStraitAckSend (s : State) : Done := s.done s.ackSend

/-- STRAIT_NOP (R323). -/
def execStraitNop (l : Link) (s : State) : Done := s.done (s.frame 0 l id)

/-- HELLO (R326). -/
def execHello (l : Link) (sameCode : Bool) (isle : Bool) (single : Bool) (serial : BitVec 64) (pair : BitVec 64) (state : BitVec 8) (s : State) : Done :=
  s.done (s.hello l sameCode isle single serial.toNat pair.toNat state.toNat)

/-- HELLO_ACK (R326). -/
def execHelloAck (l : Link) (s : State) : Done := s.done (s.paired l)

/-- MIRROR_SIZE (R328). -/
def execMirrorSize (l : Link) (bytes : BitVec 64) (confirm : Bool) (s : State) : Done := s.done (s.mirrorSize l bytes.toNat confirm)

/-- MIRROR_FLUSHED (R298). -/
def execMirrorFlushed (l : Link) (s : State) : Done := s.done (s.mirrorFlushed l)

/-- HU_RESULT (R309). -/
def execHuResult (l : Link) (c : BitVec 32) (v0 : BitVec 32) (e : BitVec 32) (s : State) : Done :=
  s.done (s.frame 0 l fun s => s.huResult c.toNat v0.toNat e.toNat)

/-- RESV_STATE (R327). -/
def execResvState (l : Link) (nsid : BitVec 32) (regs : List Registration) (holder : Option (BitVec 16)) (type : BitVec 8) (gen : BitVec 32) (ptpl : Bool) (s : State) : Done :=
  s.done (s.resvState l nsid.toNat regs (holder.map fun h => h.toNat) type.toNat gen.toNat ptpl)

/-- REGION_HANDOVER (R343). -/
def execRegionHandover (l : Link) (r : Fin 4) (channels : BitVec 32) (s : State) : Done := s.done (s.handover l r.val channels.toNat)

/-- REGION_RECLAIM (R344). -/
def execRegionReclaim (l : Link) (r : Fin 4) (channels : BitVec 32) (s : State) : Done :=
  s.done ((s.reclaimFrame l r.val channels.toNat).worked)

/-- SET_RELEASED (R348). -/
def execSetReleased (l : Link) (group : BitVec 8) (s : State) : Done := s.done (s.setReleased l group.toNat)

/-- ECHO (R323). -/
def execEcho (l : Link) (data : List Byte) (s : State) : Done := s.done (s.echo l data)

/-- EVENT_FWD (R549). -/
def execEventFwd (l : Link) (slot : Fin 128) (s : State) : Done := s.done (s.eventFwd l slot.val)

/-- UNKNOWN_FRAME (R324). -/
def execUnknownFrame (l : Link) (cls : BitVec 8) (s : State) : Done := s.done (s.unknownFrame l cls.toNat)

/-- HEARTBEAT_SEND (R335). -/
def execHeartbeatSend (s : State) : Done := s.done s.heartbeatSend

/-- HEARTBEAT (R335). -/
def execHeartbeat (l : Link) (timebase : BitVec 64) (pair : BitVec 8) (regions : BitVec 4) (chown : BitVec 32) (shipped : BitVec 64) (applied : BitVec 64) (freeSlots : BitVec 32) (s : State) : Done :=
  s.done (s.heartbeat l ⟨timebase.toNat, pair.toNat, regions.toNat, chown.toNat, shipped.toNat, applied.toNat, freeSlots.toNat⟩)

/-- MIRROR_DESC (R329). -/
def execMirrorDesc (l : Link) (slot : BitVec 32) (nsid : BitVec 32) (unit : BitVec 56) (gen : BitVec 8) (seq : BitVec 64) (piece : BitVec 64) (units : BitVec 16) (crc : BitVec 64) (info : List Byte) (fwdTag : Option (BitVec 32)) (s : State) : Done :=
  s.done (s.mirrorDesc l ⟨slot.toNat, nsid.toNat, unit.toNat, gen.toNat, seq.toNat, piece.toNat, units.toNat, crc.toNat, info, fwdTag.map fun t => t.toNat, [], false, false⟩)

/-- MIRROR_DATA (R330). -/
def execMirrorData (l : Link) (slot : BitVec 32) (chunk : BitVec 8) (data : List Byte) (s : State) : Done :=
  s.done (s.mirrorData l slot.toNat chunk.toNat data)

/-- MIRROR_ACK (R330). -/
def execMirrorAck (l : Link) (slots : List (BitVec 32)) (s : State) : Done := s.done ((s.mirrorAck l (slots.map fun k => k.toNat)).worked)

/-- MIRROR_FREE (R331). -/
def execMirrorFree (l : Link) (slots : List (BitVec 32)) (s : State) : Done := s.done (s.mirrorFree l (slots.map fun k => k.toNat))

/-- MIRROR_DISCARD (R331). -/
def execMirrorDiscard (l : Link) (slots : List (BitVec 32)) (s : State) : Done := s.done (s.mirrorDiscard l (slots.map fun k => k.toNat))

/-- JOURNAL_RECORDS (R333). -/
def execJournalRecords (l : Link) (i : Fin 2) (first : BitVec 64) (records : List (List Byte)) (s : State) : Done :=
  s.done (s.journalRecords l i first.toNat records)

/-- JOURNAL_ACK (R333). -/
def execJournalAck (l : Link) (i : Fin 2) (seq : BitVec 64) (s : State) : Done := s.done ((s.journalAck l i seq.toNat).worked)

/-- RESYNC_FROM (R334). -/
def execResyncFrom (l : Link) (i : Fin 2) (applied : BitVec 64) (s : State) : Done := s.done (s.resyncFrom l i applied.toNat)

/-- SEGMENT (R334). -/
def execSegment (l : Link) (i : Fin 2) (seg : BitVec 32) (offset : BitVec 32) (entries : List (BitVec 64)) (s : State) : Done :=
  s.done (s.segment l i seg.toNat offset.toNat (entries.map fun e => e.toNat))

/-- PAIR_IN_STEP (R334). -/
def execPairInStep (s : State) : Done := s.done s.pairInStep

/-- FWD_CMD (R349). -/
def execFwdCmd (l : Link) (tag : BitVec 32) (cntlid : BitVec 16) (cls : BitVec 8) (nsid : BitVec 32) (q : FwdOp) (pr : PrInfo) (s : State) : Done :=
  s.done ((s.fwdCmd l tag.toNat cntlid.toNat cls.toNat nsid.toNat q pr).runDevices)

/-- FWD_PULL (R349). -/
def execFwdPull (l : Link) (tag : BitVec 32) (offset : BitVec 32) (count : BitVec 32) (s : State) : Done :=
  s.done (s.fwdPull l tag.toNat offset.toNat count.toNat)

/-- FWD_DATA (R349). -/
def execFwdData (l : Link) (tag : BitVec 32) (offset : BitVec 32) (data : List Byte) (s : State) : Done :=
  s.done ((s.fwdData l tag.toNat offset.toNat data).runDevices)

/-- FWD_CPL (R349). -/
def execFwdCpl (l : Link) (tag : BitVec 32) (dw0 : BitVec 32) (dw1 : BitVec 32) (status : BitVec 15) (lba : BitVec 64) (specific : BitVec 16) (s : State) : Done :=
  s.done (s.fwdCpl l tag.toNat dw0.toNat dw1.toNat status.toNat lba.toNat specific.toNat)

/-- FWD_STOP (R350). -/
def execFwdStop (l : Link) (tags : List (BitVec 32)) (s : State) : Done := s.done ((s.fwdStop l (tags.map fun t => t.toNat)).worked)

/-- FWD_STOP_ACK (R350). -/
def execFwdStopAck (l : Link) (entries : List (BitVec 32 × BitVec 8)) (s : State) : Done :=
  s.done (s.fwdStopAck l (entries.map fun e => (e.1.toNat, e.2.toNat)))

/-- MEDIA_REQ (R345). -/
def execMediaReq (l : Link) (c : Fin 32) (number : BitVec 32) (desc : BitVec 256) (s : State) : Done :=
  s.done ((s.mediaReq l c.val number.toNat desc.toNat).worked)

/-- MEDIA_DATA (R345). -/
def execMediaData (l : Link) (number : BitVec 32) (stream : BitVec 8) (offset : BitVec 32) (poisoned : Bool) (data : List Byte) (s : State) : Done :=
  s.done ((s.mediaData l number.toNat stream.toNat offset.toNat poisoned data).worked)

/-- MEDIA_CPL (R345). -/
def execMediaCpl (l : Link) (number : BitVec 32) (status : BitVec 8) (s : State) : Done :=
  s.done ((s.mediaCpl l number.toNat status.toNat).worked)

/-- STRAIT_SILENCE (R336). -/
def execStraitSilence (s : State) : Done := s.done (s.straitSilence.worked)

/-- TWIN_FAIL_ASSERTED (R336). -/
def execTwinFailAsserted (s : State) : Done := s.done (s.twinFail.worked)

/-- TWIN_ALIVE_FALL (R336). -/
def execTwinAliveFall (s : State) : Done := s.done (s.aliveFall.worked)

/-- TAKEOVER_COMPLETE (R340). -/
def execTakeoverComplete (found : List (List Byte)) (s : State) : Done := s.done ((s.takeoverComplete found).worked)

/-- FAILBACK_COMPLETE (R348). -/
def execFailbackComplete (s : State) : Done := s.done s.failbackComplete

/-- CHANNEL_CLAIM_MET (R338). -/
def execChannelClaimMet (c : Fin 32) (s : State) : Done := s.done (s.claimMet c.val)

/-- SIMULTANEOUS_CLAIM (R338). -/
def execSimultaneousClaim (c : Fin 32) (s : State) : Done := s.done (s.simultaneousClaim c.val)

/-- OWNERSHIP_CONFLICT (R338). -/
def execOwnershipConflict (c : Fin 32) (s : State) : Done := s.done (s.ownershipConflict c.val)

/-- CLAIM_TIMEOUT (R338). -/
def execClaimTimeout (c : Fin 32) (s : State) : Done := s.done (s.claimTimeout c.val)

/-- LEAK_INTERVAL_EXPIRY (R357). -/
def execLeakIntervalExpiry (cls : Fin 7) (s : State) : Done := s.done (s.leak cls)

/-- DRAM_SCRUB_READ (R358). -/
def execDramScrubRead (addr : BitVec 48) (ecc : Ecc) (s : State) : Done := s.done (s.bg fun s => s.dramScrub addr.toNat ecc)

/-- TERNARY_REFRESH (R356). -/
def execTernaryRefresh (i : BitVec 18) (ecc : Ecc) (s : State) : Done := s.done (s.bg fun s => s.ternRefresh i.toNat ecc)

end Sys2Proof.Machine
end

