-- ==== Sys2Proof/Machine/CmdXlat.lean ====
section
/-! DEFINITION. The meanings of the commands of translation, furrows, journal and gleaning (08_translation.md): each one operation over the state. -/
namespace Sys2Proof.Machine

/-- SOW_ROW (R273). -/
def execSowRow (i : Fin 2) (g : BitVec 8) (s : State) : Done := s.done (s.fw fun s => s.sowRow i g.toNat)

/-- ROW_CONFIRMED (R273). -/
def execRowConfirmed (i : Fin 2) (id : BitVec 32) (s : State) : Done := s.done (s.fw fun s => (s.rowConfirmed i id.toNat).settleWrites)

/-- ROW_PROGRAM_FAILED (R274). -/
def execRowProgramFailed (i : Fin 2) (id : BitVec 32) (s : State) : Done := s.done (s.fw fun s => s.rowFailed i id.toNat)

/-- END_MARKER_WRITE (R283). -/
def execEndMarkerWrite (i : Fin 2) (id : BitVec 32) (s : State) : Done := s.done (s.fw fun s => s.endMarkerWrite i id.toNat)

/-- JOURNAL_PAGE_PROGRAMMED (R281). -/
def execJournalPageProgrammed (i : Fin 2) (s : State) : Done := s.done (s.fw fun s => (s.journalPage i).landed)

/-- CHECKPOINT_START (R282). -/
def execCheckpointStart (i : Fin 2) (s : State) : Done := s.done (s.bg fun s => s.checkpointStart i)

/-- CHECKPOINT_COMPLETE (R282). -/
def execCheckpointComplete (i : Fin 2) (s : State) : Done := s.done (s.fw fun s => (s.checkpointComplete i).landed)

/-- MAP_SEGMENT_RELOAD (R256). -/
def execMapSegmentReload (i : Fin 2) (seg : BitVec 64) (s : State) : Done := s.done (s.fw fun s => s.segmentReload i seg.toNat)

/-- DIE_PARITY_REBUILD (R278). -/
def execDieParityRebuild (nsid : BitVec 32) (unit : BitVec 64) (ok : Bool) (s : State) : Done :=
  s.done (s.fw fun s => s.parityRebuild nsid.toNat unit.toNat ok)

/-- GLEAN_START (R285). -/
def execGleanStart (i : Fin 2) (s : State) : Done := s.done (s.bg fun s => s.gleanStart i)

/-- GLEAN_MAP_UPDATE (R286). -/
def execGleanMapUpdate (i : Fin 2) (s : State) : Done := s.done (s.fw fun s => s.gleanMapUpdate i)

/-- FURROW_ERASE (R286). -/
def execFurrowErase (i : Fin 2) (id : BitVec 32) (s : State) : Done := s.done (s.bg fun s => s.furrowErase i id.toNat)

/-- FURROW_ERASE_DONE (R270). -/
def execFurrowEraseDone (i : Fin 2) (id : BitVec 32) (s : State) : Done := s.done (s.fw fun s => s.furrowEraseDone i id.toNat)

/-- PATROL_READ (R289). -/
def execPatrolRead (c : Fin 32) (l : Fin 32) (plane : Fin 8) (block : BitVec 16) (page : BitVec 16) (s : State) : Done :=
  s.done (s.bg fun s => s.patrolRead c.val l.val plane.val block.toNat page.toNat)

/-- STATIC_SWAP (R290). -/
def execStaticSwap (i : Fin 2) (s : State) : Done := s.done (s.bg fun s => s.staticSwap i)

/-- LUN_RETIRED (R291). -/
def execLunRetired (c : Fin 32) (l : Fin 32) (s : State) : Done := s.done (s.fw fun s => s.lunRetired c.val l.val)

end Sys2Proof.Machine
end

