-- ==== Sys2Proof/Machine/Dispatch.lean ====
section
/-! DEFINITION. Every command and its meaning. -/
namespace Sys2Proof.Machine

/-- A command's effect on everything but the queue. -/
def exec (i : Instr) (s : State) : Host.Outcome State Fault Refusal :=
  match i with
  | .powerOn => Sys2Proof.Machine.execPowerOn s
  | .perstDeassert isle twin bootBank csAnswers => Sys2Proof.Machine.execPerstDeassert isle twin bootBank csAnswers s
  | .perstAssert sense => Sys2Proof.Machine.execPerstAssert sense s
  | .hotReset sense => Sys2Proof.Machine.execHotReset sense s
  | .configRequest fn q => Sys2Proof.Machine.execConfigRequest fn q s
  | .persistentEntriesLoaded => Sys2Proof.Machine.execPersistentEntriesLoaded s
  | .dieLinksTrained up => Sys2Proof.Machine.execDieLinksTrained up s
  | .ddrTrainingDone org us failed => Sys2Proof.Machine.execDdrTrainingDone org us failed s
  | .firmwareCopyDone copies => Sys2Proof.Machine.execFirmwareCopyDone copies s
  | .twinWaitTimeout => Sys2Proof.Machine.execTwinWaitTimeout s
  | .liveMapLoaded good => Sys2Proof.Machine.execLiveMapLoaded good s
  | .cstsRdySet fn => Sys2Proof.Machine.execCstsRdySet fn s
  | .pfSlotErase => Sys2Proof.Machine.execPfSlotErase s
  | .timebaseTick => Sys2Proof.Machine.execTimebaseTick s
  | .tempoSample r rate => Sys2Proof.Machine.execTempoSample r rate s
  | .tempoCountExpiry => Sys2Proof.Machine.execTempoCountExpiry s
  | .refclkLossDetected => Sys2Proof.Machine.execRefclkLossDetected s
  | .hubWatchdogExpiry => Sys2Proof.Machine.execHubWatchdogExpiry s
  | .dieTempUpdate t => Sys2Proof.Machine.execDieTempUpdate t s
  | .thermalTrip sense => Sys2Proof.Machine.execThermalTrip sense s
  | .thermalHoldRelease csAnswers => Sys2Proof.Machine.execThermalHoldRelease csAnswers s
  | .flitReplay m => Sys2Proof.Machine.execFlitReplay m s
  | .dieLinkDownTimeout m => Sys2Proof.Machine.execDieLinkDownTimeout m s
  | .regionWatchdogExpiry r => Sys2Proof.Machine.execRegionWatchdogExpiry r s
  | .regionOnline r => Sys2Proof.Machine.execRegionOnline r s
  | .dictionaryRead q c w => Sys2Proof.Machine.execDictionaryRead q c w s
  | .dictionaryWrite q c data w => Sys2Proof.Machine.execDictionaryWrite q c data w s
  | .dictionaryCommit q cdw10 => Sys2Proof.Machine.execDictionaryCommit q cdw10 s
  | .dictionaryDiscard q => Sys2Proof.Machine.execDictionaryDiscard q s
  | .headerRead o h value => Sys2Proof.Machine.execHeaderRead o h value s
  | .headerWrite o h value => Sys2Proof.Machine.execHeaderWrite o h value s
  | .headerCommit o h value => Sys2Proof.Machine.execHeaderCommit o h value s
  | .headerDiscard o h value => Sys2Proof.Machine.execHeaderDiscard o h value s
  | .getEpoch p h value => Sys2Proof.Machine.execGetEpoch p h value s
  | .challenge p h value => Sys2Proof.Machine.execChallenge p h value s
  | .answer p h value => Sys2Proof.Machine.execAnswer p h value s
  | .nonceExpiry mac => Sys2Proof.Machine.execNonceExpiry mac s
  | .challengeLockoutExpiry mac => Sys2Proof.Machine.execChallengeLockoutExpiry mac s
  | .sync m => Sys2Proof.Machine.execSync m s
  | .reservedOpFrame t1s => Sys2Proof.Machine.execReservedOpFrame t1s s
  | .commitProcess written => Sys2Proof.Machine.execCommitProcess written s
  | .commitSharedApplied => Sys2Proof.Machine.execCommitSharedApplied s
  | .commitMarkerWritten ok => Sys2Proof.Machine.execCommitMarkerWritten ok s
  | .domainTransferTimeout n => Sys2Proof.Machine.execDomainTransferTimeout n s
  | .peerIdleTimeout mac => Sys2Proof.Machine.execPeerIdleTimeout mac s
  | .i3cBusReset => Sys2Proof.Machine.execI3cBusReset s
  | .mctpEndpointRemoved eid => Sys2Proof.Machine.execMctpEndpointRemoved eid s
  | .poisonedTlpReceived q what => Sys2Proof.Machine.execPoisonedTlpReceived q what s
  | .hostReadFailed q what why => Sys2Proof.Machine.execHostReadFailed q what why s
  | .sqTailDoorbell fn q tail => Sys2Proof.Machine.execSqTailDoorbell fn q tail s
  | .cqHeadDoorbell fn q head => Sys2Proof.Machine.execCqHeadDoorbell fn q head s
  | .controllerEnable fn asqs acqs asq acq cc => Sys2Proof.Machine.execControllerEnable fn asqs acqs asq acq cc s
  | .controllerReset fn => Sys2Proof.Machine.execControllerReset fn s
  | .controllerResetDone fn => Sys2Proof.Machine.execControllerResetDone fn s
  | .deleteIoSq q id => Sys2Proof.Machine.execDeleteIoSq q id s
  | .deleteIoCq q id => Sys2Proof.Machine.execDeleteIoCq q id s
  | .createIoSq q id size cq prio pc => Sys2Proof.Machine.execCreateIoSq q id size cq prio pc s
  | .createIoCq q id size vector pc ien => Sys2Proof.Machine.execCreateIoCq q id size vector pc ien s
  | .getLogPage q lid nsid offset numd rae rgo w => Sys2Proof.Machine.execGetLogPage q lid nsid offset numd rae rgo w s
  | .identify q cns nsid cntid csi w => Sys2Proof.Machine.execIdentify q cns nsid cntid csi w s
  | .abort q => Sys2Proof.Machine.execAbort q s
  | .setFeatures q fid nsid dw11 data sv w => Sys2Proof.Machine.execSetFeatures q fid nsid dw11 data sv w s
  | .getFeatures q fid nsid dw11 sel w => Sys2Proof.Machine.execGetFeatures q fid nsid dw11 sel w s
  | .asynchronousEventRequest q => Sys2Proof.Machine.execAsynchronousEventRequest q s
  | .namespaceCreate q nsze ncap lbaf dps group guard64 extended shared w => Sys2Proof.Machine.execNamespaceCreate q nsze ncap lbaf dps group guard64 extended shared w s
  | .namespaceDelete q nsid => Sys2Proof.Machine.execNamespaceDelete q nsid s
  | .namespaceAttach q nsid ctrls w => Sys2Proof.Machine.execNamespaceAttach q nsid ctrls w s
  | .namespaceDetach q nsid ctrls w => Sys2Proof.Machine.execNamespaceDetach q nsid ctrls w s
  | .firmwareImageDownload q offset numd data w => Sys2Proof.Machine.execFirmwareImageDownload q offset numd data w s
  | .firmwareCommitWrite q fs fails => Sys2Proof.Machine.execFirmwareCommitWrite q fs fails s
  | .firmwareCommitWriteSelect q fs fails => Sys2Proof.Machine.execFirmwareCommitWriteSelect q fs fails s
  | .firmwareCommitSelect q fs action fails => Sys2Proof.Machine.execFirmwareCommitSelect q fs action fails s
  | .deviceSelfTestShort q => Sys2Proof.Machine.execDeviceSelfTestShort q s
  | .deviceSelfTestExtended q => Sys2Proof.Machine.execDeviceSelfTestExtended q s
  | .deviceSelfTestAbort q stc => Sys2Proof.Machine.execDeviceSelfTestAbort q stc s
  | .selftestStepStart region last fails refreshed => Sys2Proof.Machine.execSelftestStepStart region last fails refreshed s
  | .selftestTimeout => Sys2Proof.Machine.execSelftestTimeout s
  | .keepAlive q => Sys2Proof.Machine.execKeepAlive q s
  | .keepAliveExpiry fn => Sys2Proof.Machine.execKeepAliveExpiry fn s
  | .primaryFlexibleAllocation q => Sys2Proof.Machine.execPrimaryFlexibleAllocation q s
  | .secondaryControllerOffline q cntlid => Sys2Proof.Machine.execSecondaryControllerOffline q cntlid s
  | .secondaryControllerAssign q cntlid nr vi remove => Sys2Proof.Machine.execSecondaryControllerAssign q cntlid nr vi remove s
  | .secondaryControllerOnline q cntlid => Sys2Proof.Machine.execSecondaryControllerOnline q cntlid s
  | .formatNvm q nsid lbaf dps ses guard64 extended => Sys2Proof.Machine.execFormatNvm q nsid lbaf dps ses guard64 extended s
  | .securitySend q secp len m w => Sys2Proof.Machine.execSecuritySend q secp len m w s
  | .securityReceive q secp len w => Sys2Proof.Machine.execSecurityReceive q secp len w s
  | .sanitizeCryptoErase q => Sys2Proof.Machine.execSanitizeCryptoErase q s
  | .sanitizeBlockErase q cdw10 => Sys2Proof.Machine.execSanitizeBlockErase q cdw10 s
  | .sanitizeDone => Sys2Proof.Machine.execSanitizeDone s
  | .spdmGetVersion doe => Sys2Proof.Machine.execSpdmGetVersion doe s
  | .spdmGetCapabilities doe => Sys2Proof.Machine.execSpdmGetCapabilities doe s
  | .spdmNegotiate p384 sha384 doe => Sys2Proof.Machine.execSpdmNegotiate p384 sha384 doe s
  | .spdmGetDigests doe => Sys2Proof.Machine.execSpdmGetDigests doe s
  | .spdmGetCertificate slot offset len doe => Sys2Proof.Machine.execSpdmGetCertificate slot offset len doe s
  | .spdmChallenge slot nonce doe => Sys2Proof.Machine.execSpdmChallenge slot nonce doe s
  | .spdmGetMeasurements index signed nonce doe => Sys2Proof.Machine.execSpdmGetMeasurements index signed nonce doe s
  | .nvmFlush q nsid => Sys2Proof.Machine.execNvmFlush q nsid s
  | .nvmWrite q nsid lba nlb data pr w => Sys2Proof.Machine.execNvmWrite q nsid lba nlb data pr w s
  | .nvmRead q nsid lba nlb pr w => Sys2Proof.Machine.execNvmRead q nsid lba nlb pr w s
  | .nvmCompare q nsid lba nlb data pr w => Sys2Proof.Machine.execNvmCompare q nsid lba nlb data pr w s
  | .writeZeroes q nsid lba nlb pr => Sys2Proof.Machine.execWriteZeroes q nsid lba nlb pr s
  | .datasetManagement q nsid ranges ad w => Sys2Proof.Machine.execDatasetManagement q nsid ranges ad w s
  | .nvmVerify q nsid lba nlb pr => Sys2Proof.Machine.execNvmVerify q nsid lba nlb pr s
  | .reservationRegister q nsid action iekey cptpl crkey nrkey w => Sys2Proof.Machine.execReservationRegister q nsid action iekey cptpl crkey nrkey w s
  | .reservationReport q nsid numd eds w => Sys2Proof.Machine.execReservationReport q nsid numd eds w s
  | .reservationAcquire q nsid action iekey type crkey prkey w => Sys2Proof.Machine.execReservationAcquire q nsid action iekey type crkey prkey w s
  | .reservationRelease q nsid action iekey type crkey w => Sys2Proof.Machine.execReservationRelease q nsid action iekey type crkey w s
  | .nvmCopy q nsid sdlba src check pr w => Sys2Proof.Machine.execNvmCopy q nsid sdlba src check pr w s
  | .loadProgram q nsid index offset data w => Sys2Proof.Machine.execLoadProgram q nsid index offset data w s
  | .programUnload q nsid index w => Sys2Proof.Machine.execProgramUnload q nsid index w s
  | .slotUnloaded k => Sys2Proof.Machine.execSlotUnloaded k s
  | .loadingTimeout k => Sys2Proof.Machine.execLoadingTimeout k s
  | .programActivate q nsid index w => Sys2Proof.Machine.execProgramActivate q nsid index w s
  | .programDeactivate q nsid index w => Sys2Proof.Machine.execProgramDeactivate q nsid index w s
  | .memoryRangeSetManagement q nsid drop ranges w => Sys2Proof.Machine.execMemoryRangeSetManagement q nsid drop ranges w s
  | .executeProgram q nsid index rangeSet params w => Sys2Proof.Machine.execExecuteProgram q nsid index rangeSet params w s
  | .slmRead q nsid offset len w => Sys2Proof.Machine.execSlmRead q nsid offset len w s
  | .slmWrite q nsid offset data w => Sys2Proof.Machine.execSlmWrite q nsid offset data w s
  | .slmCopy q nsid dst src ranges w => Sys2Proof.Machine.execSlmCopy q nsid dst src ranges w s
  | .rangeLockAdmit => Sys2Proof.Machine.execRangeLockAdmit s
  | .fetchEngineResume e => Sys2Proof.Machine.execFetchEngineResume e s
  | .class0TokenRefill => Sys2Proof.Machine.execClass0TokenRefill s
  | .shareTokenRefill fn => Sys2Proof.Machine.execShareTokenRefill fn s
  | .stripeModeChange => Sys2Proof.Machine.execStripeModeChange s
  | .numvfsWrite n => Sys2Proof.Machine.execNumvfsWrite n s
  | .vfEnable => Sys2Proof.Machine.execVfEnable s
  | .vfDisable => Sys2Proof.Machine.execVfDisable s
  | .functionLevelReset fn => Sys2Proof.Machine.execFunctionLevelReset fn s
  | .flrReadsDrained fn left => Sys2Proof.Machine.execFlrReadsDrained fn left s
  | .lateCompletion fn => Sys2Proof.Machine.execLateCompletion fn s
  | .tenantScrubDone fn => Sys2Proof.Machine.execTenantScrubDone fn s
  | .portEnable c => Sys2Proof.Machine.execPortEnable c s
  | .portDisable c => Sys2Proof.Machine.execPortDisable c s
  | .ringReset c => Sys2Proof.Machine.execRingReset c s
  | .ringResetDone c => Sys2Proof.Machine.execRingResetDone c s
  | .descTailDoorbell c tail => Sys2Proof.Machine.execDescTailDoorbell c tail s
  | .mediaDescFetch c busErr => Sys2Proof.Machine.execMediaDescFetch c busErr s
  | .mediaRead c l => Sys2Proof.Machine.execMediaRead c l s
  | .mediaReadCont c l => Sys2Proof.Machine.execMediaReadCont c l s
  | .mediaProgram c l ecc => Sys2Proof.Machine.execMediaProgram c l ecc s
  | .mediaErase c l ecc => Sys2Proof.Machine.execMediaErase c l ecc s
  | .mediaGetFeatures c l die => Sys2Proof.Machine.execMediaGetFeatures c l die s
  | .mediaSetFeatures c l ready => Sys2Proof.Machine.execMediaSetFeatures c l ready s
  | .mediaReadStatus c l status => Sys2Proof.Machine.execMediaReadStatus c l status s
  | .mediaResetLun c l => Sys2Proof.Machine.execMediaResetLun c l s
  | .mediaRaw c l die waits busErr => Sys2Proof.Machine.execMediaRaw c l die waits busErr s
  | .senseEnd c l => Sys2Proof.Machine.execSenseEnd c l s
  | .channelTransferEnd c => Sys2Proof.Machine.execChannelTransferEnd c s
  | .codewordDecoded c l r => Sys2Proof.Machine.execCodewordDecoded c l r s
  | .programEnd c l ok status => Sys2Proof.Machine.execProgramEnd c l ok status s
  | .eraseEnd c l ok status => Sys2Proof.Machine.execEraseEnd c l ok status s
  | .eraseSuspended c l => Sys2Proof.Machine.execEraseSuspended c l s
  | .mediaOpTimeout c l => Sys2Proof.Machine.execMediaOpTimeout c l s
  | .lunRecoveryEnd c l ready => Sys2Proof.Machine.execLunRecoveryEnd c l ready s
  | .channelClaimLunWait c l ready => Sys2Proof.Machine.execChannelClaimLunWait c l ready s
  | .channelTrainingDone c disagree spare copies => Sys2Proof.Machine.execChannelTrainingDone c disagree spare copies s
  | .channelRetrain c => Sys2Proof.Machine.execChannelRetrain c s
  | .badBlockTableRewrite c => Sys2Proof.Machine.execBadBlockTableRewrite c s
  | .csEnable => Sys2Proof.Machine.execCsEnable s
  | .csQueueReset => Sys2Proof.Machine.execCsQueueReset s
  | .xipInvalidate => Sys2Proof.Machine.execXipInvalidate s
  | .csDescTailDoorbell tail busErr => Sys2Proof.Machine.execCsDescTailDoorbell tail busErr s
  | .csRead b ecc => Sys2Proof.Machine.execCsRead b ecc s
  | .csProgram b busErr => Sys2Proof.Machine.execCsProgram b busErr s
  | .csErase b => Sys2Proof.Machine.execCsErase b s
  | .csBlankCheck b => Sys2Proof.Machine.execCsBlankCheck b s
  | .csProgramEnd b ok => Sys2Proof.Machine.execCsProgramEnd b ok s
  | .csEraseEnd b ok => Sys2Proof.Machine.execCsEraseEnd b ok s
  | .csOpTimeout b => Sys2Proof.Machine.execCsOpTimeout b s
  | .csBankTimeout b => Sys2Proof.Machine.execCsBankTimeout b s
  | .xipFetch n addr wide ecc => Sys2Proof.Machine.execXipFetch n addr wide ecc s
  | .sowRow i1 g => Sys2Proof.Machine.execSowRow i1 g s
  | .rowConfirmed i1 id => Sys2Proof.Machine.execRowConfirmed i1 id s
  | .rowProgramFailed i1 id => Sys2Proof.Machine.execRowProgramFailed i1 id s
  | .endMarkerWrite i1 id => Sys2Proof.Machine.execEndMarkerWrite i1 id s
  | .journalPageProgrammed i1 => Sys2Proof.Machine.execJournalPageProgrammed i1 s
  | .checkpointStart i1 => Sys2Proof.Machine.execCheckpointStart i1 s
  | .checkpointComplete i1 => Sys2Proof.Machine.execCheckpointComplete i1 s
  | .mapSegmentReload i1 seg => Sys2Proof.Machine.execMapSegmentReload i1 seg s
  | .dieParityRebuild nsid unit ok => Sys2Proof.Machine.execDieParityRebuild nsid unit ok s
  | .gleanStart i1 => Sys2Proof.Machine.execGleanStart i1 s
  | .gleanMapUpdate i1 => Sys2Proof.Machine.execGleanMapUpdate i1 s
  | .furrowErase i1 id => Sys2Proof.Machine.execFurrowErase i1 id s
  | .furrowEraseDone i1 id => Sys2Proof.Machine.execFurrowEraseDone i1 id s
  | .patrolRead c l plane block page => Sys2Proof.Machine.execPatrolRead c l plane block page s
  | .staticSwap i1 => Sys2Proof.Machine.execStaticSwap i1 s
  | .lunRetired c l => Sys2Proof.Machine.execLunRetired c l s
  | .pwrFail sense => Sys2Proof.Machine.execPwrFail sense s
  | .flushSown => Sys2Proof.Machine.execFlushSown s
  | .flushEnd sense csAnswers => Sys2Proof.Machine.execFlushEnd sense csAnswers s
  | .powerReturn csAnswers => Sys2Proof.Machine.execPowerReturn csAnswers s
  | .dirtyReservationGranted => Sys2Proof.Machine.execDirtyReservationGranted s
  | .ceilingRaiseEffective => Sys2Proof.Machine.execCeilingRaiseEffective s
  | .huMeasurementStart sum => Sys2Proof.Machine.execHuMeasurementStart sum s
  | .huTestEnd sum => Sys2Proof.Machine.execHuTestEnd sum s
  | .huPeriodExpiry => Sys2Proof.Machine.execHuPeriodExpiry s
  | .huSeriesRetry => Sys2Proof.Machine.execHuSeriesRetry s
  | .huSharedTimeout => Sys2Proof.Machine.execHuSharedTimeout s
  | .straitLinkUp tx rx order invert => Sys2Proof.Machine.execStraitLinkUp tx rx order invert s
  | .straitFrameError => Sys2Proof.Machine.execStraitFrameError s
  | .straitNak l => Sys2Proof.Machine.execStraitNak l s
  | .straitAckSend => Sys2Proof.Machine.execStraitAckSend s
  | .straitNop l => Sys2Proof.Machine.execStraitNop l s
  | .hello l sameCode isle single serial pair state => Sys2Proof.Machine.execHello l sameCode isle single serial pair state s
  | .helloAck l => Sys2Proof.Machine.execHelloAck l s
  | .mirrorSize l bytes confirm => Sys2Proof.Machine.execMirrorSize l bytes confirm s
  | .mirrorFlushed l => Sys2Proof.Machine.execMirrorFlushed l s
  | .huResult l c v0 e => Sys2Proof.Machine.execHuResult l c v0 e s
  | .resvState l nsid regs holder type gen ptpl => Sys2Proof.Machine.execResvState l nsid regs holder type gen ptpl s
  | .regionHandover l r channels => Sys2Proof.Machine.execRegionHandover l r channels s
  | .regionReclaim l r channels => Sys2Proof.Machine.execRegionReclaim l r channels s
  | .setReleased l group => Sys2Proof.Machine.execSetReleased l group s
  | .echo l data => Sys2Proof.Machine.execEcho l data s
  | .eventFwd l slot => Sys2Proof.Machine.execEventFwd l slot s
  | .unknownFrame l cls => Sys2Proof.Machine.execUnknownFrame l cls s
  | .heartbeatSend => Sys2Proof.Machine.execHeartbeatSend s
  | .heartbeat l timebase pair regions chown shipped applied freeSlots => Sys2Proof.Machine.execHeartbeat l timebase pair regions chown shipped applied freeSlots s
  | .mirrorDesc l slot nsid unit gen seq piece units crc info fwdTag => Sys2Proof.Machine.execMirrorDesc l slot nsid unit gen seq piece units crc info fwdTag s
  | .mirrorData l slot chunk data => Sys2Proof.Machine.execMirrorData l slot chunk data s
  | .mirrorAck l slots => Sys2Proof.Machine.execMirrorAck l slots s
  | .mirrorFree l slots => Sys2Proof.Machine.execMirrorFree l slots s
  | .mirrorDiscard l slots => Sys2Proof.Machine.execMirrorDiscard l slots s
  | .journalRecords l i1 first records => Sys2Proof.Machine.execJournalRecords l i1 first records s
  | .journalAck l i1 seq => Sys2Proof.Machine.execJournalAck l i1 seq s
  | .resyncFrom l i1 applied => Sys2Proof.Machine.execResyncFrom l i1 applied s
  | .segment l i1 seg offset entries => Sys2Proof.Machine.execSegment l i1 seg offset entries s
  | .pairInStep => Sys2Proof.Machine.execPairInStep s
  | .fwdCmd l tag cntlid cls nsid q pr => Sys2Proof.Machine.execFwdCmd l tag cntlid cls nsid q pr s
  | .fwdPull l tag offset count => Sys2Proof.Machine.execFwdPull l tag offset count s
  | .fwdData l tag offset data => Sys2Proof.Machine.execFwdData l tag offset data s
  | .fwdCpl l tag dw0 dw1 status lba specific => Sys2Proof.Machine.execFwdCpl l tag dw0 dw1 status lba specific s
  | .fwdStop l tags => Sys2Proof.Machine.execFwdStop l tags s
  | .fwdStopAck l entries => Sys2Proof.Machine.execFwdStopAck l entries s
  | .mediaReq l c number desc => Sys2Proof.Machine.execMediaReq l c number desc s
  | .mediaData l number stream offset poisoned data => Sys2Proof.Machine.execMediaData l number stream offset poisoned data s
  | .mediaCpl l number status => Sys2Proof.Machine.execMediaCpl l number status s
  | .straitSilence => Sys2Proof.Machine.execStraitSilence s
  | .twinFailAsserted => Sys2Proof.Machine.execTwinFailAsserted s
  | .twinAliveFall => Sys2Proof.Machine.execTwinAliveFall s
  | .takeoverComplete found => Sys2Proof.Machine.execTakeoverComplete found s
  | .failbackComplete => Sys2Proof.Machine.execFailbackComplete s
  | .channelClaimMet c => Sys2Proof.Machine.execChannelClaimMet c s
  | .simultaneousClaim c => Sys2Proof.Machine.execSimultaneousClaim c s
  | .ownershipConflict c => Sys2Proof.Machine.execOwnershipConflict c s
  | .claimTimeout c => Sys2Proof.Machine.execClaimTimeout c s
  | .leakIntervalExpiry cls => Sys2Proof.Machine.execLeakIntervalExpiry cls s
  | .dramScrubRead addr ecc => Sys2Proof.Machine.execDramScrubRead addr ecc s
  | .ternaryRefresh i1 ecc => Sys2Proof.Machine.execTernaryRefresh i1 ecc s
  | .mov x d a => Sys2Proof.Machine.execMov x d a s
  | .add x d a b => Sys2Proof.Machine.execAdd x d a b s
  | .sub x d a b => Sys2Proof.Machine.execSub x d a b s
  | .and x d a b => Sys2Proof.Machine.execAnd x d a b s
  | .or x d a b => Sys2Proof.Machine.execOr x d a b s
  | .xor x d a b => Sys2Proof.Machine.execXor x d a b s
  | .andn x d a b => Sys2Proof.Machine.execAndn x d a b s
  | .shl x d a b => Sys2Proof.Machine.execShl x d a b s
  | .shr x d a b => Sys2Proof.Machine.execShr x d a b s
  | .sar x d a b => Sys2Proof.Machine.execSar x d a b s
  | .rol x d a b => Sys2Proof.Machine.execRol x d a b s
  | .mul x d a b => Sys2Proof.Machine.execMul x d a b s
  | .divu x d a b => Sys2Proof.Machine.execDivu x d a b s
  | .div x d a b => Sys2Proof.Machine.execDiv x d a b s
  | .remu x d a b => Sys2Proof.Machine.execRemu x d a b s
  | .rem x d a b => Sys2Proof.Machine.execRem x d a b s
  | .minu x d a b => Sys2Proof.Machine.execMinu x d a b s
  | .maxu x d a b => Sys2Proof.Machine.execMaxu x d a b s
  | .min x d a b => Sys2Proof.Machine.execMin x d a b s
  | .max x d a b => Sys2Proof.Machine.execMax x d a b s
  | .slt x d a b => Sys2Proof.Machine.execSlt x d a b s
  | .sltu x d a b => Sys2Proof.Machine.execSltu x d a b s
  | .seq x d a b => Sys2Proof.Machine.execSeq x d a b s
  | .clz x d a => Sys2Proof.Machine.execClz x d a s
  | .ctz x d a => Sys2Proof.Machine.execCtz x d a s
  | .popc x d a => Sys2Proof.Machine.execPopc x d a s
  | .bswap x d a => Sys2Proof.Machine.execBswap x d a s
  | .cmovnz x d a b => Sys2Proof.Machine.execCmovnz x d a b s
  | .addc x d a b => Sys2Proof.Machine.execAddc x d a b s
  | .subb x d a b => Sys2Proof.Machine.execSubb x d a b s
  | .mulw x d a b => Sys2Proof.Machine.execMulw x d a b s
  | .mulwu x d a b => Sys2Proof.Machine.execMulwu x d a b s
  | .addcc x d a b => Sys2Proof.Machine.execAddcc x d a b s
  | .subbc x d a b => Sys2Proof.Machine.execSubbc x d a b s
  | .macx x k a b mode postinc clear uns steps => Sys2Proof.Machine.execMacx x k a b mode postinc clear uns steps s
  | .macxStep cluster ea eb => Sys2Proof.Machine.execMacxStep cluster ea eb s
  | .nop x => Sys2Proof.Machine.execNop x s
  | .fence x => Sys2Proof.Machine.execFence x s
  | .coreSync x => Sys2Proof.Machine.execCoreSync x s
  | .svc x => Sys2Proof.Machine.execSvc x s
  | .tend x a => Sys2Proof.Machine.execTend x a s
  | .brk x => Sys2Proof.Machine.execBrk x s
  | .eret x => Sys2Proof.Machine.execEret x s
  | .jr x a => Sys2Proof.Machine.execJr x a s
  | .callr x a => Sys2Proof.Machine.execCallr x a s
  | .ret x => Sys2Proof.Machine.execRet x s
  | .rpush x a => Sys2Proof.Machine.execRpush x a s
  | .rpop x d => Sys2Proof.Machine.execRpop x d s
  | .pchk x a => Sys2Proof.Machine.execPchk x a s
  | .waitev x => Sys2Proof.Machine.execWaitev x s
  | .iinv x => Sys2Proof.Machine.execIinv x s
  | .mova x d a => Sys2Proof.Machine.execMova x d a s
  | .movd x d a => Sys2Proof.Machine.execMovd x d a s
  | .aadd x d a b => Sys2Proof.Machine.execAadd x d a b s
  | .asub x d a b => Sys2Proof.Machine.execAsub x d a b s
  | .adiff x d a b => Sys2Proof.Machine.execAdiff x d a b s
  | .mfcr x d k long => Sys2Proof.Machine.execMfcr x d k long s
  | .mtcr x d k long => Sys2Proof.Machine.execMtcr x d k long s
  | .addi x d a i1 => Sys2Proof.Machine.execAddi x d a i1 s
  | .andi x d a i1 => Sys2Proof.Machine.execAndi x d a i1 s
  | .ori x d a i1 => Sys2Proof.Machine.execOri x d a i1 s
  | .xori x d a i1 => Sys2Proof.Machine.execXori x d a i1 s
  | .shi x d a kind count => Sys2Proof.Machine.execShi x d a kind count s
  | .inshi x d v => Sys2Proof.Machine.execInshi x d v s
  | .movi x d i1 => Sys2Proof.Machine.execMovi x d i1 s
  | .lea x d a i1 => Sys2Proof.Machine.execLea x d a i1 s
  | .ld8u x d a i1 e => Sys2Proof.Machine.execLd8u x d a i1 e s
  | .ld8s x d a i1 e => Sys2Proof.Machine.execLd8s x d a i1 e s
  | .ld16u x d a i1 e => Sys2Proof.Machine.execLd16u x d a i1 e s
  | .ld16s x d a i1 e => Sys2Proof.Machine.execLd16s x d a i1 e s
  | .ld32u x d a i1 e => Sys2Proof.Machine.execLd32u x d a i1 e s
  | .ld32s x d a i1 e => Sys2Proof.Machine.execLd32s x d a i1 e s
  | .ld64 x d a i1 e => Sys2Proof.Machine.execLd64 x d a i1 e s
  | .ldp x d a i1 e => Sys2Proof.Machine.execLdp x d a i1 e s
  | .st8 x d a i1 e => Sys2Proof.Machine.execSt8 x d a i1 e s
  | .st16 x d a i1 e => Sys2Proof.Machine.execSt16 x d a i1 e s
  | .st32 x d a i1 e => Sys2Proof.Machine.execSt32 x d a i1 e s
  | .st64 x d a i1 e => Sys2Proof.Machine.execSt64 x d a i1 e s
  | .stp x d a i1 e => Sys2Proof.Machine.execStp x d a i1 e s
  | .lda x d a i1 e => Sys2Proof.Machine.execLda x d a i1 e s
  | .sta x d a i1 e => Sys2Proof.Machine.execSta x d a i1 e s
  | .postIncrement x o a i1 e => Sys2Proof.Machine.execPostIncrement x o a i1 e s
  | .cas x d a b e => Sys2Proof.Machine.execCas x d a b e s
  | .beq x a b i1 => Sys2Proof.Machine.execBeq x a b i1 s
  | .bne x a b i1 => Sys2Proof.Machine.execBne x a b i1 s
  | .blt x a b i1 => Sys2Proof.Machine.execBlt x a b i1 s
  | .bge x a b i1 => Sys2Proof.Machine.execBge x a b i1 s
  | .bltu x a b i1 => Sys2Proof.Machine.execBltu x a b i1 s
  | .bgeu x a b i1 => Sys2Proof.Machine.execBgeu x a b i1 s
  | .bz x a i1 => Sys2Proof.Machine.execBz x a i1 s
  | .bnz x a i1 => Sys2Proof.Machine.execBnz x a i1 s
  | .baeq x a b i1 => Sys2Proof.Machine.execBaeq x a b i1 s
  | .bane x a b i1 => Sys2Proof.Machine.execBane x a b i1 s
  | .baltu x a b i1 => Sys2Proof.Machine.execBaltu x a b i1 s
  | .bdv x a mode i1 => Sys2Proof.Machine.execBdv x a mode i1 s
  | .jmp x i1 => Sys2Proof.Machine.execJmp x i1 s
  | .call x i1 => Sys2Proof.Machine.execCall x i1 s
  | .dadd x d a b => Sys2Proof.Machine.execDadd x d a b s
  | .dsub x d a b => Sys2Proof.Machine.execDsub x d a b s
  | .dadj x d a b => Sys2Proof.Machine.execDadj x d a b s
  | .pack x d a b => Sys2Proof.Machine.execPack x d a b s
  | .unpk x d a => Sys2Proof.Machine.execUnpk x d a s
  | .unpkf x d a => Sys2Proof.Machine.execUnpkf x d a s
  | .dsgnGet x d a => Sys2Proof.Machine.execDsgnGet x d a s
  | .dsgnStrip x d a => Sys2Proof.Machine.execDsgnStrip x d a s
  | .dsgnApply x d a b => Sys2Proof.Machine.execDsgnApply x d a b s
  | .dsgnNorm x d a => Sys2Proof.Machine.execDsgnNorm x d a s
  | .dcvt x d a => Sys2Proof.Machine.execDcvt x d a s
  | .dcvtu x d a => Sys2Proof.Machine.execDcvtu x d a s
  | .dacc x k a => Sys2Proof.Machine.execDacc x k a s
  | .mtac x k a => Sys2Proof.Machine.execMtac x k a s
  | .mtacs x k a => Sys2Proof.Machine.execMtacs x k a s
  | .mtacz x k a => Sys2Proof.Machine.execMtacz x k a s
  | .mtacd x k a => Sys2Proof.Machine.execMtacd x k a s
  | .mfac x d k => Sys2Proof.Machine.execMfac x d k s
  | .mfacs x d k => Sys2Proof.Machine.execMfacs x d k s
  | .mfacu x d k => Sys2Proof.Machine.execMfacu x d k s
  | .mfacd x d k => Sys2Proof.Machine.execMfacd x d k s
  | .eventException n => Sys2Proof.Machine.execEventException n s
  | .taskStop n => Sys2Proof.Machine.execTaskStop n s
  | .wsync n => Sys2Proof.Machine.execWsync n s
  | .coreRestart n => Sys2Proof.Machine.execCoreRestart n s
  | .taskEnqueue tag r t => Sys2Proof.Machine.execTaskEnqueue tag r t s
  | .enqueueResume r target => Sys2Proof.Machine.execEnqueueResume r target s
  | .taskDispatch r ecc lost => Sys2Proof.Machine.execTaskDispatch r ecc lost s
  | .prefetchFill r ecc lost => Sys2Proof.Machine.execPrefetchFill r ecc lost s
  | .engineEnable r k on => Sys2Proof.Machine.execEngineEnable r k on s
  | .engineDescDoorbell r k q tail busErr => Sys2Proof.Machine.execEngineDescDoorbell r k q tail busErr s
  | .contextRingReset r q => Sys2Proof.Machine.execContextRingReset r q s
  | .compOpen r pipe => Sys2Proof.Machine.execCompOpen r pipe s
  | .compData r pipe => Sys2Proof.Machine.execCompData r pipe s
  | .compResume r pipe => Sys2Proof.Machine.execCompResume r pipe s
  | .compClose r pipe => Sys2Proof.Machine.execCompClose r pipe s
  | .compBoundary r pipe n => Sys2Proof.Machine.execCompBoundary r pipe n s
  | .xtsEnc r => Sys2Proof.Machine.execXtsEnc r s
  | .xtsDec r => Sys2Proof.Machine.execXtsDec r s
  | .gcmEnc r => Sys2Proof.Machine.execGcmEnc r s
  | .gcmDec r => Sys2Proof.Machine.execGcmDec r s
  | .kwWrap r => Sys2Proof.Machine.execKwWrap r s
  | .kwUnwrap r => Sys2Proof.Machine.execKwUnwrap r s
  | .keyImport r => Sys2Proof.Machine.execKeyImport r s
  | .keyUnwrapLoad r => Sys2Proof.Machine.execKeyUnwrapLoad r s
  | .keyGenerate r => Sys2Proof.Machine.execKeyGenerate r s
  | .keyExport r => Sys2Proof.Machine.execKeyExport r s
  | .keyUnload r => Sys2Proof.Machine.execKeyUnload r s
  | .cipherBoundary r digest pipe n => Sys2Proof.Machine.execCipherBoundary r digest pipe n s
  | .digestHash r => Sys2Proof.Machine.execDigestHash r s
  | .ctxExport r => Sys2Proof.Machine.execCtxExport r s
  | .ctxImport r => Sys2Proof.Machine.execCtxImport r s
  | .queueRingReset r k q => Sys2Proof.Machine.execQueueRingReset r k q s
  | .ternSearch ecc delayed => Sys2Proof.Machine.execTernSearch ecc delayed s
  | .ternNext ecc delayed => Sys2Proof.Machine.execTernNext ecc delayed s
  | .ternSearchBatch ecc delayed => Sys2Proof.Machine.execTernSearchBatch ecc delayed s
  | .ternWrite r q => Sys2Proof.Machine.execTernWrite r q s
  | .ternInvalidate r q steps => Sys2Proof.Machine.execTernInvalidate r q steps s
  | .moveBlock r q steps => Sys2Proof.Machine.execMoveBlock r q steps s
  | .ternRead r q => Sys2Proof.Machine.execTernRead r q s
  | .scanStart r lane => Sys2Proof.Machine.execScanStart r lane s
  | .patternSetLoaded r lane => Sys2Proof.Machine.execPatternSetLoaded r lane s
  | .resultRingDrained r q head => Sys2Proof.Machine.execResultRingDrained r q head s
  | .scanBoundary r lane => Sys2Proof.Machine.execScanBoundary r lane s
  | .dramRequest op => Sys2Proof.Machine.execDramRequest op s
  | .requestAged c id => Sys2Proof.Machine.execRequestAged c id s
  | .panicEnter port level => Sys2Proof.Machine.execPanicEnter port level s
  | .panicLeave port level => Sys2Proof.Machine.execPanicLeave port level s
  | .rowTableWindowEnd => Sys2Proof.Machine.execRowTableWindowEnd s
  | .dqsTracking c => Sys2Proof.Machine.execDqsTracking c s
  | .dramRetrain c last => Sys2Proof.Machine.execDramRetrain c last s
  | .selfRefreshEntry c => Sys2Proof.Machine.execSelfRefreshEntry c s
  | .bufferAlloc n at_ lost => Sys2Proof.Machine.execBufferAlloc n at_ lost s
  | .hubCacheRefill p => Sys2Proof.Machine.execHubCacheRefill p s
  | .regionCacheRecall => Sys2Proof.Machine.execRegionCacheRecall s
  | .bufferInc n hub h => Sys2Proof.Machine.execBufferInc n hub h s
  | .bufferDec n hub h => Sys2Proof.Machine.execBufferDec n hub h s
  | .bufferQuery n h => Sys2Proof.Machine.execBufferQuery n h s
  | .eventClaim n t => Sys2Proof.Machine.execEventClaim n t s
  | .eventComplete n t src => Sys2Proof.Machine.execEventComplete n t src s
  | .eventClaimSelf n => Sys2Proof.Machine.execEventClaimSelf n s
  | .eventCompleteSelf n src => Sys2Proof.Machine.execEventCompleteSelf n src s
  | .pendingWrite g v => Sys2Proof.Machine.execPendingWrite g v s
  | .holdoffExpiry g => Sys2Proof.Machine.execHoldoffExpiry g s
  | .registerWrite n a wide v => Sys2Proof.Machine.execRegisterWrite n a wide v s
  | .powerCollapse => Sys2Proof.Machine.execPowerCollapse s
  | .dieLinkLoss m => Sys2Proof.Machine.execDieLinkLoss m s
  | .dieLinkRetrained m => Sys2Proof.Machine.execDieLinkRetrained m s
  | .straitLockLoss => Sys2Proof.Machine.execStraitLockLoss s
  | .pcieLinkTrainingDone rate width flit reversed => Sys2Proof.Machine.execPcieLinkTrainingDone rate width flit reversed s
  | .aggregationTimeExpiry fn => Sys2Proof.Machine.execAggregationTimeExpiry fn s
  | .dramRefresh c bank => Sys2Proof.Machine.execDramRefresh c bank s
  | .illegalInstruction x w ext => Sys2Proof.Machine.execIllegalInstruction x w ext s
  | .invalidCommandOpcode q => Sys2Proof.Machine.execInvalidCommandOpcode q s
  | .doeDiscovery index => Sys2Proof.Machine.execDoeDiscovery index s

end Sys2Proof.Machine
end

