-- ==== Sys2Proof/Safety.lean ====
section
/-! DEFINITION. What claims mean by a state that is in order. -/
namespace Sys2Proof.Machine

/-- Every command that waits is well formed. -/
def State.queueWf (s : State) : Bool := s.pending.all Instr.wellFormed

/-- The device memory is in its canonical form. -/
def State.memWf (s : State) : Bool := s.mem.wf

/-- A state in order: memory canonical, and only well-formed commands waiting. -/
def State.safe (s : State) : Bool := s.memWf && s.queueWf

end Sys2Proof.Machine
end

