-- ==== Sys2Proof/Certificates/Slice0/Obligations.lean ====
section
/-! DEFINITION. The statements for the provers. A condition of a command, in the namespace Cond, is what its clause asks of the state and the
operands; the tests name a state that meets it. -/

set_option linter.unusedVariables false

namespace Sys2Proof.Cond
open Sys2Proof.Machine

/-- A command can be fetched: its engine comes to its queue, whose controller runs, and its completion queue has room. -/
def canFetch (s : State) (q : Sqe) : Bool :=
  let fn := q.fn.toNat
  let n := q.sq.toNat
  ((s.pick (n % 16)).any fun p => p.1 == (fn, n)) && (s.sq? fn n).any fun x => s.sqReady fn n x &&
    (s.cq? fn (if n = 0 then 0 else x.cq)).any fun k => (k.tail + 1) % k.size != k.head

/-- An admin command can be fetched, and no sanitize operation runs. -/
def admin (s : State) (q : Sqe) : Bool := q.sq == 0 && canFetch s q && s.nvme.sanitize.isNone

/-- No asynchronous event of a command's controller can take a completion of its own. -/
def calm (s : State) (q : Sqe) : Bool := (s.ctrl q.fn.toNat).aers.isEmpty

/-- A command's controller reaches a namespace of the NVM command set that this Isle serves. -/
def reaches (s : State) (q : Sqe) (nsid : Nat) : Bool :=
  decide (1 ≤ nsid) && decide (nsid ≤ 1020) && (s.namespace? nsid).any fun n =>
    n.nsid == nsid && n.attached.contains (s.cntlid q.fn.toNat) && (s.ana n.group).status.isNone && (s.xset (setOfGroup n.group)).live

/-- An I/O command can be fetched and run here, alone in the front end. -/
def io (s : State) (q : Sqe) (nsid : Nat) : Bool :=
  q.sq != 0 && canFetch s q && calm s q && s.nvme.sanitize.isNone && s.nvme.cmds.isEmpty && reaches s q nsid

/-- Nothing but the front end, the dictionary, the events, the Strait and what is sent has changed. -/
def keepsRest (s u : State) : Bool :=
  u.pkg == s.pkg && u.flash == s.flash && u.media == s.media && u.cs == s.cs && u.sets == s.sets && u.hold == s.hold && u.integ == s.integ &&
    u.cores == s.cores && u.sched == s.sched && u.eng == s.eng && u.vault == s.vault && u.tern == s.tern && u.dram == s.dram && u.bpm == s.bpm &&
    u.mem == s.mem

/-- What the package has sent from one state to the other. -/
def sent (s u : State) : List Emit := u.out.drop s.out.length

/-- A command's completion entry with a status and a first dword has been sent. -/
def completed (s u : State) (q : Sqe) (status dw0 : Nat) : Bool :=
  (sent s u).any fun e => match e with
    | .cqe fn _ sq cid st d _ _ => fn == q.fn.toNat && sq == q.sq.toNat && cid == q.cid.toNat && st / 2 == status && d == dw0
    | _ => false

/-- A command's data has been sent. -/
def gave (s u : State) (q : Sqe) (bytes : List Byte) : Bool :=
  (sent s u).any fun e => match e with
    | .data fn sq cid b _ _ _ _ => fn == q.fn.toNat && sq == q.sq.toNat && cid == q.cid.toNat && b == bytes
    | _ => false

/-- A command's data has been sent to where its data pointer lets it land. -/
def landed (s u : State) (q : Sqe) (w : Walk) (bytes : List Byte) : Bool := gave s u q (w.data.lands 0 bytes)

/-- A read's data has been sent: the blocks to where the data pointer lets them land, and the metadata that goes apart to its own buffer. -/
def returned (s u : State) (q : Sqe) (w : Walk) (apart : Nat) (bytes : List Byte) : Bool :=
  let d := divided apart 0 bytes
  let put (md : Bool) (b : List Byte) : Bool := (sent s u).any fun e => match e with
    | .data fn sq cid x m _ _ _ => fn == q.fn.toNat && sq == q.sq.toNat && cid == q.cid.toNat && m == md && x == b
    | _ => false
  put false (w.data.lands 0 d.1) && (d.2.isEmpty || put true (w.info.lands 0 d.2))

/-- The namespace of an I/O command holds no protection information, and the command's fields, pointers and reservation pass their checks (R112, R117,
R123, R128). -/
def sound (s : State) (q : Sqe) (nsid : Nat) (op : IoOp) (pr : PrInfo) (w : Walk) : Bool :=
  (s.namespace? nsid).any fun n => decide (n.dps % 8 = 0) && s.ioCheck q.fn.toNat n op pr w == 0

/-- Range-lock entries are free for a command of a queue. -/
def locksOpen (s : State) (q : Sqe) (n : Nat) : Bool := s.locksFree (s.classOf q.fn.toNat q.sq.toNat) n

/-- A command is admitted as it arrives, and needs no page of flash. -/
def enters (s : State) (q : Sqe) (op : IoOp) : Bool :=
  s.nvme.heldCpl.isEmpty && locksOpen s q op.spans.length && !s.segmentBad op.spans && (s.flashUnits op.readSpans).isEmpty

/-- Every unit of an extent can be read, and none is poisoned. -/
def whole (s : State) (e : Extent) : Bool := (s.readExtent e).2.1.isNone && (s.readExtent e).2.2.isEmpty

/-- A write of an extent is taken at once: in write-back mode without mirroring, the drive writable, nothing else dirty, room for `n` units, and what it
leaves of the extent's units readable. -/
def takes (s : State) (e : Extent) (n : Nat) : Bool :=
  !s.flag 0x6030 1 && !s.driveFull (s.setOf e.nsid) && !s.mirroring && !s.writeThrough && s.hold.dirty.isEmpty && decide (s.dirtyLoad + n ≤ s.dirtyRoom) &&
    (s.unmergeable e).isNone

/-- The sources of a Copy. -/
def copied (nsid : BitVec 32) (src : List CopyRange) : List Extent := src.map fun p => Extent.mk nsid.toNat p.lba.toNat (p.nlb.toNat + 1)

/-- A Copy as the front end takes it. -/
def copyOp (nsid : BitVec 32) (sdlba : BitVec 64) (src : List CopyRange) (check : CopyPr) : IoOp :=
  .copy (copied nsid src) ⟨nsid.toNat, sdlba.toNat, sumOf (·.count) (copied nsid src)⟩ (src.map check.range)

/-- A Dataset Management as the front end takes it. -/
def trimOp (nsid : BitVec 32) (ranges : List (BitVec 64 × BitVec 32)) (ad : Bool) : IoOp :=
  .deallocate (if ad then ranges.map fun p => ⟨nsid.toNat, p.1.toNat, p.2.toNat⟩ else [])

/-- No request of an MCTP endpoint waits behind a commit. -/
def quiet (s : State) : Bool := s.dict.mctp.all fun m => m.waiting.isEmpty

/-- A controller's session may make a dictionary request now. -/
def dictOpen (s : State) (fn : Nat) : Bool := !s.committing (.nvme fn) && (fn == 0 || bit (s.val 0x4F00 1) 0) && quiet s

/-- The session of a header request. -/
def session (o : Sender) (h : HdrIn) : Session :=
  match o with
  | .port (.mctp eid _ _) => .mctp eid.toNat
  | .port (.t1s _ mac _ _) => .t1s mac.toNat h.supervisor
  | .strait _ => .strait

/-- The key a 10BASE-T1S frame is tagged under. -/
def t1sKey (s : State) (h : HdrIn) (mac : Nat) : Option (List Byte) :=
  if h.supervisor then (s.peer? mac).bind fun p => p.session else some s.busKey

/-- A 10BASE-T1S frame carries the tag that its key gives it. -/
def t1sTagged (s : State) (dst mac seq : Nat) (auth : List Byte) (h : HdrIn) (op : Nat) (value : List Byte) : Bool :=
  (t1sKey s h mac).any fun k => s.authTag k (t1sFrame dst mac seq (h.bytes op value)) == auth

/-- A 10BASE-T1S frame passes the other checks of R84. -/
def t1sTaken (s : State) (mac seq : Nat) (h : HdrIn) (op : Nat) (value : List Byte) : Bool :=
  s.serving && h.frameOk op value &&
    ((s.peer? mac).isSome || decide (s.dict.peers.length < 16)) && ((s.peer? mac).getD ⟨mac, 0, 0, 0, none, none⟩).fresh seq

/-- A header request is taken: its size, its transport's checks and enables. -/
def carried (o : Sender) (h : HdrIn) (op : Nat) (value : List Byte) (s : State) : Bool :=
  quiet s && match o with
  | .port (.mctp eid ic check) =>
    s.serving && h.frameOk op value && (!ic || crc32c (mctpBody ic (h.bytes op value)) == check.toNat) && !h.supervisor && bit (s.val 0x4F00 1) 1 &&
      ((s.dict.mctp.any fun m => m.eid == eid.toNat) || decide (s.dict.mctp.length < 8)) && !s.committing (.mctp eid.toNat)
  | .port (.t1s dst mac seq auth) =>
    t1sTagged s dst.toNat mac.toNat seq.toNat auth h op value && t1sTaken s mac.toNat seq.toNat h op value && bit (s.val 0x4F00 1) (h.hdr op).t1sBit
  | .strait _ => s.twin.lanes != 0 && s.twin.session && h.frameOk op value

/-- A header response with a status and a value has been sent the way its request came. -/
def answered (o : Sender) (h : HdrIn) (op : Nat) (s u : State) (status offset : Nat) (value : List Byte) : Bool :=
  let body := (h.hdr op).response status offset value
  match o with
  | .port (.mctp eid ic _) => (sent s u).contains (.mctp eid.toNat (mctpMessage ic body))
  | .port (.t1s dst mac seq _) =>
    let f := t1sFrame mac.toNat dst.toNat seq.toNat body
    (t1sKey s h mac.toNat).any fun k => (sent s u).contains (.t1s (t1sSent (f ++ s.authTag k f)))
  | .strait _ => (u.twin.waiting ++ u.twin.replay.map fun p => p.2).contains ⟨5, 0, leBytes 8 u.dict.pairSeq ++ body, false⟩

/-- The key of an entry's instance as a session writes it, if the write passes its checks. -/
def writes (s : State) (x : Session) (fn idx sub : Nat) (value : List Byte) : Option Staged :=
  if s.accessCheck x idx sub true != 0 then none
  else (entryRow? idx sub).bind fun r =>
    if r.type.isDomain || r.valueCheck value != 0 || (idx == 0x1100 && sub == 1) then none
    else some ⟨x.key r fn idx sub, r.type.size, ofLe value⟩

/-- A row that a session may read as a value of its own, in a buffer of a length; the transports' counters, the event controller's and the twin's are
moved by the request itself. -/
def reads (s : State) (x : Session) (idx sub len : Nat) : Bool :=
  s.accessCheck x idx sub false == 0 && !(decide (0x1110 ≤ idx) && decide (idx ≤ 0x1113)) && idx != 0xD190 && idx != 0x8000 &&
    (entryRow? idx sub).any fun r => !r.type.isDomain && r.type.size != 0 && decide (r.type.size ≤ len)

/-- A DOMAIN entry that a session may read, with room for its transfer. -/
def snaps (s : State) (x : Session) (idx sub : Nat) : Bool :=
  s.accessCheck x idx sub false == 0 && ((entryRow? idx sub).any fun r => r.type.isDomain) && decide (s.dict.transfers.length < 16)

/-- The bytes of such a row's value. -/
def readBytes (s : State) (x : Session) (fn idx sub : Nat) : List Byte :=
  ((entryRow? idx sub).map fun r => valueBytes r.type (s.readVal x (keyFn (x.key r fn idx sub)) idx sub)).getD []

/-- The answer that a peer's nonce and the supervisor key make (R86 step 2). -/
def owed (s : State) (mac : Nat) : Option (List Byte) :=
  ((s.peer? mac).bind fun p => p.nonce).bind fun n => s.supervisorKey.map fun k => hmac256 k (n.1 ++ beBytes 6 mac ++ leBytes 8 s.dict.epoch.toNat)

/-- An SPDM response has been sent on the mailbox, or is held for Security Receive. -/
def said (s u : State) (doe : Bool) (m : List Byte) : Bool := if doe then u.nvme.doeOut == doeObject 1 m && u.out == s.out ++ [.doe (doeObject 1 m)] else u.nvme.spdmOut == m && u.out == s.out

/-- A device command can be fetched and run here, alone in the front end, its pointer holding what it moves. -/
def dev (s : State) (q : Sqe) (nsid : Nat) (d : DevOp) (w : Walk) : Bool :=
  canFetch s q && q.sq != 0 && calm s q && s.nvme.sanitize.isNone && s.nvme.cmds.isEmpty && locksOpen s q 0 &&
    (if d.compute then nsid == 1021 || nsid == 1022 else nsid == 1023 || nsid == 1024) && s.walkStatus q w d.moves.1 d.moves.2 == 0 &&
    (s.namespace? nsid).any fun n => n.attached.contains (s.cntlid q.fn.toNat) && n.group == s.ownGroup && (s.ana n.group).status.isNone

/-- A part of an image comes next in a slot: the first of an empty slot, or the one behind what its loader has sent. -/
def nextPart (s : State) (fn k offset : Nat) : Bool :=
  let x := s.slot k
  (offset == 0 && x.state == .empty) || (x.state == .loading && x.fn == fn && offset == x.image.length)

/-- The images other slots hold and an image of a length fit in program memory. -/
def programFits (s : State) (k n : Nat) : Bool := decide (s.otherBytes k + n ≤ s.sched.programArea * 2 ^ 20)

/-- The ranges of a function's set; set 0 names none. -/
def rangesOf (s : State) (fn id : Nat) : Option (List MemRange) :=
  match s.sched.sets.find? fun (x : RangeSet) => x.id == id && x.fn == fn with
  | some x => some x.ranges
  | none => if id = 0 then some [] else none

/-- The sources of a Memory Copy, and what they hold. -/
def slmSrc (src : BitVec 32) (ranges : List (BitVec 64 × BitVec 16)) : List Extent :=
  ranges.map fun p => Extent.mk src.toNat p.1.toNat (p.2.toNat + 1)
def slmData (s : State) (src : BitVec 32) (ranges : List (BitVec 64 × BitVec 16)) : List Byte :=
  (slmSrc src ranges).flatMap fun e => (s.readExtent e).1.flatMap fun b => padTo 4096 b.data

/-- Bytes have been stored at an address, and no other byte of memory has changed. -/
def stores (s u : State) (a : Nat) (b : List Byte) : Prop :=
  u.mem.read a b.length = b ∧ ∀ x, x < a ∨ a + b.length ≤ x → u.mem.byte x = s.mem.byte x

/-- Nothing but the media engine, the flash, memory, its controllers, the dictionary, the events, the Strait and what is sent has changed. -/
def restMedia (s u : State) : Bool :=
  u.pkg == s.pkg && u.nvme == s.nvme && u.cs == s.cs && u.sets == s.sets && u.hold == s.hold && u.integ == s.integ &&
    u.cores == s.cores && u.sched == s.sched && u.eng == s.eng && u.vault == s.vault && u.tern == s.tern && u.bpm == s.bpm

/-- No work of the firmware waits for a port or has ended, and no failback runs. -/
def settled (s : State) : Bool :=
  s.media.done.isEmpty && s.media.backlog.isEmpty && s.twin.failback.isNone &&
    ([0, 1] : List (Fin 2)).all fun i => (s.xset i).rows.all fun r => r.waiting.isEmpty

/-- The media engine runs, and no work of the firmware waits for a port or has ended. -/
def mediaOn (s : State) : Bool := s.powered && settled s

/-- An operation is a ring's. -/
def ofRing (o : MOp) : Bool := match o.origin with | .ring _ => true | _ => false

/-- The ring slot of an operation. -/
def ringSlot (o : MOp) : Nat := match o.origin with | .ring n => n | _ => 0

/-- An operation is a ring's and names a LUN. -/
def onRing (l : Nat) (o : MOp) : Bool := ofRing o && o.desc.lun == l

/-- The operation that a LUN starts next is a ring's that has not started, has an opcode and is not turned away. -/
def starts (s : State) (c l : Nat) (code : MOpcode) : Bool :=
  mediaOn s && (s.lun c l).next.any fun o => o.desc.opcode == code && onRing l o && !o.started && (s.turnedAway c l o).isNone

/-- The operation of an opcode that a LUN runs, or starts next and is not turned away, is a ring's. -/
def hands (s : State) (c l : Nat) (code : MOpcode) : Bool :=
  mediaOn s && ((s.lun c l).inHand code).any fun o => onRing l o && (o.started || (s.turnedAway c l o).isNone)

/-- A port's next descriptor as it is queued. -/
def fetchedOp (s : State) (c : Nat) (d : MDesc) : MOp := { freshOp s.media.nextId c d (.ring (s.port c).descHead) with place := s.nvme.nextOrder }

/-- Nothing has changed but what `restMedia` names, and when a region last had host work. -/
def restFetch (s u : State) : Bool := restMedia s { u with nvme.busyAt := s.nvme.busyAt }

/-- An operation that has started, now if it had not. -/
def begunOp (s : State) (o : MOp) : MOp := if o.started then o else { o with started := true, startAt := s.pkg.timebase }

/-- A read whose first sense starts. -/
def senses (s : State) (c l : Nat) (o : MOp) : MOp :=
  { o with
    started := true, startAt := s.pkg.timebase, left := o.desc.codewords, senseAt := s.pkg.timebase, sensed := false, transferred := false
    inSuspension := o.inSuspension || (s.lun c l).erase.isSome }

/-- An operation with the status byte last read from its LUN. -/
def seen (u : State) (c l : Nat) (o : MOp) : MOp := { o with onfi := (u.lun c l).status }

/-- The LUN's operations but one. -/
def others (s : State) (c l : Nat) (o : MOp) : List MOp := (s.lun c l).ops.filter fun q => q.id != o.id

/-- Where a port's next completion entry goes. -/
def cplAt (s : State) (c : Nat) : Nat := (s.port c).cplBase + 16 * (s.port c).cplTail

/-- A port's completion ring has taken an entry. -/
def cplMoved (s u : State) (c : Nat) : Prop :=
  (u.port c).cplTail = ((s.port c).cplTail + 1) % 256 ∧ (u.port c).cplPhase = ((s.port c).cplPhase != decide ((s.port c).cplTail = 255))

/-- The completion entry of an operation with a status and a number of suspensions. -/
def entryOf (s : State) (c : Nat) (o : MOp) (status susp : Nat) : List Byte :=
  mediaEntry o (ringSlot o) status susp (if o.started then s.since o.startAt else 0) (s.port c).cplPhase

/-- A completion has been posted in a port's ring with a status and a number of suspensions, and no other byte of memory has changed. -/
def posted (s u : State) (c : Nat) (o : MOp) (status susp : Nat) : Prop :=
  stores s u (cplAt s c) (entryOf s c o status susp) ∧ cplMoved s u c ∧ restMedia s u = true

/-- The write-pointer entries of some blocks and the next completion entry do not meet. -/
def wpApart (s : State) (c : Nat) (keys : List Nat) : Bool :=
  keys.all fun k => decide (s.wpAddr k + 2 ≤ cplAt s c) || decide (cplAt s c + 16 ≤ s.wpAddr k)

/-- The write-pointer entries of some blocks stand at a value, and no other byte of memory has changed. -/
def wpSet (s u : State) (keys : List Nat) (w : Wp) : Prop :=
  (∀ k ∈ keys, u.wp k = w) ∧ ∀ a : Nat, (∀ k ∈ keys, a < s.wpAddr k ∨ s.wpAddr k + 2 ≤ a) → u.mem.byte a = s.mem.byte a

/-- The same, and a completion has been posted. -/
def wpPosted (s u : State) (c : Nat) (o : MOp) (status susp : Nat) (keys : List Nat) (w : Wp) : Prop :=
  (∀ k ∈ keys, u.wp k = w) ∧ u.mem.read (cplAt s c) 16 = entryOf s c o status susp ∧
    (∀ a : Nat, (∀ k ∈ keys, a < s.wpAddr k ∨ s.wpAddr k + 2 ≤ a) → (a < cplAt s c ∨ cplAt s c + 16 ≤ a) → u.mem.byte a = s.mem.byte a) ∧
    cplMoved s u c ∧ restMedia s u = true

/-- Nothing but the code store, memory, the dictionary, the events, the Strait, what is sent and the count of free values has changed. -/
def restCs (s u : State) : Bool :=
  u.pkg == s.pkg && u.nvme == s.nvme && u.flash == s.flash && u.media == s.media && u.sets == s.sets && u.hold == s.hold && u.integ == s.integ &&
    u.cores == s.cores && u.sched == s.sched && u.eng == s.eng && u.vault == s.vault && u.tern == s.tern && u.dram == s.dram && u.bpm == s.bpm

/-- The 16 bytes of a code-store completion entry (R240). -/
def csEntry (s : State) (o : CsOp) (status susp bad : Nat) : List Byte :=
  leBytes 4 (o.tag + status * 2 ^ 16 + b2n s.cs.cplPhase * 2 ^ 24 + b2n o.inSuspension * 2 ^ 26) ++ leBytes 4 (o.slot + min susp 65535 * 2 ^ 16) ++
    leBytes 4 bad ++ leBytes 4 (if o.started then s.since o.startAt else 0)

/-- A completion has been posted in the code store's ring. -/
def csPosted (s u : State) (o : CsOp) (status susp bad : Nat) : Prop :=
  stores s u (s.cs.cplBase + 16 * s.cs.cplTail) (csEntry s o status susp bad) ∧ u.cs.cplTail = (s.cs.cplTail + 1) % 64 ∧
    u.cs.cplPhase = (s.cs.cplPhase != decide (s.cs.cplTail = 63)) ∧ restCs s u = true

/-- Bank 1's erase is not held by a flush, and nothing runs or is suspended in a bank. -/
def bankIdle (s : State) (b : Fin 2) : Bool := (s.cs.bank b).running.isNone && (s.cs.bank b).suspended.isNone

/-- The entry of a descriptor stands in the code store's ring, and the ring has moved by it. -/
def csEnded (s u : State) (o : CsOp) (status susp bad : Nat) : Prop :=
  u.mem.read (s.cs.cplBase + 16 * s.cs.cplTail) 16 = csEntry s o status susp bad ∧ u.cs.cplTail = (s.cs.cplTail + 1) % 64 ∧
    u.cs.cplPhase = (s.cs.cplPhase != decide (s.cs.cplTail = 63))

/-- Every line of a range of the array decodes and is stored as it stands, not kept as records of the store. -/
def plainLines (s : State) (a n : Nat) : Bool :=
  s.cs.rangeOk a n && (List.range ((a + n + 31) / 32 - a / 32)).all fun i => (s.keptLine (a / 32 + i)).isNone

/-- A waiting descriptor as it runs from now on. -/
def csBegun (s : State) (sus : Bool) (o : CsOp) : CsOp := { o with started := true, startAt := s.pkg.timebase, inSuspension := sus }

/-- The descriptors that wait behind one that has left. -/
def csBehind (s : State) (o : CsOp) : List CsOp := s.cs.ops.filter fun q => q.slot != o.slot

/-- Records with these bodies have gone behind a set's journal as one group. -/
def journaled (s u : State) (i : Fin 2) (move : Bool) (l : List JBody) : Bool :=
  (u.xset i).seq == (s.xset i).seq + l.length &&
    (u.xset i).dram == (s.xset i).dram ++ ((List.range l.length).zip l).map fun p => JRec.mk ((s.xset i).seq + 1 + p.1) (p.1 + 1 == l.length) move p.2

/-- The firmware's work on a set goes on, and nothing is shipped to the twin. -/
def alone (s : State) (i : Fin 2) : Bool := mediaOn s && !s.shipping i

/-- The same, and no host command and no dirty unit is about. -/
def still (s : State) (i : Fin 2) : Bool := alone s i && s.nvme.cmds.isEmpty && s.hold.dirty.isEmpty && !s.mirroring

/-- Nothing but the sets, the flash, the media engine, the dirty units, the dictionary, the events and what is sent has changed. -/
def restXlat (s u : State) : Bool :=
  u.pkg == s.pkg && u.nvme == s.nvme && u.cs == s.cs && u.integ == s.integ && u.cores == s.cores && u.sched == s.sched && u.eng == s.eng &&
    u.vault == s.vault && u.tern == s.tern && u.dram == s.dram && u.bpm == s.bpm && u.mem == s.mem

/-- The same, but for the time of a region's last host work. -/
def restWork (s u : State) : Bool := restXlat { s with nvme := { s.nvme with busyAt := u.nvme.busyAt } } u

/-- The same as `restXlat`, but for the code store's copy of the bad blocks and for memory. -/
def restMark (s u : State) : Bool :=
  u.pkg == s.pkg && u.nvme == s.nvme && u.integ == s.integ && u.cores == s.cores && u.sched == s.sched && u.eng == s.eng && u.vault == s.vault &&
    u.tern == s.tern && u.dram == s.dram && u.bpm == s.bpm && u.cs == { s.cs with compact := u.cs.compact, compactErases := u.cs.compactErases }

/-- A gleaned unit: its furrow, what it is and where it stands. -/
def gleaned (g : Glean) : Nat × Nat × Nat × MapEntry := (g.furrow, g.nsid, g.unit, g.entry)

/-- A furrow of a set, known by its number. -/
def furrowIs (s : State) (i : Fin 2) (id : Nat) (p : Furrow → Bool) : Bool := ((s.xset i).furrow id).any p

/-- A Strait session is up. -/
def up (s : State) : Bool := s.twin.lanes != 0 && s.twin.session

/-- A frame has been taken in order, and is owed an acknowledgement, or a frame that carries it has gone. -/
def got (s u : State) : Bool :=
  u.twin.rxNext == s.twin.rxNext + 1 && !u.twin.silent && (u.twin.unackedRx || (sent s u).any fun e => match e with | .strait _ => true | _ => false)

/-- A frame has been handed to the Strait's sender: it waits, or it has gone and is held for replay. -/
def handed (u : State) (cls type : Nat) (payload : List Byte) : Bool :=
  (u.twin.waiting ++ u.twin.replay.map fun p => p.2).contains ⟨cls, type, payload, false⟩

/-- Nothing but the twin's state, the dictionary, the events and what is sent has changed. -/
def restTwin (s u : State) : Bool :=
  u.pkg == s.pkg && u.nvme == s.nvme && u.flash == s.flash && u.media == s.media && u.cs == s.cs && u.sets == s.sets && u.hold == s.hold &&
    u.integ == s.integ && u.cores == s.cores && u.sched == s.sched && u.eng == s.eng && u.vault == s.vault && u.tern == s.tern &&
    u.dram == s.dram && u.bpm == s.bpm && u.mem == s.mem

/-- The frames of the replay buffer that an acknowledgement does not cover. -/
def uncovered (s : State) (l : Link) : List (BitVec 32 × TxFrame) := s.twin.replay.filter fun p => !decide ((l.ack - p.1).toNat < 2 ^ 31)

/-- A frame's link fields give back what its acknowledgement covers and its credit, and nothing waits for them. -/
def plain (s : State) : Bool := up s && s.twin.waiting.isEmpty

/-- A command this Isle forwarded is silent in no part, and its queue is not being deleted. -/
def forwarded (s : State) (tag : Nat) : Option FwdCmd := s.nvme.fwdOut.find? fun f => f.tag == tag

/-- Nothing but the error accounting, the dictionary, the events, what is sent, memory and the DRAM controllers has changed. -/
abbrev restInteg (s u : State) : Prop :=
  u = { s with dict := u.dict, ev := u.ev, out := u.out, twin := u.twin, integ := u.integ, dram := u.dram, mem := u.mem, free := u.free }

/-- An instruction of a core is fetched clean and whole, its windows allow the fetch, and none of the registers it uses owes a bus error
(D0 to D15 are 0 to 15, A0 to A7 are 16 to 23). -/
def issues (s : State) (x : Issue) (ext : Bool) (uses : List Nat) : Bool :=
  let n := x.core.val
  let pc := (s.core n).pc
  s.canExecute n && x.fetch == .clean && !s.fetchBus n pc.toNat .clean && !s.fetchWindow n pc.toNat && ((s.core n).owes uses).isNone &&
    (!ext || (!s.fetchBus n (pc + 4).toNat .clean && !s.fetchWindow n (pc + 4).toNat))

/-- Where the core is after an instruction that does not branch. -/
def after (s : State) (x : Issue) (ext : Bool) : Addr := (s.core x.core.val).pc + (if ext then 8 else 4)

/-- No core but one has changed, and nothing but the cores has. -/
def onlyCore (s u : State) (n : Nat) : Prop :=
  u = { s with cores := u.cores } ∧ ∀ m : Nat, m ≠ n → u.core m = s.core m

/-- The registers of a core after an instruction that does `f` and goes on at `dest`: one more has retired. -/
def stepped (s : State) (x : Issue) (dest : Addr) (f : Core → Core) : Core :=
  { f { s.core x.core.val with waiting := false } with
    pc := dest, retired := (f { s.core x.core.val with waiting := false }).retired + 1, started := true, icache := true }

/-- An instruction of a core has changed its registers by `f` and gone on at `dest`, and nothing else has changed. -/
def jumped (s u : State) (x : Issue) (dest : Addr) (f : Core → Core) : Prop :=
  u.core x.core.val = stepped s x dest f ∧ onlyCore s u x.core.val

/-- The same, on at the next instruction. -/
def did (s u : State) (x : Issue) (ext : Bool) (f : Core → Core) : Prop := jumped s u x (after s x ext) f

/-- Sixteen valid digits. -/
def digits16 (v : Nat) : Bool := (List.range 16).all fun i => decide (nibble v i ≤ 9)

/-- A valid sign below `n` valid digits. -/
def signedDigits (n v : Nat) : Bool := decide (10 ≤ nibble v 0) && (List.range n).all fun i => decide (nibble v (i + 1) ≤ 9)

/-- The number a sign below `n` digits stands for: B and D are minus (R391). -/
def decOf (n v : Nat) : Int := if nibble v 0 = 0xB ∨ nibble v 0 = 0xD then -(digitsAt v 1 n : Int) else (digitsAt v 1 n : Int)

/-- The sign a result carries: D when it is below zero, else C (R391). -/
def signOf (v : Int) : Nat := if v < 0 then 0xD else 0xC

/-- Eight zoned bytes of digits. -/
def zoned (v : Nat) : Bool :=
  (List.range 8).all fun k => decide (nibble v (2 * k) ≤ 9) && (nibble v (2 * k + 1) == 0x3 || nibble v (2 * k + 1) == 0xF)

/-- An instruction with a poisoned operand has poisoned its D destinations, and nothing else but the core's own progress has changed. -/
def poisons (s u : State) (x : Issue) (dests : List (Fin 16)) : Prop :=
  (∀ i, i ∈ dests → (u.core x.core.val).pv i = true) ∧
    (∀ i, i ∉ dests → (u.core x.core.val).pv i = (s.core x.core.val).pv i ∧ (u.core x.core.val).dv i = (s.core x.core.val).dv i) ∧
    u.core x.core.val = { stepped s x (after s x false) (fun (c : Core) => c) with d := (u.core x.core.val).d, dp := (u.core x.core.val).dp, owed := (u.core x.core.val).owed } ∧
    u = { s with cores := u.cores, free := u.free } ∧ ∀ m : Nat, m ≠ x.core.val → u.core m = s.core m

/-- The target of a branch: its own address and 4 times its displacement. -/
def target (s : State) (x : Issue) (i : Imm) : Addr := (s.core x.core.val).pc + (i.v.signExtend 48 <<< 2)

/-- A supervisor-level core can enter the handler of a vector. -/
def handled (s : State) (n v : Nat) : Bool := (s.core n).sup && (!(s.core n).exl || decide (12 ≤ v)) && goodEntry (s.vectorEntry n v)

/-- A core after the entry of a vector (R405). -/
def inHandler (s : State) (n : Nat) (c : Core) (v : Nat) (epc eaddr : Addr) (cause : Nat) (w : BitVec 32) : Core :=
  { c with
    estatus := BitVec.ofNat 2 (b2n c.sup + 2 * b2n c.eventEn), epc := epc, eaddr := eaddr, ecause := BitVec.ofNat 64 (cause ||| v), einst := w
    sup := true, exl := true, waiting := false, pc := BitVec.ofNat 48 (s.vectorEntry n v) }

/-- An instruction of a core has raised an exception, with nothing else changed. -/
def entered (s u : State) (x : Issue) (v : Nat) (epc eaddr : Addr) (cause : Nat) (w : BitVec 32) : Prop :=
  u.core x.core.val = inHandler s x.core.val { s.core x.core.val with
    started := true, retired := if v = 10 ∨ v = 11 then (s.core x.core.val).retired + 1 else (s.core x.core.val).retired } v epc eaddr cause w ∧
    onlyCore s u x.core.val

/-- A core's own stores are performed at their memory, and every byte they do not reach is as it was. -/
def fenced (s u : State) (n : Nat) : Prop :=
  u.mem = (s.core n).stores.foldl (fun m (o : OwnStore) => (m.write o.addr o.data).markStore o.addr o.data.length o.poison) s.mem ∧
    ∀ x : Nat, (∀ o ∈ (s.core n).stores, x < o.addr ∨ o.addr + o.data.length ≤ x) → u.mem.byte x = s.mem.byte x

/-- Nothing but the cores and memory has changed, and no core but one. -/
def coreAndMem (s u : State) (n : Nat) : Prop :=
  u = { s with cores := u.cores, mem := u.mem } ∧ ∀ m : Nat, m ≠ n → u.core m = s.core m

/-- An access of a core lies in memory it reaches, and its windows allow it. -/
def lands (s : State) (x : Issue) (p : Addr) (len : Nat) (r : Right) : Bool :=
  !(s.core x.core.val).violates p.toNat len [r] && s.memSpan x.core.val p.toNat len

/-- The bytes a core's load finds at an address, its own stores among them. -/
def found (s : State) (x : Issue) (p : Addr) (len : Nat) : List Byte := (s.coreMem x.core.val).read (s.phys x.core.val p.toNat) len

/-- Which of those bytes lie in a poisoned granule. -/
def tainted (s : State) (x : Issue) (p : Addr) (len : Nat) : List Bool :=
  (List.range len).map fun k => (s.coreMem x.core.val).poisoned (s.phys x.core.val p.toNat + k) 1

/-- A load finds data: control traffic none that is poisoned. -/
def yields (s : State) (x : Issue) (p : Addr) (len : Nat) (e : LoadEcc) : Bool :=
  lands s x p len .rd && e == .clean &&
    !((s.core x.core.val).control p.toNat && (s.coreMem x.core.val).poisoned (s.phys x.core.val p.toNat) len)

/-- An address with an immediate added. -/
def offset (s : State) (x : Issue) (a : Fin 8) (i : Imm) : Addr := (s.core x.core.val).av a + i.v.signExtend 48

/-- A store of a core: one to cluster memory is its own until a FENCE, another is in memory at once; no other byte of memory changes. -/
def wrote (s u : State) (x : Issue) (ext : Bool) (p : Addr) (data : List Byte) (bad : Bool) (f : Core → Core) : Prop :=
  let n := x.core.val
  let q := s.phys n p.toNat
  coreAndMem s u n ∧
    match s.area p.toNat with
    | .cluster _ => u.mem = s.mem ∧ u.core n = stepped s x (after s x ext) fun c => f { c with stores := c.stores ++ [⟨q, data, bad⟩] }
    | _ => u.mem = (s.mem.write q data).markStore q data.length bad ∧ stores s u q data ∧ u.core n = stepped s x (after s x ext) f

/-- A core that runs a firmware task has raised a unit fault, which ended the task (R11, R428). -/
def taskFault (s u : State) (x : Issue) (v : Nat) (eaddr : Addr) (w : BitVec 32) : Prop :=
  let n := x.core.val
  u.core n = { inHandler s n (s.core n) v (s.core n).pc eaddr 0 w with task := none, started := false, stop := false, stores := [] } ∧
    fenced s u n ∧ (∀ m : Nat, m ≠ n → u.core m = s.core m) ∧ u.val 0xA010 v = (s.bump 0xA010 v).val 0xA010 v ∧
    u.val 0xA030 5 = (s.bump 0xA030 5).val 0xA030 5 ∧ u.sched = s.sched ∧ u.nvme = s.nvme ∧ u.flash = s.flash

/-- A core runs a firmware task, and a vector's handler can be entered. -/
def inTask (s : State) (n v : Nat) : Bool :=
  let c := s.core n
  !c.sup && !c.exl && goodEntry (s.vectorEntry n v) && c.macx.isNone && (c.task.any fun t => !t.exec) && !s.flag 0xA050 1

/-- The engines of some keys hold one descriptor in all, fetched, known and of a proper class, at the head of a queue that is not being
reset, with nothing in a pipe or suspended. -/
def lone (s : State) (eks : List Nat) : Option (Nat × EDesc) :=
  match eks.flatMap fun ek => ((List.range 64).filter fun n => !(s.equeue (64 * ek + n)).queue.isEmpty).map fun n => 64 * ek + n with
  | [qk] =>
    match (s.equeue qk).queue with
    | [d] =>
      if (s.engine (qk / 64)).enable && eks.all (fun ek => (s.engine ek).jobs.isEmpty && (s.engine ek).scans.isEmpty) && s.tern.moves.isEmpty &&
          s.tern.jobs.isEmpty && !(s.equeue qk).resetBusy && !d.busErr && decide (d.cls ≤ 4) && (engOpcodes (engKind (qk / 64))).contains d.opcode
      then some (qk, d) else none
    | _ => none
  | _ => none

/-- No function owns more queues of an engine than its share. -/
def shared (s : State) (ek : Nat) : Bool :=
  s.eng.queues.all fun p => p.1 / 64 != ek || !p.2.assigned || !p.2.setup.tenant ||
    decide ((s.ownQueues ek p.2.setup.fn).length ≤ s.fval p.2.setup.fn ((engKind ek).record + 0x10) 1)

/-- An engine's one descriptor, with an opcode, that its pipe takes. -/
def taken (s : State) (r : Fin 4) (k : EngKind) (pipe opcode : Nat) : Option (Nat × EDesc) :=
  (lone s [engKey r k]).filter fun p => shared s (engKey r k) && p.2.opcode == opcode && pipeOf (s.equeue p.1) k p.2 == pipe && !s.headWaits p.1 p.2

/-- A one-descriptor message: marked so, well formed, with no message open. -/
def sole (s : State) (qk : Nat) (d : EDesc) : Bool := cipherForm d && d.first && d.last && (s.equeue qk).message.isNone

/-- Where a queue's next completion entry goes. -/
def entryAt (s : State) (qk : Nat) : Nat := (s.equeue qk).cplBase + 32 * (s.equeue qk).cplTail

/-- A buffer and the next completion entry do not meet. -/
def clear (s : State) (qk a n : Nat) : Bool := decide (a + n ≤ entryAt s qk) || decide (entryAt s qk + 32 ≤ a)

/-- A queue's one descriptor has ended: its completion entry, with these fields, stands in the ring, some output is written, and no other
byte of memory has changed; the queue is empty, and `f` has changed what it holds. -/
def finished (s u : State) (qk : Nat) (d : EDesc) (status flags : Nat) (dws : List Nat) (out : List (Nat × List Byte)) (f : EQueue → EQueue) : Prop :=
  let q := s.equeue qk
  u.mem.read (entryAt s qk) 32 = engEntry d status flags q.cplPhase dws ∧ (∀ w ∈ out, u.mem.read w.1 w.2.length = w.2) ∧
    (∀ x : Nat, (x < entryAt s qk ∨ entryAt s qk + 32 ≤ x) → (∀ w ∈ out, x < w.1 ∨ w.1 + w.2.length ≤ x) → u.mem.byte x = s.mem.byte x) ∧
    u.equeue qk = f { q with
      queue := [], headSince := s.eng.nextOrder, slotWait := false
      cplTail := (q.cplTail + 1) % 64, cplPhase := q.cplPhase != decide (q.cplTail = 63) } ∧
    (∀ k : Nat, k ≠ qk → u.equeue k = s.equeue k) ∧ (∀ k : Nat, u.engine k = s.engine k) ∧ u.eng.resident = s.eng.resident

/-- A queue's one descriptor has entered a pipe: its job, with its steps of output and its ending, is the engine's only one; nothing else has changed. -/
def begun (s u : State) (qk pipe : Nat) (d : EDesc) (steps : List (List Chunk)) (e : Ending) (f : EQueue → EQueue) : Prop :=
  u.engine (qk / 64) = { s.engine (qk / 64) with jobs := [⟨qk, pipe, d, s.pkg.timebase, steps, e, false, false, none⟩] } ∧
    (∀ k : Nat, k ≠ qk / 64 → u.engine k = s.engine k) ∧ u.equeue qk = f (s.equeue qk) ∧ (∀ k : Nat, k ≠ qk → u.equeue k = s.equeue k) ∧
    u.eng.nextOrder = s.eng.nextOrder ∧ u.eng.resident = s.eng.resident ∧ u.mem = s.mem

/-- Nothing but memory, the engines, the dictionary, the events and what is sent has changed. -/
abbrev restEng (s u : State) : Prop := u = { s with mem := u.mem, eng := u.eng, dict := u.dict, ev := u.ev, out := u.out, twin := u.twin, free := u.free }

/-- The same, the vault apart. -/
abbrev restVault (s u : State) : Prop :=
  u = { s with mem := u.mem, eng := u.eng, dict := u.dict, ev := u.ev, out := u.out, twin := u.twin, free := u.free, vault := u.vault }

/-- The same, the ternary table apart. -/
abbrev restTern (s u : State) : Prop :=
  u = { s with mem := u.mem, eng := u.eng, dict := u.dict, ev := u.ev, out := u.out, twin := u.twin, free := u.free, integ := u.integ, tern := u.tern }

/-- No head waits for a pipe. -/
def waitingHeads0 (s : State) (ek pipe : Nat) : Bool := (s.waitingHeads ek pipe).isEmpty

/-- The one descriptor of all match queues, with an opcode, where the table is enabled. -/
def searching (s : State) (opcode : Nat) : Option (Nat × EDesc) :=
  (lone s [3, 7, 11, 15]).filter fun p => [3, 7, 11, 15].all (fun ek => shared s ek) && s.tern.enable && p.2.opcode == opcode

/-- The one descriptor of a match queue, with an opcode, where the table is enabled. -/
def updating (s : State) (r : Fin 4) (q : Fin 64) (opcode : Nat) : Option EDesc :=
  ((lone s [engKey r .pat]).filter fun p => shared s (engKey r .pat) && s.tern.enable && p.2.opcode == opcode && p.1 == queueKey r .pat q).map fun p => p.2

/-- The matches of a key in a queue's range, those suppressed apart (R497, R499, R502). -/
def matchesOf (s : State) (d : EDesc) (key sel : Nat) : List Nat := (s.ternMatches key sel (s.ternRange d.setup).1 (s.ternRange d.setup).2).1

/-- The scan in a lane of a region. -/
def scanIn (s : State) (r : Fin 4) (lane : Fin 4) : Option ScanJob := s.laneScan (engKey r .pat) lane.val

/-- What a lane makes of its input up to its next boundary: its new state, and the records it reports (R509). -/
def scanned (s : State) (j : ScanJob) (p : PatSet) (n : Nat) : ScanState × List (List Byte) :=
  (s.mem.read (j.desc.addr 8 + j.done) n).foldl (fun (x : ScanState × List (List Byte)) b =>
    let y := p.byte (s.scanImage j.desc.program) j.desc x.1 b
    (y.1, x.2 ++ y.2)) (j.st, [])

/-- A queue's result ring has room for some records (R510). -/
def ringRoom (s : State) (j : ScanJob) (k : Nat) : Bool :=
  let q := s.equeue j.q
  let size := j.desc.setup.ringBytes
  decide (12 ≤ j.desc.setup.resBase % 32) && q.resTail % 16 == 0 && (List.range k).all fun i => (q.resTail + 16 * (i + 1)) % size != q.resHead % size

/-- Records stand in a queue's result ring behind those before, and no other byte of memory has changed. -/
def ringed (s u : State) (j : ScanJob) (l : List (List Byte)) : Prop :=
  let q := s.equeue j.q
  let size := j.desc.setup.ringBytes
  let at_ (i : Nat) : Nat := j.desc.setup.ringBase + (q.resTail + 16 * i) % size
  (∀ i ∈ List.range l.length, u.mem.read (at_ i) 16 = (l[i]?).getD []) ∧
    (∀ x : Nat, (∀ i ∈ List.range l.length, x < at_ i ∨ at_ i + 16 ≤ x) → u.mem.byte x = s.mem.byte x) ∧
    (u.equeue j.q).resTail = (if l = [] then q.resTail else (q.resTail + 16 * l.length) % size)

/-- The time of a scan's next boundary, in bytes: 4,096 of its input, or its end. -/
def scanStep (j : ScanJob) : Nat := Nat.min (4096 - j.done % 4096) (j.desc.f 4 4 - j.done)

/-- A lane runs its scan alone: its set is resident, it is not paused, and nothing waits for a lane. -/
def scanRuns (s : State) (r : Fin 4) (lane : Fin 4) : Option ScanJob :=
  (scanIn s r lane).filter fun j => !j.waitSet && !j.stalled && !j.suspended && j.lane == lane.val && (s.engine (engKey r .pat)).scans == [j] &&
    (s.scanHeads (engKey r .pat)).isEmpty && !(s.equeue j.q).resetBusy && j.q / 64 == engKey r .pat && shared s (engKey r .pat)


/-- A package reset has cleared the fabric: of what is volatile nothing is left, and of the rest what R46 keeps stands as it was; the persistent
store, the flash, the code store, the dies and what the key vault and the device epoch are then given are said apart. -/
abbrev cleared (s u : State) : Prop :=
  u = { State.reset with
    pkg := u.pkg, dict := { Dict.init with
      store := u.dict.store, storeLog := u.dict.storeLog, storeOpen := u.dict.storeOpen, storeErases := u.dict.storeErases, owesAdopt := s.dict.owesAdopt,
      epoch := u.dict.epoch }
    flash := u.flash, media := { Media.init with luns := u.media.luns }, cs := u.cs, sets := s.sets.map fun (x : XSet) => { XSet.init with
      openings := x.openings, flashLog := x.flashLog, checkpoint := x.checkpoint, headland0 := x.headland0 }
    nvme := { Nvme.init with
      saved := s.nvme.saved, namespaces := s.nvme.namespaces.map Namespace.afterReset, selfTestLog := s.nvme.selfTestLog
      pairKeyGen := s.nvme.pairKeyGen, tableKeyGen := s.nvme.tableKeyGen, nextKeyGen := s.nvme.nextKeyGen
      sanitize := s.nvme.sanitize, sanitizeDone := s.nvme.sanitizeDone }
    hold := { Hold.init with foundRun := s.hold.foundRun }, twin := { Twin.init with aliveI := s.twin.aliveI, failI := s.twin.failI }
    vault := { u.vault with table := s.vault.table }, out := u.out, free := u.free, pending := s.pending }

/-- The flush that a package enters: its entry, its start, the dirty bytes and `HU_SENSE` then, whether it mirrors and writes through. -/
def flushOf (s : State) (e : FlushEntry) (sense : Nat) : Flush :=
  ⟨e, s.pkg.timebase, 16384 * (s.hold.dirty.filter fun q => !q.zero).length, sense, s.mirroring, s.writeThrough, false, 0, 0, 0⟩

/-- A package has entered that flush: Execute Programs, self-tests, hold-up measurements, gleaning, refresh and checkpoints have stopped. -/
abbrev flushes (s u : State) (e : FlushEntry) (sense : Nat) : Prop :=
  u.hold.flush = some (flushOf s e sense) ∧ u.sched.execs = [] ∧ u.nvme.selfTest = none ∧ u.hold.series = none ∧ u.hold.huTest = false ∧
    ∀ i : Fin 2, (u.xset i).gleans = [] ∧ (u.xset i).refreshes = [] ∧ (u.xset i).running = none ∧ (u.xset i).swapRunning = none
/-- When POWER_ON takes effect. -/
def powerOn (s : State) : Bool :=
  s.pkg.phase == .off

/-- When POWER_COLLAPSE takes effect. -/
def powerCollapse (s : State) : Bool :=
  s.pkg.phase != .off

/-- When PERST_DEASSERT takes effect. -/
def perstDeassert (s : State) : Bool :=
  s.pkg.perst && s.pkg.phase == .inReset && !s.pkg.pwrFail

/-- When PERST_ASSERT takes effect. -/
def perstAssert (s : State) : Bool :=
  !s.pkg.perst && s.pkg.phase == .running

/-- When HOT_RESET takes effect. -/
def hotReset (s : State) : Bool :=
  !s.pkg.perst && s.pkg.phase == .running

/-- When PWR_FAIL takes effect. -/
def pwrFail (s : State) : Bool :=
  s.pkg.phase == .running && s.pkg.boot.rdySeen

/-- When POWER_RETURN takes effect. -/
def powerReturn (s : State) : Bool :=
  s.pkg.phase == .heldPowerFail && !s.pkg.perst

/-- When THERMAL_TRIP takes effect. -/
def thermalTrip (s : State) : Bool :=
  s.pkg.dieTemp.toList.any (fun t => decide (1250 ≤ t.toInt)) && !s.pkg.thermTrip && s.pkg.phase == .running

/-- When THERMAL_HOLD_RELEASE takes effect. -/
def thermalHoldRelease (s : State) : Bool :=
  s.pkg.phase == .heldThermal && s.pkg.perstCycled && !s.pkg.perst && !s.pkg.pwrFail && s.pkg.dieTemp.toList.all (fun t => decide (t.toInt < 1050))

/-- When FLUSH_SOWN takes effect. -/
def flushSown (s : State) : Bool :=
  s.hold.flush.any (fun f => !f.dataDone) && !s.replayWaits && s.liveSets.all (fun i => (s.xset i).rows.isEmpty) && s.hold.dirty.all (fun d => d.confirmed || d.superseded)

/-- When FLUSH_END takes effect. -/
def flushEnd (s : State) : Bool :=
  s.flushReady && s.dict.current.isNone && !s.twin.session && !s.pkg.thermTrip

/-- When HUB_WATCHDOG_EXPIRY takes effect. -/
def hubWatchdogExpiry (s : State) : Bool :=
  s.powered

/-- When REFCLK_LOSS_DETECTED takes effect. -/
def refclkLossDetected (s : State) : Bool :=
  s.powered

/-- When TEMPO_COUNT_EXPIRY takes effect. -/
def tempoCountExpiry (s : State) : Bool :=
  s.powered && s.tempoCounter.isSome

/-- When CONFIG_REQUEST takes effect. -/
def configRequest (fn : BitVec 8) (s : State) : Bool :=
  s.serving && (!s.pkg.boot.configReady || (s.ctrl fn.toNat).flr.isSome)

/-- When CONFIG_REQUEST takes effect. -/
def configRequestRead (fn : BitVec 8) (s : State) : Bool :=
  s.serving && s.pkg.boot.configReady && (s.ctrl fn.toNat).flr.isNone

/-- When CONFIG_REQUEST takes effect. -/
def configRequestWriteEarly (fn : BitVec 8) (s : State) : Bool :=
  s.serving && (!s.pkg.boot.configReady || (s.ctrl fn.toNat).flr.isSome)

/-- When CONFIG_REQUEST takes effect. -/
def configRequestWrite (s : State) : Bool :=
  s.serving && s.pkg.boot.configReady && (s.ctrl 0).flr.isNone

/-- When CONFIG_REQUEST takes effect. -/
def configRequestBarRead (fn : BitVec 8) (bar2 : Bool) (o : BitVec 18) (s : State) : Bool :=
  s.serving && s.decodes fn.toNat && decide (barSize fn.toNat bar2 ≤ o.toNat / 4 * 4)

/-- When CONFIG_REQUEST takes effect. -/
def configRequestBarWrite (fn : BitVec 8) (bar2 : Bool) (o : BitVec 18) (s : State) : Bool :=
  s.serving && decide (barSize fn.toNat bar2 ≤ o.toNat / 4 * 4)

/-- When PERSISTENT_ENTRIES_LOADED takes effect. -/
def persistentEntriesLoaded (s : State) : Bool :=
  s.serving && !s.pkg.boot.configReady && !s.cs.faulted

/-- When DIE_LINKS_TRAINED takes effect. -/
def dieLinksTrained (s : State) : Bool :=
  s.serving && !s.pkg.boot.linksUp

/-- When DDR_TRAINING_DONE takes effect. -/
def ddrTrainingDone (org : BitVec 32) (s : State) : Bool :=
  s.serving && s.pkg.boot.configReady && !s.pkg.boot.ddrUp && !s.pkg.boot.stopped && dramChannelBytes org.toNat != 0

/-- When FIRMWARE_COPY_DONE takes effect. -/
def firmwareCopyDone (copies : BitVec 2) (s : State) : Bool :=
  s.serving && s.pkg.boot.ddrUp && s.pkg.boot.linksUp && !s.pkg.boot.firmwareUp && s.cs.nextSlot s.pkg.straps.bootBank != 0 && s.slotPasses (s.cs.nextSlot s.pkg.straps.bootBank) copies.toNat

/-- When TWIN_WAIT_TIMEOUT takes effect. -/
def twinWaitTimeout (s : State) : Bool :=
  s.serving && s.isTwin && s.pkg.boot.firmwareUp && !s.pkg.boot.twinWaitOver && !s.twin.session

/-- When LIVE_MAP_LOADED takes effect. -/
def liveMapLoaded (s : State) : Bool :=
  s.serving && s.pkg.boot.firmwareUp && !s.pkg.boot.mapLoaded && !s.strapMismatch && !s.homeChannels.any s.channelPending

/-- When CSTS_RDY_SET takes effect. -/
def cstsRdySet (fn : BitVec 8) (s : State) : Bool :=
  s.serving && s.pkg.boot.mapLoaded && (s.ctrl fn.toNat).enabled && !(s.ctrl fn.toNat).ready && !(s.ctrl fn.toNat).cfs && !(s.ctrl fn.toNat).resetting && (s.ctrl fn.toNat).flr.isNone && s.cs.pfErasedCount != 0 && !(s.twin.adopt && s.mirrorPartner)

/-- When PF_SLOT_ERASE takes effect. -/
def pfSlotErase (s : State) : Bool :=
  s.serving && !s.cs.faulted && s.pkg.boot.configReady && s.cs.pfErasedCount == 0

/-- When TIMEBASE_TICK takes effect. -/
def timebaseTick (s : State) : Bool :=
  s.pkg.ticking && s.pkg.refclk && s.pkg.phase != .off

/-- When TEMPO_SAMPLE takes effect. -/
def tempoSample (s : State) : Bool :=
  s.powered

/-- When DIE_TEMP_UPDATE takes effect. -/
def dieTempUpdate (s : State) : Bool :=
  s.pkg.phase != .off

/-- When FLIT_REPLAY takes effect. -/
def flitReplay (s : State) : Bool :=
  s.powered

/-- When DIE_LINK_LOSS takes effect. -/
def dieLinkLoss (m : Fin 4) (s : State) : Bool :=
  s.pkg.links[m].state == .up

/-- When DIE_LINK_RETRAINED takes effect. -/
def dieLinkRetrained (m : Fin 4) (s : State) : Bool :=
  s.pkg.links[m].state != .up && s.pkg.boot.linksUp

/-- When DIE_LINK_DOWN_TIMEOUT takes effect. -/
def dieLinkDownTimeout (m : Fin 4) (s : State) : Bool :=
  s.pkg.links[m].state != .up && s.pkg.boot.linksUp && decide (100000 ≤ s.since s.pkg.links[m].downAt)

/-- When REGION_WATCHDOG_EXPIRY takes effect. -/
def regionWatchdogExpiry (s : State) : Bool :=
  s.serving

/-- When REGION_ONLINE takes effect. -/
def regionOnline (r : Fin 4) (s : State) : Bool :=
  s.regionState r.val == .admitting && ((s.pkg.reclaim[r.val]?).getD []).all (fun c => (s.port c).owned)

/-- When PCIE_LINK_TRAINING_DONE takes effect. -/
def pcieLinkTrainingDone (s : State) : Bool :=
  !s.pkg.perst

/-- When DICTIONARY_READ takes effect. -/
def dictionaryRead (q : Sqe) (c : DictCdw) (w : Walk) (s : State) : Bool :=
  admin s q && dictOpen s q.fn.toNat && nvmeLength c.len && s.walkStatus q w c.len false == 0 && !c.flag && !c.segment && reads s (.nvme q.fn.toNat) c.index c.sub c.len

/-- When DICTIONARY_READ takes effect. -/
def dictionaryReadSegment (q : Sqe) (c : DictCdw) (w : Walk) (s : State) : Bool :=
  admin s q && dictOpen s q.fn.toNat && nvmeLength c.len && s.walkStatus q w c.len false == 0 && c.segment && c.offset == 0 && snaps s (.nvme q.fn.toNat) c.index c.sub

/-- When DICTIONARY_WRITE takes effect. -/
def dictionaryWrite (q : Sqe) (c : DictCdw) (data : List Byte) (w : Walk) (s : State) : Bool :=
  admin s q && dictOpen s q.fn.toNat && nvmeLength c.len && s.walkStatus q w c.len true == 0 && !c.flag && !c.segment && (writes s (.nvme q.fn.toNat) c.fn c.index c.sub (padTo c.len data)).any fun v => ((s.stage (.nvme q.fn.toNat)).put v).isSome

/-- When DICTIONARY_WRITE takes effect. -/
def dictionaryWriteNow (q : Sqe) (c : DictCdw) (data : List Byte) (w : Walk) (s : State) : Bool :=
  admin s q && dictOpen s q.fn.toNat && nvmeLength c.len && s.walkStatus q w c.len true == 0 && c.flag && !c.segment && !s.commitDenied (.nvme q.fn.toNat) && ((writes s (.nvme q.fn.toNat) c.fn c.index c.sub (padTo c.len data)).any fun v => ((s.stage (.nvme q.fn.toNat)).put v).isSome && isPersistent v.key)

/-- When DICTIONARY_COMMIT takes effect. -/
def dictionaryCommit (q : Sqe) (cdw10 : BitVec 32) (s : State) : Bool :=
  admin s q && dictOpen s q.fn.toNat && cdw10.toNat % 256 == 1 && !s.commitDenied (.nvme q.fn.toNat)

/-- When DICTIONARY_DISCARD takes effect. -/
def dictionaryDiscard (q : Sqe) (s : State) : Bool :=
  admin s q && dictOpen s q.fn.toNat && !s.commitDenied (.nvme q.fn.toNat)

/-- When HEADER_READ takes effect. -/
def headerRead (o : Sender) (h : HdrIn) (value : List Byte) (s : State) : Bool :=
  carried o h 1 value s && !bit h.flags.toNat 0 && !bit h.flags.toNat 1 && reads s (session o h) h.index.toNat h.sub.toNat h.length.toNat

/-- When HEADER_WRITE takes effect. -/
def headerWrite (o : Sender) (h : HdrIn) (value : List Byte) (s : State) : Bool :=
  carried o h 2 value s && !bit h.flags.toNat 0 && !bit h.flags.toNat 1 && (writes s (session o h) h.function.toNat h.index.toNat h.sub.toNat value).any fun v => ((s.stage (session o h)).put v).isSome

/-- When HEADER_COMMIT takes effect. -/
def headerCommit (o : Sender) (h : HdrIn) (value : List Byte) (s : State) : Bool :=
  carried o h 3 value s && value == [1] && !s.commitDenied (session o h)

/-- When HEADER_DISCARD takes effect. -/
def headerDiscard (o : Sender) (h : HdrIn) (value : List Byte) (s : State) : Bool :=
  carried o h 3 value s && value == [2] && !s.commitDenied (session o h)

/-- When GET_EPOCH takes effect. -/
def getEpoch (h : HdrIn) (value : List Byte) (s : State) : Bool :=
  s.serving && h.frameOk 4 value && !h.supervisor && (bit (s.val 0x4F00 1) 2 || bit (s.val 0x4F00 1) 3)

/-- When GET_EPOCH takes effect. -/
def getEpochMctp (eid : BitVec 8) (ic : Bool) (check : BitVec 32) (h : HdrIn) (value : List Byte) (s : State) : Bool :=
  carried (.port (.mctp eid ic check)) h 4 value s

/-- When CHALLENGE takes effect. -/
def challenge (dst : BitVec 48) (mac : BitVec 48) (seq : BitVec 64) (auth : List Byte) (h : HdrIn) (value : List Byte) (s : State) : Bool :=
  t1sTagged s dst.toNat mac.toNat seq.toNat auth h 5 value && (t1sTaken s mac.toNat seq.toNat h 5 value && bit (s.val 0x4F00 1) 3 && !s.lockedOut mac.toNat)

/-- When ANSWER takes effect. -/
def answer (dst : BitVec 48) (mac : BitVec 48) (seq : BitVec 64) (auth : List Byte) (h : HdrIn) (value : List Byte) (s : State) : Bool :=
  t1sTagged s dst.toNat mac.toNat seq.toNat auth h 6 value && (owed s mac.toNat == some value && (t1sTaken s mac.toNat seq.toNat h 6 value && bit (s.val 0x4F00 1) 3 && quiet s && ((s.peer? mac.toNat).bind fun p => p.nonce).any fun n => decide (s.since n.2 < usTicks 10000000)))

/-- When NONCE_EXPIRY takes effect. -/
def nonceExpiry (mac : BitVec 48) (s : State) : Bool :=
  ((s.peer? mac.toNat).bind fun p => p.nonce).any fun n => decide (usTicks 10000000 ≤ s.since n.2)

/-- When CHALLENGE_LOCKOUT_EXPIRY takes effect. -/
def challengeLockoutExpiry (mac : BitVec 48) (s : State) : Bool :=
  (s.authRecord mac.toNat).lockedAt.isSome && !s.lockedOut mac.toNat

/-- When SYNC takes effect. -/
def sync (seq : BitVec 64) (s : State) : Bool :=
  s.twin.lanes != 0 && s.twin.session && quiet s && s.dict.current.any fun c => c.phase == .awaitTwin && c.shared && c.seq == seq.toNat

/-- When SYNC takes effect. -/
def syncRequest (v : SyncVal) (s : State) : Bool :=
  s.twin.lanes != 0 && s.twin.session && quiet s && s.pkg.straps.isle && s.dict.current.isNone && v.index == 0x5000 && decide (10 ≤ v.sub.toNat) && decide (v.sub.toNat ≤ 18) && v.fn == 0 && !s.cs.faulted

/-- When SYNC takes effect. -/
def syncPort (eid : BitVec 8) (ic : Bool) (check : BitVec 32) (h : HdrIn) (value : List Byte) (s : State) : Bool :=
  carried (.port (.mctp eid ic check)) h 7 value s

/-- When RESERVED_OP_FRAME takes effect. -/
def reservedOpFrame (s : State) : Bool :=
  s.serving

/-- When COMMIT_PROCESS takes effect. -/
def commitProcess (written : Bool) (s : State) : Bool :=
  s.serving && s.dict.current.isNone && quiet s && s.media.done.isEmpty && s.media.backlog.isEmpty && s.twin.failback.isNone && s.dict.queue.head?.any fun q => let g := s.stage q.session; (s.firstFailure q.session g.vals g.domain).isNone && ((s.changes g.vals).any fun c => isPersistent c.1) && !((s.changes g.vals).any fun c => isShared c.1) && !s.cs.faulted && written

/-- When COMMIT_SHARED_APPLIED takes effect. -/
def commitSharedApplied (s : State) : Bool :=
  quiet s && s.dict.current.any fun c => c.phase == .awaitTwin && c.answer == some 0 && c.persistent

/-- When COMMIT_MARKER_WRITTEN takes effect. -/
def commitMarkerWritten (ok : Bool) (s : State) : Bool :=
  s.serving && quiet s && ok && !s.cs.faulted && s.dict.current.any fun c => c.phase == .awaitMarker && c.domain.isNone && c.persistent && c.vals.length == 1 && c.vals.all fun w => keyFn w.key == 0 && keyIdx w.key == 0x5000 && decide (10 ≤ keySub w.key) && decide (keySub w.key ≤ 18)

/-- When DOMAIN_TRANSFER_TIMEOUT takes effect. -/
def domainTransferTimeout (n : BitVec 8) (s : State) : Bool :=
  (s.dict.transfers[n.toNat]?).any fun t => decide (usTicks 60000000 ≤ s.since t.last)

/-- When PEER_IDLE_TIMEOUT takes effect. -/
def peerIdleTimeout (mac : BitVec 48) (s : State) : Bool :=
  quiet s && s.dict.current.isNone && (s.peer? mac.toNat).any fun p => decide (usTicks (1000000 * s.val 0x4F00 2) ≤ s.since p.last)

/-- When I3C_BUS_RESET takes effect. -/
def i3cBusReset (s : State) : Bool :=
  quiet s && s.dict.current.isNone

/-- When MCTP_ENDPOINT_REMOVED takes effect. -/
def mctpEndpointRemoved (s : State) : Bool :=
  quiet s && s.dict.current.isNone

/-- When SQ_TAIL_DOORBELL takes effect. -/
def sqTailDoorbell (fn : BitVec 8) (q : BitVec 16) (tail : BitVec 16) (s : State) : Bool :=
  (s.ctrl fn.toNat).flr.isNone && (s.sq? fn.toNat q.toNat).any fun x => decide (tail.toNat < x.size)

/-- When CQ_HEAD_DOORBELL takes effect. -/
def cqHeadDoorbell (fn : BitVec 8) (q : BitVec 16) (head : BitVec 16) (s : State) : Bool :=
  (s.ctrl fn.toNat).flr.isNone && s.nvme.heldCpl.isEmpty && s.nvme.cmds.isEmpty && (s.cq? fn.toNat q.toNat).any fun x => decide (head.toNat < x.size) && decide ((head.toNat + x.size - x.head) % x.size ≤ (x.tail + x.size - x.head) % x.size)

/-- When CONTROLLER_ENABLE takes effect. -/
def controllerEnable (fn : BitVec 8) (cc : BitVec 32) (s : State) : Bool :=
  let c := s.ctrl fn.toNat; !c.enabled && !c.resetting && !c.ready && !c.cfs && c.flr.isNone && c.online && s.functions.contains fn.toNat && s.pkg.boot.configReady && ccOffered cc.toNat

/-- When CONTROLLER_RESET takes effect. -/
def controllerReset (fn : BitVec 8) (s : State) : Bool :=
  (s.ctrl fn.toNat).enabled && (s.ctrl fn.toNat).flr.isNone && s.nvme.cmds.isEmpty

/-- When CONTROLLER_RESET_DONE takes effect. -/
def controllerResetDone (fn : BitVec 8) (s : State) : Bool :=
  let c := s.ctrl fn.toNat; c.resetting && c.flr.isNone && !(s.nvme.cmds.any fun k => k.fn == fn.toNat && k.fwdTag.isNone) && !(s.nvme.fwdOut.any fun f => f.fn == fn.toNat)

/-- When CREATE_IO_CQ takes effect. -/
def createIoCq (q : Sqe) (id : BitVec 16) (size : BitVec 16) (vector : BitVec 16) (pc : Bool) (s : State) : Bool :=
  admin s q && id != 0 && decide (id.toNat ≤ (s.ctrl q.fn.toNat).vq) && (s.cq? q.fn.toNat id.toNat).isNone && size != 0 && pc && decide (vector.toNat < (s.ctrl q.fn.toNat).vi)

/-- When CREATE_IO_SQ takes effect. -/
def createIoSq (q : Sqe) (id : BitVec 16) (size : BitVec 16) (cq : BitVec 16) (prio : BitVec 2) (pc : Bool) (s : State) : Bool :=
  admin s q && id != 0 && decide (id.toNat ≤ (s.ctrl q.fn.toNat).vq) && (s.sq? q.fn.toNat id.toNat).isNone && cq != 0 && (s.cq? q.fn.toNat cq.toNat).isSome && size != 0 && pc && (prio != 0 || s.fval q.fn.toNat 0x4010 0x0B != 0)

/-- When DELETE_IO_SQ takes effect. -/
def deleteIoSq (q : Sqe) (id : BitVec 16) (s : State) : Bool :=
  admin s q && id != 0 && (s.sq? q.fn.toNat id.toNat).isSome && s.nvme.cmds.isEmpty && !(s.nvme.fwdOut.any fun k => k.fn == q.fn.toNat && k.sq == id.toNat) && !(s.nvme.heldCpl.any fun k => k.fn == q.fn.toNat && k.sq == id.toNat)

/-- When DELETE_IO_CQ takes effect. -/
def deleteIoCq (q : Sqe) (id : BitVec 16) (s : State) : Bool :=
  admin s q && id != 0 && (s.cq? q.fn.toNat id.toNat).isSome && !(s.nvme.sqs.any fun p => p.1 / 65536 == q.fn.toNat && p.2.cq == id.toNat && p.1 % 65536 != 0)

/-- When POISONED_TLP_RECEIVED takes effect. -/
def poisonedTlpReceived (q : Sqe) (what : HostRead) (s : State) : Bool :=
  what == .data && canFetch s q && s.nvme.cmds.isEmpty && s.nvme.fwdOut.isEmpty

/-- When POISONED_TLP_RECEIVED takes effect. -/
def poisonedTlpReceivedList (q : Sqe) (what : HostRead) (s : State) : Bool :=
  what != .data && !(s.ctrl q.fn.toNat).enabled && s.nvme.cmds.isEmpty && s.nvme.fwdOut.isEmpty

/-- When HOST_READ_FAILED takes effect. -/
def hostReadFailed (q : Sqe) (what : HostRead) (why : ReadFault) (s : State) : Bool :=
  why != .sram && if what == .entry then (s.ctrl q.fn.toNat).enabled else canFetch s q && s.nvme.cmds.isEmpty && s.nvme.fwdOut.isEmpty

/-- When HOST_READ_FAILED takes effect. -/
def hostReadFailedSram (q : Sqe) (what : HostRead) (why : ReadFault) (s : State) : Bool :=
  why == .sram && what == .entry && (s.ctrl q.fn.toNat).enabled

/-- When RANGE_LOCK_ADMIT takes effect. -/
def rangeLockAdmit (s : State) : Bool :=
  s.serving && s.sched.execs.isEmpty && s.media.done.isEmpty && s.media.backlog.isEmpty && s.twin.failback.isNone && s.nvme.cmds.length == 1 && s.nvme.cmds.all fun c => s.mayAdmit c && c.op == .other && c.silent && c.fwdTag.isNone && c.media.isEmpty && c.lost.isEmpty && !c.filled && !c.waitDirty && c.need == 0 && c.status == 0 && c.cls != 0 && !s.segmentBad c.spans

/-- When FETCH_ENGINE_RESUME takes effect. -/
def fetchEngineResume (e : Fin 16) (s : State) : Bool :=
  !(s.nvme.cmds.any fun c => c.sq % 16 == e.val && c.fwdTag.isNone && s.short c)

/-- When STRIPE_MODE_CHANGE takes effect. -/
def stripeModeChange (s : State) : Bool :=
  !s.modeWaits

/-- When AGGREGATION_TIME_EXPIRY takes effect. -/
def aggregationTimeExpiry (fn : BitVec 8) (s : State) : Bool :=
  let c := s.ctrl fn.toNat; !c.coalesced.isEmpty && decide (usTicks (100 * bits (Tab.get c.features 0 0x08) 8 8) ≤ s.since c.coalesceAt) && s.hostOpen && (Tab.keys c.coalesced).all fun v => s.msixOpen fn.toNat v c.vi

/-- When INVALID_COMMAND_OPCODE takes effect. -/
def invalidCommandOpcode (q : Sqe) (s : State) : Bool :=
  canFetch s q

/-- When GET_LOG_PAGE takes effect. -/
def getLogPage (q : Sqe) (lid : BitVec 8) (nsid : BitVec 32) (offset : BitVec 64) (numd : BitVec 32) (rgo : Bool) (w : Walk) (s : State) : Bool :=
  admin s q && logIds.contains lid.toNat && decide (4 * (numd.toNat + 1) ≤ maxTransfer) && s.walkStatus q w (4 * (numd.toNat + 1)) false == 0 && decide (offset.toNat % 4 = 0) && (s.ctrl q.fn.toNat).events.isEmpty && (s.logPage q.fn.toNat lid.toNat nsid.toNat rgo).1.any fun p => decide (offset.toNat ≤ p.length)

/-- When IDENTIFY takes effect. -/
def identify (q : Sqe) (cns : BitVec 8) (nsid : BitVec 32) (cntid : BitVec 16) (csi : BitVec 8) (w : Walk) (s : State) : Bool :=
  admin s q && s.walkStatus q w 4096 false == 0 && (s.identifyData q.fn.toNat cns.toNat nsid.toNat cntid.toNat csi.toNat).isLeft

/-- When ABORT takes effect. -/
def abort (q : Sqe) (s : State) : Bool :=
  q.sq == 0 && canFetch s q

/-- When SET_FEATURES takes effect. -/
def setFeatures (q : Sqe) (fid : BitVec 8) (dw11 : BitVec 32) (sv : Bool) (s : State) : Bool :=
  admin s q && [0x01, 0x02, 0x04, 0x05, 0x08, 0x09, 0x0B].contains fid.toNat && !(s.ctrl q.fn.toNat).featureBad fid.toNat dw11.toNat && (!sv || (saveable.contains fid.toNat && !s.cs.faulted))

/-- When SET_FEATURES takes effect. -/
def setFeaturesOther (q : Sqe) (fid : BitVec 8) (dw11 : BitVec 32) (sv : Bool) (w : Walk) (s : State) : Bool :=
  admin s q && [0x07, 0x0E, 0x0F, 0x81].contains fid.toNat && !(s.ctrl q.fn.toNat).featureBad fid.toNat dw11.toNat && !sv && s.walkStatus q w (featureBytes fid.toNat) true == 0

/-- When SET_FEATURES takes effect. -/
def setFeaturesNs (q : Sqe) (fid : BitVec 8) (nsid : BitVec 32) (sv : Bool) (w : Walk) (s : State) : Bool :=
  admin s q && (fid == 0x82 || fid == 0x83) && (s.featureSpaces q.fn.toNat fid.toNat nsid.toNat).contains nsid.toNat && nsid != 0xFFFFFFFF && !sv && s.walkStatus q w 0 true == 0

/-- When GET_FEATURES takes effect. -/
def getFeatures (q : Sqe) (fid : BitVec 8) (dw11 : BitVec 32) (sel : BitVec 3) (s : State) : Bool :=
  admin s q && [0x01, 0x02, 0x04, 0x05, 0x08, 0x09, 0x0B].contains fid.toNat && decide (sel.toNat ≤ 3) && !(fid == 9 && decide ((s.ctrl q.fn.toNat).vi ≤ bits dw11.toNat 0 16))

/-- When ASYNCHRONOUS_EVENT_REQUEST takes effect. -/
def asynchronousEventRequest (q : Sqe) (s : State) : Bool :=
  q.sq == 0 && canFetch s q && decide ((s.ctrl q.fn.toNat).aers.length < 16) && (s.ctrl q.fn.toNat).events.isEmpty

/-- When KEEP_ALIVE takes effect. -/
def keepAlive (q : Sqe) (s : State) : Bool :=
  q.sq == 0 && canFetch s q

/-- When KEEP_ALIVE_EXPIRY takes effect. -/
def keepAliveExpiry (fn : BitVec 8) (s : State) : Bool :=
  let c := s.ctrl fn.toNat; c.enabled && !c.cfs && c.keepAliveMs != 0 && decide (usTicks (1000 * c.keepAliveMs) ≤ s.since c.keepAliveAt)

/-- When NAMESPACE_CREATE takes effect. -/
def namespaceCreate (q : Sqe) (nsze : BitVec 64) (ncap : BitVec 64) (lbaf : BitVec 4) (dps : BitVec 8) (group : BitVec 32) (guard64 : Bool) (shared : Bool) (w : Walk) (s : State) : Bool :=
  admin s q && calm s q && s.walkStatus q w 4096 true == 0 && !s.splitLink && decide (lbaf.toNat ≤ 2) && shared && nsze == ncap && decide (nsze.toNat % 4 = 0) && formatOk lbaf.toNat dps.toNat guard64 && (s.groupOf group.toNat).any (fun g => decide (s.usedCap + 4096 * ncap.toNat ≤ s.tnvmcap) && decide (sumOf (fun n => if n.nsid ≤ 1020 ∧ n.group = g then 4096 * n.lbas else 0) s.nvme.namespaces + 4096 * ncap.toNat ≤ s.tnvmcap / (if s.isTwin then 2 else 1))) && ((List.range 1020).any fun k => (s.namespace? (k + 1)).isNone)

/-- When NAMESPACE_DELETE takes effect. -/
def namespaceDelete (q : Sqe) (nsid : BitVec 32) (s : State) : Bool :=
  admin s q && calm s q && !s.splitLink && decide (nsid.toNat ≤ 1020) && (s.namespace? nsid.toNat).isSome

/-- When NAMESPACE_ATTACH takes effect. -/
def namespaceAttach (q : Sqe) (nsid : BitVec 32) (ctrls : List (BitVec 16)) (w : Walk) (s : State) : Bool :=
  admin s q && calm s q && s.walkStatus q w 4096 true == 0 && !s.splitLink && !ctrls.isEmpty && ctrls.all (fun c => s.cntlidOk c.toNat) && (s.namespace? nsid.toNat).any fun n => !(ctrls.any fun c => n.attached.contains c.toNat)

/-- When NAMESPACE_DETACH takes effect. -/
def namespaceDetach (q : Sqe) (nsid : BitVec 32) (ctrls : List (BitVec 16)) (w : Walk) (s : State) : Bool :=
  admin s q && calm s q && s.walkStatus q w 4096 true == 0 && !s.splitLink && !ctrls.isEmpty && ctrls.all (fun c => s.cntlidOk c.toNat) && (s.namespace? nsid.toNat).any fun n => ctrls.all fun c => n.attached.contains c.toNat

/-- When FORMAT_NVM takes effect. -/
def formatNvm (q : Sqe) (nsid : BitVec 32) (lbaf : BitVec 4) (dps : BitVec 8) (ses : BitVec 3) (guard64 : Bool) (s : State) : Bool :=
  admin s q && calm s q && !s.splitLink && decide (nsid.toNat ≤ 1020) && decide (ses.toNat ≤ 2) && decide (lbaf.toNat ≤ 2) && formatOk lbaf.toNat dps.toNat guard64 && (s.namespace? nsid.toNat).isSome

/-- When FIRMWARE_IMAGE_DOWNLOAD takes effect. -/
def firmwareImageDownload (q : Sqe) (offset : BitVec 32) (numd : BitVec 32) (w : Walk) (s : State) : Bool :=
  admin s q && decide ((4 * (numd.toNat + 1)) % 4096 = 0) && decide (4 * offset.toNat % 4096 = 0) && decide (4 * (numd.toNat + 1) ≤ maxTransfer) && s.walkStatus q w (4 * (numd.toNat + 1)) true == 0

/-- When FIRMWARE_COMMIT_WRITE takes effect. -/
def firmwareCommitWrite (q : Sqe) (fs : BitVec 3) (s : State) : Bool :=
  admin s q && decide (fs.toNat ≤ 2) && !s.cs.faulted && decide (s.cs.imageLen ≤ s.cs.slotSize) && s.cs.imageLen != 0

/-- When FIRMWARE_COMMIT_WRITE_SELECT takes effect. -/
def firmwareCommitWriteSelect (q : Sqe) (fs : BitVec 3) (s : State) : Bool :=
  admin s q && decide (fs.toNat ≤ 2) && !s.cs.faulted && decide (s.cs.imageLen ≤ s.cs.slotSize) && s.cs.imageLen != 0

/-- When FIRMWARE_COMMIT_SELECT takes effect. -/
def firmwareCommitSelect (q : Sqe) (fs : BitVec 3) (action : BitVec 3) (fails : Bool) (s : State) : Bool :=
  admin s q && action == 2 && !fails && !s.cs.faulted && (s.cs.commitSlot fs.toNat).any fun k => s.cs.slotValid k

/-- When FIRMWARE_COMMIT_SELECT takes effect. -/
def firmwareCommitSelectBad (q : Sqe) (action : BitVec 3) (s : State) : Bool :=
  admin s q && action != 2

/-- When DEVICE_SELF_TEST_SHORT takes effect. -/
def deviceSelfTestShort (q : Sqe) (s : State) : Bool :=
  admin s q && s.nvme.selfTest.isNone

/-- When DEVICE_SELF_TEST_EXTENDED takes effect. -/
def deviceSelfTestExtended (q : Sqe) (s : State) : Bool :=
  admin s q && s.nvme.selfTest.isNone

/-- When DEVICE_SELF_TEST_ABORT takes effect. -/
def deviceSelfTestAbort (q : Sqe) (stc : BitVec 4) (s : State) : Bool :=
  admin s q && stc == 15

/-- When DEVICE_SELF_TEST_ABORT takes effect. -/
def deviceSelfTestAbortBad (q : Sqe) (stc : BitVec 4) (s : State) : Bool :=
  admin s q && stc != 15 && stc != 1 && stc != 2

/-- When SELFTEST_STEP_START takes effect. -/
def selftestStepStart (region : Option (Fin 4)) (s : State) : Bool :=
  s.nvme.selfTest.isSome && s.stepMayStart region

/-- When SELFTEST_STEP_START takes effect. -/
def selftestStepStartDeferred (region : Option (Fin 4)) (s : State) : Bool :=
  s.nvme.selfTest.isSome && !s.stepMayStart region

/-- When SELFTEST_TIMEOUT takes effect. -/
def selftestTimeout (s : State) : Bool :=
  s.nvme.selfTest.any fun t => decide (usTicks 60000000 * (if t.extended then 1440 else 10) ≤ s.since t.startedAt)

/-- When PRIMARY_FLEXIBLE_ALLOCATION takes effect. -/
def primaryFlexibleAllocation (q : Sqe) (s : State) : Bool :=
  admin s q && q.fn == 0

/-- When SECONDARY_CONTROLLER_ASSIGN takes effect. -/
def secondaryControllerAssign (q : Sqe) (cntlid : BitVec 16) (nr : BitVec 16) (vi : Bool) (remove : Bool) (s : State) : Bool :=
  admin s q && q.fn == 0 && (s.vfOf cntlid.toNat).any fun n => let c := s.ctrl n; let have_ := if vi then c.vi else c.vq; if remove then decide (nr.toNat ≤ have_) && decide ((if !c.online then 0 else if vi then s.vectorTop n else s.queueTop n) ≤ have_ - nr.toNat) else decide (s.assigned vi + nr.toNat ≤ if vi then 4032 else 16256) && decide (have_ + nr.toNat ≤ 2048)

/-- When SECONDARY_CONTROLLER_ONLINE takes effect. -/
def secondaryControllerOnline (q : Sqe) (cntlid : BitVec 16) (s : State) : Bool :=
  admin s q && q.fn == 0 && (s.vfOf cntlid.toNat).any fun n => let c := s.ctrl n; c.vq != 0 && c.vi != 0 && c.scrub != 1 && c.flr.isNone

/-- When SECONDARY_CONTROLLER_OFFLINE takes effect. -/
def secondaryControllerOffline (q : Sqe) (cntlid : BitVec 16) (s : State) : Bool :=
  admin s q && q.fn == 0 && (s.vfOf cntlid.toNat).any fun n => let c := s.ctrl n; c.online && !c.enabled && c.flr.isNone

/-- When SECONDARY_CONTROLLER_OFFLINE takes effect. -/
def secondaryControllerOfflineEnabled (q : Sqe) (cntlid : BitVec 16) (s : State) : Bool :=
  admin s q && q.fn == 0 && s.nvme.cmds.isEmpty && (s.vfOf cntlid.toNat).any fun n => let c := s.ctrl n; c.online && c.enabled && c.flr.isNone

/-- When GET_VERSION takes effect. -/
def spdmGetVersion (s : State) : Bool :=
  s.flag 0x3020 5

/-- When GET_VERSION takes effect. -/
def spdmGetVersionOff (s : State) : Bool :=
  !s.flag 0x3020 5

/-- When GET_CAPABILITIES takes effect. -/
def spdmGetCapabilities (s : State) : Bool :=
  s.flag 0x3020 5 && s.nvme.spdm != .none

/-- When GET_CAPABILITIES takes effect. -/
def spdmGetCapabilitiesEarly (s : State) : Bool :=
  s.flag 0x3020 5 && s.nvme.spdm == .none

/-- When NEGOTIATE_ALGORITHMS takes effect. -/
def spdmNegotiate (s : State) : Bool :=
  s.flag 0x3020 5 && s.nvme.spdm != .none && s.nvme.spdm != .version

/-- When GET_DIGESTS takes effect. -/
def spdmGetDigests (s : State) : Bool :=
  s.flag 0x3020 5 && s.nvme.spdm == .algorithms

/-- When GET_CERTIFICATE takes effect. -/
def spdmGetCertificate (s : State) : Bool :=
  s.flag 0x3020 5 && s.nvme.spdm == .algorithms

/-- When SPDM_CHALLENGE takes effect. -/
def spdmChallenge (s : State) : Bool :=
  s.flag 0x3020 5 && s.nvme.spdm == .algorithms

/-- When GET_MEASUREMENTS takes effect. -/
def spdmGetMeasurements (index : BitVec 8) (s : State) : Bool :=
  s.flag 0x3020 5 && s.nvme.spdm == .algorithms && index == 0

/-- When GET_MEASUREMENTS takes effect. -/
def spdmGetMeasurementsBlock (index : BitVec 8) (s : State) : Bool :=
  s.flag 0x3020 5 && s.nvme.spdm == .algorithms && decide (1 ≤ index.toNat) && decide (index.toNat ≤ 3)

/-- When GET_MEASUREMENTS takes effect. -/
def spdmGetMeasurementsBad (index : BitVec 8) (s : State) : Bool :=
  s.flag 0x3020 5 && s.nvme.spdm == .algorithms && decide (4 ≤ index.toNat) && index != 255

/-- When SECURITY_SEND takes effect. -/
def securitySend (q : Sqe) (secp : BitVec 8) (len : BitVec 32) (m : SpdmReq) (w : Walk) (s : State) : Bool :=
  admin s q && secp == 0xE8 && decide (len.toNat ≤ maxTransfer) && s.walkStatus q w len.toNat true == 0 && s.flag 0x3020 5 && m == .getVersion

/-- When SECURITY_SEND takes effect. -/
def securitySendBad (q : Sqe) (secp : BitVec 8) (s : State) : Bool :=
  admin s q && secp != 0xE8

/-- When SECURITY_RECEIVE takes effect. -/
def securityReceive (q : Sqe) (secp : BitVec 8) (len : BitVec 32) (w : Walk) (s : State) : Bool :=
  admin s q && decide (len.toNat ≤ maxTransfer) && (secp == 0 || secp == 0xE8) && s.walkStatus q w len.toNat false == 0

/-- When SANITIZE_CRYPTO_ERASE takes effect. -/
def sanitizeCryptoErase (q : Sqe) (s : State) : Bool :=
  admin s q && calm s q && !s.splitLink

/-- When SANITIZE_BLOCK_ERASE takes effect. -/
def sanitizeBlockErase (q : Sqe) (cdw10 : BitVec 10) (s : State) : Bool :=
  admin s q && calm s q && !s.splitLink && bits cdw10.toNat 0 3 == 2

/-- When SANITIZE_BLOCK_ERASE takes effect. -/
def sanitizeBlockEraseBad (q : Sqe) (cdw10 : BitVec 10) (s : State) : Bool :=
  admin s q && (bits cdw10.toNat 0 3 == 0 || bits cdw10.toNat 0 3 == 3 || decide (5 ≤ bits cdw10.toNat 0 3) || (bits cdw10.toNat 0 3 == 1 && bits cdw10.toNat 4 5 != 0))

/-- When SANITIZE_DONE takes effect. -/
def sanitizeDone (s : State) : Bool :=
  (s.nvme.sanitize.any fun z => z.own && !(z.twin && s.isTwin && s.mirrorPartner)) && !(s.sched.slots.any fun p => p.2.state != .empty)

/-- When FLUSH takes effect. -/
def nvmFlush (q : Sqe) (nsid : BitVec 32) (s : State) : Bool :=
  q.sq != 0 && canFetch s q && s.nvme.sanitize.isNone && (nsid == 0xFFFFFFFF || (s.namespace? nsid.toNat).any fun n => n.attached.contains (s.cntlid q.fn.toNat) && (s.ana n.group).status.isNone)

/-- When NVM_READ takes effect. -/
def nvmRead (q : Sqe) (nsid : BitVec 32) (lba : BitVec 64) (nlb : BitVec 16) (pr : PrInfo) (w : Walk) (s : State) : Bool :=
  io s q nsid.toNat && sound s q nsid.toNat (.read ⟨nsid.toNat, lba.toNat, nlb.toNat + 1⟩) pr w && enters s q (.read ⟨nsid.toNat, lba.toNat, nlb.toNat + 1⟩) && whole s ⟨nsid.toNat, lba.toNat, nlb.toNat + 1⟩

/-- When NVM_READ takes effect. -/
def nvmReadFlash (q : Sqe) (nsid : BitVec 32) (lba : BitVec 64) (nlb : BitVec 16) (pr : PrInfo) (w : Walk) (s : State) : Bool :=
  io s q nsid.toNat && sound s q nsid.toNat (.read ⟨nsid.toNat, lba.toNat, nlb.toNat + 1⟩) pr w && s.nvme.heldCpl.isEmpty && locksOpen s q 1 && !s.segmentBad [(⟨nsid.toNat, lba.toNat, nlb.toNat + 1⟩ : Extent).span false] && s.classOf q.fn.toNat q.sq.toNat != 0 && (s.flashUnits [(⟨nsid.toNat, lba.toNat, nlb.toNat + 1⟩ : Extent).span false]).any fun x => !(s.unitReads (s.setOf x.1) x.2.2).isEmpty

/-- When VERIFY takes effect. -/
def nvmVerify (q : Sqe) (nsid : BitVec 32) (lba : BitVec 64) (nlb : BitVec 16) (pr : PrInfo) (s : State) : Bool :=
  io s q nsid.toNat && sound s q nsid.toNat (.verify ⟨nsid.toNat, lba.toNat, nlb.toNat + 1⟩) pr .ok && enters s q (.verify ⟨nsid.toNat, lba.toNat, nlb.toNat + 1⟩) && whole s ⟨nsid.toNat, lba.toNat, nlb.toNat + 1⟩

/-- When COMPARE takes effect. -/
def nvmCompare (q : Sqe) (nsid : BitVec 32) (lba : BitVec 64) (nlb : BitVec 16) (data : List Lba) (pr : PrInfo) (w : Walk) (s : State) : Bool :=
  io s q nsid.toNat && sound s q nsid.toNat (.compare ⟨nsid.toNat, lba.toNat, nlb.toNat + 1⟩ (blocksOf (nlb.toNat + 1) data)) pr w && enters s q (.compare ⟨nsid.toNat, lba.toNat, nlb.toNat + 1⟩ (blocksOf (nlb.toNat + 1) data)) && whole s ⟨nsid.toNat, lba.toNat, nlb.toNat + 1⟩

/-- When NVM_WRITE takes effect. -/
def nvmWrite (q : Sqe) (nsid : BitVec 32) (lba : BitVec 64) (nlb : BitVec 16) (data : List Lba) (pr : PrInfo) (w : Walk) (s : State) : Bool :=
  io s q nsid.toNat && sound s q nsid.toNat (.write ⟨nsid.toNat, lba.toNat, nlb.toNat + 1⟩ (blocksOf (nlb.toNat + 1) data)) pr w && enters s q (.write ⟨nsid.toNat, lba.toNat, nlb.toNat + 1⟩ (blocksOf (nlb.toNat + 1) data)) && takes s ⟨nsid.toNat, lba.toNat, nlb.toNat + 1⟩ (⟨nsid.toNat, lba.toNat, nlb.toNat + 1⟩ : Extent).units.2

/-- When WRITE_ZEROES takes effect. -/
def writeZeroes (q : Sqe) (nsid : BitVec 32) (lba : BitVec 64) (nlb : BitVec 16) (pr : PrInfo) (s : State) : Bool :=
  io s q nsid.toNat && sound s q nsid.toNat (.zeroes ⟨nsid.toNat, lba.toNat, nlb.toNat + 1⟩) pr .ok && enters s q (.zeroes ⟨nsid.toNat, lba.toNat, nlb.toNat + 1⟩) && takes s ⟨nsid.toNat, lba.toNat, nlb.toNat + 1⟩ ((⟨nsid.toNat, lba.toNat, nlb.toNat + 1⟩ : Extent).units.2 - (⟨nsid.toNat, lba.toNat, nlb.toNat + 1⟩ : Extent).whole.2)

/-- When DATASET_MANAGEMENT takes effect. -/
def datasetManagement (q : Sqe) (nsid : BitVec 32) (ranges : List (BitVec 64 × BitVec 32)) (ad : Bool) (w : Walk) (s : State) : Bool :=
  io s q nsid.toNat && sound s q nsid.toNat (trimOp nsid ranges ad) .none w && enters s q (trimOp nsid ranges ad) && s.hold.dirty.isEmpty && !s.mirroring

/-- When COPY takes effect. -/
def nvmCopy (q : Sqe) (nsid : BitVec 32) (sdlba : BitVec 64) (src : List CopyRange) (check : CopyPr) (pr : PrInfo) (w : Walk) (s : State) : Bool :=
  io s q nsid.toNat && sound s q nsid.toNat (copyOp nsid sdlba src check) pr w && enters s q (copyOp nsid sdlba src check) && !src.isEmpty && (copied nsid src).all (fun e => whole s e) && takes s ⟨nsid.toNat, sdlba.toNat, sumOf (fun e => e.count) (copied nsid src)⟩ (⟨nsid.toNat, sdlba.toNat, sumOf (fun e => e.count) (copied nsid src)⟩ : Extent).units.2

/-- When RESERVATION_REGISTER takes effect. -/
def reservationRegister (q : Sqe) (nsid : BitVec 32) (action : BitVec 3) (w : Walk) (s : State) : Bool :=
  io s q nsid.toNat && s.walkStatus q w 16 true == 0 && action == 0 && ((s.namespace? nsid.toNat).bind fun n => n.registrant (s.cntlid q.fn.toNat) (s.hostId q.fn.toNat)).isNone

/-- When RESERVATION_REGISTER takes effect. -/
def reservationRegisterBad (q : Sqe) (nsid : BitVec 32) (action : BitVec 3) (w : Walk) (s : State) : Bool :=
  io s q nsid.toNat && s.walkStatus q w 16 true == 0 && decide (3 ≤ action.toNat)

/-- When RESERVATION_ACQUIRE takes effect. -/
def reservationAcquire (q : Sqe) (nsid : BitVec 32) (action : BitVec 3) (iekey : Bool) (type : BitVec 8) (crkey : BitVec 64) (w : Walk) (s : State) : Bool :=
  io s q nsid.toNat && s.walkStatus q w 16 true == 0 && action == 0 && decide (1 ≤ type.toNat) && decide (type.toNat ≤ 6) && ((s.namespace? nsid.toNat).any fun n => n.holder.isNone) && ((s.namespace? nsid.toNat).bind fun n => n.registrant (s.cntlid q.fn.toNat) (s.hostId q.fn.toNat)).any (fun g => iekey || g.key == crkey.toNat)

/-- When RESERVATION_ACQUIRE takes effect. -/
def reservationAcquireConflict (q : Sqe) (nsid : BitVec 32) (iekey : Bool) (crkey : BitVec 64) (w : Walk) (s : State) : Bool :=
  io s q nsid.toNat && s.walkStatus q w 16 true == 0 && !(((s.namespace? nsid.toNat).bind fun n => n.registrant (s.cntlid q.fn.toNat) (s.hostId q.fn.toNat)).any fun g => iekey || g.key == crkey.toNat)

/-- When RESERVATION_RELEASE takes effect. -/
def reservationRelease (q : Sqe) (nsid : BitVec 32) (action : BitVec 3) (iekey : Bool) (type : BitVec 8) (crkey : BitVec 64) (w : Walk) (s : State) : Bool :=
  io s q nsid.toNat && s.walkStatus q w 8 true == 0 && action == 0 && ((s.namespace? nsid.toNat).any fun n => n.resvType == type.toNat && ((s.namespace? nsid.toNat).bind fun n => n.registrant (s.cntlid q.fn.toNat) (s.hostId q.fn.toNat)).any fun g => n.holds g && (iekey || g.key == crkey.toNat))

/-- When RESERVATION_REPORT takes effect. -/
def reservationReport (q : Sqe) (nsid : BitVec 32) (numd : BitVec 32) (eds : Bool) (w : Walk) (s : State) : Bool :=
  io s q nsid.toNat && eds && decide (4 * (numd.toNat + 1) ≤ maxTransfer) && s.walkStatus q w (4 * (numd.toNat + 1)) false == 0

/-- When RESERVATION_REPORT takes effect. -/
def reservationReportShort (q : Sqe) (nsid : BitVec 32) (numd : BitVec 32) (eds : Bool) (w : Walk) (s : State) : Bool :=
  io s q nsid.toNat && !eds && s.walkStatus q w (4 * (numd.toNat + 1)) false == 0

/-- When LOAD_PROGRAM takes effect. -/
def loadProgram (q : Sqe) (nsid : BitVec 32) (index : BitVec 16) (offset : BitVec 32) (data : List Byte) (w : Walk) (s : State) : Bool :=
  dev s q nsid.toNat (.load index offset data) w && (slotOf index.toNat).any fun k => nextPart s q.fn.toNat k offset.toNat && (decide (((s.slot k).image ++ data).length < 12) || (decide (((s.slot k).image ++ data).length < imgLength ((s.slot k).image ++ data)) && programFits s k (imgLength ((s.slot k).image ++ data))))

/-- When LOAD_PROGRAM takes effect. -/
def loadProgramWhole (q : Sqe) (nsid : BitVec 32) (index : BitVec 16) (offset : BitVec 32) (data : List Byte) (w : Walk) (s : State) : Bool :=
  dev s q nsid.toNat (.load index offset data) w && (slotOf index.toNat).any fun k => nextPart s q.fn.toNat k offset.toNat && decide (12 ≤ ((s.slot k).image ++ data).length) && decide (((s.slot k).image ++ data).length = imgLength ((s.slot k).image ++ data)) && programFits s k (imgLength ((s.slot k).image ++ data))

/-- When LOAD_PROGRAM takes effect. -/
def loadProgramIndex (q : Sqe) (nsid : BitVec 32) (index : BitVec 16) (offset : BitVec 32) (data : List Byte) (w : Walk) (s : State) : Bool :=
  dev s q nsid.toNat (.load index offset data) w && (slotOf index.toNat).isNone

/-- When PROGRAM_UNLOAD takes effect. -/
def programUnload (q : Sqe) (nsid : BitVec 32) (index : BitVec 16) (w : Walk) (s : State) : Bool :=
  dev s q nsid.toNat (.unload index) w && (slotOf index.toNat).any fun k => (s.slot k).state == .loaded && (s.slot k).ownedBy q.fn.toNat

/-- When SLOT_UNLOADED takes effect. -/
def slotUnloaded (k : BitVec 8) (s : State) : Bool :=
  (s.slot k.toNat).state == .unloading && !s.named k.toNat

/-- When SLOT_UNLOADED takes effect. -/
def slotUnloadedNamed (k : BitVec 8) (s : State) : Bool :=
  (s.slot k.toNat).state != .unloading || s.named k.toNat

/-- When LOADING_TIMEOUT takes effect. -/
def loadingTimeout (k : BitVec 8) (s : State) : Bool :=
  (s.slot k.toNat).state == .loading && decide (usTicks 60000000 ≤ s.since (s.slot k.toNat).at_)

/-- When PROGRAM_ACTIVATE takes effect. -/
def programActivate (q : Sqe) (nsid : BitVec 32) (index : BitVec 16) (w : Walk) (s : State) : Bool :=
  dev s q nsid.toNat (.activate index true) w && (isFixed index.toNat || (slotOf index.toNat).any fun k => ((s.slot k).state == .loaded || (s.slot k).state == .active) && (s.slot k).ownedBy q.fn.toNat)

/-- When PROGRAM_DEACTIVATE takes effect. -/
def programDeactivate (q : Sqe) (nsid : BitVec 32) (index : BitVec 16) (w : Walk) (s : State) : Bool :=
  dev s q nsid.toNat (.activate index false) w && (slotOf index.toNat).any fun k => ((s.slot k).state == .loaded || (s.slot k).state == .active) && (s.slot k).ownedBy q.fn.toNat

/-- When PROGRAM_DEACTIVATE takes effect. -/
def programDeactivateFixed (q : Sqe) (nsid : BitVec 32) (index : BitVec 16) (w : Walk) (s : State) : Bool :=
  dev s q nsid.toNat (.activate index false) w && isFixed index.toNat

/-- When MEMORY_RANGE_SET_MANAGEMENT takes effect. -/
def memoryRangeSetManagement (q : Sqe) (nsid : BitVec 32) (ranges : List (BitVec 64 × BitVec 64)) (w : Walk) (s : State) : Bool :=
  dev s q nsid.toNat (.makeSet ranges) w && !ranges.isEmpty && decide (ranges.length ≤ 128) && (ranges.all fun p => s.inWindow q.fn.toNat p.1.toNat p.2.toNat) && ((List.range 64).map (· + 1)).any fun i => !(s.sched.sets.map fun x => x.id).contains i

/-- When MEMORY_RANGE_SET_MANAGEMENT takes effect. -/
def memoryRangeSetManagementDelete (q : Sqe) (nsid : BitVec 32) (id : BitVec 16) (w : Walk) (s : State) : Bool :=
  dev s q nsid.toNat (.dropSet id) w && s.sched.sets.any fun x => x.id == id.toNat && x.fn == q.fn.toNat

/-- When EXECUTE_PROGRAM takes effect. -/
def executeProgram (q : Sqe) (nsid : BitVec 32) (index : BitVec 16) (rangeSet : BitVec 16) (params : List Byte) (w : Walk) (s : State) : Bool :=
  dev s q nsid.toNat (.execute index rangeSet params) w && (isFixed index.toNat || (slotOf index.toNat).any fun k => (s.slot k).state == .active && (s.slot k).ownedBy q.fn.toNat) && headerOk params &&
    ((rangesOf s q.fn.toNat rangeSet.toNat).any fun l => selsOk (match slotOf index.toNat with | some k => (s.slot k).image | none => []) (headerSels params) (field params 4 4) l && l.all fun g => s.inWindow q.fn.toNat g.base g.len) &&
    !(s.maskRegions (bits (field params 9 1) 0 4)).isEmpty && s.fval q.fn.toNat 0x4010 5 != 0 && (!isFixed index.toNat || s.fixedCheck params == 0)

/-- When EXECUTE_PROGRAM takes effect. -/
def executeProgramHeader (q : Sqe) (nsid : BitVec 32) (index : BitVec 16) (rangeSet : BitVec 16) (params : List Byte) (w : Walk) (s : State) : Bool :=
  dev s q nsid.toNat (.execute index rangeSet params) w && (isFixed index.toNat || (slotOf index.toNat).any fun k => (s.slot k).state == .active && (s.slot k).ownedBy q.fn.toNat) && !headerOk params

/-- When MEMORY_READ takes effect. -/
def slmRead (q : Sqe) (nsid : BitVec 32) (offset : BitVec 64) (len : BitVec 32) (w : Walk) (s : State) : Bool :=
  dev s q nsid.toNat (.memRead offset len) w && s.slmCheck q.fn.toNat offset.toNat len.toNat == 0 && s.mem.poison.all fun p => !p.2 || decide (p.1 + granuleAt p.1 ≤ s.slmAt q.fn.toNat offset.toNat) || decide (s.slmAt q.fn.toNat offset.toNat + len.toNat ≤ p.1)

/-- When MEMORY_READ takes effect. -/
def slmReadBad (q : Sqe) (nsid : BitVec 32) (offset : BitVec 64) (len : BitVec 32) (w : Walk) (s : State) : Bool :=
  dev s q nsid.toNat (.memRead offset len) w && s.slmCheck q.fn.toNat offset.toNat len.toNat != 0

/-- When MEMORY_WRITE takes effect. -/
def slmWrite (q : Sqe) (nsid : BitVec 32) (offset : BitVec 64) (data : List Byte) (w : Walk) (s : State) : Bool :=
  dev s q nsid.toNat (.memWrite offset data) w && s.slmCheck q.fn.toNat offset.toNat data.length == 0

/-- When MEMORY_COPY takes effect. -/
def slmCopy (q : Sqe) (nsid : BitVec 32) (dst : BitVec 64) (src : BitVec 32) (ranges : List (BitVec 64 × BitVec 16)) (w : Walk) (s : State) : Bool :=
  dev s q nsid.toNat (.memCopy dst src ranges) w && s.nvme.heldCpl.isEmpty && !ranges.isEmpty && decide (ranges.length ≤ 128) && reaches s q src.toNat && ((s.namespace? src.toNat).any fun n => s.ana n.group == .optimized && !n.conflict (s.cntlid q.fn.toNat) (s.hostId q.fn.toNat) false && (slmSrc src ranges).all fun e => decide (e.lba + e.count ≤ n.lbas)) &&
    s.slmCheck q.fn.toNat dst.toNat (4096 * sumOf (fun e => e.count) (slmSrc src ranges)) == 0 && enters s q (.memCopy (slmSrc src ranges) 0) && (slmSrc src ranges).all fun e => whole s e

/-- When TASK_ENQUEUE takes effect. -/
def taskEnqueue (r : Fin 4) (t : Task) (s : State) : Bool :=
  s.online r.val && s.portRoom r.val t.target && !s.portStalled r.val t.target

/-- When TASK_ENQUEUE takes effect. -/
def taskEnqueueExec (tag : BitVec 32) (s : State) : Bool :=
  (s.exec? tag.toNat).any fun e => !e.stalled && decide (e.next < e.count) && (let l := s.maskRegions e.mask; (l[e.next % l.length]?).any fun k => s.portRoom k false && !s.portStalled k false)

/-- When TASK_ENQUEUE takes effect. -/
def taskEnqueueStalled (r : Fin 4) (t : Task) (s : State) : Bool :=
  s.online r.val && (!s.portRoom r.val t.target || s.portStalled r.val t.target)

/-- When ENQUEUE_RESUME takes effect. -/
def enqueueResume (r : Fin 4) (target : Bool) (s : State) : Bool :=
  s.portRoom r.val target && s.sched.stalled.any fun x => x.region == r.val && x.task.target == target

/-- When TASK_DISPATCH takes effect. -/
def taskDispatch (r : Fin 4) (ecc : Ecc) (lost : Bool) (s : State) : Bool :=
  ecc == .clean && !lost && s.online r.val && ((regionCores r.val).all fun n => !(s.coreFree n && (s.core n).prefetch.isSome)) && (s.nextTask r.val).isSome

/-- When TASK_DISPATCH takes effect. -/
def taskDispatchLost (r : Fin 4) (ecc : Ecc) (lost : Bool) (s : State) : Bool :=
  ecc == .clean && lost && s.online r.val && ((regionCores r.val).all fun n => !(s.coreFree n && (s.core n).prefetch.isSome)) && (s.nextTask r.val).isSome

/-- When PREFETCH_FILL takes effect. -/
def prefetchFill (r : Fin 4) (ecc : Ecc) (lost : Bool) (s : State) : Bool :=
  ecc == .clean && !lost && s.online r.val && (s.readyList r.val).length == 1 && (s.readyList r.val).all fun t => s.mayRun r.val t && (s.freeCores r.val t).isEmpty && (s.chooseCore ((s.busyCores r.val t).filter fun n => (s.core n).prefetch.isNone)).isSome

/-- When NUMVFS_WRITE takes effect. -/
def numvfsWrite (n : BitVec 16) (s : State) : Bool :=
  decide (n.toNat ≤ 255) && !s.nvme.vfEnable

/-- When NUMVFS_WRITE takes effect. -/
def numvfsWriteIgnored (n : BitVec 16) (s : State) : Bool :=
  decide (255 < n.toNat) || s.nvme.vfEnable

/-- When VF_ENABLE takes effect. -/
def vfEnable (s : State) : Bool :=
  !s.nvme.vfEnable && s.nvme.numVfs != 0

/-- When VF_ENABLE takes effect. -/
def vfEnableNone (s : State) : Bool :=
  s.nvme.vfEnable || s.nvme.numVfs == 0

/-- When VF_DISABLE takes effect. -/
def vfDisable (s : State) : Bool :=
  s.nvme.vfEnable && s.nvme.cmds.isEmpty

/-- When FUNCTION_LEVEL_RESET takes effect. -/
def functionLevelReset (fn : BitVec 8) (s : State) : Bool :=
  s.serving && s.pkg.boot.configReady && s.functions.contains fn.toNat && fn != 0 && s.nvme.cmds.isEmpty && (s.ctrl fn.toNat).flr.isNone

/-- When FUNCTION_LEVEL_RESET takes effect. -/
def functionLevelResetPf (fn : BitVec 8) (s : State) : Bool :=
  s.serving && s.pkg.boot.configReady && s.functions.contains fn.toNat && fn == 0 && s.nvme.cmds.isEmpty && (s.ctrl 0).flr.isNone

/-- When FLR_READS_DRAINED takes effect. -/
def flrReadsDrained (fn : BitVec 8) (left : BitVec 16) (s : State) : Bool :=
  (s.ctrl fn.toNat).flr.any (fun t => left == 0 || decide (usTicks 90000 ≤ s.since t)) && !s.stopping fn.toNat && !(s.nvme.fwdOut.any fun f => f.fn == fn.toNat && f.stopping) && s.functions.contains fn.toNat && (s.ctrl fn.toNat).offlineCids.isEmpty

/-- When FLR_READS_DRAINED takes effect. -/
def flrReadsDrainedWaits (fn : BitVec 8) (left : BitVec 16) (s : State) : Bool :=
  (s.ctrl fn.toNat).flr.any (fun t => left != 0 && decide (s.since t < usTicks 90000))

/-- When LATE_COMPLETION takes effect. -/
def lateCompletion (fn : BitVec 8) (s : State) : Bool :=
  (s.ctrl fn.toNat).lateExpected != 0

/-- When TENANT_SCRUB_DONE takes effect. -/
def tenantScrubDone (fn : BitVec 8) (s : State) : Bool :=
  (s.ctrl fn.toNat).scrub == 1

/-- When PORT_ENABLE takes effect. -/
def portEnable (c : Fin 32) (s : State) : Bool :=
  (s.port c.val).descBase % 8192 == 0 && (s.port c.val).cplBase % 4096 == 0 && s.within (fun a => a == .staging (c.val / 8)) (s.port c.val).descBase 8192 && s.within (fun a => a == .staging (c.val / 8)) (s.port c.val).cplBase 4096

/-- When PORT_ENABLE takes effect. -/
def portEnableRefused (c : Fin 32) (s : State) : Bool :=
  !((s.port c.val).descBase % 8192 == 0 && (s.port c.val).cplBase % 4096 == 0 && s.within (fun a => a == .staging (c.val / 8)) (s.port c.val).descBase 8192 && s.within (fun a => a == .staging (c.val / 8)) (s.port c.val).cplBase 4096)

/-- When RING_RESET takes effect. -/
def ringReset (c : Fin 32) (s : State) : Bool :=
  mediaOn s && !(s.port c.val).resetBusy && (List.range 32).all fun l => (s.lun c.val l).ops.all fun o => o.started || ofRing o

/-- When RING_RESET_DONE takes effect. -/
def ringResetDone (c : Fin 32) (s : State) : Bool :=
  mediaOn s && (s.port c.val).resetBusy && s.queued c.val == 0 && decide ((s.port c.val).descHead < 256) && decide ((s.port c.val).resetEnd < 256) && decide ((s.port c.val).cplTail < 256) && decide ((s.port c.val).cplHead < 256) && decide (((s.port c.val).resetEnd + 256 - (s.port c.val).descHead) % 256 + ((s.port c.val).cplTail + 256 - (s.port c.val).cplHead) % 256 ≤ 255) && !((s.port c.val).claim == .releasing)

/-- When DESC_TAIL_DOORBELL takes effect. -/
def descTailDoorbell (c : Fin 32) (s : State) : Bool :=
  !(s.port c.val).resetBusy

/-- When DESC_TAIL_DOORBELL takes effect. -/
def descTailDoorbellIgnored (c : Fin 32) (s : State) : Bool :=
  (s.port c.val).resetBusy

/-- When MEDIA_DESC_FETCH takes effect. -/
def mediaDescFetch (c : Fin 32) (busErr : Bool) (s : State) : Bool :=
  mediaOn s && s.canFetch c.val && !busErr && (s.checkMedia fun i => s.load ((s.port c.val).descBase + 32 * (s.port c.val).descHead + 4 * i) 4).isSome

/-- When MEDIA_DESC_FETCH takes effect. -/
def mediaDescFetchBadDesc (c : Fin 32) (busErr : Bool) (s : State) : Bool :=
  mediaOn s && s.canFetch c.val && !busErr && (s.checkMedia fun i => s.load ((s.port c.val).descBase + 32 * (s.port c.val).descHead + 4 * i) 4).isNone

/-- When MEDIA_DESC_FETCH takes effect. -/
def mediaDescFetchBusError (c : Fin 32) (busErr : Bool) (s : State) : Bool :=
  mediaOn s && s.canFetch c.val && busErr

/-- When CHANNEL_CLAIM_LUN_WAIT takes effect. -/
def channelClaimLunWait (c : Fin 32) (l : Fin 32) (ready : Bool) (s : State) : Bool :=
  mediaOn s && (s.port c.val).owned && (s.lun c.val l.val).unobserved && (ready || (s.lun c.val l.val).erase.isNone)

/-- When CHANNEL_CLAIM_LUN_WAIT takes effect. -/
def channelClaimLunWaitLate (c : Fin 32) (l : Fin 32) (ready : Bool) (s : State) : Bool :=
  mediaOn s && (s.port c.val).owned && (s.lun c.val l.val).unobserved && !ready && (s.lun c.val l.val).erase.isSome

/-- When CHANNEL_TRAINING_DONE takes effect. -/
def channelTrainingDone (c : Fin 32) (disagree : BitVec 32) (s : State) : Bool :=
  mediaOn s && (s.port c.val).owned && !(s.port c.val).trained && (List.range 32).all (fun l => !(s.lun c.val l).unobserved && !(s.hasLun l && bit disagree.toNat l)) && s.flash.initialized && (s.port c.val).retraining

/-- When CHANNEL_TRAINING_DONE takes effect. -/
def channelTrainingDoneTable (c : Fin 32) (disagree : BitVec 32) (s : State) : Bool :=
  mediaOn s && (s.port c.val).owned && !(s.port c.val).trained && (List.range 32).all (fun l => !(s.lun c.val l).unobserved && !(s.hasLun l && bit disagree.toNat l)) && s.flash.initialized && !(s.port c.val).retraining

/-- When CHANNEL_TRAINING_DONE takes effect. -/
def channelTrainingDoneFirst (c : Fin 32) (disagree : BitVec 32) (s : State) : Bool :=
  mediaOn s && (s.port c.val).owned && !(s.port c.val).trained && (List.range 32).all (fun l => !(s.lun c.val l).unobserved && !(s.hasLun l && bit disagree.toNat l)) && !s.flash.initialized

/-- When CHANNEL_RETRAIN takes effect. -/
def channelRetrain (c : Fin 32) (s : State) : Bool :=
  mediaOn s && (s.port c.val).owned && (s.port c.val).trained && decide (100 ≤ (s.hubTemp.toInt - (s.port c.val).trainedTemp.toInt).natAbs) && s.queued c.val == 0

/-- When BAD_BLOCK_TABLE_REWRITE takes effect. -/
def badBlockTableRewrite (c : Fin 32) (s : State) : Bool :=
  mediaOn s && (s.port c.val).owned

/-- When READ takes effect. -/
def mediaRead (c : Fin 32) (l : Fin 32) (s : State) : Bool :=
  starts s c.val l.val .read

/-- When READ_CONT takes effect. -/
def mediaReadCont (c : Fin 32) (l : Fin 32) (s : State) : Bool :=
  starts s c.val l.val .readCont

/-- When READ takes effect. -/
def mediaReadSuspends (c : Fin 32) (l : Fin 32) (s : State) : Bool :=
  mediaOn s && (s.lun c.val l.val).state == .erasing && (s.lun c.val l.val).erase.any (fun r => ((s.lun c.val l.val).eligible r.op.desc).any fun o => o.desc.opcode == .read && o.waits && o.desc.cls == 0) && !(s.port c.val).resetBusy && (s.lun c.val l.val).recovering.isNone

/-- When PROGRAM takes effect. -/
def mediaProgram (c : Fin 32) (l : Fin 32) (ecc : Ecc) (s : State) : Bool :=
  ecc == .clean && starts s c.val l.val .program && (s.lun c.val l.val).next.any fun o => s.programCheck c.val o.desc == mOK

/-- When PROGRAM takes effect. -/
def mediaProgramRejected (c : Fin 32) (l : Fin 32) (ecc : Ecc) (s : State) : Bool :=
  ecc == .clean && starts s c.val l.val .program && (s.lun c.val l.val).next.any fun o => s.programCheck c.val o.desc != mOK

/-- When ERASE takes effect. -/
def mediaErase (c : Fin 32) (l : Fin 32) (ecc : Ecc) (s : State) : Bool :=
  ecc == .clean && starts s c.val l.val .erase && (s.lun c.val l.val).next.any fun o => (o.desc.blockKeys c.val).all fun k => (s.wp k).state != .bad

/-- When ERASE takes effect. -/
def mediaEraseRejected (c : Fin 32) (l : Fin 32) (ecc : Ecc) (s : State) : Bool :=
  ecc == .clean && starts s c.val l.val .erase && (s.lun c.val l.val).next.any fun o => (o.desc.blockKeys c.val).any fun k => (s.wp k).state == .bad

/-- When MEDIA_GET_FEATURES takes effect. -/
def mediaGetFeatures (c : Fin 32) (l : Fin 32) (die : Option (BitVec 32)) (s : State) : Bool :=
  hands s c.val l.val .getFeatures && die.isSome && ((s.lun c.val l.val).inHand .getFeatures).any fun o => s.geom 0x11 != bits o.desc.param 0 8

/-- When MEDIA_GET_FEATURES takes effect. -/
def mediaGetFeaturesWaits (c : Fin 32) (l : Fin 32) (die : Option (BitVec 32)) (s : State) : Bool :=
  hands s c.val l.val .getFeatures && die.isNone

/-- When MEDIA_SET_FEATURES takes effect. -/
def mediaSetFeatures (c : Fin 32) (l : Fin 32) (ready : Bool) (s : State) : Bool :=
  hands s c.val l.val .setFeatures && ready

/-- When MEDIA_SET_FEATURES takes effect. -/
def mediaSetFeaturesWaits (c : Fin 32) (l : Fin 32) (ready : Bool) (s : State) : Bool :=
  hands s c.val l.val .setFeatures && !ready

/-- When READ_STATUS takes effect. -/
def mediaReadStatus (c : Fin 32) (l : Fin 32) (s : State) : Bool :=
  mediaOn s && (s.port c.val).owned && !(s.lun c.val l.val).fault && ((s.lun c.val l.val).ops.find? fun o => o.desc.opcode == .readStatus).any fun o => onRing l.val o

/-- When RESET_LUN takes effect. -/
def mediaResetLun (c : Fin 32) (l : Fin 32) (s : State) : Bool :=
  starts s c.val l.val .resetLun

/-- When RAW takes effect. -/
def mediaRaw (c : Fin 32) (l : Fin 32) (busErr : Bool) (s : State) : Bool :=
  starts s c.val l.val .raw && s.flag 0x5020 4 && !busErr && (s.lun c.val l.val).next.any fun o => s.rawOk o.desc && (s.rawSteps o.desc.dataAddr 64).all fun x => x.1 != 4 && x.1 != 5

/-- When RAW takes effect. -/
def mediaRawDataIn (c : Fin 32) (l : Fin 32) (busErr : Bool) (s : State) : Bool :=
  starts s c.val l.val .raw && s.flag 0x5020 4 && !busErr && (s.lun c.val l.val).next.any fun o => s.rawOk o.desc && match s.rawSteps o.desc.dataAddr 64 with | [x] => x.1 == 4 | _ => false

/-- When RAW takes effect. -/
def mediaRawDenied (c : Fin 32) (l : Fin 32) (s : State) : Bool :=
  starts s c.val l.val .raw && !s.flag 0x5020 4

/-- When SENSE_END takes effect. -/
def senseEnd (c : Fin 32) (l : Fin 32) (s : State) : Bool :=
  mediaOn s && ((s.lun c.val l.val).ops.find? fun o => o.holds && !o.sensed).any fun o => ofRing o

/-- When CHANNEL_TRANSFER_END takes effect. -/
def channelTransferEnd (c : Fin 32) (s : State) : Bool :=
  mediaOn s && ((s.nextTransfer c.val).bind (s.findOp c.val)).any fun p => p.2.isRead && ofRing p.2

/-- When CHANNEL_TRANSFER_END takes effect. -/
def channelTransferEndProgram (c : Fin 32) (s : State) : Bool :=
  mediaOn s && ((s.nextTransfer c.val).bind (s.findOp c.val)).any fun p => p.2.desc.opcode == .program && ofRing p.2

/-- When CODEWORD_DECODED takes effect. -/
def codewordDecoded (c : Fin 32) (l : Fin 32) (r : CwResult) (s : State) : Bool :=
  mediaOn s && r == .erased && ((s.lun c.val l.val).ops.find? (fun (o : MOp) => o.isRead && o.transferred && !o.left.isEmpty)).any fun o => ofRing o && decide (2 ≤ o.left.length) && o.left.all fun x => x.2 == 0

/-- When CODEWORD_DECODED takes effect. -/
def codewordDecodedClean (c : Fin 32) (l : Fin 32) (r : CwResult) (s : State) : Bool :=
  mediaOn s && ((s.lun c.val l.val).ops.find? (fun (o : MOp) => o.isRead && o.transferred && !o.left.isEmpty)).any (fun o => ofRing o && decide (2 ≤ o.left.length) && o.left.all (fun x => x.2 == 0) && (match o.left with | x :: _ => (match Tab.find s.flash.pages (o.ppn c.val (x.1 / 4)) with | some (.raw _) => true | _ => false) | [] => false)) && (match r with | .decoded n => !decide (100 * n > s.val 0x6020 1 * s.val 0x5000 0x13) | _ => false)

/-- When CODEWORD_DECODED takes effect. -/
def codewordDecodedLast (c : Fin 32) (l : Fin 32) (r : CwResult) (s : State) : Bool :=
  mediaOn s && ((s.lun c.val l.val).ops.find? (fun (o : MOp) => o.isRead && o.transferred && !o.left.isEmpty)).any (fun o => onRing l.val o && o.started && o.desc.opcode == .read && decide (o.left.length = 1) && !o.soft && o.failed == 0 && o.erasedCws == 0 && !o.requested.isEmpty && o.left.all (fun x => x.2 == 0) && (match o.left with | x :: _ => (match Tab.find s.flash.pages (o.ppn c.val (x.1 / 4)) with | some (.raw _) => true | _ => false) | [] => false)) && (match r with | .decoded n => !decide (100 * n > s.val 0x6020 1 * s.val 0x5000 0x13) | _ => false)

/-- When PROGRAM_END takes effect. -/
def programEnd (c : Fin 32) (l : Fin 32) (ok : Bool) (s : State) : Bool :=
  mediaOn s && ok && ((s.lun c.val l.val).ops.find? (fun (o : MOp) => o.started && o.transferred && o.desc.opcode == .program)).any fun o => onRing l.val o

/-- When PROGRAM_END takes effect. -/
def programEndFails (c : Fin 32) (l : Fin 32) (ok : Bool) (s : State) : Bool :=
  mediaOn s && !ok && ((s.lun c.val l.val).ops.find? (fun (o : MOp) => o.started && o.transferred && o.desc.opcode == .program)).any fun o => onRing l.val o && wpApart s c.val (o.desc.blockKeys c.val)

/-- When ERASE_END takes effect. -/
def eraseEnd (c : Fin 32) (l : Fin 32) (ok : Bool) (s : State) : Bool :=
  mediaOn s && ok && (s.lun c.val l.val).state == .erasing && (s.lun c.val l.val).erase.any fun e => onRing l.val e.op && e.op.started && wpApart s c.val (e.op.desc.blockKeys c.val)

/-- When ERASE_END takes effect. -/
def eraseEndFails (c : Fin 32) (l : Fin 32) (ok : Bool) (s : State) : Bool :=
  mediaOn s && !ok && (s.lun c.val l.val).state == .erasing && (s.lun c.val l.val).erase.any fun e => onRing l.val e.op && e.op.started && wpApart s c.val (e.op.desc.blockKeys c.val)

/-- When ERASE_SUSPENDED takes effect. -/
def eraseSuspended (c : Fin 32) (l : Fin 32) (s : State) : Bool :=
  mediaOn s && (s.lun c.val l.val).state == .suspending && (s.lun c.val l.val).erase.any (fun e => ((s.lun c.val l.val).nextServed { e with count := e.count + 1 }).isSome) && !(s.port c.val).resetBusy

/-- When MEDIA_OP_TIMEOUT takes effect. -/
def mediaOpTimeout (c : Fin 32) (l : Fin 32) (s : State) : Bool :=
  mediaOn s && (s.lun c.val l.val).recovering.isNone && s.timed c.val l.val

/-- When LUN_RECOVERY_END takes effect. -/
def lunRecoveryEnd (c : Fin 32) (l : Fin 32) (ready : Bool) (s : State) : Bool :=
  mediaOn s && (s.lun c.val l.val).recovering.isSome && (s.lun c.val l.val).erase.isNone && (match (s.lun c.val l.val).ops with | [o] => MOp.running o && onRing l.val o && o.isRead && o.raw.isNone | _ => false) && ready

/-- When LUN_RECOVERY_END takes effect. -/
def lunRecoveryEndFaults (c : Fin 32) (l : Fin 32) (ready : Bool) (s : State) : Bool :=
  mediaOn s && (s.lun c.val l.val).recovering.isSome && (s.lun c.val l.val).erase.isNone && (match (s.lun c.val l.val).ops with | [o] => MOp.running o && onRing l.val o && o.isRead && o.raw.isNone | _ => false) && !ready

/-- When CS_ENABLE takes effect. -/
def csEnable (s : State) : Bool :=
  s.cs.descBase % 2048 == 0 && s.cs.cplBase % 1024 == 0 && s.within (fun a => a == .tables) s.cs.descBase 2048 && s.within (fun a => a == .tables) s.cs.cplBase 1024 && s.cs.descHead == s.cs.descTail

/-- When CS_ENABLE takes effect. -/
def csEnableRefused (s : State) : Bool :=
  !(s.cs.descBase % 2048 == 0 && s.cs.cplBase % 1024 == 0 && s.within (fun a => a == .tables) s.cs.descBase 2048 && s.within (fun a => a == .tables) s.cs.cplBase 1024)

/-- When QUEUE_RESET takes effect. -/
def csQueueReset (s : State) : Bool :=
  !s.cs.resetBusy && bankIdle s 0 && bankIdle s 1 && decide (s.cs.descHead < 64) && decide (s.cs.descTail < 64) && decide (s.cs.cplTail < 64) && decide (s.cs.cplHead < 64) && decide ((s.cs.cplTail + 64 - s.cs.cplHead) % 64 + s.cs.ops.length + (s.cs.descTail + 64 - s.cs.descHead) % 64 ≤ 63)

/-- When QUEUE_RESET takes effect. -/
def csQueueResetWaits (s : State) : Bool :=
  !s.cs.resetBusy && !bankIdle s 0 && s.cs.ops.isEmpty && !(s.cs.bank 0).running.isNone && (s.cs.bank 1).suspended.isNone && s.cs.descHead == s.cs.descTail

/-- When QUEUE_RESET takes effect. -/
def csQueueResetAgain (s : State) : Bool :=
  s.cs.resetBusy

/-- When CS_DESC_TAIL_DOORBELL takes effect. -/
def csDescTailDoorbellIgnored (s : State) : Bool :=
  s.cs.resetBusy

/-- When CS_DESC_TAIL_DOORBELL takes effect. -/
def csDescTailDoorbellNothing (tail : Fin 64) (s : State) : Bool :=
  !s.cs.resetBusy && (!s.cs.enable || s.cs.descHead == tail.val)

/-- When CS_DESC_TAIL_DOORBELL takes effect. -/
def csDescTailDoorbell (tail : Fin 64) (busErr : Bool) (s : State) : Bool :=
  !s.cs.resetBusy && !busErr && !s.cs.faulted && s.cs.enable && tail.val == (s.cs.descHead + 1) % 64 && s.cs.descHead != tail.val && decide (s.cs.queued + (s.cs.cplTail + 64 - s.cs.cplHead) % 64 < 63) && (s.csCheck s.cs.descHead fun i => s.load (s.cs.descBase + 32 * s.cs.descHead + 4 * i) 4).isSome

/-- When CS_DESC_TAIL_DOORBELL takes effect. -/
def csDescTailDoorbellFaulted (tail : Fin 64) (busErr : Bool) (s : State) : Bool :=
  !s.cs.resetBusy && !busErr && s.cs.faulted && s.cs.enable && tail.val == (s.cs.descHead + 1) % 64 && s.cs.descHead != tail.val && decide (s.cs.queued + (s.cs.cplTail + 64 - s.cs.cplHead) % 64 < 63)

/-- When CS_READ takes effect. -/
def csRead (b : Fin 2) (ecc : Ecc) (s : State) : Bool :=
  (s.csNext b .read).isSome && bankIdle s b && ecc == .clean && !(s.csNext b .read).any fun o => !plainLines s o.addr o.len

/-- When CS_READ takes effect. -/
def csReadUncorrectable (b : Fin 2) (ecc : Ecc) (s : State) : Bool :=
  (s.csNext b .read).isSome && bankIdle s b && ecc == .uncorrectable

/-- When CS_READ takes effect. -/
def csReadSuspends (b : Fin 2) (ecc : Ecc) (s : State) : Bool :=
  (s.csNext b .read).isSome && ecc == .clean && !s.cs.resetBusy && s.hold.flush.isNone && (s.cs.bank b).running.any (fun e => e.opcode == .erase) && (s.cs.bank b).suspended.isNone && decide (s.cs.ops.length = 1) && !(s.csNext b .read).any fun o => !plainLines s o.addr o.len

/-- When CS_PROGRAM takes effect. -/
def csProgram (b : Fin 2) (busErr : Bool) (s : State) : Bool :=
  (s.csNext b .program).any (fun o => !s.csLocked o.addr && !o.overwrite && (s.cs.firstUsed o.addr o.len).isNone) && bankIdle s b && !busErr

/-- When CS_PROGRAM takes effect. -/
def csProgramLocked (b : Fin 2) (s : State) : Bool :=
  (s.csNext b .program).any (fun o => s.csLocked o.addr) && bankIdle s b

/-- When CS_PROGRAM takes effect. -/
def csProgramNotBlank (b : Fin 2) (s : State) : Bool :=
  (s.csNext b .program).any (fun o => !s.csLocked o.addr && !o.overwrite && (s.cs.firstUsed o.addr o.len).isSome) && bankIdle s b

/-- When CS_PROGRAM takes effect. -/
def csProgramBusError (b : Fin 2) (busErr : Bool) (s : State) : Bool :=
  (s.csNext b .program).any (fun o => !s.csLocked o.addr && !o.overwrite && (s.cs.firstUsed o.addr o.len).isNone) && bankIdle s b && busErr

/-- When CS_ERASE takes effect. -/
def csErase (b : Fin 2) (s : State) : Bool :=
  (s.csNext b .erase).any (fun o => !s.csLocked o.addr) && bankIdle s b

/-- When CS_ERASE takes effect. -/
def csEraseLocked (b : Fin 2) (s : State) : Bool :=
  (s.csNext b .erase).any (fun o => s.csLocked o.addr) && bankIdle s b

/-- When BLANK_CHECK takes effect. -/
def csBlankCheck (b : Fin 2) (s : State) : Bool :=
  (s.csNext b .blankCheck).any (fun o => (s.cs.firstUsed o.addr o.len).isNone) && bankIdle s b

/-- When BLANK_CHECK takes effect. -/
def csBlankCheckNotBlank (b : Fin 2) (s : State) : Bool :=
  (s.csNext b .blankCheck).any (fun o => (s.cs.firstUsed o.addr o.len).isSome) && bankIdle s b

/-- When CS_PROGRAM_END takes effect. -/
def csProgramEnd (b : Fin 2) (ok : Bool) (s : State) : Bool :=
  !s.cs.resetBusy && (s.cs.bank b).running.any (fun o => o.opcode == .program) && (s.cs.bank b).suspended.isNone && ok

/-- When CS_PROGRAM_END takes effect. -/
def csProgramEndFails (b : Fin 2) (ok : Bool) (s : State) : Bool :=
  !s.cs.resetBusy && (s.cs.bank b).running.any (fun o => o.opcode == .program) && (s.cs.bank b).suspended.isNone && !ok

/-- When CS_ERASE_END takes effect. -/
def csEraseEnd (b : Fin 2) (ok : Bool) (s : State) : Bool :=
  !s.cs.resetBusy && (s.cs.bank b).running.any (fun o => o.opcode == .erase) && (s.cs.bank b).suspended.isNone && ok

/-- When CS_ERASE_END takes effect. -/
def csEraseEndFails (b : Fin 2) (ok : Bool) (s : State) : Bool :=
  !s.cs.resetBusy && (s.cs.bank b).running.any (fun o => o.opcode == .erase) && (s.cs.bank b).suspended.isNone && !ok && (s.cs.bank b).running.any (fun o => (s.cs.sector o.addr).isSome)

/-- When CS_OP_TIMEOUT takes effect. -/
def csOpTimeout (b : Fin 2) (s : State) : Bool :=
  !s.cs.resetBusy && (s.cs.bank b).running.any (fun o => o.opcode == .program) && (s.cs.bank b).suspended.isNone && (s.cs.bank b).running.any (fun o => decide (s.cs.limit o < s.since o.startAt))

/-- When BANK_READY_TIMEOUT takes effect. -/
def csBankTimeout (b : Fin 2) (s : State) : Bool :=
  !s.cs.resetBusy && (s.cs.bank b).resetting.any (fun t => decide (usTicks 10000 ≤ s.since t)) && bankIdle s 0 && bankIdle s 1 && decide (s.cs.cplTail < 64)

/-- When XIP_FETCH takes effect. -/
def xipFetchHit (addr : BitVec 48) (wide : Bool) (s : State) : Bool :=
  let len := if wide then 8 else 4; !s.cs.faulted && decide (addr.toNat + len ≤ 2 * s.cs.bankSize) && bankIdle s (s.cs.bankOf addr.toNat) && plainLines s addr.toNat len && s.cs.cache.contains (addr.toNat / 128) && s.cs.cache.contains ((addr.toNat + len - 1) / 128)

/-- When XIP_FETCH takes effect. -/
def xipFetchMiss (addr : BitVec 48) (wide : Bool) (ecc : Ecc) (s : State) : Bool :=
  let len := if wide then 8 else 4; !s.cs.faulted && decide (addr.toNat + len ≤ 2 * s.cs.bankSize) && bankIdle s (s.cs.bankOf addr.toNat) && plainLines s addr.toNat len && !s.cs.cache.contains (addr.toNat / 128) && ecc == .clean

/-- When XIP_FETCH takes effect. -/
def xipFetch (s : State) : Bool :=
  s.cs.faulted

/-- When SOW_ROW takes effect. -/
def sowRow (i : Fin 2) (g : BitVec 8) (s : State) : Bool :=
  mediaOn s && (s.xset i).live && s.groups.contains g.toNat && ((s.xset i).sowing g.toNat).any fun f => !(s.toSow i ++ s.toMove i f.id).isEmpty && (s.xset i).furrow f.id == some f && ((s.xset i).row f.id).isNone && s.regionOnline f.region && decide (f.nextRow < s.wordlines)

/-- When ROW_CONFIRMED takes effect. -/
def rowConfirmed (i : Fin 2) (id : BitVec 32) (s : State) : Bool :=
  alone s i && s.nvme.cmds.isEmpty && !s.mirroring && ((s.xset i).row id.toNat).any (fun r => r.waiting.isEmpty && r.failed.isEmpty && decide (r.posted.length ≤ r.ended.length) && decide (r.wordline + 1 < s.wordlines) &&
    match r.units, s.hold.dirty with
    | [p], [d] => p.movedFrom.isNone && !p.crosses && p.order == d.order && d.set == i.val && d.committed && !d.superseded && !d.zero && d.recSeq == 0 && d.slot.isNone
    | _, _ => false) && ((s.xset i).furrow id.toNat).isSome && (s.xset i).crossing.isEmpty

/-- When ROW_PROGRAM_FAILED takes effect. -/
def rowProgramFailed (i : Fin 2) (id : BitVec 32) (s : State) : Bool :=
  still s i && ((s.xset i).row id.toNat).any (fun r => !r.failed.isEmpty && r.waiting.isEmpty && decide (r.posted.length ≤ r.ended.length + r.failed.length)) && ((s.xset i).furrow id.toNat).isSome

/-- When END_MARKER_WRITE takes effect. -/
def endMarkerWrite (i : Fin 2) (id : BitVec 32) (s : State) : Bool :=
  still s i && furrowIs s i id.toNat (fun f => f.state == .sowing && decide (f.nextRow < s.wordlines) && (s.markerPage f).isSome) && ((s.xset i).row id.toNat).isNone && !(s.xset i).crossing.any (fun p => p.1 == id.toNat)

/-- When JOURNAL_PAGE_PROGRAMMED takes effect. -/
def journalPageProgrammed (i : Fin 2) (s : State) : Bool :=
  still s i && !(wholeGroups ((s.xset i).dram.take 512)).isEmpty

/-- When CHECKPOINT_START takes effect. -/
def checkpointStart (i : Fin 2) (s : State) : Bool :=
  alone s i && s.serving && (s.xset i).live && (s.xset i).running.isNone && decide (s.val 0x6030 4 ≤ (s.xset i).sinceCheckpoint)

/-- When CHECKPOINT_COMPLETE takes effect. -/
def checkpointComplete (i : Fin 2) (s : State) : Bool :=
  still s i && (s.xset i).running.isSome

/-- When MAP_SEGMENT_RELOAD takes effect. -/
def mapSegmentReload (i : Fin 2) (seg : BitVec 64) (s : State) : Bool :=
  mediaOn s && (s.xset i).badSegments.contains seg.toNat && Tab.canon MapEntry.unmapped ((s.xset i).replayed s.isTwin i ((s.xset i).flashLog ++ (s.xset i).dram)).map

/-- When DIE_PARITY_REBUILD takes effect. -/
def dieParityRebuildBegins (nsid : BitVec 32) (unit : BitVec 64) (s : State) : Bool :=
  mediaOn s && s.nvme.cmds.isEmpty && (s.xset (s.setOf nsid.toNat)).live && !s.shipping (s.setOf nsid.toNat) && (((s.xset (s.setOf nsid.toNat)).entry nsid.toNat unit.toNat).state == 1 || ((s.xset (s.setOf nsid.toNat)).entry nsid.toNat unit.toNat).state == 2) && !(s.lostPages (s.setOf nsid.toNat) nsid.toNat unit.toNat).isEmpty && (s.lostPages (s.setOf nsid.toNat) nsid.toNat unit.toNat).all (fun p => !(s.xset (s.setOf nsid.toNat)).mending.any fun m => m.is nsid.toNat unit.toNat p)

/-- When DIE_PARITY_REBUILD takes effect. -/
def dieParityRebuildLost (nsid : BitVec 32) (unit : BitVec 64) (ok : Bool) (s : State) : Bool :=
  mediaOn s && s.nvme.cmds.isEmpty && (s.xset (s.setOf nsid.toNat)).live && !s.shipping (s.setOf nsid.toNat) && (((s.xset (s.setOf nsid.toNat)).entry nsid.toNat unit.toNat).state == 1 || ((s.xset (s.setOf nsid.toNat)).entry nsid.toNat unit.toNat).state == 2) && !(s.lostPages (s.setOf nsid.toNat) nsid.toNat unit.toNat).isEmpty && !ok && (s.lostPages (s.setOf nsid.toNat) nsid.toNat unit.toNat).all (fun p => s.reachable (pageChannel p) && (s.stripeMates (s.setOf nsid.toNat) p).1.all (fun q => s.reachable (pageChannel q)) && (s.xset (s.setOf nsid.toNat)).mending.any fun m => m.is nsid.toNat unit.toNat p) && (s.xset (s.setOf nsid.toNat)).mending.all (fun m => !(m.nsid == nsid.toNat && m.unit == unit.toNat) || m.left == 0)

/-- When DIE_PARITY_REBUILD takes effect. -/
def dieParityRebuild (nsid : BitVec 32) (unit : BitVec 64) (ok : Bool) (s : State) : Bool :=
  mediaOn s && s.nvme.cmds.isEmpty && (s.xset (s.setOf nsid.toNat)).live && !s.shipping (s.setOf nsid.toNat) && (((s.xset (s.setOf nsid.toNat)).entry nsid.toNat unit.toNat).state == 1 || ((s.xset (s.setOf nsid.toNat)).entry nsid.toNat unit.toNat).state == 2) && !(s.lostPages (s.setOf nsid.toNat) nsid.toNat unit.toNat).isEmpty && ok && (s.lostPages (s.setOf nsid.toNat) nsid.toNat unit.toNat).all (fun p => (s.xset (s.setOf nsid.toNat)).mending.any fun m => m.is nsid.toNat unit.toNat p) && (s.xset (s.setOf nsid.toNat)).mending.all (fun m => !(m.nsid == nsid.toNat && m.unit == unit.toNat) || m.left == 0 && decide (m.need ≤ m.got)) && match (s.lostPages (s.setOf nsid.toNat) nsid.toNat unit.toNat) with | [_] => true | _ => false

/-- When GLEAN_START takes effect. -/
def gleanStart (i : Fin 2) (s : State) : Bool :=
  alone s i && s.serving && (s.xset i).live && (s.xset i).refreshes.isEmpty && decide (s.fallow i < s.flushReserve s.hold.ceiling + s.val 0x6010 2 * s.groups.length) &&
    ((s.xset i).furrows.all fun f => f.state != .gleaning) &&
    (bestFurrow (fun a b => scoreAbove (s.score i a) (s.score i b)) ((s.xset i).furrows.filter fun f => f.state == .full)).any fun f => (s.xset i).furrow f.id == some f && !((s.xset i).validIn f.id).isEmpty

/-- When GLEAN_MAP_UPDATE takes effect. -/
def gleanMapUpdate (i : Fin 2) (s : State) : Bool :=
  alone s i && (s.xset i).furrows.all (fun f => f.state != .gleaning) && match (s.xset i).moved with | [p] => p.movedFrom == some ((s.xset i).entry p.nsid p.unit) | _ => false

/-- When GLEAN_MAP_UPDATE takes effect. -/
def gleanMapUpdateStale (i : Fin 2) (s : State) : Bool :=
  alone s i && (s.xset i).furrows.all (fun f => f.state != .gleaning) && match (s.xset i).moved with | [p] => p.movedFrom.any fun e => e.gen != ((s.xset i).entry p.nsid p.unit).gen | _ => false

/-- When FURROW_ERASE takes effect. -/
def furrowErase (i : Fin 2) (id : BitVec 32) (s : State) : Bool :=
  alone s i && s.serving && furrowIs s i id.toNat (fun f => f.state == .reclaimable && decide (f.movedAt ≤ s.durable i)) && !s.furrowRead id.toNat

/-- When FURROW_ERASE_DONE takes effect. -/
def furrowEraseDone (i : Fin 2) (id : BitVec 32) (s : State) : Bool :=
  alone s i && furrowIs s i id.toNat fun f => f.state == .erasing && f.eraseLeft.isEmpty && f.eraseFailed.isEmpty && f.noErase.isEmpty

/-- When PATROL_READ takes effect. -/
def patrolRead (c : Fin 32) (l : Fin 32) (plane : Fin 8) (block : BitVec 16) (page : BitVec 16) (s : State) : Bool :=
  mediaOn s && s.serving && (s.port c.val).owned && !(s.port c.val).proxied && (Tab.find s.flash.pages (ppnOf c.val l.val plane.val block.toNat page.toNat)).isSome && s.mayPost c.val (firmwareDesc .read 4 (2 ^ plane.val) l.val block.toNat page.toNat 15)

/-- When PATROL_READ takes effect. -/
def patrolReadWaits (c : Fin 32) (l : Fin 32) (plane : Fin 8) (block : BitVec 16) (page : BitVec 16) (s : State) : Bool :=
  mediaOn s && s.serving && (s.port c.val).owned && !(s.port c.val).proxied && (Tab.find s.flash.pages (ppnOf c.val l.val plane.val block.toNat page.toNat)).isSome && !s.mayPost c.val (firmwareDesc .read 4 (2 ^ plane.val) l.val block.toNat page.toNat 15)

/-- When PATROL_READ takes effect. -/
def patrolReadBlank (c : Fin 32) (l : Fin 32) (plane : Fin 8) (block : BitVec 16) (page : BitVec 16) (s : State) : Bool :=
  mediaOn s && s.serving && (Tab.find s.flash.pages (ppnOf c.val l.val plane.val block.toNat page.toNat)).isNone

/-- When STATIC_SWAP takes effect. -/
def staticSwap (i : Fin 2) (s : State) : Bool :=
  alone s i && s.serving && (s.xset i).live && (s.xset i).swapRunning.isNone && decide (s.val 0x6020 4 < (s.wearCounts i).foldl max 0 - (s.wearCounts i).foldl min ((s.wearCounts i).foldl max 0)) && ((s.xset i).furrows.all fun f => f.state != .gleaning) &&
    (bestFurrow (fun a b => decide (s.furrowErases a < s.furrowErases b)) ((s.xset i).furrows.filter fun f => f.state == .full)).any fun f => (s.xset i).furrow f.id == some f && !((s.xset i).validIn f.id).isEmpty

/-- When LUN_RETIRED takes effect. -/
def lunRetired (c : Fin 32) (l : Fin 32) (s : State) : Bool :=
  mediaOn s && !(s.lun c.val l.val).retired && decide (3 ≤ ((s.lun c.val l.val).faultTimes.filter fun t => decide (s.since t ≤ usTicks (24 * 3600 * 1000000))).length)

/-- When DIRTY_RESERVATION_GRANTED takes effect. -/
def dirtyReservationGranted (s : State) : Bool :=
  mediaOn s && s.serving && (s.nvme.cmds.find? fun c => c.waitDirty).any fun c => s.cmd? c.order == some c && c.need != 0 && decide (s.dirtyLoad + c.op.writeUnits ≤ s.dirtyRoom)

/-- When CEILING_RAISE_EFFECTIVE takes effect. -/
def ceilingRaiseEffective (s : State) : Bool :=
  mediaOn s && s.serving && s.nvme.cmds.isEmpty && !s.isTwin && !s.mirrorPartner && s.hold.raise.any fun t => t != 0 && decide (s.flushReserve t ≤ s.fallow 0)

/-- When HU_MEASUREMENT_START takes effect. -/
def huMeasurementStart (sum : BitVec 32) (s : State) : Bool :=
  s.hold.flush.isNone && s.hold.series.any fun m => !m.asserted && decide (s.val 0x7010 0x0A ≤ s.bankMv sum.toNat)

/-- When HU_MEASUREMENT_START takes effect. -/
def huMeasurementStartPostponed (sum : BitVec 32) (s : State) : Bool :=
  s.hold.flush.isNone && s.hold.series.any fun m => !m.asserted && decide (s.bankMv sum.toNat < s.val 0x7010 0x0A) && decide (m.postpones < 60)

/-- When HU_MEASUREMENT_START takes effect. -/
def huMeasurementStartGivenUp (sum : BitVec 32) (s : State) : Bool :=
  s.hold.flush.isNone && s.hold.series.any fun m => !m.asserted && decide (s.bankMv sum.toNat < s.val 0x7010 0x0A) && decide (60 ≤ m.postpones)

/-- When HU_TEST_END takes effect. -/
def huTestEnd (sum : BitVec 32) (s : State) : Bool :=
  s.hold.series.any fun m => m.asserted && decide (sum.toNat + 2048 ≤ m.v0)

/-- When HU_TEST_END takes effect. -/
def huTestEndInvalid (sum : BitVec 32) (s : State) : Bool :=
  s.hold.series.any fun m => m.asserted && decide (m.v0 < sum.toNat + 2048) && decide (m.invalids + 1 < 3)

/-- When HU_TEST_END takes effect. -/
def huTestEndThirdInvalid (sum : BitVec 32) (s : State) : Bool :=
  s.hold.series.any fun m => m.asserted && decide (m.v0 < sum.toNat + 2048) && decide (3 ≤ m.invalids + 1)

/-- When HU_PERIOD_EXPIRY takes effect. -/
def huPeriodExpiry (s : State) : Bool :=
  s.hold.valid && decide (usTicks (1000000 * s.val 0x7010 7) ≤ s.since s.hold.lastTime) && s.hold.series.isNone && s.hold.flush.isNone && s.measures

/-- When HU_SERIES_RETRY takes effect. -/
def huSeriesRetry (s : State) : Bool :=
  s.hold.needRetry && decide (usTicks 600000000 ≤ s.since s.hold.endedAt) && s.hold.series.isNone && s.hold.flush.isNone && s.measures

/-- When HU_SHARED_TIMEOUT takes effect. -/
def huSharedTimeout (s : State) : Bool :=
  s.flag 0x7010 8 && s.pkg.straps.isle && s.hold.series.isNone && s.hold.flush.isNone && decide (usTicks (1000000 * (s.val 0x7010 7 + 3600)) ≤ s.since s.hold.sharedAt)

/-- When STRAIT_LINK_UP takes effect. -/
def straitLinkUp (tx : Fin 9) (rx : Fin 9) (s : State) : Bool :=
  s.serving && s.pkg.boot.firmwareUp && s.twin.lanes == 0 && s.isTwin && decide (4 ≤ min tx.val rx.val)

/-- When STRAIT_LINK_UP takes effect. -/
def straitLinkUpDown (tx : Fin 9) (rx : Fin 9) (s : State) : Bool :=
  decide (min tx.val rx.val < 4)

/-- When STRAIT_FRAME_ERROR takes effect. -/
def straitFrameError (s : State) : Bool :=
  up s

/-- When STRAIT_NAK takes effect. -/
def straitNak (l : Link) (s : State) : Bool :=
  plain s && !(uncovered s l).isEmpty && decide (s.twin.resent < 6)

/-- When STRAIT_ACK_SEND takes effect. -/
def straitAckSend (s : State) : Bool :=
  plain s && s.twin.unackedRx && s.twin.credit 0 != 0 && decide (s.twin.replay.length < 4096) && s.twin.owed == #v[0, 0, 0, 0, 0, 0]

/-- When STRAIT_NOP takes effect. -/
def straitNop (s : State) : Bool :=
  plain s

/-- When HELLO takes effect. -/
def hello (sameCode : Bool) (isle : Bool) (single : Bool) (pair : BitVec 64) (s : State) : Bool :=
  up s && sameCode && isle != s.pkg.straps.isle && !single && s.isTwin && !(s.val 0x8000 0x10 != 0 && pair != 0 && s.val 0x8000 0x10 != pair.toNat)

/-- When HELLO takes effect. -/
def helloRefused (sameCode : Bool) (isle : Bool) (single : Bool) (s : State) : Bool :=
  up s && (!sameCode || isle == s.pkg.straps.isle || single || !s.isTwin)

/-- When HELLO_ACK takes effect. -/
def helloAck (s : State) : Bool :=
  up s && !s.twin.refused && s.twin.pair == .alone && !s.twin.twinSole

/-- When ECHO takes effect. -/
def echo (s : State) : Bool :=
  up s

/-- When EVENT_FWD takes effect. -/
def eventFwd (slot : Fin 128) (s : State) : Bool :=
  plain s && s.ev.targetOf (1920 + slot.val) != 136 && !srcBit s.ev.latch (1920 + slot.val)

/-- When UNKNOWN_FRAME takes effect. -/
def unknownFrame (s : State) : Bool :=
  up s

/-- When HEARTBEAT_SEND takes effect. -/
def heartbeatSend (s : State) : Bool :=
  up s && (s.twin.pair == .inStep || s.twin.pair == .resync || s.twin.pair == .failback)

/-- When HEARTBEAT takes effect. -/
def heartbeat (pair : BitVec 8) (s : State) : Bool :=
  up s && s.twin.aliveI && pair != 6

/-- When STRAIT_LOCK_LOSS takes effect. -/
def straitLockLoss (s : State) : Bool :=
  s.twin.lanes != 0

/-- When MIRROR_SIZE takes effect. -/
def mirrorSize (confirm : Bool) (s : State) : Bool :=
  up s && !confirm

/-- When MIRROR_SIZE takes effect. -/
def mirrorSizeConfirmed (confirm : Bool) (s : State) : Bool :=
  up s && confirm && s.hold.dirty.isEmpty && s.twin.pair == .resync

/-- When MIRROR_FLUSHED takes effect. -/
def mirrorFlushed (s : State) : Bool :=
  up s

/-- When HU_RESULT takes effect. -/
def huResult (s : State) : Bool :=
  up s && s.flag 0x7010 8 && s.pkg.straps.isle

/-- When RESV_STATE takes effect. -/
def resvState (s : State) : Bool :=
  up s

/-- When MIRROR_DESC takes effect. -/
def mirrorDesc (s : State) : Bool :=
  up s

/-- When MIRROR_DATA takes effect. -/
def mirrorData (slot : BitVec 32) (chunk : BitVec 8) (s : State) : Bool :=
  up s && (s.twin.held.find? fun h => h.slot == slot.toNat).any fun h => decide ((Tab.put h.chunks chunk.toNat []).length < 72) && decide (chunk.toNat < 71)

/-- When MIRROR_DATA takes effect. -/
def mirrorDataWhole (slot : BitVec 32) (chunk : BitVec 8) (s : State) : Bool :=
  up s && (s.twin.held.find? fun h => h.slot == slot.toNat).any fun h => decide (72 ≤ (Tab.put h.chunks chunk.toNat []).length) && !h.acked && h.fwdTag.isNone

/-- When MIRROR_ACK takes effect. -/
def mirrorAck (slots : List (BitVec 32)) (s : State) : Bool :=
  plain s && mediaOn s && s.nvme.cmds.isEmpty && match s.hold.dirty with | [d] => d.slot.any (fun k => slots.any fun x => x.toNat == k) && !d.committed && !d.confirmed && d.recSeq == 0 && !d.superseded | _ => false

/-- When MIRROR_FREE takes effect. -/
def mirrorFree (s : State) : Bool :=
  up s

/-- When MIRROR_DISCARD takes effect. -/
def mirrorDiscard (s : State) : Bool :=
  up s

/-- When JOURNAL_RECORDS takes effect. -/
def journalRecords (i : Fin 2) (first : BitVec 64) (records : List (List Byte)) (s : State) : Bool :=
  up s && !(s.xset i).live && (s.xset i).dram.isEmpty && s.twin.held.isEmpty && match records with
    | [b] => (match JRec.ofBytes first.toNat b with | some r => r.last && decide ((s.xset i).seq < first.toNat) && (match r.body with | .rowConfirmed .. => true | _ => false) | none => false)
    | _ => false

/-- When JOURNAL_ACK takes effect. -/
def journalAck (s : State) : Bool :=
  plain s && mediaOn s && s.nvme.cmds.isEmpty && s.hold.dirty.isEmpty

/-- When RESYNC_FROM takes effect. -/
def resyncFrom (i : Fin 2) (applied : BitVec 64) (s : State) : Bool :=
  up s && (s.xset i).live && applied != 0xFFFFFFFFFFFFFFFF && decide (((s.xset i).checkpoint.map (fun k => k.start)).getD 1 ≤ applied.toNat)

/-- When SEGMENT takes effect. -/
def segment (i : Fin 2) (entries : List (BitVec 64)) (s : State) : Bool :=
  up s && !(s.xset i).live && entries.all fun e => bits e.toNat 62 2 != 1 && bits e.toNat 62 2 != 2

/-- When PAIR_IN_STEP takes effect. -/
def pairInStep (s : State) : Bool :=
  s.twin.pair == .resync && (List.finRange 2).all (fun i => ((s.xset i).live || (s.xset i).current) && (!(s.xset i).live || decide ((s.xset i).seq ≤ (s.xset i).twinAck))) && s.hold.dirty.all (fun d => d.acked || d.superseded) && (s.twin.mirrorOn || !s.flag 0x8010 5) && decide (s.hold.ceiling ≤ s.twin.areaOut) && (!s.flag 0x8010 1 || (s.strayGroup.isNone && (s.xset (setOfGroup s.ownGroup)).live))

/-- When FWD_CMD takes effect. -/
def fwdCmdNoNamespace (nsid : BitVec 32) (s : State) : Bool :=
  up s && (s.namespace? nsid.toNat).isNone && s.nvme.cmds.isEmpty && settled s

/-- When FWD_CMD takes effect. -/
def fwdCmd (cls : BitVec 8) (nsid : BitVec 32) (q : FwdOp) (s : State) : Bool :=
  up s && s.nvme.cmds.isEmpty && (s.namespace? nsid.toNat).any (fun n => (s.xset (setOfGroup n.group)).live) && !s.flag 0x6030 1 && !s.driveFull (s.setOf nsid.toNat) &&
    (let op := q.op nsid.toNat; !s.segmentBad op.spans && (s.flashUnits op.readSpans).isEmpty && s.locksFree cls.toNat op.spans.length) && match q with | .write .. => true | _ => false

/-- When FWD_PULL takes effect. -/
def fwdPull (tag : BitVec 32) (count : BitVec 32) (s : State) : Bool :=
  up s && (forwarded s tag.toNat).any (fun f => f.cls != 0 && !f.failed) && decide (1 ≤ count.toNat) && decide (count.toNat ≤ 228)

/-- When FWD_DATA takes effect. -/
def fwdDataToHost (tag : BitVec 32) (s : State) : Bool :=
  up s && (forwarded s tag.toNat).any (fun f => !f.mute && f.apart == 0 && (s.ctrl f.fn).flr.isNone) && s.nvme.cmds.isEmpty && s.sched.execs.isEmpty

/-- When FWD_DATA takes effect. -/
def fwdDataWaits (tag : BitVec 32) (offset : BitVec 32) (data : List Byte) (s : State) : Bool :=
  up s && (forwarded s tag.toNat).isNone && s.sched.execs.isEmpty && match s.nvme.cmds with | [c] => c.fwdTag == some tag.toNat && c.inbuf.isEmpty && decide (offset.toNat + data.length < c.need) | _ => false

/-- When FWD_CPL takes effect. -/
def fwdCpl (tag : BitVec 32) (status : BitVec 15) (s : State) : Bool :=
  up s && s.sched.execs.isEmpty && (forwarded s tag.toNat).any (fun f => !f.silent && decide (f.fn < 256) && decide (f.sq < 65536) && decide (f.cid < 65536) && f.sq != 0 && (s.ctrl f.fn).enabled && !(s.ctrl f.fn).cfs && (s.ctrl f.fn).flr.isNone && (s.sq? f.fn f.sq).any (fun x => x.deleting.isNone && (s.cq? f.fn x.cq).any fun k => (k.tail + 1) % k.size != k.head)) && status == 0

/-- When FWD_STOP takes effect. -/
def fwdStop (tags : List (BitVec 32)) (s : State) : Bool :=
  plain s && mediaOn s && s.nvme.cmds.isEmpty && decide (1 ≤ tags.length) && decide (tags.length ≤ 38)

/-- When FWD_STOP_ACK takes effect. -/
def fwdStopAck (entries : List (BitVec 32 × BitVec 8)) (s : State) : Bool :=
  up s && match entries with | [e] => e.2 == 0 && (forwarded s e.1.toNat).isSome | _ => false

/-- When MEDIA_REQ takes effect. -/
def mediaReq (c : Fin 32) (desc : BitVec 256) (s : State) : Bool :=
  up s && mediaOn s && (s.port c.val).owned && (s.port c.val).byTwin && !(s.port c.val).resetBusy && (s.port c.val).trained && (s.checkMedia fun k => if k = 4 || k = 5 || k = 6 || k = 7 then 0 else bits desc.toNat (32 * k) 32).any (fun d => d.opcode != .program && d.opcode != .raw)

/-- When MEDIA_REQ takes effect. -/
def mediaReqRaw (desc : BitVec 256) (s : State) : Bool :=
  up s && mediaOn s && bits desc.toNat 0 8 == 0xF0

/-- When MEDIA_DATA takes effect. -/
def mediaData (stream : BitVec 8) (poisoned : Bool) (s : State) : Bool :=
  up s && mediaOn s && s.twin.mediaIn.isEmpty && stream == 0 && !poisoned

/-- When MEDIA_CPL takes effect. -/
def mediaCpl (number : BitVec 32) (status : BitVec 8) (s : State) : Bool :=
  up s && mediaOn s && (s.twin.mediaOut.find? fun t => t.number == number.toNat).any (fun t => match t.op.origin with | .furrowErase f c => decide (status.toNat = 0) | _ => false) && (List.finRange 2).all (fun i => (s.xset i).furrows.isEmpty)

/-- When REGION_HANDOVER takes effect. -/
def regionHandover (r : Fin 4) (channels : BitVec 32) (s : State) : Bool :=
  plain s && s.twin.pair == .inStep && s.regionOnline r.val && (bitList 32 channels.toNat).all (fun c => c / 8 == r.val && (s.port c).claim == .none)

/-- When REGION_RECLAIM takes effect. -/
def regionReclaim (r : Fin 4) (channels : BitVec 32) (s : State) : Bool :=
  plain s && settled s && (bitList 32 channels.toNat).all (fun c => c / 8 == r.val && (s.port c).byTwin && match (s.port c).claim with | .waiting _ => true | _ => false)

/-- When REGION_RECLAIM takes effect. -/
def regionReclaimOwned (r : Fin 4) (channels : BitVec 32) (s : State) : Bool :=
  plain s && settled s && s.media.luns.isEmpty && match bitList 32 channels.toNat with | [c] => c / 8 == r.val && (s.port c).byTwin && (s.port c).claim == .owned && !(s.port c).resetBusy && (s.port c).descHead == (s.port c).descTail | _ => false

/-- When SET_RELEASED takes effect. -/
def setReleased (group : BitVec 8) (s : State) : Bool :=
  plain s && s.twin.failback.any (fun f => !f.handingOut && f.group == group.toNat)

/-- When STRAIT_SILENCE takes effect. -/
def straitSilence (s : State) : Bool :=
  s.isTwin && !s.twin.silent && !s.mayActOnTwin && settled s

/-- When STRAIT_SILENCE takes effect. -/
def straitSilenceSplits (s : State) : Bool :=
  s.isTwin && !s.twin.silent && s.mayActOnTwin && s.twin.pair == .inStep && !s.twin.failI && s.twin.aliveI && s.nvme.fwdOut.isEmpty && s.nvme.cmds.isEmpty && s.twin.mediaOut.isEmpty && settled s && s.hold.dirty.isEmpty && s.media.ports.isEmpty

/-- When TWIN_FAIL_ASSERTED takes effect. -/
def twinFailAsserted (s : State) : Bool :=
  s.isTwin && !s.twin.failI && s.mayActOnTwin && s.twin.pair == .inStep && s.nvme.cmds.isEmpty && s.twin.mediaOut.isEmpty && settled s && s.hold.dirty.isEmpty && s.media.ports.isEmpty

/-- When TWIN_ALIVE_FALL takes effect. -/
def twinAliveFall (s : State) : Bool :=
  s.twin.aliveI && !s.twin.silent && settled s

/-- When TAKEOVER_COMPLETE takes effect. -/
def takeoverComplete (s : State) : Bool :=
  settled s && s.twin.takeover.any (fun t => (t.channels.all fun c => (s.port c).owned && (s.port c).trained) && (s.xset (setOfGroup t.group)).live && s.setSettled (setOfGroup t.group) && !t.lossy) && s.flag 0x8010 5 && s.nvme.fwdOut.isEmpty && s.hold.dirty.isEmpty && s.nvme.cmds.isEmpty

/-- When FAILBACK_COMPLETE takes effect. -/
def failbackCompleteHolder (s : State) : Bool :=
  s.twin.failback.any (fun f => f.released && f.handingOut) && s.twin.pair == .failback

/-- When FAILBACK_COMPLETE takes effect. -/
def failbackCompleteReturning (s : State) : Bool :=
  s.twin.pair == .failback && s.twin.session && s.flash.bad.isEmpty && s.twin.failback.any (fun f => f.released && !f.handingOut && ((homeSet f.group).filter fun c => s.regionOnline (c / 8)).all (fun c => (s.port c).owned && (s.port c).trained) && (s.xset (setOfGroup f.group)).furrows.isEmpty)

/-- When CHANNEL_CLAIM_MET takes effect. -/
def channelClaimMet (c : Fin 32) (s : State) : Bool :=
  match (s.port c.val).claim with | .waiting t => decide (usTicks 10 ≤ s.since t) | _ => false

/-- When SIMULTANEOUS_CLAIM takes effect. -/
def simultaneousClaimKept (c : Fin 32) (s : State) : Bool :=
  !s.pkg.straps.isle && match (s.port c.val).claim with | .waiting _ => true | _ => false

/-- When SIMULTANEOUS_CLAIM takes effect. -/
def simultaneousClaimWithdrawn (c : Fin 32) (s : State) : Bool :=
  s.pkg.straps.isle && s.twin.takeover.isNone && match (s.port c.val).claim with | .waiting _ => true | _ => false

/-- When OWNERSHIP_CONFLICT takes effect. -/
def ownershipConflict (c : Fin 32) (s : State) : Bool :=
  (s.port c.val).owned

/-- When CLAIM_TIMEOUT takes effect. -/
def claimTimeout (c : Fin 32) (s : State) : Bool :=
  s.claimExpired c.val && s.twin.takeover.isNone && !(s.regionState (c.val / 8) == .admitting)

/-- When LEAK_INTERVAL_EXPIRY takes effect. -/
def leakIntervalExpiry (s : State) : Bool :=
  s.powered

/-- When DRAM_SCRUB_READ takes effect. -/
def dramScrubReadClean (addr : BitVec 48) (ecc : Ecc) (s : State) : Bool :=
  s.serving && mediaOn s && s.dram.trained && decide (burstOf addr.toNat * 64 < s.dramSize) && ecc == .clean

/-- When DRAM_SCRUB_READ takes effect. -/
def dramScrubReadCorrected (addr : BitVec 48) (ecc : Ecc) (s : State) : Bool :=
  s.serving && mediaOn s && s.dram.trained && decide (burstOf addr.toNat * 64 < s.dramSize) && ecc == .corrected && s.val 0x9000 1 != 1 && decide (s.bucket (s.placeOf (burstOf addr.toNat * 64)).chan + 1 ≤ s.val 0x9000 3)

/-- When DRAM_SCRUB_READ takes effect. -/
def dramScrubReadMarked (addr : BitVec 48) (ecc : Ecc) (s : State) : Bool :=
  s.serving && mediaOn s && s.dram.trained && decide (burstOf addr.toNat * 64 < s.dramSize) && ecc == .uncorrectable && !s.mem.poisoned (burstOf addr.toNat * 64) 64

/-- When TERNARY_REFRESH takes effect. -/
def ternaryRefreshClean (i : BitVec 18) (ecc : Ecc) (s : State) : Bool :=
  s.serving && mediaOn s && s.tern.refreshEn && decide (i.toNat < ternSize) && ecc == .clean

/-- When TERNARY_REFRESH takes effect. -/
def ternaryRefreshCorrected (i : BitVec 18) (ecc : Ecc) (s : State) : Bool :=
  s.serving && mediaOn s && s.tern.refreshEn && decide (i.toNat < ternSize) && ecc == .corrected

/-- When TERNARY_REFRESH takes effect. -/
def ternaryRefreshLost (i : BitVec 18) (ecc : Ecc) (s : State) : Bool :=
  s.serving && mediaOn s && s.tern.refreshEn && decide (i.toNat < ternSize) && ecc == .uncorrectable

/-- When MOV takes effect. -/
def mov (x : Issue) (a : Fin 16) (s : State) : Bool :=
  issues s x false [a.val]

/-- When ADD takes effect. -/
def add (x : Issue) (a : Fin 16) (b : Fin 16) (s : State) : Bool :=
  issues s x false [a.val, b.val]

/-- When SUB takes effect. -/
def sub (x : Issue) (a : Fin 16) (b : Fin 16) (s : State) : Bool :=
  issues s x false [a.val, b.val]

/-- When AND takes effect. -/
def and (x : Issue) (a : Fin 16) (b : Fin 16) (s : State) : Bool :=
  issues s x false [a.val, b.val]

/-- When OR takes effect. -/
def or (x : Issue) (a : Fin 16) (b : Fin 16) (s : State) : Bool :=
  issues s x false [a.val, b.val]

/-- When XOR takes effect. -/
def xor (x : Issue) (a : Fin 16) (b : Fin 16) (s : State) : Bool :=
  issues s x false [a.val, b.val]

/-- When ANDN takes effect. -/
def andn (x : Issue) (a : Fin 16) (b : Fin 16) (s : State) : Bool :=
  issues s x false [a.val, b.val]

/-- When SHL takes effect. -/
def shl (x : Issue) (a : Fin 16) (b : Fin 16) (s : State) : Bool :=
  issues s x false [a.val, b.val]

/-- When SHR takes effect. -/
def shr (x : Issue) (a : Fin 16) (b : Fin 16) (s : State) : Bool :=
  issues s x false [a.val, b.val]

/-- When SAR takes effect. -/
def sar (x : Issue) (a : Fin 16) (b : Fin 16) (s : State) : Bool :=
  issues s x false [a.val, b.val]

/-- When ROL takes effect. -/
def rol (x : Issue) (a : Fin 16) (b : Fin 16) (s : State) : Bool :=
  issues s x false [a.val, b.val]

/-- When MUL takes effect. -/
def mul (x : Issue) (a : Fin 16) (b : Fin 16) (s : State) : Bool :=
  issues s x false [a.val, b.val]

/-- When DIVU takes effect. -/
def divu (x : Issue) (a : Fin 16) (b : Fin 16) (s : State) : Bool :=
  issues s x false [a.val, b.val]

/-- When DIV takes effect. -/
def div (x : Issue) (a : Fin 16) (b : Fin 16) (s : State) : Bool :=
  issues s x false [a.val, b.val]

/-- When REMU takes effect. -/
def remu (x : Issue) (a : Fin 16) (b : Fin 16) (s : State) : Bool :=
  issues s x false [a.val, b.val]

/-- When REM takes effect. -/
def rem (x : Issue) (a : Fin 16) (b : Fin 16) (s : State) : Bool :=
  issues s x false [a.val, b.val]

/-- When MINU takes effect. -/
def minu (x : Issue) (a : Fin 16) (b : Fin 16) (s : State) : Bool :=
  issues s x false [a.val, b.val]

/-- When MAXU takes effect. -/
def maxu (x : Issue) (a : Fin 16) (b : Fin 16) (s : State) : Bool :=
  issues s x false [a.val, b.val]

/-- When MIN takes effect. -/
def min (x : Issue) (a : Fin 16) (b : Fin 16) (s : State) : Bool :=
  issues s x false [a.val, b.val]

/-- When MAX takes effect. -/
def max (x : Issue) (a : Fin 16) (b : Fin 16) (s : State) : Bool :=
  issues s x false [a.val, b.val]

/-- When SLT takes effect. -/
def slt (x : Issue) (a : Fin 16) (b : Fin 16) (s : State) : Bool :=
  issues s x false [a.val, b.val]

/-- When SLTU takes effect. -/
def sltu (x : Issue) (a : Fin 16) (b : Fin 16) (s : State) : Bool :=
  issues s x false [a.val, b.val]

/-- When SEQ takes effect. -/
def seq (x : Issue) (a : Fin 16) (b : Fin 16) (s : State) : Bool :=
  issues s x false [a.val, b.val]

/-- When CLZ takes effect. -/
def clz (x : Issue) (a : Fin 16) (s : State) : Bool :=
  issues s x false [a.val]

/-- When CTZ takes effect. -/
def ctz (x : Issue) (a : Fin 16) (s : State) : Bool :=
  issues s x false [a.val]

/-- When POPC takes effect. -/
def popc (x : Issue) (a : Fin 16) (s : State) : Bool :=
  issues s x false [a.val]

/-- When BSWAP takes effect. -/
def bswap (x : Issue) (a : Fin 16) (s : State) : Bool :=
  issues s x false [a.val]

/-- When CMOVNZ takes effect. -/
def cmovnz (x : Issue) (d : Fin 16) (a : Fin 16) (b : Fin 16) (s : State) : Bool :=
  issues s x false [a.val, b.val, d.val]

/-- When ADDC takes effect. -/
def addc (x : Issue) (d : Fin 16) (a : Fin 16) (b : Fin 16) (s : State) : Bool :=
  issues s x false [a.val, b.val] && isPair d

/-- When SUBB takes effect. -/
def subb (x : Issue) (d : Fin 16) (a : Fin 16) (b : Fin 16) (s : State) : Bool :=
  issues s x false [a.val, b.val] && isPair d

/-- When MULW takes effect. -/
def mulw (x : Issue) (d : Fin 16) (a : Fin 16) (b : Fin 16) (s : State) : Bool :=
  issues s x false [a.val, b.val] && isPair d

/-- When MULWU takes effect. -/
def mulwu (x : Issue) (d : Fin 16) (a : Fin 16) (b : Fin 16) (s : State) : Bool :=
  issues s x false [a.val, b.val] && isPair d

/-- When ADDCC takes effect. -/
def addcc (x : Issue) (d : Fin 16) (a : Fin 16) (b : Fin 16) (s : State) : Bool :=
  issues s x false [a.val, b.val, (pairOf d).val] && isPair d

/-- When SUBBC takes effect. -/
def subbc (x : Issue) (d : Fin 16) (a : Fin 16) (b : Fin 16) (s : State) : Bool :=
  issues s x false [a.val, b.val, (pairOf d).val] && isPair d

/-- When ADDI takes effect. -/
def addi (x : Issue) (a : Fin 16) (i : Imm) (s : State) : Bool :=
  issues s x i.ext [a.val]

/-- When ANDI takes effect. -/
def andi (x : Issue) (a : Fin 16) (i : Imm) (s : State) : Bool :=
  issues s x i.ext [a.val]

/-- When ORI takes effect. -/
def ori (x : Issue) (a : Fin 16) (i : Imm) (s : State) : Bool :=
  issues s x i.ext [a.val]

/-- When XORI takes effect. -/
def xori (x : Issue) (a : Fin 16) (i : Imm) (s : State) : Bool :=
  issues s x i.ext [a.val]

/-- When SHI takes effect. -/
def shi (x : Issue) (a : Fin 16) (s : State) : Bool :=
  issues s x false [a.val]

/-- When INSHI takes effect. -/
def inshi (x : Issue) (d : Fin 16) (s : State) : Bool :=
  issues s x true [d.val]

/-- When MOVI takes effect. -/
def movi (x : Issue) (i : Imm) (s : State) : Bool :=
  issues s x i.ext []

/-- When MOVA takes effect. -/
def mova (x : Issue) (a : Fin 16) (s : State) : Bool :=
  issues s x false [a.val] && !(s.core x.core.val).pv a

/-- When MOVD takes effect. -/
def movd (x : Issue) (a : Fin 8) (s : State) : Bool :=
  issues s x false [16 + a.val]

/-- When AADD takes effect. -/
def aadd (x : Issue) (a : Fin 8) (b : Fin 16) (s : State) : Bool :=
  issues s x false [16 + a.val, b.val] && !(s.core x.core.val).pv b

/-- When ASUB takes effect. -/
def asub (x : Issue) (a : Fin 8) (b : Fin 16) (s : State) : Bool :=
  issues s x false [16 + a.val, b.val] && !(s.core x.core.val).pv b

/-- When ADIFF takes effect. -/
def adiff (x : Issue) (a : Fin 8) (b : Fin 8) (s : State) : Bool :=
  issues s x false [16 + a.val, 16 + b.val]

/-- When LEA takes effect. -/
def lea (x : Issue) (a : Fin 8) (i : Imm) (s : State) : Bool :=
  issues s x i.ext [16 + a.val]

/-- When MFCR takes effect. -/
def mfcr (x : Issue) (k : BitVec 12) (long : Bool) (s : State) : Bool :=
  issues s x long [] && crListed k.toNat && ((s.core x.core.val).sup || crTask k.toNat)

/-- When MTCR takes effect. -/
def mtcr (x : Issue) (d : Fin 16) (k : BitVec 12) (long : Bool) (s : State) : Bool :=
  issues s x long [d.val] && crListed k.toNat && (s.core x.core.val).sup && !(s.core x.core.val).pv d

/-- When DADD takes effect. -/
def dadd (x : Issue) (d : Fin 16) (a : Fin 16) (b : Fin 16) (s : State) : Bool :=
  issues s x false [a.val, b.val] && isPair d && digits16 ((s.core x.core.val).dv a).toNat && digits16 ((s.core x.core.val).dv b).toNat

/-- When DADD takes effect. -/
def daddPoisoned (x : Issue) (d : Fin 16) (a : Fin 16) (b : Fin 16) (s : State) : Bool :=
  issues s x false [a.val, b.val] && isPair d && ((s.core x.core.val).pv a || (s.core x.core.val).pv b)

/-- When DSUB takes effect. -/
def dsub (x : Issue) (d : Fin 16) (a : Fin 16) (b : Fin 16) (s : State) : Bool :=
  issues s x false [a.val, b.val] && isPair d && digits16 ((s.core x.core.val).dv a).toNat && digits16 ((s.core x.core.val).dv b).toNat

/-- When DSUB takes effect. -/
def dsubPoisoned (x : Issue) (d : Fin 16) (a : Fin 16) (b : Fin 16) (s : State) : Bool :=
  issues s x false [a.val, b.val] && isPair d && ((s.core x.core.val).pv a || (s.core x.core.val).pv b)

/-- When DADJ takes effect. -/
def dadj (x : Issue) (a : Fin 16) (b : Fin 16) (s : State) : Bool :=
  issues s x false [a.val, b.val]

/-- When PACK takes effect. -/
def pack (x : Issue) (a : Fin 16) (b : Fin 16) (s : State) : Bool :=
  issues s x false [a.val, b.val] && zoned ((s.core x.core.val).dv a).toNat && zoned ((s.core x.core.val).dv b).toNat

/-- When PACK takes effect. -/
def packPoisoned (x : Issue) (a : Fin 16) (b : Fin 16) (s : State) : Bool :=
  issues s x false [a.val, b.val] && ((s.core x.core.val).pv a || (s.core x.core.val).pv b)

/-- When UNPK takes effect. -/
def unpk (x : Issue) (d : Fin 16) (a : Fin 16) (s : State) : Bool :=
  issues s x false [a.val] && isPair d && digits16 ((s.core x.core.val).dv a).toNat

/-- When UNPK takes effect. -/
def unpkPoisoned (x : Issue) (d : Fin 16) (a : Fin 16) (s : State) : Bool :=
  issues s x false [a.val] && isPair d && ((s.core x.core.val).pv a)

/-- When UNPKF takes effect. -/
def unpkf (x : Issue) (d : Fin 16) (a : Fin 16) (s : State) : Bool :=
  issues s x false [a.val] && isPair d && digits16 ((s.core x.core.val).dv a).toNat

/-- When UNPKF takes effect. -/
def unpkfPoisoned (x : Issue) (d : Fin 16) (a : Fin 16) (s : State) : Bool :=
  issues s x false [a.val] && isPair d && ((s.core x.core.val).pv a)

/-- When DSGN_GET takes effect. -/
def dsgnGet (x : Issue) (a : Fin 16) (s : State) : Bool :=
  issues s x false [a.val] && signedDigits 15 ((s.core x.core.val).dv a).toNat

/-- When DSGN_GET takes effect. -/
def dsgnGetPoisoned (x : Issue) (a : Fin 16) (s : State) : Bool :=
  issues s x false [a.val] && ((s.core x.core.val).pv a)

/-- When DSGN_STRIP takes effect. -/
def dsgnStrip (x : Issue) (a : Fin 16) (s : State) : Bool :=
  issues s x false [a.val] && signedDigits 15 ((s.core x.core.val).dv a).toNat

/-- When DSGN_STRIP takes effect. -/
def dsgnStripPoisoned (x : Issue) (a : Fin 16) (s : State) : Bool :=
  issues s x false [a.val] && ((s.core x.core.val).pv a)

/-- When DSGN_APPLY takes effect. -/
def dsgnApply (x : Issue) (a : Fin 16) (b : Fin 16) (s : State) : Bool :=
  issues s x false [a.val, b.val] && digits16 ((s.core x.core.val).dv a).toNat && nibble ((s.core x.core.val).dv a).toNat 15 == 0

/-- When DSGN_APPLY takes effect. -/
def dsgnApplyPoisoned (x : Issue) (a : Fin 16) (b : Fin 16) (s : State) : Bool :=
  issues s x false [a.val, b.val] && ((s.core x.core.val).pv a || (s.core x.core.val).pv b)

/-- When DSGN_NORM takes effect. -/
def dsgnNorm (x : Issue) (a : Fin 16) (s : State) : Bool :=
  issues s x false [a.val] && signedDigits 15 ((s.core x.core.val).dv a).toNat

/-- When DSGN_NORM takes effect. -/
def dsgnNormPoisoned (x : Issue) (a : Fin 16) (s : State) : Bool :=
  issues s x false [a.val] && ((s.core x.core.val).pv a)

/-- When DCVT takes effect. -/
def dcvt (x : Issue) (a : Fin 16) (s : State) : Bool :=
  issues s x false [a.val] && signedDigits 15 ((s.core x.core.val).dv a).toNat

/-- When DCVT takes effect. -/
def dcvtPoisoned (x : Issue) (a : Fin 16) (s : State) : Bool :=
  issues s x false [a.val] && ((s.core x.core.val).pv a)

/-- When DCVTU takes effect. -/
def dcvtu (x : Issue) (a : Fin 16) (s : State) : Bool :=
  issues s x false [a.val] && digits16 ((s.core x.core.val).dv a).toNat

/-- When DCVTU takes effect. -/
def dcvtuPoisoned (x : Issue) (a : Fin 16) (s : State) : Bool :=
  issues s x false [a.val] && ((s.core x.core.val).pv a)

/-- When MTAC takes effect. -/
def mtac (x : Issue) (k : Fin 4) (a : Fin 16) (s : State) : Bool :=
  issues s x false [a.val, (pairOf a).val] && isPair a && !(s.core x.core.val).acBusy k

/-- When MTACS takes effect. -/
def mtacs (x : Issue) (k : Fin 4) (a : Fin 16) (s : State) : Bool :=
  issues s x false [a.val] && !(s.core x.core.val).acBusy k

/-- When MTACZ takes effect. -/
def mtacz (x : Issue) (k : Fin 4) (a : Fin 16) (s : State) : Bool :=
  issues s x false [a.val] && !(s.core x.core.val).acBusy k

/-- When MTACD takes effect. -/
def mtacd (x : Issue) (k : Fin 4) (a : Fin 16) (s : State) : Bool :=
  issues s x false [a.val] && !(s.core x.core.val).acBusy k && signedDigits 15 ((s.core x.core.val).dv a).toNat

/-- When MTACD takes effect. -/
def mtacdPoisoned (x : Issue) (k : Fin 4) (a : Fin 16) (s : State) : Bool :=
  issues s x false [a.val] && !(s.core x.core.val).acBusy k && ((s.core x.core.val).pv a)

/-- When DACC takes effect. -/
def dacc (x : Issue) (k : Fin 4) (a : Fin 16) (s : State) : Bool :=
  issues s x false [a.val] && !(s.core x.core.val).acBusy k && signedDigits 15 ((s.core x.core.val).dv a).toNat && signedDigits 31 ((s.core x.core.val).acv k) && decide ((decOf 15 ((s.core x.core.val).dv a).toNat + decOf 31 ((s.core x.core.val).acv k)).natAbs < 10 ^ 31)

/-- When DACC takes effect. -/
def daccPoisoned (x : Issue) (k : Fin 4) (a : Fin 16) (s : State) : Bool :=
  issues s x false [a.val] && !(s.core x.core.val).acBusy k && ((s.core x.core.val).pv a || (s.core x.core.val).acp[k])

/-- When MFAC takes effect. -/
def mfac (x : Issue) (d : Fin 16) (k : Fin 4) (s : State) : Bool :=
  issues s x false [] && isPair d && !(s.core x.core.val).acBusy k

/-- When MFACS takes effect. -/
def mfacs (x : Issue) (d : Fin 16) (k : Fin 4) (s : State) : Bool :=
  issues s x false [] && isPair d && !(s.core x.core.val).acBusy k

/-- When MFACU takes effect. -/
def mfacu (x : Issue) (d : Fin 16) (k : Fin 4) (s : State) : Bool :=
  issues s x false [] && isPair d && !(s.core x.core.val).acBusy k

/-- When MFACD takes effect. -/
def mfacd (x : Issue) (d : Fin 16) (k : Fin 4) (s : State) : Bool :=
  issues s x false [] && isPair d && !(s.core x.core.val).acBusy k && signedDigits 31 ((s.core x.core.val).acv k)

/-- When MFACD takes effect. -/
def mfacdPoisoned (x : Issue) (d : Fin 16) (k : Fin 4) (s : State) : Bool :=
  issues s x false [] && isPair d && !(s.core x.core.val).acBusy k && (s.core x.core.val).acp[k]

/-- When MFAC takes effect. -/
def mfacHeld (x : Issue) (d : Fin 16) (k : Fin 4) (s : State) : Bool :=
  issues s x false [] && isPair d && (s.core x.core.val).acBusy k

/-- When BEQ takes effect. -/
def beq (x : Issue) (a : Fin 16) (b : Fin 16) (i : Imm) (s : State) : Bool :=
  issues s x i.ext [a.val, b.val] && !(s.core x.core.val).pv a && !(s.core x.core.val).pv b

/-- When BNE takes effect. -/
def bne (x : Issue) (a : Fin 16) (b : Fin 16) (i : Imm) (s : State) : Bool :=
  issues s x i.ext [a.val, b.val] && !(s.core x.core.val).pv a && !(s.core x.core.val).pv b

/-- When BLT takes effect. -/
def blt (x : Issue) (a : Fin 16) (b : Fin 16) (i : Imm) (s : State) : Bool :=
  issues s x i.ext [a.val, b.val] && !(s.core x.core.val).pv a && !(s.core x.core.val).pv b

/-- When BGE takes effect. -/
def bge (x : Issue) (a : Fin 16) (b : Fin 16) (i : Imm) (s : State) : Bool :=
  issues s x i.ext [a.val, b.val] && !(s.core x.core.val).pv a && !(s.core x.core.val).pv b

/-- When BLTU takes effect. -/
def bltu (x : Issue) (a : Fin 16) (b : Fin 16) (i : Imm) (s : State) : Bool :=
  issues s x i.ext [a.val, b.val] && !(s.core x.core.val).pv a && !(s.core x.core.val).pv b

/-- When BGEU takes effect. -/
def bgeu (x : Issue) (a : Fin 16) (b : Fin 16) (i : Imm) (s : State) : Bool :=
  issues s x i.ext [a.val, b.val] && !(s.core x.core.val).pv a && !(s.core x.core.val).pv b

/-- When BZ takes effect. -/
def bz (x : Issue) (a : Fin 16) (i : Imm) (s : State) : Bool :=
  issues s x i.ext [a.val] && !(s.core x.core.val).pv a

/-- When BNZ takes effect. -/
def bnz (x : Issue) (a : Fin 16) (i : Imm) (s : State) : Bool :=
  issues s x i.ext [a.val] && !(s.core x.core.val).pv a

/-- When BAEQ takes effect. -/
def baeq (x : Issue) (a : Fin 8) (b : Fin 8) (i : Imm) (s : State) : Bool :=
  issues s x i.ext [16 + a.val, 16 + b.val]

/-- When BANE takes effect. -/
def bane (x : Issue) (a : Fin 8) (b : Fin 8) (i : Imm) (s : State) : Bool :=
  issues s x i.ext [16 + a.val, 16 + b.val]

/-- When BALTU takes effect. -/
def baltu (x : Issue) (a : Fin 8) (b : Fin 8) (i : Imm) (s : State) : Bool :=
  issues s x i.ext [16 + a.val, 16 + b.val]

/-- When BDV takes effect. -/
def bdv (x : Issue) (a : Fin 16) (i : Imm) (s : State) : Bool :=
  issues s x i.ext [a.val] && !(s.core x.core.val).pv a

/-- When JMP takes effect. -/
def jmp (x : Issue) (i : Imm) (s : State) : Bool :=
  issues s x i.ext []

/-- When CALL takes effect. -/
def call (x : Issue) (i : Imm) (s : State) : Bool :=
  issues s x i.ext [] && (decide ((s.core x.core.val).stack.length < 16) || !((s.core x.core.val).sup || (s.core x.core.val).rsmode))

/-- When JR takes effect. -/
def jr (x : Issue) (a : Fin 16) (s : State) : Bool :=
  issues s x false [a.val] && !(s.core x.core.val).pv a

/-- When CALLR takes effect. -/
def callr (x : Issue) (a : Fin 16) (s : State) : Bool :=
  issues s x false [a.val] && !(s.core x.core.val).pv a && (decide ((s.core x.core.val).stack.length < 16) || !((s.core x.core.val).sup || (s.core x.core.val).rsmode))

/-- When RET takes effect. -/
def ret (x : Issue) (s : State) : Bool :=
  issues s x false [] && !(s.core x.core.val).stack.isEmpty

/-- When RPUSH takes effect. -/
def rpush (x : Issue) (a : Fin 16) (s : State) : Bool :=
  issues s x false [a.val] && !(s.core x.core.val).pv a && (decide ((s.core x.core.val).stack.length < 16) || !((s.core x.core.val).sup || (s.core x.core.val).rsmode))

/-- When RPOP takes effect. -/
def rpop (x : Issue) (s : State) : Bool :=
  issues s x false [] && !(s.core x.core.val).stack.isEmpty

/-- When NOP takes effect. -/
def nop (x : Issue) (s : State) : Bool :=
  issues s x false []

/-- When PCHK takes effect. -/
def pchk (x : Issue) (a : Fin 16) (s : State) : Bool :=
  issues s x false [a.val] && !(s.core x.core.val).pv a

/-- When FENCE takes effect. -/
def fence (x : Issue) (s : State) : Bool :=
  issues s x false []

/-- When CORE_SYNC takes effect. -/
def coreSync (x : Issue) (s : State) : Bool :=
  issues s x false [] && (s.core x.core.val).macx.isNone

/-- When CORE_SYNC takes effect. -/
def coreSyncWaits (x : Issue) (s : State) : Bool :=
  issues s x false [] && (s.core x.core.val).macx.isSome

/-- When SVC takes effect. -/
def svc (x : Issue) (s : State) : Bool :=
  issues s x false [] && handled s x.core.val 10

/-- When SVC takes effect. -/
def svcTask (x : Issue) (s : State) : Bool :=
  issues s x false [] && !(s.core x.core.val).sup && !(s.core x.core.val).exl && goodEntry (s.vectorEntry x.core.val 10)

/-- When BRK takes effect. -/
def brk (x : Issue) (s : State) : Bool :=
  issues s x false [] && handled s x.core.val 11

/-- When ERET takes effect. -/
def eret (x : Issue) (s : State) : Bool :=
  issues s x false [] && (s.core x.core.val).sup

/-- When WAITEV takes effect. -/
def waitev (x : Issue) (s : State) : Bool :=
  issues s x false [] && (s.core x.core.val).sup

/-- When IINV takes effect. -/
def iinv (x : Issue) (s : State) : Bool :=
  issues s x false [] && (s.core x.core.val).sup

/-- When TEND takes effect. -/
def tend (x : Issue) (a : Fin 16) (s : State) : Bool :=
  issues s x false [a.val] && (s.core x.core.val).macx.isNone && ((s.core x.core.val).task.any fun t => !t.exec) && !s.flag 0xA050 1

/-- When TEND takes effect. -/
def tendProgram (x : Issue) (a : Fin 16) (s : State) : Bool :=
  issues s x false [a.val] && (s.core x.core.val).macx.isNone && ((s.core x.core.val).task.any fun t => t.exec && !isFixed t.program && (s.exec? t.tag).any fun e => decide (e.ended + 1 < e.count)) && !s.flag 0xA050 1

/-- When TEND takes effect. -/
def tendFixed (x : Issue) (a : Fin 16) (s : State) : Bool :=
  issues s x false [a.val] && (s.core x.core.val).macx.isNone && (s.core x.core.val).stores.isEmpty && !s.flag 0xA050 1 && ((s.core x.core.val).win 4).rights.getLsbD 1 && ((s.core x.core.val).task.any fun t => t.exec && isFixed t.program && (s.exec? t.tag).any (fun e => decide (e.ended + 1 < e.count)) && (let o := s.fixedOutcome (s.core x.core.val) t (s.mem.read t.param 4096); o.writes.isEmpty && o.keys.isEmpty && o.bites.isEmpty && !o.faults && decide (o.status < 8)) && decide (field (s.mem.read t.param 4096) 72 8 + 16 * t.index + 16 ≤ ((s.core x.core.val).win 4).span.2))

/-- When ILLEGAL_INSTRUCTION takes effect. -/
def illegalInstruction (x : Issue) (w : BitVec 32) (ext : BitVec 32) (s : State) : Bool :=
  issues s x false [] && !legalWord w ext (s.core x.core.val).sup && handled s x.core.val 1

/-- When ILLEGAL_INSTRUCTION takes effect. -/
def illegalInstructionTask (x : Issue) (w : BitVec 32) (ext : BitVec 32) (s : State) : Bool :=
  issues s x false [] && !legalWord w ext (s.core x.core.val).sup && inTask s x.core.val 1

/-- When SVC takes effect. -/
def svcDouble (x : Issue) (s : State) : Bool :=
  issues s x false [] && (s.core x.core.val).exl && (s.core x.core.val).task.isNone && (s.core x.core.val).sup

/-- When MFCR takes effect. -/
def mfcrUnlisted (x : Issue) (k : BitVec 12) (long : Bool) (s : State) : Bool :=
  issues s x false [] && !long && (!crListed k.toNat || !((s.core x.core.val).sup || crTask k.toNat)) && handled s x.core.val 1

/-- When ADDC takes effect. -/
def addcNoPair (x : Issue) (d : Fin 16) (a : Fin 16) (b : Fin 16) (s : State) : Bool :=
  issues s x false [a.val, b.val] && d == 15 && handled s x.core.val 1

/-- When BEQ takes effect. -/
def beqPoisoned (x : Issue) (a : Fin 16) (b : Fin 16) (i : Imm) (s : State) : Bool :=
  issues s x i.ext [a.val, b.val] && !i.ext && ((s.core x.core.val).pv a || (s.core x.core.val).pv b) && handled s x.core.val 4

/-- When CALL takes effect. -/
def callOverflow (x : Issue) (i : Imm) (s : State) : Bool :=
  issues s x i.ext [] && !i.ext && decide (16 ≤ (s.core x.core.val).stack.length) && handled s x.core.val 7

/-- When RET takes effect. -/
def retUnderflow (x : Issue) (s : State) : Bool :=
  issues s x false [] && (s.core x.core.val).stack.isEmpty && handled s x.core.val 8

/-- When DADD takes effect. -/
def daddNoDigit (x : Issue) (d : Fin 16) (a : Fin 16) (b : Fin 16) (s : State) : Bool :=
  issues s x false [a.val, b.val] && isPair d && !(s.core x.core.val).pv a && !(s.core x.core.val).pv b && !digits16 ((s.core x.core.val).dv a).toNat && handled s x.core.val 9

/-- When DACC takes effect. -/
def daccOverflow (x : Issue) (k : Fin 4) (a : Fin 16) (s : State) : Bool :=
  issues s x false [a.val] && !(s.core x.core.val).acBusy k && !(s.core x.core.val).pv a && !(s.core x.core.val).acp[k] && signedDigits 15 ((s.core x.core.val).dv a).toNat && signedDigits 31 ((s.core x.core.val).acv k) && decide (10 ^ 31 ≤ (decOf 15 ((s.core x.core.val).dv a).toNat + decOf 31 ((s.core x.core.val).acv k)).natAbs) && handled s x.core.val 9

/-- When EVENT_EXCEPTION takes effect. -/
def eventException (n : Fin 132) (s : State) : Bool :=
  s.canExecute n.val && (s.core n.val).eventEn && !(s.core n.val).exl && s.eventPending n.val && goodEntry (s.vectorEntry n.val 12)

/-- When TASK_STOP takes effect. -/
def taskStop (n : Fin 132) (s : State) : Bool :=
  s.powered && !(s.core n.val).halted && (s.core n.val).stop && (s.core n.val).task.isSome && (s.core n.val).macx.isNone && goodEntry (s.vectorEntry n.val 13)

/-- When CORE_RESTART takes effect. -/
def coreRestart (n : Fin 132) (s : State) : Bool :=
  (s.core n.val).halted && (s.core n.val).stores.isEmpty && goodEntry (s.vectorEntry n.val 0)

/-- When LD8U takes effect. -/
def ld8u (x : Issue) (a : Fin 8) (i : Imm) (e : LoadEcc) (s : State) : Bool :=
  issues s x i.ext [16 + a.val] && yields s x (offset s x a i) 1 e

/-- When LD8S takes effect. -/
def ld8s (x : Issue) (a : Fin 8) (i : Imm) (e : LoadEcc) (s : State) : Bool :=
  issues s x i.ext [16 + a.val] && yields s x (offset s x a i) 1 e

/-- When LD16U takes effect. -/
def ld16u (x : Issue) (a : Fin 8) (i : Imm) (e : LoadEcc) (s : State) : Bool :=
  issues s x i.ext [16 + a.val] && yields s x (offset s x a i) 2 e

/-- When LD16S takes effect. -/
def ld16s (x : Issue) (a : Fin 8) (i : Imm) (e : LoadEcc) (s : State) : Bool :=
  issues s x i.ext [16 + a.val] && yields s x (offset s x a i) 2 e

/-- When LD32U takes effect. -/
def ld32u (x : Issue) (a : Fin 8) (i : Imm) (e : LoadEcc) (s : State) : Bool :=
  issues s x i.ext [16 + a.val] && yields s x (offset s x a i) 4 e

/-- When LD32S takes effect. -/
def ld32s (x : Issue) (a : Fin 8) (i : Imm) (e : LoadEcc) (s : State) : Bool :=
  issues s x i.ext [16 + a.val] && yields s x (offset s x a i) 4 e

/-- When LD64 takes effect. -/
def ld64 (x : Issue) (a : Fin 8) (i : Imm) (e : LoadEcc) (s : State) : Bool :=
  issues s x i.ext [16 + a.val] && yields s x (offset s x a i) 8 e

/-- When LDP takes effect. -/
def ldp (x : Issue) (d : Fin 16) (a : Fin 8) (i : Imm) (e : LoadEcc) (s : State) : Bool :=
  issues s x i.ext [16 + a.val] && isPair d && yields s x (offset s x a i) 16 e

/-- When LDA takes effect. -/
def lda (x : Issue) (a : Fin 8) (i : Imm) (e : LoadEcc) (s : State) : Bool :=
  issues s x i.ext [16 + a.val] && yields s x (offset s x a i) 8 e && !(tainted s x (offset s x a i) 8).any (fun b => b)

/-- When ST8 takes effect. -/
def st8 (x : Issue) (d : Fin 16) (a : Fin 8) (i : Imm) (e : LoadEcc) (s : State) : Bool :=
  issues s x i.ext [16 + a.val, d.val] && e == .clean && lands s x (offset s x a i) 1 .wr && !(s.core x.core.val).macxReads (s.phys x.core.val (offset s x a i).toNat) 1

/-- When ST16 takes effect. -/
def st16 (x : Issue) (d : Fin 16) (a : Fin 8) (i : Imm) (e : LoadEcc) (s : State) : Bool :=
  issues s x i.ext [16 + a.val, d.val] && e == .clean && lands s x (offset s x a i) 2 .wr && !(s.core x.core.val).macxReads (s.phys x.core.val (offset s x a i).toNat) 2

/-- When ST32 takes effect. -/
def st32 (x : Issue) (d : Fin 16) (a : Fin 8) (i : Imm) (e : LoadEcc) (s : State) : Bool :=
  issues s x i.ext [16 + a.val, d.val] && e == .clean && lands s x (offset s x a i) 4 .wr && !(s.core x.core.val).macxReads (s.phys x.core.val (offset s x a i).toNat) 4

/-- When ST64 takes effect. -/
def st64 (x : Issue) (d : Fin 16) (a : Fin 8) (i : Imm) (e : LoadEcc) (s : State) : Bool :=
  issues s x i.ext [16 + a.val, d.val] && e == .clean && lands s x (offset s x a i) 8 .wr && !(s.core x.core.val).macxReads (s.phys x.core.val (offset s x a i).toNat) 8

/-- When ST64 takes effect. -/
def st64Own (x : Issue) (d : Fin 16) (a : Fin 8) (i : Imm) (e : LoadEcc) (s : State) : Bool :=
  issues s x i.ext [16 + a.val, d.val] && e == .clean && lands s x (offset s x a i) 8 .wr && !(s.core x.core.val).macxReads (s.phys x.core.val (offset s x a i).toNat) 8 && (match s.area (offset s x a i).toNat with | .cluster _ => true | _ => false)

/-- When STP takes effect. -/
def stp (x : Issue) (d : Fin 16) (a : Fin 8) (i : Imm) (e : LoadEcc) (s : State) : Bool :=
  issues s x i.ext [16 + a.val, d.val, (pairOf d).val] && isPair d && e == .clean && lands s x (offset s x a i) 16 .wr && !(s.core x.core.val).macxReads (s.phys x.core.val (offset s x a i).toNat) 16 && s.area ((offset s x a i).toNat + 8) == s.area (offset s x a i).toNat && (match s.area (offset s x a i).toNat with | .cluster _ => false | _ => true)

/-- When STA takes effect. -/
def sta (x : Issue) (d : Fin 8) (a : Fin 8) (i : Imm) (e : LoadEcc) (s : State) : Bool :=
  issues s x i.ext [16 + a.val, 16 + d.val] && e == .clean && lands s x (offset s x a i) 8 .wr && !(s.core x.core.val).macxReads (s.phys x.core.val (offset s x a i).toNat) 8

/-- When POST_INCREMENT_ACCESS takes effect. -/
def postIncrementLoad (x : Issue) (o : MemOp) (a : Fin 8) (i : Imm) (e : LoadEcc) (s : State) : Bool :=
  issues s x i.ext [16 + a.val] && o.loads && o.legal a true && yields s x ((s.core x.core.val).av a) o.bytes e && (match o with | .loadA _ => !(tainted s x ((s.core x.core.val).av a) 8).any (fun b => b) | _ => true)

/-- When POST_INCREMENT_ACCESS takes effect. -/
def postIncrementStore (x : Issue) (o : MemOp) (a : Fin 8) (i : Imm) (e : LoadEcc) (s : State) : Bool :=
  (match o with | .store k d => issues s x i.ext [16 + a.val, d.val] && e == .clean && lands s x ((s.core x.core.val).av a) k.bytes .wr && !(s.core x.core.val).macxReads (s.phys x.core.val ((s.core x.core.val).av a).toNat) k.bytes | _ => false)

/-- When LD32U takes effect. -/
def ld32uMmio (x : Issue) (a : Fin 8) (i : Imm) (s : State) : Bool :=
  issues s x i.ext [16 + a.val] && !(s.core x.core.val).violates (offset s x a i).toNat 4 [.rd] && (s.area (offset s x a i).toNat == .hubMmio) && (match (s.setCore x.core.val { s.core x.core.val with waiting := false }).mmioRead x.core.val (offset s x a i).toNat 4 with | .ok _ _ => true | _ => false)

/-- When LD64 takes effect. -/
def ld64Mmio (x : Issue) (a : Fin 8) (i : Imm) (s : State) : Bool :=
  issues s x i.ext [16 + a.val] && !(s.core x.core.val).violates (offset s x a i).toNat 8 [.rd] && (s.area (offset s x a i).toNat == .hubMmio) && (match (s.setCore x.core.val { s.core x.core.val with waiting := false }).mmioRead x.core.val (offset s x a i).toNat 8 with | .ok _ _ => true | _ => false)

/-- When ST32 takes effect. -/
def st32Mmio (x : Issue) (d : Fin 16) (a : Fin 8) (i : Imm) (s : State) : Bool :=
  issues s x i.ext [16 + a.val, d.val] && !(s.core x.core.val).pv d && !(s.core x.core.val).violates (offset s x a i).toNat 4 [.wr] && s.area (offset s x a i).toNat == .hubMmio && !(s.core x.core.val).macxReads (s.phys x.core.val (offset s x a i).toNat) 4 && ((s.setCore x.core.val { s.core x.core.val with waiting := false }).mmioWrite x.core.val (offset s x a i).toNat 4 (((s.core x.core.val).dv d).toNat % 2 ^ 32)).isSome

/-- When LD32U takes effect. -/
def ld32uOwes (x : Issue) (a : Fin 8) (i : Imm) (s : State) : Bool :=
  issues s x i.ext [16 + a.val] && !(s.core x.core.val).violates (offset s x a i).toNat 4 [.rd] && (match s.area (offset s x a i).toNat with | .none => true | _ => false)

/-- When LD64 takes effect. -/
def ld64Corrected (x : Issue) (a : Fin 8) (i : Imm) (e : LoadEcc) (s : State) : Bool :=
  issues s x i.ext [16 + a.val] && e == .corrected && lands s x (offset s x a i) 8 .rd && !((s.core x.core.val).control (offset s x a i).toNat && (s.coreMem x.core.val).poisoned (s.phys x.core.val (offset s x a i).toNat) 8)

/-- When LD64 takes effect. -/
def ld64Marked (x : Issue) (a : Fin 8) (i : Imm) (e : LoadEcc) (s : State) : Bool :=
  issues s x i.ext [16 + a.val] && e == .uncorrectable && lands s x (offset s x a i) 8 .rd && (s.core x.core.val).stores.isEmpty && !(s.core x.core.val).control (offset s x a i).toNat && !s.mem.poisoned (s.phys x.core.val (offset s x a i).toNat) 1 && (match s.area (offset s x a i).toNat with | .staging _ => false | _ => true)

/-- When MOV takes effect. -/
def movOwed (x : Issue) (a : Fin 16) (s : State) : Bool :=
  issues s x false [] && ((s.core x.core.val).owes [a.val]).isSome && handled s x.core.val 6

/-- When ST64 takes effect. -/
def st64Window (x : Issue) (d : Fin 16) (a : Fin 8) (i : Imm) (s : State) : Bool :=
  issues s x i.ext [16 + a.val, d.val] && !i.ext && (s.core x.core.val).violates (offset s x a i).toNat 8 [.wr] && inTask s x.core.val 3

/-- When ST32 takes effect. -/
def st32Bus (x : Issue) (d : Fin 16) (a : Fin 8) (i : Imm) (s : State) : Bool :=
  issues s x i.ext [16 + a.val, d.val] && !i.ext && (match s.area (offset s x a i).toNat with | .none => true | _ => false) && !(s.core x.core.val).macxReads (s.phys x.core.val (offset s x a i).toNat) 4 && handled s x.core.val 6

/-- When ST8 takes effect. -/
def st8Unread (x : Issue) (d : Fin 16) (a : Fin 8) (i : Imm) (e : LoadEcc) (s : State) : Bool :=
  issues s x i.ext [16 + a.val, d.val] && !i.ext && e == .uncorrectable && lands s x (offset s x a i) 1 .wr && (s.core x.core.val).control (offset s x a i).toNat && !(s.core x.core.val).macxReads (s.phys x.core.val (offset s x a i).toNat) 1 && decide (s.phys x.core.val (offset s x a i).toNat % granuleAt (s.phys x.core.val (offset s x a i).toNat) = 0) && decide (1 < granuleAt (s.phys x.core.val (offset s x a i).toNat)) && handled s x.core.val 6

/-- When CAS takes effect. -/
def cas (x : Issue) (d : Fin 16) (a : Fin 8) (b : Fin 16) (e : LoadEcc) (s : State) : Bool :=
  issues s x false [d.val, 16 + a.val, b.val] && !(s.core x.core.val).pv d && !(s.core x.core.val).pv b && !(s.core x.core.val).violates ((s.core x.core.val).av a).toNat 8 [.rd, .wr] && ((s.core x.core.val).av a).toNat % 8 == 0 && casArea (s.area ((s.core x.core.val).av a).toNat) && s.memSpan x.core.val ((s.core x.core.val).av a).toNat 8 && !(s.core x.core.val).macxReads (s.phys x.core.val ((s.core x.core.val).av a).toNat) 8 && e == .clean && !(s.coreMem x.core.val).poisoned (s.phys x.core.val ((s.core x.core.val).av a).toNat) 8 && !(tainted s x ((s.core x.core.val).av a) 8).any (fun b => b)

/-- When CAS takes effect. -/
def casDenied (x : Issue) (d : Fin 16) (a : Fin 8) (b : Fin 16) (s : State) : Bool :=
  issues s x false [d.val, 16 + a.val, b.val] && !(s.core x.core.val).pv d && !(s.core x.core.val).pv b && !(s.core x.core.val).violates ((s.core x.core.val).av a).toNat 8 [.rd, .wr] && (((s.core x.core.val).av a).toNat % 8 != 0 || !casArea (s.area ((s.core x.core.val).av a).toNat)) && handled s x.core.val 6

/-- When MACX takes effect. -/
def macx (x : Issue) (k : Fin 4) (a : Fin 8) (b : Fin 8) (steps : Option (BitVec 16)) (s : State) : Bool :=
  issues s x steps.isSome [16 + a.val, 16 + b.val] && (steps.all fun k => k != 0) && (s.core x.core.val).macx.isNone && !(s.core x.core.val).violates ((s.core x.core.val).av a).toNat (64 * (steps.elim 1 (fun (k : BitVec 16) => k.toNat))) [.rd] && !(s.core x.core.val).violates ((s.core x.core.val).av b).toNat (64 * (steps.elim 1 (fun (k : BitVec 16) => k.toNat))) [.rd] && ((s.core x.core.val).av a).toNat % 64 == 0 && ((s.core x.core.val).av b).toNat % 64 == 0 && inCluster x.core.val ((s.core x.core.val).av a).toNat (64 * (steps.elim 1 (fun (k : BitVec 16) => k.toNat))) && inCluster x.core.val ((s.core x.core.val).av b).toNat (64 * (steps.elim 1 (fun (k : BitVec 16) => k.toNat)))

/-- When MACX_STEP takes effect. -/
def macxStep (cluster : Fin 16) (ea : LoadEcc) (eb : LoadEcc) (s : State) : Bool :=
  (match s.macNext cluster.val with | some n => (s.core n).macx.isSome | none => false) && ea == .clean && eb == .clean

/-- When ENGINE_ENABLE takes effect. -/
def engineEnable (r : Fin 4) (k : EngKind) (s : State) : Bool :=
  (s.engine (engKey r k)).jobs.all (fun j => !j.suspended) && (s.engine (engKey r k)).scans.all (fun j => !j.suspended) && shared s (engKey r k)

/-- When ENGINE_DESC_DOORBELL takes effect. -/
def engineDescDoorbell (r : Fin 4) (k : EngKind) (q : Fin 64) (tail : Fin 64) (busErr : Bool) (s : State) : Bool :=
  shared s (engKey r k) && (s.engine (engKey r k)).jobs.all (fun j => !j.suspended) && (s.engine (engKey r k)).scans.all (fun j => !j.suspended) && (s.ctxSlot (engKey r k) 8 64).isSome && !busErr && s.tern.moves.isEmpty && s.tern.jobs.isEmpty && (let x := s.equeue (queueKey r k q); !x.resetBusy && x.queue.isEmpty && (x.descHead + 1) % 64 == tail.val && s.bufferOk x.descBase 4096 && s.bufferOk x.cplBase 2048 && decide (x.unread < 63) && !s.mem.poisoned (x.descBase + 64 * x.descHead) 64 && (let d : EDesc := ⟨x.descHead, s.load (x.descBase + 64 * x.descHead) 64, false, x.setup⟩; (engOpcodes k).contains d.opcode && decide (d.cls ≤ 4)))

/-- When CONTEXT_RING_RESET takes effect. -/
def contextRingReset (r : Fin 4) (q : Fin 64) (s : State) : Bool :=
  (lone s [engKey r .comp]).any (fun p => p.1 == queueKey r .comp q) && shared s (engKey r .comp) && (let x := s.equeue (queueKey r .comp q); x.descHead == x.descTail)

/-- When QUEUE_RING_RESET takes effect. -/
def queueRingReset (r : Fin 4) (k : EngKind) (q : Fin 64) (s : State) : Bool :=
  k != .comp && (lone s [engKey r k]).any (fun p => p.1 == queueKey r k q) && shared s (engKey r k) && (let x := s.equeue (queueKey r k q); x.descHead == x.descTail)

/-- When COMP_BOUNDARY takes effect. -/
def compBoundaryEnds (r : Fin 4) (pipe : Fin 2) (n : BitVec 16) (s : State) : Bool :=
  (s.engine (engKey r .comp)).jobs.length == 1 && ((List.range 64).all fun n => (s.equeue (64 * (engKey r .comp) + n)).queue.isEmpty || (s.runningJob (engKey r .comp) pipe.val).any fun j => j.q == 64 * (engKey r .comp) + n) && shared s (engKey r .comp) && (match s.runningJob (engKey r .comp) pipe.val with | some j => (j.q / 64 == (engKey r .comp)) && (s.equeue j.q).queue == [j.desc] && !(s.equeue j.q).resetBusy && j.ending.dws.length == 6 && !j.suspended | none => false) && (match s.runningJob (engKey r .comp) pipe.val with | some j => (match j.steps with | [[c]] => clear s j.q c.addr c.data.length && !c.data.isEmpty && j.ending.writes.isEmpty && j.ending.ctx.isNone && j.ending.message.isNone && (s.equeue j.q).message.isNone && s.tern.moves.isEmpty && s.tern.jobs.isEmpty && (s.engine (engKey r .comp)).scans.isEmpty | _ => false) | none => false)

/-- When COMP_BOUNDARY takes effect. -/
def compBoundaryGoes (r : Fin 4) (pipe : Fin 2) (n : BitVec 16) (s : State) : Bool :=
  (match s.runningJob (engKey r .comp) pipe.val with | some j => (j.q / 64 == (engKey r .comp)) && (s.equeue j.q).queue == [j.desc] && !(s.equeue j.q).resetBusy && j.ending.dws.length == 6 && !j.suspended | none => false) && (waitingHeads0 s (engKey r .comp) pipe.val) && (match s.runningJob (engKey r .comp) pipe.val with | some j => decide (Nat.max n.toNat 1 < j.steps.length) | none => false) && (s.engine (engKey r .comp)).jobs.length == 1 && shared s (engKey r .comp)

/-- When CIPHER_BOUNDARY takes effect. -/
def cipherBoundaryEnds (r : Fin 4) (digest : Bool) (pipe : Fin 2) (n : BitVec 16) (s : State) : Bool :=
  (s.engine (engKey r (if digest then .digest else .cipher))).jobs.length == 1 && ((List.range 64).all fun n => (s.equeue (64 * (engKey r (if digest then .digest else .cipher)) + n)).queue.isEmpty || (s.runningJob (engKey r (if digest then .digest else .cipher)) pipe.val).any fun j => j.q == 64 * (engKey r (if digest then .digest else .cipher)) + n) && shared s (engKey r (if digest then .digest else .cipher)) && (match s.runningJob (engKey r (if digest then .digest else .cipher)) pipe.val with | some j => (j.q / 64 == (engKey r (if digest then .digest else .cipher))) && (s.equeue j.q).queue == [j.desc] && !(s.equeue j.q).resetBusy && j.ending.dws.length == 6 && !j.suspended | none => false) && (match s.runningJob (engKey r (if digest then .digest else .cipher)) pipe.val with | some j => (match j.steps with | [[c]] => clear s j.q c.addr c.data.length && !c.data.isEmpty && j.ending.writes.isEmpty && j.ending.ctx.isNone && j.ending.message.isNone && (s.equeue j.q).message.isNone && s.tern.moves.isEmpty && s.tern.jobs.isEmpty && (s.engine (engKey r (if digest then .digest else .cipher))).scans.isEmpty | _ => false) | none => false)

/-- When CIPHER_BOUNDARY takes effect. -/
def cipherBoundaryGoes (r : Fin 4) (digest : Bool) (pipe : Fin 2) (n : BitVec 16) (s : State) : Bool :=
  (match s.runningJob (engKey r (if digest then .digest else .cipher)) pipe.val with | some j => (j.q / 64 == (engKey r (if digest then .digest else .cipher))) && (s.equeue j.q).queue == [j.desc] && !(s.equeue j.q).resetBusy && j.ending.dws.length == 6 && !j.suspended | none => false) && (waitingHeads0 s (engKey r (if digest then .digest else .cipher)) pipe.val) && (match s.runningJob (engKey r (if digest then .digest else .cipher)) pipe.val with | some j => decide (Nat.max n.toNat 1 < j.steps.length) | none => false) && (s.engine (engKey r (if digest then .digest else .cipher))).jobs.length == 1 && shared s (engKey r (if digest then .digest else .cipher))

/-- When OPEN takes effect. -/
def compOpen (r : Fin 4) (pipe : Fin 2) (s : State) : Bool :=
  ((taken s r .comp pipe.val 1)).any (fun p => let qk := p.1; let d := p.2; openForm d && (s.equeue qk).ctx.state == .closed && (d.f 40 1 == 0 || decide (historyNeed d ≤ d.setup.history)))

/-- When CLOSE takes effect. -/
def compClose (r : Fin 4) (pipe : Fin 2) (s : State) : Bool :=
  ((taken s r .comp pipe.val 4)).any (fun p => let qk := p.1; let d := p.2; compForm d && d.zero 4 36 && d.zero 40 24 && ((s.equeue qk).ctx.state == .idle || (s.equeue qk).ctx.state == .outFull))

/-- When DATA takes effect. -/
def compDataStorage (r : Fin 4) (pipe : Fin 2) (s : State) : Bool :=
  ((taken s r .comp pipe.val 2)).any (fun p => let qk := p.1; let d := p.2; (s.dataCheck qk d .idle).isNone && (s.equeue qk).ctx.kind == 0 && (s.equeue qk).ctx.isCompress)

/-- When DATA takes effect. -/
def compData (r : Fin 4) (pipe : Fin 2) (s : State) : Bool :=
  ((taken s r .comp pipe.val 2)).any (fun p => let qk := p.1; let d := p.2; (s.dataCheck qk d .idle).isNone && (s.equeue qk).ctx.kind != 0)

/-- When RESUME takes effect. -/
def compResume (r : Fin 4) (pipe : Fin 2) (s : State) : Bool :=
  ((taken s r .comp pipe.val 3)).any (fun p => let qk := p.1; let d := p.2; (s.dataCheck qk d .outFull).isNone)

/-- When DATA takes effect. -/
def compDataClosed (r : Fin 4) (pipe : Fin 2) (s : State) : Bool :=
  ((taken s r .comp pipe.val 2)).any (fun p => let qk := p.1; let d := p.2; compForm d && d.zero 40 24 && (s.equeue qk).ctx.state == .closed)

/-- When XTS_ENC takes effect. -/
def xtsEnc (r : Fin 4) (s : State) : Bool :=
  ((taken s r .cipher 0 0x01)).any (fun p => let qk := p.1; let d := p.2; sole s qk d && decide (16 ≤ (d.f 4 4)) && decide ((d.f 4 4) ≤ 65536) && bits (d.f 59 1) 1 7 == 0 && d.zero 60 4 && bits (d.f 24 4) 20 12 == 0 && d.zero 28 20 && (!d.bit 472 || (d.f 4 4) == 16) && !d.setup.tenant && (s.checkBuffers .cipher d.setup [(d.addr 8, (d.f 4 4), false), (d.addr 16, (d.f 4 4), true)]).isNone && (s.keyFor d.setup (d.f 24 4) useXts).isSome && (s.badBytes (d.addr 8) (d.f 4 4)).isEmpty)

/-- When XTS_DEC takes effect. -/
def xtsDec (r : Fin 4) (s : State) : Bool :=
  ((taken s r .cipher 1 0x02)).any (fun p => let qk := p.1; let d := p.2; sole s qk d && decide (16 ≤ (d.f 4 4)) && decide ((d.f 4 4) ≤ 65536) && bits (d.f 59 1) 1 7 == 0 && d.zero 60 4 && bits (d.f 24 4) 20 12 == 0 && d.zero 28 20 && (!d.bit 472 || (d.f 4 4) == 16) && !d.setup.tenant && (s.checkBuffers .cipher d.setup [(d.addr 8, (d.f 4 4), false), (d.addr 16, (d.f 4 4), true)]).isNone && (s.keyFor d.setup (d.f 24 4) useXts).isSome && (s.badBytes (d.addr 8) (d.f 4 4)).isEmpty)

/-- When GCM_ENC takes effect. -/
def gcmEnc (r : Fin 4) (s : State) : Bool :=
  ((taken s r .cipher 0 0x10)).any (fun p => let qk := p.1; let d := p.2; sole s qk d && (s.gcmCheck qk d).isNone && (s.checkBuffers .cipher d.setup [(d.addr 8, (d.f 4 4), false), (d.addr 16, (d.f 4 4), true), (d.addr 32, d.f 28 4, false), (d.addr 40, d.f 60 1, true)]).isNone && (s.keyFor d.setup (d.f 24 4) useGcmEnc).isSome && (s.badBytes (d.addr 8) (d.f 4 4)).isEmpty && (s.badBytes (d.addr 32) (d.f 28 4)).isEmpty && (s.badBytes (d.addr 40) (d.f 60 1)).isEmpty)

/-- When GCM_DEC takes effect. -/
def gcmDec (r : Fin 4) (s : State) : Bool :=
  ((taken s r .cipher 1 0x11)).any (fun p => let qk := p.1; let d := p.2; sole s qk d && (s.gcmCheck qk d).isNone && (s.checkBuffers .cipher d.setup [(d.addr 8, (d.f 4 4), false), (d.addr 16, (d.f 4 4), true), (d.addr 32, d.f 28 4, false), (d.addr 40, d.f 60 1, false)]).isNone && (s.keyFor d.setup (d.f 24 4) useGcmDec).isSome && (s.badBytes (d.addr 8) (d.f 4 4)).isEmpty && (s.badBytes (d.addr 32) (d.f 28 4)).isEmpty && (s.badBytes (d.addr 40) (d.f 60 1)).isEmpty)

/-- When KW_WRAP takes effect. -/
def kwWrap (r : Fin 4) (s : State) : Bool :=
  ((taken s r .cipher 0 0x20)).any (fun p => let qk := p.1; let d := p.2; sole s qk d && kwLen (d.f 4 4) && d.zero 28 36 && bits (d.f 24 4) 20 12 == 0 && (s.checkBuffers .cipher d.setup [(d.addr 8, (d.f 4 4), false), (d.addr 16, (d.f 4 4) + 8, true)]).isNone && (s.keyFor d.setup (d.f 24 4) useDataWrap).isSome && (s.badBytes (d.addr 8) (d.f 4 4)).isEmpty)

/-- When KW_UNWRAP takes effect. -/
def kwUnwrap (r : Fin 4) (s : State) : Bool :=
  ((taken s r .cipher 0 0x21)).any (fun p => let qk := p.1; let d := p.2; sole s qk d && kwLen (d.f 4 4) && d.zero 28 36 && bits (d.f 24 4) 20 12 == 0 && (s.checkBuffers .cipher d.setup [(d.addr 8, (d.f 4 4), false), (d.addr 16, (d.f 4 4) - 8, true)]).isNone && (s.keyFor d.setup (d.f 24 4) useDataWrap).isSome && (s.badBytes (d.addr 8) (d.f 4 4)).isEmpty)

/-- When KEY_IMPORT takes effect. -/
def keyImport (r : Fin 4) (s : State) : Bool :=
  ((taken s r .cipher 0 0x30)).any (fun p => let qk := p.1; let d := p.2; sole s qk d && decide (97 ≤ (d.f 4 4)) && wrappedLen ((d.f 4 4) - 97) && d.zero 16 48 && (s.checkBuffers .cipher d.setup [(d.addr 8, (d.f 4 4), false)]).isNone && (s.badBytes (d.addr 8) (d.f 4 4)).isEmpty && (!d.setup.tenant && ((List.range 3072).find? fun k => !(s.keySlot k).loaded).isSome))

/-- When KEY_UNWRAP_LOAD takes effect. -/
def keyUnwrapLoad (r : Fin 4) (s : State) : Bool :=
  ((taken s r .cipher 0 0x31)).any (fun p => let qk := p.1; let d := p.2; sole s qk d && wrappedLen (d.f 4 4) && d.zero 16 8 && d.zero 28 36 && bits (d.f 24 4) 20 12 == 0 && (s.checkBuffers .cipher d.setup [(d.addr 8, (d.f 4 4), false)]).isNone && (s.keyFor d.setup (d.f 24 4) useKeyWrap).isSome && (s.badBytes (d.addr 8) (d.f 4 4)).isEmpty && (!d.setup.tenant && ((List.range 3072).find? fun k => !(s.keySlot k).loaded).isSome))

/-- When KEY_GENERATE takes effect. -/
def keyGenerate (r : Fin 4) (s : State) : Bool :=
  ((taken s r .cipher 0 0x32)).any (fun p => let qk := p.1; let d := p.2; sole s qk d && keyForm (d.f 52 1) (d.f 53 1) && !wrapsBoth (d.f 53 1) && d.zero 4 48 && d.zero 54 10 && (!d.setup.tenant && ((List.range 3072).find? fun k => !(s.keySlot k).loaded).isSome))

/-- When KEY_EXPORT takes effect. -/
def keyExport (r : Fin 4) (s : State) : Bool :=
  ((taken s r .cipher 0 0x33)).any (fun p => let qk := p.1; let d := p.2; sole s qk d && d.zero 4 12 && d.zero 28 20 && d.zero 52 12 && bits (d.f 24 4) 20 12 == 0 && bits (d.f 48 4) 20 12 == 0 && !d.setup.tenant && (s.keyFor d.setup (d.f 24 4) useKeyWrap).isSome && (s.namedSlot d.setup (d.f 48 4)).any (fun k => bit (s.keySlot k).usage useExportable))

/-- When KEY_UNLOAD takes effect. -/
def keyUnload (r : Fin 4) (s : State) : Bool :=
  ((taken s r .cipher 0 0x34)).any (fun p => let qk := p.1; let d := p.2; sole s qk d && d.zero 4 20 && d.zero 28 36 && bits (d.f 24 4) 20 12 == 0 && (s.namedSlot d.setup (d.f 24 4)).isSome)

/-- When HASH takes effect. -/
def digestHash (r : Fin 4) (s : State) : Bool :=
  ((taken s r .digest 0 0x01)).any (fun p => let qk := p.1; let d := p.2; sole s qk d && d.zero 24 16 && decide ((d.f 4 4) ≤ 2 ^ 24) && bits (d.f 49 1) 2 6 == 0 && d.zero 50 14 && decide (d.f 48 1 ≤ 4) && (s.badBytes (d.addr 8) (d.f 4 4)).isEmpty && !d.bit 393 && (s.checkBuffers .digest d.setup [(d.addr 8, (d.f 4 4), false), (d.addr 16, (digestLen (d.f 48 1)), true)]).isNone)

/-- When HASH takes effect. -/
def digestHashCompare (r : Fin 4) (s : State) : Bool :=
  ((taken s r .digest 0 0x01)).any (fun p => let qk := p.1; let d := p.2; sole s qk d && d.zero 24 16 && decide ((d.f 4 4) ≤ 2 ^ 24) && bits (d.f 49 1) 2 6 == 0 && d.zero 50 14 && decide (d.f 48 1 ≤ 4) && (s.badBytes (d.addr 8) (d.f 4 4)).isEmpty && d.bit 393 && (s.checkBuffers .digest d.setup [(d.addr 8, (d.f 4 4), false), (d.addr 40, (digestLen (d.f 48 1)), false)]).isNone && (s.badBytes (d.addr 40) (digestLen (d.f 48 1))).isEmpty)

/-- When CTX_EXPORT takes effect. -/
def ctxExport (r : Fin 4) (s : State) : Bool :=
  ((taken s r .digest 0 0x10)).any (fun p => let qk := p.1; let d := p.2; cipherForm d && d.zero 4 12 && d.zero 24 40 && (s.equeue qk).message.any (fun m => let out := (if m.keyed then Sys2Proof.Machine.kwWrap s.vault.contextKey m.bytes else m.bytes); (s.checkBuffers .digest d.setup [(d.addr 16, out.length, true)]).isNone && clear s qk (d.addr 16) out.length))

/-- When CTX_IMPORT takes effect. -/
def ctxImport (r : Fin 4) (s : State) : Bool :=
  ((taken s r .digest 0 0x11)).any (fun p => let qk := p.1; let d := p.2; cipherForm d && decide (d.f 4 4 = (if d.bit 392 then 264 else 256)) && d.zero 16 33 && bits (d.f 49 1) 1 7 == 0 && d.zero 50 14 && (s.equeue qk).message.isNone && (s.checkBuffers .digest d.setup [(d.addr 8, (if d.bit 392 then 264 else 256), false)]).isNone && (s.badBytes (d.addr 8) (if d.bit 392 then 264 else 256)).isEmpty)

/-- When SEARCH takes effect. -/
def ternSearchHit (ecc : Ecc) (s : State) : Bool :=
  (searching s 0x01).any (fun p => let qk := p.1; let d := p.2; matchForm d && (decide ((d.f 4 1) < 20) || (d.f 4 1) == 0xFF) && bits (d.f 5 1) 2 6 == 0 && d.zero 6 2 && d.zero 28 36 && ecc == .clean && !(matchesOf s d (d.f 8 20) (d.f 4 1)).isEmpty)

/-- When SEARCH takes effect. -/
def ternSearchMiss (ecc : Ecc) (s : State) : Bool :=
  (searching s 0x01).any (fun p => let qk := p.1; let d := p.2; matchForm d && (decide ((d.f 4 1) < 20) || (d.f 4 1) == 0xFF) && bits (d.f 5 1) 2 6 == 0 && d.zero 6 2 && d.zero 28 36 && ecc == .clean && (matchesOf s d (d.f 8 20) (d.f 4 1)).isEmpty)

/-- When NEXT takes effect. -/
def ternNext (ecc : Ecc) (s : State) : Bool :=
  (searching s 0x02).any (fun p => let qk := p.1; let d := p.2; matchForm d && d.zero 4 1 && bits (d.f 5 1) 0 1 == 0 && bits (d.f 5 1) 2 6 == 0 && d.zero 6 58 && ecc == .clean && (s.equeue qk).cursor.isSome)

/-- When SEARCH_BATCH takes effect. -/
def ternSearchBatch (ecc : Ecc) (s : State) : Bool :=
  (searching s 0x03).any (fun p => let qk := p.1; let d := p.2; matchForm d && (decide ((d.f 4 1) < 20) || (d.f 4 1) == 0xFF) && d.zero 5 3 && d.zero 12 4 && d.zero 22 2 && d.zero 30 2 && d.zero 32 32 && ecc == .clean && (s.checkBuffers .pat d.setup [(d.addr 16, 20 * d.f 8 4, false), (d.addr 24, 8 * d.f 8 4, true)]).isNone && !s.mem.poisoned (d.addr 16) 20 && d.f 8 4 == 1 && clear s qk (d.addr 24) 8)

/-- When SEARCH_BATCH takes effect. -/
def ternSearchBatchFirst (ecc : Ecc) (s : State) : Bool :=
  (searching s 0x03).any (fun p => let qk := p.1; let d := p.2; matchForm d && (decide ((d.f 4 1) < 20) || (d.f 4 1) == 0xFF) && d.zero 5 3 && d.zero 12 4 && d.zero 22 2 && d.zero 30 2 && d.zero 32 32 && ecc == .clean && (s.checkBuffers .pat d.setup [(d.addr 16, 20 * d.f 8 4, false), (d.addr 24, 8 * d.f 8 4, true)]).isNone && !s.mem.poisoned (d.addr 16) 20 && decide (1 < d.f 8 4) && decide (d.f 8 4 ≤ 65536))

/-- When TERN_WRITE takes effect. -/
def ternWrite (r : Fin 4) (q : Fin 64) (s : State) : Bool :=
  (updating s r q 0x10).any (fun d => let qk := queueKey r .pat q; matchForm d && decide (d.f 4 4 < 262144) && bits (d.f 49 1) 2 6 == 0 && d.zero 50 6 && s.inEntryWindow d.setup (d.f 4 4))

/-- When INVALIDATE takes effect. -/
def ternInvalidate (r : Fin 4) (q : Fin 64) (steps : BitVec 18) (s : State) : Bool :=
  (updating s r q 0x11).any (fun d => let qk := queueKey r .pat q; matchForm d && decide (1 ≤ d.f 8 4) && decide (d.f 4 4 + d.f 8 4 ≤ 262144) && d.zero 12 52 && (!d.setup.tenant || (List.range (d.f 8 4)).all fun k => s.mayInvalidate d.setup (d.f 4 4 + k)) && decide (d.f 8 4 ≤ steps.toNat))

/-- When MOVE_BLOCK takes effect. -/
def moveBlock (r : Fin 4) (q : Fin 64) (steps : BitVec 18) (s : State) : Bool :=
  (updating s r q 0x12).any (fun d => let qk := queueKey r .pat q; matchForm d && decide (d.f 4 4 + d.f 8 4 ≤ 262143) && d.zero 12 52 && s.inEntryWindow d.setup (d.f 4 4) && s.inEntryWindow d.setup (d.f 4 4 + d.f 8 4) && !(s.ternEntry (d.f 4 4 + d.f 8 4)).valid && decide (d.f 8 4 + 1 ≤ steps.toNat) && s.eng.queues.all (fun p => p.2.cursor.isNone))

/-- When TERN_READ takes effect. -/
def ternRead (r : Fin 4) (q : Fin 64) (s : State) : Bool :=
  (updating s r q 0x13).any (fun d => let qk := queueKey r .pat q; matchForm d && decide (d.f 4 4 < 262144) && d.zero 8 8 && d.zero 22 2 && d.zero 24 40 && s.inEntryWindow d.setup (d.f 4 4) && (s.checkBuffers .pat d.setup [(d.addr 16, 64, true)]).isNone && clear s qk (d.addr 16) 64)

/-- When SCAN takes effect. -/
def scanStart (r : Fin 4) (s : State) : Bool :=
  ((taken s r .pat 0 0x40)).any (fun p => let qk := p.1; let d := p.2; matchForm d && decide ((d.f 4 4) ≤ 2 ^ 24) && d.zero 14 2 && decide (d.mode ≤ 2) && bits (d.f 21 1) 2 6 == 0 && d.zero 22 2 && (d.mode != 2 || (decide (1 ≤ d.f 24 4) && decide (d.f 24 4 ≤ 65536))) && d.zero 28 36 && decide (12 ≤ (d.setup.resBase % 32)) && decide ((d.setup.resBase % 32) ≤ 24) && (s.checkBuffers .pat d.setup [(d.addr 8, (d.f 4 4), false), (d.setup.ringBase, d.setup.ringBytes, true)]).isNone && s.mayScan d.setup d.program && d.bit 168 && (patSet (s.scanImage d.program) d.set).isSome)

/-- When PATTERN_SET_LOADED takes effect. -/
def patternSetLoaded (r : Fin 4) (lane : Fin 4) (s : State) : Bool :=
  (scanIn s r lane).any (fun j => j.waitSet && (s.engine (engKey r .pat)).scans == [j] && j.q / 64 == engKey r .pat && shared s (engKey r .pat) && !((s.residents r.val).any fun x => s.isSetOf x j.desc) && match patSet (s.scanImage j.desc.program) j.desc.set with | some p => setsFit (⟨j.desc.program, j.desc.set, s.scanGen j.desc.program, p.states, p.states * p.classes, p.words, 0⟩ :: s.residents r.val) | none => false)

/-- When SCAN_BOUNDARY takes effect. -/
def scanBoundaryGoes (r : Fin 4) (lane : Fin 4) (s : State) : Bool :=
  (scanRuns s r lane).any (fun j => decide (j.done + scanStep j < j.desc.f 4 4) && (s.badBytes (j.desc.addr 8 + j.done) (scanStep j)).isEmpty && match patSet (s.scanImage j.desc.program) j.desc.set with | some p => ringRoom s j (scanned s j p (scanStep j)).2.length | none => false)

/-- When SCAN_BOUNDARY takes effect. -/
def scanBoundaryEnds (r : Fin 4) (lane : Fin 4) (s : State) : Bool :=
  (scanRuns s r lane).any (fun j => (s.equeue j.q).queue == [j.desc] && j.done + scanStep j == j.desc.f 4 4 && j.desc.mode == 0 && !j.desc.bit 169 && (s.badBytes (j.desc.addr 8 + j.done) (scanStep j)).isEmpty && (s.engine (engKey r .pat)).jobs.isEmpty && s.tern.moves.isEmpty && s.tern.jobs.isEmpty && ((List.range 64).all fun n => (s.equeue (64 * engKey r .pat + n)).queue.isEmpty || j.q == 64 * engKey r .pat + n) && match patSet (s.scanImage j.desc.program) j.desc.set with | some p => (scanned s j p (scanStep j)).2.isEmpty | none => false)

/-- When RESULT_RING_DRAINED takes effect. -/
def resultRingDrained (r : Fin 4) (q : Fin 64) (s : State) : Bool :=
  (s.engine (engKey r .pat)).scans.all (fun j => j.q != queueKey r .pat q) && shared s (engKey r .pat)

/-- When RESULT_RING_DRAINED takes effect. -/
def resultRingDrainedGoesOn (r : Fin 4) (q : Fin 64) (head : BitVec 32) (s : State) : Bool :=
  shared s (engKey r .pat) && (match (s.engine (engKey r .pat)).scans with
    | [j] => j.q == queueKey r .pat q && j.stalled && !j.suspended && decide (j.done < j.desc.f 4 4) && !(s.equeue j.q).resetBusy && (s.scanHeads (engKey r .pat)).isEmpty && j.held.all (fun x => x.length == 16) && ringRoom (s.onQueue j.q fun (k : EQueue) => { k with resHead := head.toNat / 16 * 16 }) j j.held.length
    | _ => false)

/-- When DRAM_REQUEST takes effect. -/
def dramRequestBeyond (a : BitVec 38) (s : State) : Bool :=
  s.dram.trained && decide (s.dramSize ≤ a.toNat)

/-- When DRAM_REQUEST takes effect. -/
def dramRequestJoins (a : BitVec 38) (w : Option (List Byte)) (p : Bool) (cls : Fin 5) (port : Option (Fin 5)) (use_ : DramUse) (t : Fin 6) (n : BitVec 12) (s : State) : Bool :=
  s.dram.trained && decide (a.toNat < s.dramSize) && s.queueRoom ⟨s.dram.nextId, s.pkg.timebase, a.toNat, w, p, cls.val, port.map fun (k : Fin 5) => k.val, use_, t.val, n.toNat, false, false, none⟩ && w.isNone && !(s.dchan (s.placeOf a.toNat).chan).reqs.any fun (q : DramReq) => q.write.isSome && q.addr / 64 == a.toNat / 64

/-- When DRAM_REQUEST takes effect. -/
def dramRequestJoinsWrite (a : BitVec 38) (w : Option (List Byte)) (p : Bool) (cls : Fin 5) (port : Option (Fin 5)) (use_ : DramUse) (t : Fin 6) (n : BitVec 12) (s : State) : Bool :=
  s.dram.trained && decide (a.toNat < s.dramSize) && s.queueRoom ⟨s.dram.nextId, s.pkg.timebase, a.toNat, w, p, cls.val, port.map fun (k : Fin 5) => k.val, use_, t.val, n.toNat, false, false, none⟩ && w.isSome

/-- When DRAM_REQUEST takes effect. -/
def dramRequestForwards (a : BitVec 38) (w : Option (List Byte)) (s : State) : Bool :=
  s.dram.trained && decide (a.toNat < s.dramSize) && w.isNone && !s.mem.poisoned (a.toNat / 64 * 64) 64 && (match (s.dchan (s.placeOf a.toNat).chan).reqs.filter (fun (q : DramReq) => q.write.isSome && q.addr / 64 == a.toNat / 64) with | [q] => !q.poison | _ => false)

/-- When DRAM_REQUEST takes effect. -/
def dramRequestNoneEligible (c : Fin 8) (sub : Fin 2) (busy : List (Fin 128)) (s : State) : Bool :=
  (s.nextReq c.val sub.val (busy.map fun (b : Fin 128) => b.val)).isNone

/-- When DRAM_REQUEST takes effect. -/
def dramRequestWrites (c : Fin 8) (sub : Fin 2) (busy : List (Fin 128)) (e : Ecc) (s : State) : Bool :=
  (s.nextReq c.val sub.val (busy.map fun (b : Fin 128) => b.val)).any (fun r => r.write.isSome && !r.back) && e == .clean && (s.dchan c.val).held.isEmpty

/-- When DRAM_REQUEST takes effect. -/
def dramRequestReads (c : Fin 8) (sub : Fin 2) (busy : List (Fin 128)) (e : Ecc) (s : State) : Bool :=
  (s.nextReq c.val sub.val (busy.map fun (b : Fin 128) => b.val)).any (fun r => r.write.isNone && r.bad.isNone) && e == .clean && (s.dchan c.val).held.isEmpty

/-- When DRAM_REQUEST takes effect. -/
def dramRequestPoisons (c : Fin 8) (sub : Fin 2) (busy : List (Fin 128)) (e : Ecc) (s : State) : Bool :=
  (s.nextReq c.val sub.val (busy.map fun (b : Fin 128) => b.val)).any (fun r => r.write.isNone && r.use_ == .payload && !s.mem.poisoned (r.addr / 64 * 64) 64 && decide (r.addr < 2 ^ 38)) && e == .uncorrectable

/-- When DRAM_REQUEST takes effect. -/
def dramRequestBusError (c : Fin 8) (sub : Fin 2) (busy : List (Fin 128)) (e : Ecc) (s : State) : Bool :=
  (s.nextReq c.val sub.val (busy.map fun (b : Fin 128) => b.val)).any (fun r => r.write.isNone && r.use_ == .own) && e == .uncorrectable

/-- When DRAM_REQUEST takes effect. -/
def dramRequestRowHeld (c : Fin 8) (sub : Fin 2) (busy : List (Fin 128)) (act : Bool) (e : Ecc) (s : State) : Bool :=
  (s.nextReq c.val sub.val (busy.map fun (b : Fin 128) => b.val)).any (fun r => ((Tab.get s.dram.rows [] ((s.placeOf r.addr).chan * 128 + (s.placeOf r.addr).bankNo)).filter fun (x : Nat × Nat) => x.1 == (s.placeOf r.addr).row).length == 1) && act && e == .clean

/-- When DRAM_REQUEST takes effect. -/
def dramRequestRowFree (c : Fin 8) (sub : Fin 2) (busy : List (Fin 128)) (act : Bool) (e : Ecc) (s : State) : Bool :=
  (s.nextReq c.val sub.val (busy.map fun (b : Fin 128) => b.val)).any (fun r => !((Tab.get s.dram.rows [] ((s.placeOf r.addr).chan * 128 + (s.placeOf r.addr).bankNo)).any fun (x : Nat × Nat) => x.1 == (s.placeOf r.addr).row) && decide ((Tab.get s.dram.rows [] ((s.placeOf r.addr).chan * 128 + (s.placeOf r.addr).bankNo)).length < 16) && decide (1 < s.val 0xC000 5)) && act && e == .clean

/-- When DRAM_REQUEST takes effect. -/
def dramRequestRowReplaces (c : Fin 8) (sub : Fin 2) (busy : List (Fin 128)) (act : Bool) (e : Ecc) (s : State) : Bool :=
  (s.nextReq c.val sub.val (busy.map fun (b : Fin 128) => b.val)).any (fun r => !((Tab.get s.dram.rows [] ((s.placeOf r.addr).chan * 128 + (s.placeOf r.addr).bankNo)).any fun (x : Nat × Nat) => x.1 == (s.placeOf r.addr).row) && (Tab.get s.dram.rows [] ((s.placeOf r.addr).chan * 128 + (s.placeOf r.addr).bankNo)).length == 16) && act && e == .clean

/-- When DRAM_REQUEST takes effect. -/
def dramRequestWritesBack (c : Fin 8) (sub : Fin 2) (busy : List (Fin 128)) (e : Ecc) (s : State) : Bool :=
  (s.nextReq c.val sub.val (busy.map fun (b : Fin 128) => b.val)).any (fun r => r.back && r.write.isSome) && e == .clean && (s.dchan c.val).held.isEmpty

/-- When DRAM_REQUEST takes effect. -/
def dramRequestTakesHeld (c : Fin 8) (sub : Fin 2) (busy : List (Fin 128)) (e : Ecc) (s : State) : Bool :=
  (s.nextReq c.val sub.val (busy.map fun (b : Fin 128) => b.val)).any (fun r => r.write.isNone && r.bad.isNone) && e == .clean && (s.dchan c.val).held.length == 1 && decide ((s.dchan c.val).reqs.length ≤ 32)

/-- When DRAM_REQUEST takes effect. -/
def dramRequestOtherCopy (c : Fin 8) (sub : Fin 2) (busy : List (Fin 128)) (e : Ecc) (s : State) : Bool :=
  (s.nextReq c.val sub.val (busy.map fun (b : Fin 128) => b.val)).any (fun r => r.write.isNone && r.bad.isNone && (match r.use_ with | .journal _ => true | _ => false)) && e == .uncorrectable && (s.dchan c.val).held.isEmpty

/-- When DRAM_REQUEST takes effect. -/
def dramRequestBothCopies (c : Fin 8) (sub : Fin 2) (busy : List (Fin 128)) (e : Ecc) (s : State) : Bool :=
  (s.nextReq c.val sub.val (busy.map fun (b : Fin 128) => b.val)).any (fun r => r.write.isNone && r.bad.isSome && (match r.use_ with | .journal _ => true | _ => false)) && e == .uncorrectable && s.serving

/-- When REQUEST_AGED takes effect. -/
def requestAged (c : Fin 8) (id : BitVec 32) (s : State) : Bool :=
  ((s.dchan c.val).reqs.find? fun (r : DramReq) => r.id == id.toNat).any (fun r => r.cls != 0 && !r.aged && decide (usTicks (s.val 0xC000 2) ≤ s.since r.at_))

/-- When REQUEST_AGED takes effect. -/
def requestAgedNot (c : Fin 8) (id : BitVec 32) (s : State) : Bool :=
  !((s.dchan c.val).reqs.find? fun (r : DramReq) => r.id == id.toNat).any (fun r => r.cls != 0 && !r.aged && decide (usTicks (s.val 0xC000 2) ≤ s.since r.at_))

/-- When PANIC_ENTER takes effect. -/
def panicEnter (port : Fin 5) (level : BitVec 16) (s : State) : Bool :=
  ((s.dram.panic[port.val]?).getD none).isNone && (if port.val = 4 then decide (s.val 0xC000 4 < level.toNat) else decide (level.toNat < s.val 0xC000 3))

/-- When PANIC_ENTER takes effect. -/
def panicEnterNot (port : Fin 5) (level : BitVec 16) (s : State) : Bool :=
  ((s.dram.panic[port.val]?).getD none).isSome || !(if port.val = 4 then decide (s.val 0xC000 4 < level.toNat) else decide (level.toNat < s.val 0xC000 3))

/-- When PANIC_LEAVE takes effect. -/
def panicLeave (port : Fin 5) (level : BitVec 16) (s : State) : Bool :=
  (if port.val = 4 then decide (level.toNat ≤ s.val 0xC000 3) else decide (s.val 0xC000 4 ≤ level.toNat)) && ((s.dram.panic[port.val]?).getD none).isSome && (List.range 5).all (fun k => k == port.val || ((s.dram.panic[k]?).getD none).isNone)

/-- When PANIC_LEAVE takes effect. -/
def panicLeaveNot (port : Fin 5) (level : BitVec 16) (s : State) : Bool :=
  ((s.dram.panic[port.val]?).getD none).isNone || !(if port.val = 4 then decide (level.toNat ≤ s.val 0xC000 3) else decide (s.val 0xC000 4 ≤ level.toNat))

/-- When ROW_TABLE_WINDOW_END takes effect. -/
def rowTableWindowEnd (s : State) : Bool :=
  decide (usTicks 32000 ≤ s.since s.dram.windowAt)

/-- When ROW_TABLE_WINDOW_END takes effect. -/
def rowTableWindowEndNot (s : State) : Bool :=
  decide (s.since s.dram.windowAt < usTicks 32000)

/-- When DQS_TRACKING takes effect. -/
def dqsTracking (c : Fin 8) (s : State) : Bool :=
  !(s.dchan c.val).selfRefresh && decide (usTicks (1000 * s.val 0xC000 7) ≤ s.since (s.dchan c.val).tracked)

/-- When DQS_TRACKING takes effect. -/
def dqsTrackingNot (c : Fin 8) (s : State) : Bool :=
  (s.dchan c.val).selfRefresh || decide (s.since (s.dchan c.val).tracked < usTicks (1000 * s.val 0xC000 7))

/-- When DRAM_RETRAIN takes effect. -/
def dramRetrainStep (c : Fin 8) (last : Bool) (s : State) : Bool :=
  !(s.dchan c.val).selfRefresh && !((s.dchan c.val).reqs.any fun (r : DramReq) => r.cls == 0) && !last && ((s.dchan c.val).retrainLeft != 0 || decide (10 * s.val 0xC000 8 ≤ (s.hubTemp.toInt - (s.dchan c.val).trainedTemp.toInt).natAbs))

/-- When DRAM_RETRAIN takes effect. -/
def dramRetrainEnds (c : Fin 8) (last : Bool) (s : State) : Bool :=
  !(s.dchan c.val).selfRefresh && !((s.dchan c.val).reqs.any fun (r : DramReq) => r.cls == 0) && last && ((s.dchan c.val).retrainLeft != 0 || decide (10 * s.val 0xC000 8 ≤ (s.hubTemp.toInt - (s.dchan c.val).trainedTemp.toInt).natAbs))

/-- When DRAM_RETRAIN takes effect. -/
def dramRetrainNot (c : Fin 8) (s : State) : Bool :=
  (s.dchan c.val).selfRefresh || !!((s.dchan c.val).reqs.any fun (r : DramReq) => r.cls == 0) || ((s.dchan c.val).retrainLeft == 0 && decide ((s.hubTemp.toInt - (s.dchan c.val).trainedTemp.toInt).natAbs < 10 * s.val 0xC000 8))

/-- When SELF_REFRESH_ENTRY takes effect. -/
def selfRefreshEntry (c : Fin 8) (s : State) : Bool :=
  !(s.dchan c.val).selfRefresh && (s.dchan c.val).reqs.isEmpty && (s.dchan c.val).held.isEmpty && decide (usTicks (s.val 0xC000 6) ≤ s.since (s.dchan c.val).lastReq)

/-- When SELF_REFRESH_ENTRY takes effect. -/
def selfRefreshEntryNot (c : Fin 8) (s : State) : Bool :=
  (s.dchan c.val).selfRefresh || !(s.dchan c.val).reqs.isEmpty || !(s.dchan c.val).held.isEmpty || decide (s.since (s.dchan c.val).lastReq < usTicks (s.val 0xC000 6))

/-- When DRAM_REFRESH takes effect. -/
def dramRefresh (c : Fin 8) (bank : Fin 128) (s : State) : Bool :=
  !((s.dchan c.val).reqs.any fun (r : DramReq) => r.cls == 0 && (s.placeOf r.addr).bankNo == bank.val)

/-- When DRAM_REFRESH takes effect. -/
def dramRefreshWaits (c : Fin 8) (bank : Fin 128) (s : State) : Bool :=
  (s.dchan c.val).reqs.any fun (r : DramReq) => r.cls == 0 && (s.placeOf r.addr).bankNo == bank.val

/-- When ALLOC takes effect. -/
def bufferAllocHub (n : Fin 132) (p : Fin 64) (s : State) : Bool :=
  isSupCore n.val && (s.pool p.val).state == 1 && (s.pool p.val).cache.head?.any fun h => handlePool h == p.val

/-- When ALLOC takes effect. -/
def bufferAllocHubNull (n : Fin 132) (p : Fin 64) (s : State) : Bool :=
  isSupCore n.val && ((s.pool p.val).state != 1 || ((s.pool p.val).cache.isEmpty && decide ((s.pool p.val).size < (s.pool p.val).fresh) && (s.pool p.val).ring.isEmpty))

/-- When ALLOC takes effect. -/
def bufferAllocHubWaits (n : Fin 132) (p : Fin 64) (s : State) : Bool :=
  isSupCore n.val && (s.pool p.val).state == 1 && (s.pool p.val).cache.isEmpty && (decide ((s.pool p.val).fresh ≤ (s.pool p.val).size) || !(s.pool p.val).ring.isEmpty) && s.bpm.waiting.all fun (x : AllocWait) => x.core != n.val

/-- When ALLOC takes effect. -/
def bufferAllocLost (n : Fin 132) (p : Fin 64) (s : State) : Bool :=
  isSupCore n.val && (s.pool p.val).state == 1 && !(s.pool p.val).cache.isEmpty && p.val != 0

/-- When ALLOC takes effect. -/
def bufferAllocNotReached (n : Fin 132) (s : State) : Bool :=
  !isSupCore n.val

/-- When ALLOC takes effect. -/
def bufferAllocTenant (n : Fin 132) (s : State) : Bool :=
  (s.bufPort n.val).tenant && (s.bufPort n.val).pool != 0 && (s.pool (s.bufPort n.val).pool).state == 1 && decide (s.fval (s.bufPort n.val).fn 0x4020 1 < s.fval (s.bufPort n.val).fn 0x4010 2) && (s.pool (s.bufPort n.val).pool).cache.head?.any fun h => handlePool h == (s.bufPort n.val).pool

/-- When ALLOC takes effect. -/
def bufferAllocQuota (n : Fin 132) (s : State) : Bool :=
  (s.bufPort n.val).tenant && (s.bufPort n.val).pool != 0 && (s.pool (s.bufPort n.val).pool).state == 1 && decide (s.fval (s.bufPort n.val).fn 0x4010 2 ≤ s.fval (s.bufPort n.val).fn 0x4020 1)

/-- When ALLOC takes effect. -/
def bufferAllocNoPool (n : Fin 132) (s : State) : Bool :=
  (s.bufPort n.val).tenant && ((s.bufPort n.val).pool == 0 || (s.pool (s.bufPort n.val).pool).state != 1)

/-- When ALLOC takes effect. -/
def bufferAllocRegion (n : Fin 132) (s : State) : Bool :=
  !(s.bufPort n.val).tenant && (s.bufPort n.val).select == 0 && decide (n.val < 128) && decide (9 ≤ (s.regionCache (coreRegion n.val)).length)

/-- When ALLOC takes effect. -/
def bufferAllocRegionRefills (n : Fin 132) (s : State) : Bool :=
  !(s.bufPort n.val).tenant && (s.bufPort n.val).select == 0 && decide (n.val < 128) && (s.regionCache (coreRegion n.val)).isEmpty && (s.pool 0).state == 1 && decide (16 ≤ (s.pool 0).cache.length)

/-- When HUB_CACHE_REFILL takes effect. -/
def hubCacheRefillFresh (p : Fin 64) (s : State) : Bool :=
  (s.pool p.val).state == 1 && decide ((s.pool p.val).cache.length < 128) && decide ((s.pool p.val).fresh + 256 ≤ (s.pool p.val).size + 1) && s.bpm.waiting.all fun (x : AllocWait) => x.pool != p.val

/-- When HUB_CACHE_REFILL takes effect. -/
def hubCacheRefillRing (p : Fin 64) (s : State) : Bool :=
  (s.pool p.val).state == 1 && decide ((s.pool p.val).cache.length < 128) && decide ((s.pool p.val).size < (s.pool p.val).fresh) && !(s.pool p.val).ring.isEmpty && s.bpm.waiting.all fun (x : AllocWait) => x.pool != p.val

/-- When HUB_CACHE_REFILL takes effect. -/
def hubCacheRefillNot (p : Fin 64) (s : State) : Bool :=
  (s.pool p.val).state != 1 || decide (128 ≤ (s.pool p.val).cache.length) || (decide ((s.pool p.val).size < (s.pool p.val).fresh) && (s.pool p.val).ring.isEmpty)

/-- When REGION_CACHE_RECALL takes effect. -/
def regionCacheRecall (s : State) : Bool :=
  decide ((s.pool 0).hubFree < 128) && s.regionCached != 0

/-- When REGION_CACHE_RECALL takes effect. -/
def regionCacheRecallNot (s : State) : Bool :=
  decide (128 ≤ (s.pool 0).hubFree) || s.regionCached == 0

/-- When INC takes effect. -/
def bufferInc (n : Fin 132) (hub : Bool) (h : BitVec 32) (s : State) : Bool :=
  h.toNat != 0 && (s.pool (handlePool h.toNat)).state == 1 && decide (1 ≤ (handleIndex h.toNat)) && decide ((handleIndex h.toNat) ≤ (s.pool (handlePool h.toNat)).size) && (s.buf (handlePool h.toNat) (handleIndex h.toNat)).gen == handleGen h.toNat && (if hub then isSupCore n.val else (!(s.bufPort n.val).tenant || ((handlePool h.toNat) != 0 && (s.buf (handlePool h.toNat) (handleIndex h.toNat)).owner == (s.bufPort n.val).fn))) && decide ((s.buf (handlePool h.toNat) (handleIndex h.toNat)).count < 255)

/-- When INC takes effect. -/
def bufferIncBad (n : Fin 132) (hub : Bool) (h : BitVec 32) (s : State) : Bool :=
  (!hub || isSupCore n.val) && !(h.toNat != 0 && (s.pool (handlePool h.toNat)).state == 1 && decide (1 ≤ (handleIndex h.toNat)) && decide ((handleIndex h.toNat) ≤ (s.pool (handlePool h.toNat)).size) && (s.buf (handlePool h.toNat) (handleIndex h.toNat)).gen == handleGen h.toNat && (if hub then isSupCore n.val else (!(s.bufPort n.val).tenant || ((handlePool h.toNat) != 0 && (s.buf (handlePool h.toNat) (handleIndex h.toNat)).owner == (s.bufPort n.val).fn))) && decide ((s.buf (handlePool h.toNat) (handleIndex h.toNat)).count < 255))

/-- When INC takes effect. -/
def bufferIncNotReached (n : Fin 132) (hub : Bool) (s : State) : Bool :=
  hub && !isSupCore n.val

/-- When DEC takes effect. -/
def bufferDec (n : Fin 132) (hub : Bool) (h : BitVec 32) (s : State) : Bool :=
  h.toNat != 0 && (s.pool (handlePool h.toNat)).state == 1 && decide (1 ≤ (handleIndex h.toNat)) && decide ((handleIndex h.toNat) ≤ (s.pool (handlePool h.toNat)).size) && (s.buf (handlePool h.toNat) (handleIndex h.toNat)).gen == handleGen h.toNat && (if hub then isSupCore n.val else (!(s.bufPort n.val).tenant || ((handlePool h.toNat) != 0 && (s.buf (handlePool h.toNat) (handleIndex h.toNat)).owner == (s.bufPort n.val).fn))) && decide (1 < (s.buf (handlePool h.toNat) (handleIndex h.toNat)).count)

/-- When DEC takes effect. -/
def bufferDecFrees (n : Fin 132) (hub : Bool) (h : BitVec 32) (s : State) : Bool :=
  h.toNat != 0 && (s.pool (handlePool h.toNat)).state == 1 && decide (1 ≤ (handleIndex h.toNat)) && decide ((handleIndex h.toNat) ≤ (s.pool (handlePool h.toNat)).size) && (s.buf (handlePool h.toNat) (handleIndex h.toNat)).gen == handleGen h.toNat && (if hub then isSupCore n.val else (!(s.bufPort n.val).tenant || ((handlePool h.toNat) != 0 && (s.buf (handlePool h.toNat) (handleIndex h.toNat)).owner == (s.bufPort n.val).fn))) && (s.buf (handlePool h.toNat) (handleIndex h.toNat)).count == 1 && (handlePool h.toNat) != 0 && decide ((s.pool (handlePool h.toNat)).cache.length < 448)

/-- When DEC takes effect. -/
def bufferDecRegionFrees (n : Fin 132) (hub : Bool) (h : BitVec 32) (s : State) : Bool :=
  h.toNat != 0 && (s.pool (handlePool h.toNat)).state == 1 && decide (1 ≤ (handleIndex h.toNat)) && decide ((handleIndex h.toNat) ≤ (s.pool (handlePool h.toNat)).size) && (s.buf (handlePool h.toNat) (handleIndex h.toNat)).gen == handleGen h.toNat && !hub && !(s.bufPort n.val).tenant && decide (n.val < 128) && (s.buf (handlePool h.toNat) (handleIndex h.toNat)).count == 1 && (handlePool h.toNat) == 0 && decide ((s.regionCache (coreRegion n.val)).length < 32)

/-- When DEC takes effect. -/
def bufferDecBad (n : Fin 132) (hub : Bool) (h : BitVec 32) (s : State) : Bool :=
  (!hub || isSupCore n.val) && !(h.toNat != 0 && (s.pool (handlePool h.toNat)).state == 1 && decide (1 ≤ (handleIndex h.toNat)) && decide ((handleIndex h.toNat) ≤ (s.pool (handlePool h.toNat)).size) && (s.buf (handlePool h.toNat) (handleIndex h.toNat)).gen == handleGen h.toNat && (if hub then isSupCore n.val else (!(s.bufPort n.val).tenant || ((handlePool h.toNat) != 0 && (s.buf (handlePool h.toNat) (handleIndex h.toNat)).owner == (s.bufPort n.val).fn))) && decide (0 < (s.buf (handlePool h.toNat) (handleIndex h.toNat)).count))

/-- When DEC takes effect. -/
def bufferDecNotReached (n : Fin 132) (hub : Bool) (s : State) : Bool :=
  hub && !isSupCore n.val

/-- When QUERY takes effect. -/
def bufferQuery (n : Fin 132) (h : BitVec 32) (s : State) : Bool :=
  isSupCore n.val && h.toNat != 0 && (s.pool (handlePool h.toNat)).state == 1 && decide (1 ≤ (handleIndex h.toNat)) && decide ((handleIndex h.toNat) ≤ (s.pool (handlePool h.toNat)).size) && (s.buf (handlePool h.toNat) (handleIndex h.toNat)).gen == handleGen h.toNat

/-- When QUERY takes effect. -/
def bufferQueryBad (n : Fin 132) (h : BitVec 32) (s : State) : Bool :=
  isSupCore n.val && !(h.toNat != 0 && (s.pool (handlePool h.toNat)).state == 1 && decide (1 ≤ (handleIndex h.toNat)) && decide ((handleIndex h.toNat) ≤ (s.pool (handlePool h.toNat)).size) && (s.buf (handlePool h.toNat) (handleIndex h.toNat)).gen == handleGen h.toNat)

/-- When QUERY takes effect. -/
def bufferQueryNotReached (n : Fin 132) (s : State) : Bool :=
  !isSupCore n.val

/-- When CLAIM takes effect. -/
def eventClaimSpurious (n : Fin 132) (t : Fin 137) (s : State) : Bool :=
  (isSupCore n.val || s.isReserved n.val) && (s.ev.best t.val).isNone

/-- When CLAIM takes effect. -/
def eventClaimTakes (n : Fin 132) (t : Fin 137) (s : State) : Bool :=
  (isSupCore n.val || s.isReserved n.val) && (s.ev.best t.val).isSome && decide ((Tab.keys s.ev.target).Pairwise (· < ·))

/-- When CLAIM takes effect. -/
def eventClaimNotReached (n : Fin 132) (s : State) : Bool :=
  !(isSupCore n.val || s.isReserved n.val)

/-- When CLAIM_SELF takes effect. -/
def eventClaimSelfSpurious (n : Fin 132) (s : State) : Bool :=
  (isSupCore n.val || s.isReserved n.val) && (s.ev.best n.val).isNone

/-- When CLAIM_SELF takes effect. -/
def eventClaimSelfTakes (n : Fin 132) (s : State) : Bool :=
  (isSupCore n.val || s.isReserved n.val) && (s.ev.best n.val).isSome && decide ((Tab.keys s.ev.target).Pairwise (· < ·))

/-- When CLAIM_SELF takes effect. -/
def eventClaimSelfNotReached (n : Fin 132) (s : State) : Bool :=
  !(isSupCore n.val || s.isReserved n.val)

/-- When COMPLETE takes effect. -/
def eventComplete (n : Fin 132) (t : Fin 137) (src : BitVec 12) (s : State) : Bool :=
  (isSupCore n.val || s.isReserved n.val) && decide (src.toNat < 2048) && srcBit s.ev.active src.toNat && s.ev.targetOf src.toNat == t.val && !s.ev.pendingBit src.toNat && !Tab.has s.ev.nextTarget src.toNat

/-- When COMPLETE takes effect. -/
def eventCompleteAgain (n : Fin 132) (t : Fin 137) (src : BitVec 12) (s : State) : Bool :=
  (isSupCore n.val || s.isReserved n.val) && decide (src.toNat < 2048) && srcBit s.ev.active src.toNat && s.ev.targetOf src.toNat == t.val && s.ev.pendingBit src.toNat && srcBit s.ev.enable src.toNat && s.ev.noHold src.toNat && decide (s.ev.targetOf src.toNat < 132) && !Tab.has s.ev.nextTarget src.toNat

/-- When COMPLETE takes effect. -/
def eventCompleteBad (n : Fin 132) (t : Fin 137) (src : BitVec 12) (s : State) : Bool :=
  (isSupCore n.val || s.isReserved n.val) && !(decide (src.toNat < 2048) && srcBit s.ev.active src.toNat && s.ev.targetOf src.toNat == t.val)

/-- When COMPLETE takes effect. -/
def eventCompleteNotReached (n : Fin 132) (s : State) : Bool :=
  !(isSupCore n.val || s.isReserved n.val)

/-- When COMPLETE_SELF takes effect. -/
def eventCompleteSelf (n : Fin 132) (src : BitVec 12) (s : State) : Bool :=
  (isSupCore n.val || s.isReserved n.val) && decide (src.toNat < 2048) && srcBit s.ev.active src.toNat && s.ev.targetOf src.toNat == n.val && !s.ev.pendingBit src.toNat && !Tab.has s.ev.nextTarget src.toNat

/-- When COMPLETE_SELF takes effect. -/
def eventCompleteSelfAgain (n : Fin 132) (src : BitVec 12) (s : State) : Bool :=
  (isSupCore n.val || s.isReserved n.val) && decide (src.toNat < 2048) && srcBit s.ev.active src.toNat && s.ev.targetOf src.toNat == n.val && s.ev.pendingBit src.toNat && srcBit s.ev.enable src.toNat && s.ev.noHold src.toNat && decide (s.ev.targetOf src.toNat < 132) && !Tab.has s.ev.nextTarget src.toNat

/-- When COMPLETE_SELF takes effect. -/
def eventCompleteSelfBad (n : Fin 132) (src : BitVec 12) (s : State) : Bool :=
  (isSupCore n.val || s.isReserved n.val) && !(decide (src.toNat < 2048) && srcBit s.ev.active src.toNat && s.ev.targetOf src.toNat == n.val)

/-- When COMPLETE_SELF takes effect. -/
def eventCompleteSelfNotReached (n : Fin 132) (s : State) : Bool :=
  !(isSupCore n.val || s.isReserved n.val)

/-- When PENDING_WRITE takes effect. -/
def pendingWrite (g : Fin 64) (s : State) : Bool :=
  (List.range 32).all (fun b => s.ev.targetOf (evSrc g.val b) != 136)

/-- When HOLDOFF_EXPIRY takes effect. -/
def holdoffExpiryNot (g : Fin 64) (s : State) : Bool :=
  ((s.ev.timer[g.val]?).getD none).isNone || !((s.ev.timer[g.val]?).getD none).any (fun t => decide (((s.ev.holdoff[g.val]?).getD 0).toNat ≤ s.since t))

/-- When HOLDOFF_EXPIRY takes effect. -/
def holdoffExpiryStops (g : Fin 64) (s : State) : Bool :=
  ((s.ev.timer[g.val]?).getD none).any (fun t => decide (((s.ev.holdoff[g.val]?).getD 0).toNat ≤ s.since t)) && (groupReg s.ev.waiting g.val &&& s.readPending g.val &&& groupReg s.ev.enable g.val) == 0

/-- When HOLDOFF_EXPIRY takes effect. -/
def holdoffExpiryRestarts (g : Fin 64) (s : State) : Bool :=
  ((s.ev.timer[g.val]?).getD none).any (fun t => decide (((s.ev.holdoff[g.val]?).getD 0).toNat ≤ s.since t)) && (groupReg s.ev.waiting g.val &&& s.readPending g.val &&& groupReg s.ev.enable g.val) != 0 && (List.range 32).all (fun b => s.ev.targetOf (evSrc g.val b) != 136)

/-- When REGISTER_WRITE takes effect. -/
def registerWriteNot (n : Fin 132) (a : Addr) (wide : Bool) (s : State) : Bool :=
  (s.core n.val).stores.isEmpty && (!s.powered || (match s.area a.toNat with | .hubMmio | .regionMmio _ => !s.mmioOk n.val a.toNat (if wide then 8 else 4) | _ => true))

/-- When REGISTER_WRITE takes effect. -/
def registerWritePoolEnable (n : Fin 132) (s : State) : Bool :=
  s.powered && (s.core n.val).stores.isEmpty && s.mmioReach n.val (blockAt (0x180000100000))

/-- When REGISTER_WRITE takes effect. -/
def registerWriteSlotSelect (n : Fin 132) (s : State) : Bool :=
  s.powered && (s.core n.val).stores.isEmpty && s.mmioReach n.val (blockAt (0x180000400008))

/-- When REGISTER_WRITE takes effect. -/
def registerWriteTernaryControl (n : Fin 132) (s : State) : Bool :=
  s.powered && (s.core n.val).stores.isEmpty && s.mmioReach n.val (blockAt (0x180000300000))

/-- When REGISTER_WRITE takes effect. -/
def registerWriteHoldoff (n : Fin 132) (g : Fin 64) (s : State) : Bool :=
  s.powered && (s.core n.val).stores.isEmpty && s.mmioReach n.val (blockAt (0x180000202400 + 4 * g.val))

/-- When REGISTER_WRITE takes effect. -/
def registerWriteTargetWaits (n : Fin 132) (k : Fin 2048) (s : State) : Bool :=
  s.powered && (s.core n.val).stores.isEmpty && s.mmioReach n.val (blockAt (0x180000200000 + 4 * k.val)) && srcBit s.ev.active k.val

/-- When REGISTER_WRITE takes effect. -/
def registerWriteTarget (n : Fin 132) (k : Fin 2048) (s : State) : Bool :=
  s.powered && (s.core n.val).stores.isEmpty && s.mmioReach n.val (blockAt (0x180000200000 + 4 * k.val)) && !srcBit s.ev.active k.val && !s.ev.pendingBit k.val && !Tab.has s.ev.nextTarget k.val

/-- When REGISTER_WRITE takes effect. -/
def registerWriteEnable (n : Fin 132) (g : Fin 64) (s : State) : Bool :=
  s.powered && (s.core n.val).stores.isEmpty && s.mmioReach n.val (blockAt (0x180000202000 + 4 * g.val)) && (List.range 32).all (fun b => !s.ev.pendingBit (evSrc g.val b))

/-- When REGISTER_WRITE takes effect. -/
def registerWriteQuery (n : Fin 132) (s : State) : Bool :=
  s.powered && (s.core n.val).stores.isEmpty && s.mmioReach n.val (blockAt (0x180000100000 + 0x1108))

/-- When REGISTER_WRITE takes effect. -/
def registerWritePortSelect (n : Fin 132) (r : Fin 4) (s : State) : Bool :=
  s.powered && (s.core n.val).stores.isEmpty && s.mmioReach n.val (blockAt (0x18000106F010 + 0x100000 * r.val))

/-- When HEADER_WRITE takes effect. -/
def headerWriteFactory (o : Sender) (h : HdrIn) (value : List Byte) (s : State) : Bool :=
  carried o h 2 value s && !bit h.flags.toNat 0 && !bit h.flags.toNat 1 && decide (0xF000 ≤ h.index.toNat)

/-- When HEADER_READ takes effect. -/
def headerReadFactory (o : Sender) (h : HdrIn) (value : List Byte) (s : State) : Bool :=
  carried o h 1 value s && !bit h.flags.toNat 0 && !bit h.flags.toNat 1 && decide (0xF000 ≤ h.index.toNat) && decide ((session o h).tier < 3)

/-- When DICTIONARY_WRITE takes effect. -/
def dictionaryWriteFactory (q : Sqe) (c : DictCdw) (w : Walk) (s : State) : Bool :=
  admin s q && dictOpen s q.fn.toNat && nvmeLength c.len && s.walkStatus q w c.len true == 0 && !c.flag && !c.segment && decide (0xF000 ≤ c.index)

/-- When DICTIONARY_READ takes effect. -/
def dictionaryReadFactory (q : Sqe) (c : DictCdw) (w : Walk) (s : State) : Bool :=
  admin s q && dictOpen s q.fn.toNat && nvmeLength c.len && s.walkStatus q w c.len false == 0 && !c.flag && !c.segment && decide (0xF000 ≤ c.index)

end Sys2Proof.Cond

open Sys2Proof Sys2Proof.Machine

/-- For every command and state, a step of the state with the command at the front of its queue is the command's execution on the state with the rest of the queue. -/
def Obligations.StepRunsFrontCommand : Prop :=
  ∀ (c : Instr) (rest : List Instr) (s : State),
    step { s with pending := c :: rest } = exec c { s with pending := rest }

/-- Each command of power and reset answers a next state whenever its condition holds (Cond, on the state and the operands alone), with what follows.
POWER_ON: rails that come up leave the package held in reset with PERST# asserted and the timebase at 0; everything volatile is at its reset value,
and the persistent store is as it was. POWER_COLLAPSE: the package is off, everything volatile is at its reset value, and the persistent store is as
it was. PERST_DEASSERT: from reset start-up begins: the straps are sampled, the timebase runs from its present count, no step has ended, and the code
store counts as faulted if its array does not answer; memory, the flash and the front end are as they were. PERST_ASSERT: a running package enters the
flush of a package reset. HOT_RESET: the same, with its own reset kind. PWR_FAIL: once CSTS.RDY has been set, the flush of a power failure is entered
and its event raised. POWER_RETURN: a package held for a power failure starts up. THERMAL_TRIP: with a sensor at 125 °C or above, a running package
asserts THERM_TRIP and enters a thermal flush. THERMAL_HOLD_RELEASE: cooled below 105 °C, with PERST# asserted and released and no power failure, a
package in the thermal hold starts up. FLUSH_SOWN: with no row in hand and no unit left to sow, the flush's data is done, at the present time; its
entry, start and first figures stand. FLUSH_END: with the data done, no commit in hand, no session to the twin and no thermal trip, the count of
flushes in the persistent store goes up by one if the code store takes records, what is volatile is gone, and the package is in the hold that its
flush was entered for: a thermal one in the thermal hold, a power failure that lasts in its hold, a package reset with PERST# asserted in reset. -/
def Obligations.PowerAndResets : Prop :=
  (∀ (s : State), Cond.powerOn s = true →
    ∃ u, exec .powerOn s = .next u ∧ u.pkg = { Pkg.init with dieTemp := s.pkg.dieTemp } ∧ Cond.cleared s u ∧ u.dict.store = s.dict.store ∧ u.cs.array = (s.dropStores).cs.array) ∧
  (∀ (s : State), Cond.powerCollapse s = true →
    ∃ u, exec .powerCollapse s = .next u ∧ u.pkg = { Pkg.init with phase := .off, dieTemp := s.pkg.dieTemp } ∧ Cond.cleared s u ∧ u.dict.store = s.dict.store) ∧
  (∀ (isle : Bool) (twin : Bool) (bootBank : Bool) (csAnswers : Bool) (s : State), Cond.perstDeassert s = true →
    ∃ u, exec (.perstDeassert isle twin bootBank csAnswers) s = .next u ∧ u.pkg.phase = .running ∧ u.pkg.perst = false ∧ u.pkg.ticking = true ∧ u.pkg.refclk = true ∧ u.pkg.straps = ⟨isle, twin, bootBank⟩ ∧ u.pkg.boot = { Boot.init with startAt := s.pkg.timebase } ∧ u.cs.faulted = !csAnswers ∧ u.pkg.timebase = s.pkg.timebase ∧ u.mem = s.mem ∧ u.flash = s.flash ∧ u.nvme = s.nvme) ∧
  (∀ (sense : BitVec 16) (s : State), Cond.perstAssert s = true →
    ∃ u, exec (.perstAssert sense) s = .next u ∧ u.pkg = { s.pkg with perst := true, nextReset := .perst, phase := .flushing .packageReset } ∧ Cond.flushes s u .packageReset sense.toNat) ∧
  (∀ (sense : BitVec 16) (s : State), Cond.hotReset s = true →
    ∃ u, exec (.hotReset sense) s = .next u ∧ u.pkg = { s.pkg with nextReset := .hotReset, phase := .flushing .packageReset } ∧ Cond.flushes s u .packageReset sense.toNat) ∧
  (∀ (sense : BitVec 16) (s : State), Cond.pwrFail s = true →
    ∃ u, exec (.pwrFail sense) s = .next u ∧ u.pkg = { s.pkg with pwrFail := true, nextReset := .powerFail, phase := .flushing .powerFail } ∧ Cond.flushes s u .powerFail sense.toNat ∧ srcBit u.ev.latch (evSrc 42 5) = true) ∧
  (∀ (csAnswers : Bool) (s : State), Cond.powerReturn s = true →
    ∃ u, exec (.powerReturn csAnswers) s = .next u ∧ u.pkg.phase = .running ∧ u.pkg.pwrFail = false ∧ u.pkg.boot = { Boot.init with startAt := s.pkg.timebase } ∧ u.mem = s.mem ∧ u.flash = s.flash ∧ u.nvme = s.nvme) ∧
  (∀ (sense : BitVec 16) (s : State), Cond.thermalTrip s = true →
    ∃ u, exec (.thermalTrip sense) s = .next u ∧ u.pkg = { s.pkg with thermTrip := true, perstCycled := false, nextReset := .thermalTrip, phase := .flushing .thermal } ∧ u.hold.flush.map (fun f => (f.entry, f.t0)) = some (.thermal, s.pkg.timebase)) ∧
  (∀ (csAnswers : Bool) (s : State), Cond.thermalHoldRelease s = true →
    ∃ u, exec (.thermalHoldRelease csAnswers) s = .next u ∧ u.pkg.phase = .running ∧ u.pkg.thermTrip = false ∧ u.pkg.boot = { Boot.init with startAt := s.pkg.timebase } ∧ u.mem = s.mem ∧ u.flash = s.flash ∧ u.nvme = s.nvme) ∧
  (∀ (s : State), Cond.flushSown s = true →
    ∃ u, exec .flushSown s = .next u ∧ (u.hold.flush.map fun f => (f.dataDone, f.endsAt)) = some (true, s.pkg.timebase) ∧ (u.hold.flush.map fun f => (f.entry, f.t0, f.dirty0, f.sense0)) = s.hold.flush.map fun f => (f.entry, f.t0, f.dirty0, f.sense0)) ∧
  (∀ (sense : BitVec 16) (csAnswers : Bool) (s : State), Cond.flushEnd s = true →
    ∃ u, exec (.flushEnd sense csAnswers) s = .next u ∧ u.mem = Memory.init ∧ u.cores = [] ∧ u.sched = Sched.init ∧ u.hold = { Hold.init with foundRun := s.hold.foundRun } ∧ u.nvme.cmds = [] ∧ u.dict.vals = [] ∧ u.val 0x7030 1 = 0 ∧ (s.cs.faulted = false → Tab.find u.dict.store (ekey 0 0x7030 1) = some (s.val 0x7030 1 + 1)) ∧ (∀ f ∈ s.hold.flush, f.entry = .thermal → u.pkg.phase = .heldThermal) ∧ (∀ f ∈ s.hold.flush, f.entry = .powerFail → s.pkg.pwrFail = true → u.pkg.phase = .heldPowerFail) ∧ (∀ f ∈ s.hold.flush, f.entry = .packageReset → s.pkg.perst = true → u.pkg.phase = .inReset) ∧ (s.pkg.boot.rdySeen = false ∨ s.cs.faulted = true → u.cs.array = s.dropStores.cs.array))

/-- The hub watchdog, the loss of REFCLK and an expired tempo count each put a powered package into the package-fault hold at once: the phase is that
hold, TWIN_FAIL_O is asserted, no flush is entered, everything volatile is at its reset value, and the persistent store is as it was. The latter two
also record that REFCLK is lost. HUB_WATCHDOG_EXPIRY, REFCLK_LOSS_DETECTED: with power. TEMPO_COUNT_EXPIRY: with power, while a region counts ticks. -/
def Obligations.PackageFaults : Prop :=
  (∀ (s : State), Cond.hubWatchdogExpiry s = true →
    ∃ u, exec .hubWatchdogExpiry s = .next u ∧ u.pkg.phase = .heldFault ∧ u.pkg.twinFailO = true ∧ u.pkg.refclk = s.pkg.refclk ∧ u.pkg.timebase = s.pkg.timebase ∧ Cond.cleared s u ∧ u.hold.flush = none ∧ u.dict.store = s.dict.store ∧ u.out = s.out) ∧
  (∀ (s : State), Cond.refclkLossDetected s = true →
    ∃ u, exec .refclkLossDetected s = .next u ∧ u.pkg.phase = .heldFault ∧ u.pkg.twinFailO = true ∧ u.pkg.refclk = false ∧ u.pkg.timebase = s.pkg.timebase ∧ Cond.cleared s u ∧ u.hold.flush = none ∧ u.dict.store = s.dict.store ∧ u.out = s.out) ∧
  (∀ (s : State), Cond.tempoCountExpiry s = true →
    ∃ u, exec .tempoCountExpiry s = .next u ∧ u.pkg.phase = .heldFault ∧ u.pkg.twinFailO = true ∧ u.pkg.refclk = false ∧ u.pkg.timebase = s.pkg.timebase ∧ Cond.cleared s u ∧ u.hold.flush = none ∧ u.dict.store = s.dict.store ∧ u.out = s.out)

/-- Each command of start-up answers a next state whenever its condition holds: the package runs, the steps before it have ended and it has not.
CONFIG_REQUEST: a configuration read before step 3 has ended, or of a function in reset, is answered with Request Retry Status; nothing else changes;
after it a read is answered with a value: all ones for a function that is not there, the PF's doubleword 0 with its Device and Vendor ID; a
configuration write then is answered in the same way; a write of the PF's VC1 resource control sets whether VC1 is enabled and which traffic classes
it carries, TC 0 apart, and nothing but configuration space changes with it; a read beyond a BAR is answered with all ones; a write there changes
nothing. PERSISTENT_ENTRIES_LOADED: with the code store there, configuration space is ready; memory, cores and media engine are as they were.
DIE_LINKS_TRAINED: every module is up or down as it trained, with the time; nothing else changes. DDR_TRAINING_DONE: with a listed organization the
DRAM is trained with eight channels' size, or start-up stops if a channel failed. FIRMWARE_COPY_DONE: a slot whose copy passes runs.
TWIN_WAIT_TIMEOUT: without a session the wait for the twin is over; nothing else changes. LIVE_MAP_LOADED: with no channel still awaited, the map is
loaded and the time of start-up recorded. CSTS_RDY_SET: an enabled controller is ready once the map is loaded and an erased record slot remains; no
other controller changes. PF_SLOT_ERASE: with no erased slot left, a sector of record slots is erased, after which one is; nothing but the code store
changes. -/
def Obligations.StartUpSteps : Prop :=
  (∀ (fn : BitVec 8) (r : Fin 1024) (s : State), Cond.configRequest fn s = true →
    exec (.configRequest fn (.read r)) s = .next (s.emit .configRetry)) ∧
  (∀ (fn : BitVec 8) (r : Fin 1024) (s : State), Cond.configRequestRead fn s = true →
    ∃ u, exec (.configRequest fn (.read r)) s = .next u ∧ (s.functions.contains fn.toNat = false → u = s.emit (.config 0xFFFFFFFF)) ∧ (fn = 0 → r = 0 → u = s.emit (.config 0x82401C7E)) ∧ u = { s with out := u.out } ∧ u.out.take s.out.length = s.out ∧ u.out.length = s.out.length + 1) ∧
  (∀ (fn : BitVec 8) (r : Fin 1024) (v : BitVec 32) (s : State), Cond.configRequestWriteEarly fn s = true →
    exec (.configRequest fn (.write r v)) s = .next (s.emit .configRetry)) ∧
  (∀ (v : BitVec 32) (s : State), Cond.configRequestWrite s = true →
    ∃ u, exec (.configRequest 0 (.write 0x58 v)) s = .next u ∧ u.nvme.vc1 = v.getLsbD 31 ∧ u.nvme.tcMap = BitVec.ofNat 8 (v.toNat % 256 / 2 * 2) ∧ u = { s with nvme := { s.nvme with vc1 := u.nvme.vc1, tcMap := u.nvme.tcMap, config := u.nvme.config } }) ∧
  (∀ (fn : BitVec 8) (bar2 : Bool) (o : BitVec 18) (s : State), Cond.configRequestBarRead fn bar2 o s = true →
    ∃ u, exec (.configRequest fn (.barRead bar2 o)) s = .next u ∧ u = s.emit (.config 0xFFFFFFFF)) ∧
  (∀ (fn : BitVec 8) (bar2 : Bool) (o : BitVec 18) (v : BitVec 32) (s : State), Cond.configRequestBarWrite fn bar2 o s = true →
    exec (.configRequest fn (.barWrite bar2 o v)) s = .next (s)) ∧
  (∀ (s : State), Cond.persistentEntriesLoaded s = true →
    ∃ u, exec .persistentEntriesLoaded s = .next u ∧ u.pkg.boot = { s.pkg.boot with configReady := true } ∧ u.mem = s.mem ∧ u.cores = s.cores ∧ u.media = s.media) ∧
  (∀ (up : BitVec 4) (s : State), Cond.dieLinksTrained s = true →
    exec (.dieLinksTrained up) s = .next ({ s with pkg := { s.pkg with boot := { s.pkg.boot with linksUp := true }, links := Vector.ofFn fun m : Fin 4 => ⟨if bit up.toNat m.val then .up else .down, s.pkg.timebase, s.pkg.timebase⟩ } })) ∧
  (∀ (org : BitVec 32) (us : BitVec 32) (failed : BitVec 8) (s : State), Cond.ddrTrainingDone org s = true →
    ∃ u, exec (.ddrTrainingDone org us failed) s = .next u ∧ (failed = 0 → u.pkg.boot = { s.pkg.boot with ddrUp := true } ∧ u.dram.trained = true ∧ u.dramSize = 8 * dramChannelBytes org.toNat) ∧ (failed ≠ 0 → u.pkg.boot = { s.pkg.boot with stopped := true } ∧ u.dram = s.dram) ∧ u.mem = s.mem ∧ u.flash = s.flash) ∧
  (∀ (copies : BitVec 2) (s : State), Cond.firmwareCopyDone copies s = true →
    ∃ u, exec (.firmwareCopyDone copies) s = .next u ∧ u.pkg.boot = { s.pkg.boot with firmwareUp := true } ∧ u.cs = { s.cs with runningSlot := s.cs.nextSlot s.pkg.straps.bootBank }) ∧
  (∀ (s : State), Cond.twinWaitTimeout s = true →
    exec .twinWaitTimeout s = .next ({ s with pkg.boot.twinWaitOver := true })) ∧
  (∀ (good : BitVec 64) (s : State), Cond.liveMapLoaded s = true →
    ∃ u, exec (.liveMapLoaded good) s = .next u ∧ u.pkg.boot = { s.pkg.boot with mapLoaded := true } ∧ u.pkg.startupUs = s.since s.pkg.boot.startAt / 100) ∧
  (∀ (fn : BitVec 8) (s : State), Cond.cstsRdySet fn s = true →
    ∃ u, exec (.cstsRdySet fn) s = .next u ∧ u.ctrl fn.toNat = { s.ctrl fn.toNat with ready := true } ∧ (∀ m : Nat, m ≠ fn.toNat → u.ctrl m = s.ctrl m) ∧ u.pkg = { s.pkg with boot := { s.pkg.boot with rdySeen := true } } ∧ u = { s with nvme := u.nvme, pkg := u.pkg, hold := u.hold }) ∧
  (∀ (s : State), Cond.pfSlotErase s = true →
    ∃ u, exec .pfSlotErase s = .next u ∧ u.cs.pfErasedCount ≠ 0 ∧ u = { s with cs := u.cs })

/-- Each of these commands answers a next state whenever its condition holds, with what follows. TIMEBASE_TICK: the timebase advances by one; besides,
only the times since when regions have been idle change. TEMPO_SAMPLE: the rate is kept, the least rate with it, and the level of the region's
low-tempo event follows its threshold. DIE_TEMP_UPDATE: the four sensors take their values. FLIT_REPLAY: the module's replay count goes up by one, and
nothing else changes. DIE_LINK_LOSS: a module that was up is down, with the time. DIE_LINK_RETRAINED: a module that was not up is up, with the time;
nothing else changes. DIE_LINK_DOWN_TIMEOUT: a module down for 1 ms takes both regions of its die offline. REGION_WATCHDOG_EXPIRY: the region is
offline. REGION_ONLINE: a region being admitted, all of whose channels are owned again, is online. PCIE_LINK_TRAINING_DONE: the link has the width
trained and the rate trained, at most TARGET_LINK_SPEED; it runs in Flit mode at 64 GT/s and below it where the partner advertises it. -/
def Obligations.PackageClocksAndLinks : Prop :=
  (∀ (s : State), Cond.timebaseTick s = true →
    ∃ u, exec .timebaseTick s = .next u ∧ u.pkg = { s.pkg with timebase := s.pkg.timebase + 1 } ∧ u = { s with pkg := u.pkg, nvme := { s.nvme with busyAt := u.nvme.busyAt } }) ∧
  (∀ (r : Fin 4) (rate : BitVec 32) (s : State), Cond.tempoSample s = true →
    ∃ u, exec (.tempoSample r rate) s = .next u ∧ u.val (0x2020 + r.val) 1 = rate.toNat ∧ u.val (0x2020 + r.val) 2 = min (s.val (0x2020 + r.val) 2) rate.toNat ∧ srcBit u.ev.level (evSrc (10 * r.val) 8) = decide (rate.toNat < s.val (0x2020 + r.val) 3) ∧ u = { s with dict := u.dict, ev := u.ev, out := u.out }) ∧
  (∀ (t : Vector (BitVec 32) 4) (s : State), Cond.dieTempUpdate s = true →
    ∃ u, exec (.dieTempUpdate t) s = .next u ∧ u.pkg = { s.pkg with dieTemp := t, tempPeakValid := s.pkg.tempPeakValid || s.powered } ∧ u = { s with pkg := u.pkg, dict := u.dict, ev := u.ev, out := u.out, nvme := u.nvme }) ∧
  (∀ (m : Fin 4) (s : State), Cond.flitReplay s = true →
    exec (.flitReplay m) s = .next (s.bump (0x2030 + m.val) 3)) ∧
  (∀ (m : Fin 4) (s : State), Cond.dieLinkLoss m s = true →
    ∃ u, exec (.dieLinkLoss m) s = .next u ∧ u.pkg = { s.pkg with links := s.pkg.links.set m { s.pkg.links[m] with state := .down, downAt := s.pkg.timebase } } ∧ u = { s with pkg := u.pkg, dict := u.dict, ev := u.ev, out := u.out, nvme := u.nvme }) ∧
  (∀ (m : Fin 4) (s : State), Cond.dieLinkRetrained m s = true →
    exec (.dieLinkRetrained m) s = .next ({ s with pkg := { s.pkg with links := s.pkg.links.set m { s.pkg.links[m] with state := .up, upAt := s.pkg.timebase } } })) ∧
  (∀ (m : Fin 4) (s : State), Cond.dieLinkDownTimeout m s = true →
    ∃ u, exec (.dieLinkDownTimeout m) s = .next u ∧ u.regionState (2 * (m.val / 2)) = .offline ∧ u.regionState (2 * (m.val / 2) + 1) = .offline) ∧
  (∀ (r : Fin 4) (s : State), Cond.regionWatchdogExpiry s = true →
    ∃ u, exec (.regionWatchdogExpiry r) s = .next u ∧ u.regionState r.val = .offline) ∧
  (∀ (r : Fin 4) (s : State), Cond.regionOnline r s = true →
    ∃ u, exec (.regionOnline r) s = .next u ∧ u.regionState r.val = .online) ∧
  (∀ (rate : Fin 6) (width : Fin 5) (flit : Bool) (reversed : Bool) (s : State), Cond.pcieLinkTrainingDone s = true →
    ∃ u, exec (.pcieLinkTrainingDone rate width flit reversed) s = .next u ∧ u.pkg = { s.pkg with linkSpeed := min (rate.val + 1) (s.val 0x3000 4), linkWidth := 2 ^ width.val, linkFlit := u.pkg.linkFlit, laneReversed := reversed } ∧ u.pkg.linkFlit = (decide (u.pkg.linkSpeed = 6) || flit) ∧ u = { s with pkg := u.pkg, dict := u.dict })

/-- For a controller whose admin queue an engine may fetch from, with room in its completion queue, no sanitize operation running and no commit of its own
under way, and whose transport is enabled, each command answers a next state as follows. In all of them nothing but the front end, the dictionary, the
events, the Strait and what is sent changes. DICTIONARY_READ: a value that the session may read goes to its data pointer in its type's bytes, whose
number DW0 gives; no stage, transfer, record or commit changes; a first segment of a DOMAIN entry is answered with at most LENGTH bytes; at most one
transfer is open more than before. DICTIONARY_WRITE: a value that passes its checks is staged in its session's stage, the stages of other sessions,
the store and the queue of commits are as they were, and DW0 gives LENGTH; with COMMIT_NOW and a persistent entry the value is staged and the commit
joins the queue. DICTIONARY_COMMIT: the commit joins the queue of commits, with every stage as it was. DICTIONARY_DISCARD: the session's stage is
empty, the others are as they were, and the command completes. -/
def Obligations.DictionaryOverNvme : Prop :=
  (∀ (q : Sqe) (c : DictCdw) (w : Walk) (s : State), Cond.dictionaryRead q c w s = true →
    ∃ u, exec (.dictionaryRead q c w) s = .next u ∧ Cond.landed s u q w (Cond.readBytes s (.nvme q.fn.toNat) c.fn c.index c.sub) = true ∧ Cond.completed s u q 0 (Cond.readBytes s (.nvme q.fn.toNat) c.fn c.index c.sub).length = true ∧ u.dict.stages = s.dict.stages ∧ u.dict.transfers = s.dict.transfers ∧ u.dict.store = s.dict.store ∧ u.dict.force = s.dict.force ∧ u.dict.queue = s.dict.queue ∧ Cond.keepsRest s u = true) ∧
  (∀ (q : Sqe) (c : DictCdw) (w : Walk) (s : State), Cond.dictionaryReadSegment q c w s = true →
    ∃ u, exec (.dictionaryRead q c w) s = .next u ∧ (∃ b : List Byte, Cond.completed s u q 0 b.length = true ∧ b.length ≤ c.len ∧ (b ≠ [] → Cond.landed s u q w b = true)) ∧ u.dict.stages = s.dict.stages ∧ u.dict.transfers.length ≤ s.dict.transfers.length + 1 ∧ u.dict.store = s.dict.store ∧ u.dict.force = s.dict.force ∧ u.dict.queue = s.dict.queue ∧ Cond.keepsRest s u = true) ∧
  (∀ (q : Sqe) (c : DictCdw) (data : List Byte) (w : Walk) (s : State), Cond.dictionaryWrite q c data w s = true →
    ∃ u, exec (.dictionaryWrite q c data w) s = .next u ∧ ((Cond.writes s (.nvme q.fn.toNat) c.fn c.index c.sub (padTo c.len data)).bind fun v => (s.stage (.nvme q.fn.toNat)).put v) = some (u.stage (.nvme q.fn.toNat)) ∧ Cond.completed s u q 0 c.len = true ∧ u.dict.stages.filter (fun g => g.session != (.nvme q.fn.toNat)) = s.dict.stages.filter (fun g => g.session != (.nvme q.fn.toNat)) ∧ u.dict.store = s.dict.store ∧ u.dict.force = s.dict.force ∧ u.dict.queue = s.dict.queue ∧ Cond.keepsRest s u = true) ∧
  (∀ (q : Sqe) (c : DictCdw) (data : List Byte) (w : Walk) (s : State), Cond.dictionaryWriteNow q c data w s = true →
    ∃ u, exec (.dictionaryWrite q c data w) s = .next u ∧ ((Cond.writes s (.nvme q.fn.toNat) c.fn c.index c.sub (padTo c.len data)).bind fun v => (s.stage (.nvme q.fn.toNat)).put v) = some (u.stage (.nvme q.fn.toNat)) ∧ u.dict.queue = s.dict.queue ++ [⟨(.nvme q.fn.toNat), .nvme q.fn.toNat q.sq.toNat q.cid.toNat w⟩] ∧ u.dict.stages.filter (fun g => g.session != (.nvme q.fn.toNat)) = s.dict.stages.filter (fun g => g.session != (.nvme q.fn.toNat)) ∧ u.dict.store = s.dict.store ∧ Cond.keepsRest s u = true) ∧
  (∀ (q : Sqe) (cdw10 : BitVec 32) (s : State), Cond.dictionaryCommit q cdw10 s = true →
    ∃ u, exec (.dictionaryCommit q cdw10) s = .next u ∧ u.dict.queue = s.dict.queue ++ [⟨(.nvme q.fn.toNat), .nvme q.fn.toNat q.sq.toNat q.cid.toNat .ok⟩] ∧ u.dict.stages = s.dict.stages ∧ u.dict.store = s.dict.store ∧ Cond.keepsRest s u = true) ∧
  (∀ (q : Sqe) (s : State), Cond.dictionaryDiscard q s = true →
    ∃ u, exec (.dictionaryDiscard q) s = .next u ∧ u.stage (.nvme q.fn.toNat) = ⟨(.nvme q.fn.toNat), [], none⟩ ∧ Cond.completed s u q 0 0 = true ∧ u.dict.stages.filter (fun g => g.session != (.nvme q.fn.toNat)) = s.dict.stages.filter (fun g => g.session != (.nvme q.fn.toNat)) ∧ u.dict.store = s.dict.store ∧ u.dict.force = s.dict.force ∧ u.dict.queue = s.dict.queue ∧ Cond.keepsRest s u = true)

/-- For a header request that its transport takes (its version and length are right, its integrity check or tag passes, its sequence is fresh, its session
has room, the transport is enabled, and no commit of an MCTP endpoint's own is under way) each command answers a next state as follows. In all of them
nothing but the front end, the dictionary, the events, the Strait and what is sent changes. HEADER_READ: a value that the session may read is answered
with status 0 in its type's bytes; no stage, record or commit changes. HEADER_WRITE: a value that passes its checks is staged in its session's stage
and answered with status 0; other stages, the store and the queue of commits are as they were. HEADER_COMMIT: the commit joins the queue of commits,
with every stage as it was. HEADER_DISCARD: the session's stage is empty, the others are as they were, and the 8-byte commit value of zeros is
answered. -/
def Obligations.DictionaryOverHeaders : Prop :=
  (∀ (o : Sender) (h : HdrIn) (value : List Byte) (s : State), Cond.headerRead o h value s = true →
    ∃ u, exec (.headerRead o h value) s = .next u ∧ Cond.answered o h 1 s u 0 h.offset.toNat (Cond.readBytes s (Cond.session o h) h.function.toNat h.index.toNat h.sub.toNat) = true ∧ u.dict.stages = s.dict.stages ∧ u.dict.store = s.dict.store ∧ u.dict.queue = s.dict.queue ∧ Cond.keepsRest s u = true) ∧
  (∀ (o : Sender) (h : HdrIn) (value : List Byte) (s : State), Cond.headerWrite o h value s = true →
    ∃ u, exec (.headerWrite o h value) s = .next u ∧ ((Cond.writes s (Cond.session o h) h.function.toNat h.index.toNat h.sub.toNat value).bind fun v => (s.stage (Cond.session o h)).put v) = some (u.stage (Cond.session o h)) ∧ Cond.answered o h 2 s u 0 h.offset.toNat [] = true ∧ u.dict.stages.filter (fun g => g.session != (Cond.session o h)) = s.dict.stages.filter (fun g => g.session != (Cond.session o h)) ∧ u.dict.store = s.dict.store ∧ u.dict.queue = s.dict.queue ∧ Cond.keepsRest s u = true) ∧
  (∀ (o : Sender) (h : HdrIn) (value : List Byte) (s : State), Cond.headerCommit o h value s = true →
    ∃ u, exec (.headerCommit o h value) s = .next u ∧ (∃ r, u.dict.queue = s.dict.queue ++ [⟨(Cond.session o h), r⟩]) ∧ u.dict.stages = s.dict.stages ∧ u.dict.store = s.dict.store ∧ Cond.keepsRest s u = true) ∧
  (∀ (o : Sender) (h : HdrIn) (value : List Byte) (s : State), Cond.headerDiscard o h value s = true →
    ∃ u, exec (.headerDiscard o h value) s = .next u ∧ u.stage (Cond.session o h) = ⟨(Cond.session o h), [], none⟩ ∧ Cond.answered o h 3 s u 0 h.offset.toNat (List.replicate 8 0) = true ∧ u.dict.stages.filter (fun g => g.session != (Cond.session o h)) = s.dict.stages.filter (fun g => g.session != (Cond.session o h)) ∧ u.dict.store = s.dict.store ∧ u.dict.queue = s.dict.queue ∧ Cond.keepsRest s u = true)

/-- Each command answers a next state whenever its condition holds, as follows; memory is as it was. GET_EPOCH: a request over 10BASE-T1S is answered with
the 8-byte device epoch, tagged under the bus key, whatever its tag and sequence, and counted as accepted; nothing else changes; one over MCTP is
answered with TIER (05h). CHALLENGE: a CHALLENGE that passes its tag and sequence, of an address that is not locked out, gives its peer a nonce of 32
random bytes with the present time and answers with it. ANSWER: an ANSWER that is HMAC-SHA-256 of the peer's nonce, address and the epoch under the
supervisor key, within 10 s, opens the supervisor session under the key derived from the nonce, uses the nonce up, clears the count of mismatches and
is answered with status 0. NONCE_EXPIRY: a nonce 10 s old is gone; nothing else changes. CHALLENGE_LOCKOUT_EXPIRY: a lockout whose time is over ends;
nothing else changes. -/
def Obligations.SupervisorChallenge : Prop :=
  (∀ (dst : BitVec 48) (mac : BitVec 48) (seq : BitVec 64) (auth : List Byte) (h : HdrIn) (value : List Byte) (s : State), Cond.getEpoch h value s = true →
    ∃ u, exec (.getEpoch (.t1s dst mac seq auth) h value) s = .next u ∧ (let f := t1sFrame mac.toNat dst.toNat seq.toNat ((h.hdr 4).response 0 h.offset.toNat (leBytes 8 s.dict.epoch.toNat)); u = (s.bump 0x1112 1).emit (.t1s (t1sSent (f ++ s.authTag s.busKey f))))) ∧
  (∀ (eid : BitVec 8) (ic : Bool) (check : BitVec 32) (h : HdrIn) (value : List Byte) (s : State), Cond.getEpochMctp eid ic check h value s = true →
    ∃ u, exec (.getEpoch (.mctp eid ic check) h value) s = .next u ∧ Cond.answered (.port (.mctp eid ic check)) h 4 s u 5 h.offset.toNat [] = true ∧ Cond.keepsRest s u = true) ∧
  (∀ (dst : BitVec 48) (mac : BitVec 48) (seq : BitVec 64) (auth : List Byte) (h : HdrIn) (value : List Byte) (s : State), Cond.challenge dst mac seq auth h value s = true →
    ∃ u, exec (.challenge (.t1s dst mac seq auth) h value) s = .next u ∧ (let n := padTo 32 (Config.randomBytes s.free 32); ((u.peer? mac.toNat).map fun p => p.nonce) = some (some (n, s.pkg.timebase)) ∧ Cond.answered (.port (.t1s dst mac seq auth)) h 5 s u 0 h.offset.toNat n = true) ∧ Cond.keepsRest s u = true) ∧
  (∀ (dst : BitVec 48) (mac : BitVec 48) (seq : BitVec 64) (auth : List Byte) (h : HdrIn) (value : List Byte) (s : State), Cond.answer dst mac seq auth h value s = true →
    ∃ u, exec (.answer (.t1s dst mac seq auth) h value) s = .next u ∧ (∀ p ∈ s.peer? mac.toNat, ∀ n ∈ p.nonce, ∀ k ∈ s.supervisorKey, ((u.peer? mac.toNat).map fun p => (p.nonce, p.session)) = some (none, some (hmac256 k (textBytes "SESS" ++ n.1)))) ∧ (u.authRecord mac.toNat).misses = 0 ∧ Cond.answered (.port (.t1s dst mac seq auth)) h 6 s u 0 h.offset.toNat [] = true ∧ Cond.keepsRest s u = true) ∧
  (∀ (mac : BitVec 48) (s : State), Cond.nonceExpiry mac s = true →
    exec (.nonceExpiry mac) s = .next (s.onPeer mac.toNat fun p => { p with nonce := none })) ∧
  (∀ (mac : BitVec 48) (s : State), Cond.challengeLockoutExpiry mac s = true →
    exec (.challengeLockoutExpiry mac) s = .next (s.setAuth mac.toNat { s.authRecord mac.toNat with lockedAt := none }))

/-- Each command answers a next state whenever its condition holds, as follows. SYNC: a response from the Strait with the sequence of the shared commit in
hand gives that commit the twin's answer; of the dictionary nothing else changes; a request to Isle 1 with one of 0x5000.0A to 0x5000.12 puts its
value in force and in the store, and the pair commit sequence rises to the request's; one over MCTP is answered with TIER (05h). RESERVED_OP_FRAME:
the frame is counted as damaged and nothing else changes. COMMIT_PROCESS: the first commit of the queue, whose stage passes every check and holds a
persistent entry and no shared one, is in hand with its records written unmarked, and waits for its marker; its stage is kept, and nothing but the
dictionary changes. COMMIT_SHARED_APPLIED: a commit that the twin has applied and that has persistent entries waits for its marker; nothing else
changes. COMMIT_MARKER_WRITTEN: a commit of one of 0x5000.0A to 0x5000.12 whose marker is written has its value in force and in the store, and no
commit is in hand. DOMAIN_TRANSFER_TIMEOUT: a transfer idle for 60 s is gone; nothing else changes. PEER_IDLE_TIMEOUT: a peer idle for PEER_IDLE is
gone, and the stages of its sessions with it; nothing but the dictionary changes. I3C_BUS_RESET: every MCTP session ends with its stage and the
commits it has queued; nothing but the dictionary changes. MCTP_ENDPOINT_REMOVED: that endpoint's session ends in the same way, and no other. -/
def Obligations.CommitsAndSessions : Prop :=
  (∀ (link : Link) (seq : BitVec 64) (status : BitVec 8) (s : State), Cond.sync seq s = true →
    ∃ u, exec (.sync (.strait link true seq [] [] false status none)) s = .next u ∧ u.dict = { s.dict with current := s.dict.current.map fun c => { c with answer := some status.toNat } } ∧ u = { s with dict := u.dict, twin := u.twin, out := u.out }) ∧
  (∀ (link : Link) (seq : BitVec 64) (status : BitVec 8) (v : SyncVal) (s : State), Cond.syncRequest v s = true →
    ∃ u, exec (.sync (.strait link false seq [v] [] false status none)) s = .next u ∧ u.fval 0 0x5000 v.sub.toNat = ofLe v.value ∧ Tab.find u.dict.store (ekey 0 0x5000 v.sub.toNat) = some (ofLe v.value) ∧ u.dict.pairSeq = max s.dict.pairSeq seq.toNat ∧ u.mem = s.mem) ∧
  (∀ (eid : BitVec 8) (ic : Bool) (check : BitVec 32) (h : HdrIn) (value : List Byte) (s : State), Cond.syncPort eid ic check h value s = true →
    ∃ u, exec (.sync (.port (.mctp eid ic check) h value)) s = .next u ∧ Cond.answered (.port (.mctp eid ic check)) h 7 s u 5 h.offset.toNat [] = true ∧ Cond.keepsRest s u = true) ∧
  (∀ (t1s : Bool) (s : State), Cond.reservedOpFrame s = true →
    exec (.reservedOpFrame t1s) s = .next (s.bump (if t1s then 0x1112 else 0x1111) 2)) ∧
  (∀ (written : Bool) (s : State), Cond.commitProcess written s = true →
    ∃ u, exec (.commitProcess written) s = .next u ∧ u.dict.queue = s.dict.queue.tail ∧ (∀ q ∈ s.dict.queue.head?, u.dict.current = some ⟨q.session, q.reply, (s.stage q.session).vals, 0, (s.stage q.session).domain, .awaitMarker, false, true, none⟩ ∧ u.dict.unmarked = (s.changes (s.stage q.session).vals).map fun c => (c.1, c.value)) ∧ u.dict.stages = s.dict.stages ∧ u = { s with dict := u.dict }) ∧
  (∀ (s : State), Cond.commitSharedApplied s = true →
    ∃ u, exec .commitSharedApplied s = .next u ∧ ∀ c ∈ s.dict.current, u = { s with dict.current := some { c with phase := .awaitMarker } }) ∧
  (∀ (ok : Bool) (s : State), Cond.commitMarkerWritten ok s = true →
    ∃ u, exec (.commitMarkerWritten ok) s = .next u ∧ (∀ c ∈ s.dict.current, ∀ w ∈ c.vals, u.fval 0 0x5000 (keySub w.key) = w.val ∧ Tab.find u.dict.store w.key = some w.val) ∧ u.dict.current = none ∧ u.dict.unmarked = [] ∧ u.mem = s.mem) ∧
  (∀ (n : BitVec 8) (s : State), Cond.domainTransferTimeout n s = true →
    ∃ u, exec (.domainTransferTimeout n) s = .next u ∧ ∀ t ∈ s.dict.transfers[n.toNat]?, u = { s with dict.transfers := s.dict.transfers.filter fun x => x != t }) ∧
  (∀ (mac : BitVec 48) (s : State), Cond.peerIdleTimeout mac s = true →
    ∃ u, exec (.peerIdleTimeout mac) s = .next u ∧ u.dict.peers = s.dict.peers.filter (fun p => p.mac != mac.toNat) ∧ (∀ b : Bool, u.stage (.t1s mac.toNat b) = ⟨.t1s mac.toNat b, [], none⟩) ∧ u.dict.vals = s.dict.vals ∧ u = { s with dict := u.dict }) ∧
  (∀ (s : State), Cond.i3cBusReset s = true →
    ∃ u, exec .i3cBusReset s = .next u ∧ u.dict.mctp = [] ∧ u.dict.stages = s.dict.stages.filter (fun g => !s.dict.mctp.any fun m => g.session == .mctp m.eid) ∧ u.dict.queue = s.dict.queue.filter (fun g => !s.dict.mctp.any fun m => g.session == .mctp m.eid) ∧ u.dict.vals = s.dict.vals ∧ u.dict.peers = s.dict.peers ∧ u = { s with dict := u.dict }) ∧
  (∀ (eid : BitVec 8) (s : State), Cond.mctpEndpointRemoved s = true →
    ∃ u, exec (.mctpEndpointRemoved eid) s = .next u ∧ u.dict.mctp = s.dict.mctp.filter (fun m => m.eid != eid.toNat) ∧ u.dict.stages = s.dict.stages.filter (fun g => g.session != .mctp eid.toNat) ∧ u.dict.queue = s.dict.queue.filter (fun g => g.session != .mctp eid.toNat) ∧ u.dict.vals = s.dict.vals ∧ u.dict.peers = s.dict.peers ∧ u = { s with dict := u.dict })

/-- Each command answers a next state whenever its condition holds, as follows. SQ_TAIL_DOORBELL: a tail below the queue's size, of a function not in
reset, becomes the queue's tail with the present time; nothing else changes. CQ_HEAD_DOORBELL: a head that passes no entry not yet posted becomes the
queue's head; with no entry and no command waiting nothing else changes. CONTROLLER_ENABLE: a controller that is there, online and idle, asked for
what CAP offers, is enabled with its registers as written; its admin queues are made empty with the sizes given; nothing else changes.
CONTROLLER_RESET: with no command in the front end the controller is not enabled and is in reset, its event requests, kept events and queues are gone
and its dictionary stage is empty; its features stand; flash, memory, cores and engines are as they were. CONTROLLER_RESET_DONE: once no command of
the function is left, its controller is neither enabled, ready, fatal nor in reset; CC but for EN, the admin queue addresses, its resources and
whether it is online stand; no other controller changes. CREATE_IO_CQ: an identifier and a vector within the function's counts make an empty
completion queue, and the command completes successfully. CREATE_IO_SQ: likewise an empty submission queue of an existing completion queue, class 0
only where URGENT_OK is set. DELETE_IO_SQ: a queue with no command left is gone and the deletion completes. DELETE_IO_CQ: a completion queue that no
submission queue uses is gone and the deletion completes. -/
def Obligations.DoorbellsAndQueues : Prop :=
  (∀ (fn : BitVec 8) (q : BitVec 16) (tail : BitVec 16) (s : State), Cond.sqTailDoorbell fn q tail s = true →
    ∃ u, exec (.sqTailDoorbell fn q tail) s = .next u ∧ ∀ x ∈ s.sq? fn.toNat q.toNat, u = s.putSq fn.toNat q.toNat { x with tail := tail.toNat, bellAt := s.pkg.timebase }) ∧
  (∀ (fn : BitVec 8) (q : BitVec 16) (head : BitVec 16) (s : State), Cond.cqHeadDoorbell fn q head s = true →
    ∃ u, exec (.cqHeadDoorbell fn q head) s = .next u ∧ ∀ x ∈ s.cq? fn.toNat q.toNat, u = s.putCq fn.toNat q.toNat { x with head := head.toNat }) ∧
  (∀ (fn : BitVec 8) (asqs : BitVec 12) (acqs : BitVec 12) (asq : BitVec 64) (acq : BitVec 64) (cc : BitVec 32) (s : State), Cond.controllerEnable fn cc s = true →
    ∃ u, exec (.controllerEnable fn asqs acqs asq acq cc) s = .next u ∧ u.ctrl fn.toNat = { s.ctrl fn.toNat with enabled := true, wrr := bits cc.toNat 11 3 == 1, cc := cc.toNat / 2 * 2 + 1, asq := asq.toNat, acq := acq.toNat, aqaSq := asqs.toNat + 1, aqaCq := acqs.toNat + 1, keepAliveAt := s.pkg.timebase } ∧ u.sq? fn.toNat 0 = some ⟨asqs.toNat + 1, 0, 0, 0, 1, s.pkg.timebase, none⟩ ∧ u.cq? fn.toNat 0 = some ⟨acqs.toNat + 1, 0, true, 0, 0, true⟩ ∧ (∀ m : Nat, m ≠ fn.toNat → u.ctrl m = s.ctrl m) ∧ u = { s with nvme := { s.nvme with ctrls := u.nvme.ctrls, sqs := u.nvme.sqs, cqs := u.nvme.cqs } }) ∧
  (∀ (fn : BitVec 8) (s : State), Cond.controllerReset fn s = true →
    ∃ u, exec (.controllerReset fn) s = .next u ∧ (let c := u.ctrl fn.toNat; c.enabled = false ∧ c.resetting = true ∧ c.aers = [] ∧ c.events = [] ∧ c.coalesced = [] ∧ c.features = (s.ctrl fn.toNat).features) ∧ (∀ q : BitVec 16, u.sq? fn.toNat q.toNat = none ∧ u.cq? fn.toNat q.toNat = none) ∧ u.stage (.nvme fn.toNat) = ⟨.nvme fn.toNat, [], none⟩ ∧ u = { s with nvme := u.nvme, dict := u.dict, sched := u.sched, twin := u.twin, out := u.out }) ∧
  (∀ (fn : BitVec 8) (s : State), Cond.controllerResetDone fn s = true →
    ∃ u, exec (.controllerResetDone fn) s = .next u ∧ (let c := u.ctrl fn.toNat; c.resetting = false ∧ c.enabled = false ∧ c.ready = false ∧ c.cfs = false ∧ c.aers = [] ∧ c.cc = (s.ctrl fn.toNat).cc / 2 * 2 ∧ c.asq = (s.ctrl fn.toNat).asq ∧ c.acq = (s.ctrl fn.toNat).acq ∧ c.vq = (s.ctrl fn.toNat).vq ∧ c.vi = (s.ctrl fn.toNat).vi ∧ c.online = (s.ctrl fn.toNat).online) ∧ (∀ m : Nat, m ≠ fn.toNat → u.ctrl m = s.ctrl m) ∧ u = { s with nvme := { s.nvme with ctrls := u.nvme.ctrls, namespaces := u.nvme.namespaces } }) ∧
  (∀ (q : Sqe) (id : BitVec 16) (size : BitVec 16) (vector : BitVec 16) (pc : Bool) (ien : Bool) (s : State), Cond.createIoCq q id size vector pc s = true →
    ∃ u, exec (.createIoCq q id size vector pc ien) s = .next u ∧ u.cq? q.fn.toNat id.toNat = some ⟨size.toNat + 1, 0, true, 0, vector.toNat, ien⟩ ∧ Cond.completed s u q 0 0 = true ∧ Cond.keepsRest s u = true) ∧
  (∀ (q : Sqe) (id : BitVec 16) (size : BitVec 16) (cq : BitVec 16) (prio : BitVec 2) (pc : Bool) (s : State), Cond.createIoSq q id size cq prio pc s = true →
    ∃ u, exec (.createIoSq q id size cq prio pc) s = .next u ∧ u.sq? q.fn.toNat id.toNat = some ⟨size.toNat + 1, 0, 0, cq.toNat, prio.toNat, s.pkg.timebase, none⟩ ∧ Cond.completed s u q 0 0 = true ∧ Cond.keepsRest s u = true) ∧
  (∀ (q : Sqe) (id : BitVec 16) (s : State), Cond.deleteIoSq q id s = true →
    ∃ u, exec (.deleteIoSq q id) s = .next u ∧ u.sq? q.fn.toNat id.toNat = none ∧ Cond.completed s u q 0 0 = true ∧ Cond.keepsRest s u = true) ∧
  (∀ (q : Sqe) (id : BitVec 16) (s : State), Cond.deleteIoCq q id s = true →
    ∃ u, exec (.deleteIoCq q id) s = .next u ∧ u.cq? q.fn.toNat id.toNat = none ∧ Cond.completed s u q 0 0 = true ∧ Cond.keepsRest s u = true)

/-- Each command answers a next state whenever its condition holds, as follows. POISONED_TLP_RECEIVED: poisoned data of a command that is still to be
fetched is counted twice, as poison and as a corrected error, and the command completes with Data Transfer Error; in an entry or a list it is counted
as a failed read; of a function that is not enabled nothing follows. HOST_READ_FAILED: a failed read of host memory is counted; of a submission entry
it sets CSTS.CFS with cause 1, of a list or of data, for a command still to be fetched, that command completes with Data Transfer Error; an entry that
hub SRAM has lost sets CSTS.CFS with cause 3. RANGE_LOCK_ADMIT: a command that waits alone, needs no data, whose conflict is gone and whose completion
no one awaits is admitted and ends. FETCH_ENGINE_RESUME: a fetch engine none of whose commands is short of entries is no longer stopped; nothing else
changes. CLASS0_TOKEN_REFILL: the package's bucket gains a token up to its cap; nothing else changes. SHARE_TOKEN_REFILL: the function's bucket gains
a token up to its cap; nothing else changes. STRIPE_MODE_CHANGE: once the programs posted before the commit of B have finished, the mode in force
follows B, and program input yields exactly in strict mode; nothing else changes. AGGREGATION_TIME_EXPIRY: with the aggregation time over, one MSI-X
message goes for each vector that holds one, where none is masked; nothing else changes. INVALID_COMMAND_OPCODE: a command whose opcode is none
completes with Invalid Command Opcode. DOE_DISCOVERY: DOE Discovery is answered on the mailbox with the protocol of its index; nothing else changes. -/
def Obligations.FrontEndErrorsAndBudgets : Prop :=
  (∀ (q : Sqe) (what : HostRead) (s : State), Cond.poisonedTlpReceived q what s = true →
    ∃ u, exec (.poisonedTlpReceived q what) s = .next u ∧ u.val 0x3000 7 = (s.bump 0x3000 7).val 0x3000 7 ∧ u.val 0x3000 5 = (s.bump 0x3000 5).val 0x3000 5 ∧ Cond.completed s u q (sc 0 0x04) 0 = true ∧ Cond.keepsRest s u = true) ∧
  (∀ (q : Sqe) (what : HostRead) (s : State), Cond.poisonedTlpReceivedList q what s = true →
    ∃ u, exec (.poisonedTlpReceived q what) s = .next u ∧ u.val 0x3000 8 = (s.bump 0x3000 8).val 0x3000 8 ∧ u.val 0x3000 6 = (s.bump 0x3000 6).val 0x3000 6 ∧ Cond.keepsRest s u = true) ∧
  (∀ (q : Sqe) (what : HostRead) (why : ReadFault) (s : State), Cond.hostReadFailed q what why s = true →
    ∃ u, exec (.hostReadFailed q what why) s = .next u ∧ u.val 0x3000 8 = (s.bump 0x3000 8).val 0x3000 8 ∧ u.val 0x3000 6 = (s.bump 0x3000 6).val 0x3000 6 ∧ (what = .entry → (u.ctrl q.fn.toNat).cfs = true ∧ u.fval q.fn.toNat 0x4020 8 = 1) ∧ (what ≠ .entry → Cond.completed s u q (sc 0 0x04) 0 = true) ∧ Cond.keepsRest s u = true) ∧
  (∀ (q : Sqe) (what : HostRead) (why : ReadFault) (s : State), Cond.hostReadFailedSram q what why s = true →
    ∃ u, exec (.hostReadFailed q what why) s = .next u ∧ (u.ctrl q.fn.toNat).cfs = true ∧ u.fval q.fn.toNat 0x4020 8 = 3 ∧ u.mem = s.mem ∧ u.flash = s.flash) ∧
  (∀ (s : State), Cond.rangeLockAdmit s = true →
    ∃ u, exec .rangeLockAdmit s = .next u ∧ u.nvme.cmds = [] ∧ u.out = s.out ∧ u.mem = s.mem ∧ u.dict = s.dict) ∧
  (∀ (e : Fin 16) (s : State), Cond.fetchEngineResume e s = true →
    ∃ u, exec (.fetchEngineResume e) s = .next u ∧ (∀ k : Fin 16, u.nvme.stalledEngines.getLsbD k.val = (s.nvme.stalledEngines.getLsbD k.val && k.val != e.val)) ∧ u = { s with nvme.stalledEngines := u.nvme.stalledEngines }) ∧
  (∀ (s : State), exec .class0TokenRefill s = .next ({ s with nvme.packageTokens := min (bucketCap (s.val 0x3040 2)) (s.nvme.packageTokens + 1) })) ∧
  (∀ (fn : BitVec 8) (s : State), exec (.shareTokenRefill fn) s = .next (s.setCtrl fn.toNat { s.ctrl fn.toNat with tokens := min (bucketCap (s.fval fn.toNat 0x4010 9)) ((s.ctrl fn.toNat).tokens + 1) })) ∧
  (∀ (s : State), Cond.stripeModeChange s = true →
    ∃ u, exec .stripeModeChange s = .next u ∧ u.nvme = { s.nvme with modeOpen := decide (3 ≤ s.val 0x3040 5), modeB := s.val 0x3040 5, modeWait := [] } ∧ (∀ c : Fin 32, u.port c.val = { s.port c.val with inputYield := s.val 0x3040 5 == 2 }) ∧ u = { s with nvme := u.nvme, media := { s.media with ports := u.media.ports } }) ∧
  (∀ (fn : BitVec 8) (s : State), Cond.aggregationTimeExpiry fn s = true →
    ∃ u, exec (.aggregationTimeExpiry fn) s = .next u ∧ u.out = s.out ++ (Tab.keys (s.ctrl fn.toNat).coalesced).map (fun v => .msix fn.toNat v false) ∧ u.ctrl fn.toNat = { s.ctrl fn.toNat with coalesced := [] } ∧ u = { s with out := u.out, nvme := { s.nvme with ctrls := u.nvme.ctrls } }) ∧
  (∀ (q : Sqe) (s : State), Cond.invalidCommandOpcode q s = true →
    ∃ u, exec (.invalidCommandOpcode q) s = .next u ∧ Cond.completed s u q (sc 0 0x01) 0 = true ∧ u.nvme.cmds = s.nvme.cmds ∧ Cond.keepsRest s u = true) ∧
  (∀ (index : BitVec 8) (s : State), ∃ u, exec (.doeDiscovery index) s = .next u ∧ (let b : List Byte := if index = 0 then [1, 0, 0, 0, 3, 0, 0, 0, 1, 0, 0, 1] else if index = 1 then [1, 0, 0, 0, 3, 0, 0, 0, 1, 0, 1, 0] else [1, 0, 0, 0, 3, 0, 0, 0, 0xFF, 0xFF, 0, 0]; u = { s with nvme.doeOut := b, out := s.out ++ [.doe b] }))

/-- For a command that an engine may fetch, with room for its completion and no sanitize operation running, each answers a next state as follows. In all
of them nothing but the front end, the dictionary, the events, the Strait and what is sent changes. GET_LOG_PAGE: the bytes asked for of a page of
R124 go to the data pointer; with Retain Asynchronous Event clear the page's event types are unmasked and a Changed Namespace List empties, else
neither changes. IDENTIFY: the structure of a CNS value goes to the data pointer, and the command completes. ABORT: completes with bit 0 of DW0 set,
and every command is as it was. SET_FEATURES: a feature of the controller that has a value of its own takes the fields of Dword 11, and with Save they
are saved; the Timestamp and the Host Identifier take their data, Keep Alive is rounded up to 100 ms, and Number of Queues is answered with the counts
granted; on a namespace attached to the controller, Persist Through Power Loss and the reservation notification mask take their bits. GET_FEATURES:
answers in DW0 with the current, default or saved value or the capabilities, by Select, and changes no feature. ASYNCHRONOUS_EVENT_REQUEST: with fewer
than 16 outstanding and no event kept, the request is held behind the others. KEEP_ALIVE: restarts the timer and completes. KEEP_ALIVE_EXPIRY: a Keep
Alive timer that has run out sets CSTS.CFS with cause 2, counted. -/
def Obligations.AdminReportsAndFeatures : Prop :=
  (∀ (q : Sqe) (lid : BitVec 8) (nsid : BitVec 32) (offset : BitVec 64) (numd : BitVec 32) (rae : Bool) (rgo : Bool) (w : Walk) (s : State), Cond.getLogPage q lid nsid offset numd rgo w s = true →
    ∃ u, exec (.getLogPage q lid nsid offset numd rae rgo w) s = .next u ∧ (∀ p ∈ (s.logPage q.fn.toNat lid.toNat nsid.toNat rgo).1, (p.drop offset.toNat).take (4 * (numd.toNat + 1)) ≠ [] → Cond.landed s u q w ((p.drop offset.toNat).take (4 * (numd.toNat + 1))) = true) ∧ Cond.completed s u q 0 0 = true ∧ (rae = false → lid = 4 → u.nvme.changedNs = []) ∧ (rae = true → u.nvme.changedNs = s.nvme.changedNs ∧ (u.ctrl q.fn.toNat).masked = (s.ctrl q.fn.toNat).masked) ∧ (rae = false → (u.ctrl q.fn.toNat).masked = (s.ctrl q.fn.toNat).masked.filter fun m => m % 256 != lid.toNat) ∧ Cond.keepsRest s u = true) ∧
  (∀ (q : Sqe) (cns : BitVec 8) (nsid : BitVec 32) (cntid : BitVec 16) (csi : BitVec 8) (w : Walk) (s : State), Cond.identify q cns nsid cntid csi w s = true →
    ∃ u, exec (.identify q cns nsid cntid csi w) s = .next u ∧ (∀ p ∈ (s.identifyData q.fn.toNat cns.toNat nsid.toNat cntid.toNat csi.toNat).getLeft?, Cond.landed s u q w (p.1.take 4096) = true) ∧ Cond.completed s u q 0 0 = true ∧ u.nvme.namespaces = s.nvme.namespaces ∧ Cond.keepsRest s u = true) ∧
  (∀ (q : Sqe) (s : State), Cond.abort q s = true →
    ∃ u, exec (.abort q) s = .next u ∧ Cond.completed s u q 0 1 = true ∧ u.nvme.cmds = s.nvme.cmds ∧ Cond.keepsRest s u = true) ∧
  (∀ (q : Sqe) (fid : BitVec 8) (nsid : BitVec 32) (dw11 : BitVec 32) (data : BitVec 256) (sv : Bool) (w : Walk) (s : State), Cond.setFeatures q fid dw11 sv s = true →
    ∃ u, exec (.setFeatures q fid nsid dw11 data sv w) s = .next u ∧ Tab.find (u.ctrl q.fn.toNat).features (featureKey2 fid.toNat dw11.toNat nsid.toNat) = some (featureValue fid.toNat dw11.toNat 0) ∧ (sv = true → Tab.find u.nvme.saved (savedKey q.fn.toNat (featureKey2 fid.toNat dw11.toNat 0)) = some (featureValue fid.toNat dw11.toNat 0)) ∧ Cond.completed s u q 0 0 = true ∧ Cond.keepsRest s u = true) ∧
  (∀ (q : Sqe) (fid : BitVec 8) (nsid : BitVec 32) (dw11 : BitVec 32) (data : BitVec 256) (sv : Bool) (w : Walk) (s : State), Cond.setFeaturesOther q fid dw11 sv w s = true →
    ∃ u, exec (.setFeatures q fid nsid dw11 data sv w) s = .next u ∧ (fid = 0x0E → Tab.find (u.ctrl q.fn.toNat).features 0x0E = some (data.toNat % 2 ^ 48)) ∧ (fid = 0x0F → (u.ctrl q.fn.toNat).keepAliveMs = ceilDiv dw11.toNat 100 * 100) ∧
      (fid = 0x81 → u.hostId q.fn.toNat = data.toNat % 2 ^ 128) ∧ Cond.completed s u q 0 (if fid = 7 then (s.ctrl q.fn.toNat).grant dw11.toNat else 0) = true ∧ Cond.keepsRest s u = true) ∧
  (∀ (q : Sqe) (fid : BitVec 8) (nsid : BitVec 32) (dw11 : BitVec 32) (data : BitVec 256) (sv : Bool) (w : Walk) (s : State), Cond.setFeaturesNs q fid nsid sv w s = true →
    ∃ u, exec (.setFeatures q fid nsid dw11 data sv w) s = .next u ∧ (fid = 0x83 → (u.namespace? nsid.toNat).map (fun n => n.ptpl) = some (bit dw11.toNat 0)) ∧ (fid = 0x82 → Tab.find (u.ctrl q.fn.toNat).features (0x100000 + nsid.toNat) = some (dw11.toNat &&& 0xE)) ∧ Cond.completed s u q 0 0 = true ∧ Cond.keepsRest s u = true) ∧
  (∀ (q : Sqe) (fid : BitVec 8) (nsid : BitVec 32) (dw11 : BitVec 32) (sel : BitVec 3) (w : Walk) (s : State), Cond.getFeatures q fid dw11 sel s = true →
    ∃ u, exec (.getFeatures q fid nsid dw11 sel w) s = .next u ∧ Cond.completed s u q 0 ((if sel = 0 then (s.ctrl q.fn.toNat).feature (featureKey2 fid.toNat dw11.toNat nsid.toNat) else if sel = 1 then featureDefault (featureKey2 fid.toNat dw11.toNat nsid.toNat) else if sel = 2 then Tab.get s.nvme.saved (featureDefault (featureKey2 fid.toNat dw11.toNat nsid.toNat)) (savedKey q.fn.toNat (featureKey2 fid.toNat dw11.toNat 0)) else b2n (saveable.contains fid.toNat) + 4) % 2 ^ 32) = true ∧ (u.ctrl q.fn.toNat).features = (s.ctrl q.fn.toNat).features ∧ Cond.keepsRest s u = true) ∧
  (∀ (q : Sqe) (s : State), Cond.asynchronousEventRequest q s = true →
    ∃ u, exec (.asynchronousEventRequest q) s = .next u ∧ (u.ctrl q.fn.toNat).aers = (s.ctrl q.fn.toNat).aers ++ [q.cid.toNat] ∧ Cond.keepsRest s u = true) ∧
  (∀ (q : Sqe) (s : State), Cond.keepAlive q s = true →
    ∃ u, exec (.keepAlive q) s = .next u ∧ (u.ctrl q.fn.toNat).keepAliveAt = s.pkg.timebase ∧ Cond.completed s u q 0 0 = true ∧ Cond.keepsRest s u = true) ∧
  (∀ (fn : BitVec 8) (s : State), Cond.keepAliveExpiry fn s = true →
    ∃ u, exec (.keepAliveExpiry fn) s = .next u ∧ (u.ctrl fn.toNat).cfs = true ∧ u.fval fn.toNat 0x4020 8 = 2 ∧ u.val 0x4000 3 = (s.bump 0x4000 3).val 0x4000 3 ∧ Cond.keepsRest s u = true)

/-- For a command that an engine may fetch, with room for its completion and no sanitize operation running, each answers a next state as follows.
NAMESPACE_CREATE: a namespace within the capacity has the lowest free identifier, which DW0 gives, with the size, format, protection and group asked
for, attached to no controller. NAMESPACE_DELETE: the namespace is gone, and the command completes. NAMESPACE_ATTACH: the controllers are attached to
the namespace, which is otherwise as it was. NAMESPACE_DETACH: they are detached from it in the same way. FORMAT_NVM: the namespace takes the format,
and with SES 1 or 2 a new data key. FIRMWARE_IMAGE_DOWNLOAD: the part of the image is held at its offset; nothing else of the code store changes.
FIRMWARE_COMMIT_WRITE: an image that does not verify is given up with Invalid Firmware Image; one that does is written to the slot as far as the steps
of R249 succeed, completing successfully where they all do. FIRMWARE_COMMIT_WRITE_SELECT: the same with the SELECT marker as the last step.
FIRMWARE_COMMIT_SELECT: action 010b adds a SELECT marker for a valid slot; an action that is none of the three completes with Invalid Field in
Command. -/
def Obligations.NamespacesAndFirmware : Prop :=
  (∀ (q : Sqe) (nsze : BitVec 64) (ncap : BitVec 64) (lbaf : BitVec 4) (dps : BitVec 8) (group : BitVec 32) (guard64 : Bool) (extended : Bool) (shared : Bool) (w : Walk) (s : State), Cond.namespaceCreate q nsze ncap lbaf dps group guard64 shared w s = true →
    ∃ u, exec (.namespaceCreate q nsze ncap lbaf dps group guard64 extended shared w) s = .next u ∧ (∀ k ∈ (List.range 1020).find? (fun k => (s.namespace? (k + 1)).isNone), (u.namespace? (k + 1)).map (fun n => (n.nsid, n.lbas, n.lbaf, n.dps, some n.group, n.attached)) = some (k + 1, nsze.toNat, lbaf.toNat, dps.toNat, s.groupOf group.toNat, []) ∧ (u.namespace? (k + 1)).map (fun n => (n.guard64, n.extended)) = some (guard64, extended) ∧ Cond.completed s u q 0 (k + 1) = true) ∧ u.mem = s.mem ∧ u.flash = s.flash) ∧
  (∀ (q : Sqe) (nsid : BitVec 32) (s : State), Cond.namespaceDelete q nsid s = true →
    ∃ u, exec (.namespaceDelete q nsid) s = .next u ∧ u.namespace? nsid.toNat = none ∧ Cond.completed s u q 0 0 = true) ∧
  (∀ (q : Sqe) (nsid : BitVec 32) (ctrls : List (BitVec 16)) (w : Walk) (s : State), Cond.namespaceAttach q nsid ctrls w s = true →
    ∃ u, exec (.namespaceAttach q nsid ctrls w) s = .next u ∧ (u.namespace? nsid.toNat) = (s.namespace? nsid.toNat).map (fun n => { n with attached := n.attached ++ ctrls.map fun c => c.toNat }) ∧ Cond.completed s u q 0 0 = true ∧ Cond.keepsRest s u = true) ∧
  (∀ (q : Sqe) (nsid : BitVec 32) (ctrls : List (BitVec 16)) (w : Walk) (s : State), Cond.namespaceDetach q nsid ctrls w s = true →
    ∃ u, exec (.namespaceDetach q nsid ctrls w) s = .next u ∧ (u.namespace? nsid.toNat) = (s.namespace? nsid.toNat).map (fun n => { n with attached := n.attached.filter fun c => !ctrls.any fun k => k.toNat == c }) ∧ Cond.completed s u q 0 0 = true ∧ Cond.keepsRest s u = true) ∧
  (∀ (q : Sqe) (nsid : BitVec 32) (lbaf : BitVec 4) (dps : BitVec 8) (ses : BitVec 3) (guard64 : Bool) (extended : Bool) (s : State), Cond.formatNvm q nsid lbaf dps ses guard64 s = true →
    ∃ u, exec (.formatNvm q nsid lbaf dps ses guard64 extended) s = .next u ∧ (u.namespace? nsid.toNat).map (fun n => (n.lbaf, n.dps, n.guard64, n.extended)) = some (lbaf.toNat, dps.toNat, guard64, extended) ∧ (ses = 0 → (u.namespace? nsid.toNat).map (fun n => n.keyGen) = (s.namespace? nsid.toNat).map (fun n => n.keyGen)) ∧ (ses ≠ 0 → (u.namespace? nsid.toNat).map (fun n => n.keyGen) = some s.nvme.nextKeyGen) ∧ Cond.completed s u q 0 0 = true) ∧
  (∀ (q : Sqe) (offset : BitVec 32) (numd : BitVec 32) (data : List Byte) (w : Walk) (s : State), Cond.firmwareImageDownload q offset numd w s = true →
    ∃ u, exec (.firmwareImageDownload q offset numd data w) s = .next u ∧ (∀ i, i < 4 * (numd.toNat + 1) → Tab.get u.cs.image 0xFF (4 * offset.toNat + i) = ((padTo (4 * (numd.toNat + 1)) data)[i]?).getD 0) ∧ u.cs.imageLen = max s.cs.imageLen (4 * offset.toNat + 4 * (numd.toNat + 1)) ∧ u.cs = { s.cs with image := u.cs.image, imageLen := u.cs.imageLen } ∧ Cond.completed s u q 0 0 = true ∧ u.mem = s.mem) ∧
  (∀ (q : Sqe) (fs : BitVec 3) (fails : Fin 7) (s : State), Cond.firmwareCommitWrite q fs s = true →
    ∃ u, exec (.firmwareCommitWrite q fs fails) s = .next u ∧ (Config.imageVerifies s.cs.image s.cs.imageLen = false → u.cs = { s.cs with image := [], imageLen := 0 } ∧ Cond.completed s u q (sc 1 0x07) 0 = true) ∧ (Config.imageVerifies s.cs.image s.cs.imageLen = true → ∀ k ∈ s.cs.commitSlot fs.toNat, u.cs = { s.cs.writeSlot k s.cs.image s.cs.imageLen fails.val false with image := [], imageLen := 0 } ∧ Cond.completed s u q (if fails.val = 0 ∨ fails.val = 6 then 0 else sc 1 0x07) 0 = true) ∧ u.mem = s.mem) ∧
  (∀ (q : Sqe) (fs : BitVec 3) (fails : Fin 7) (s : State), Cond.firmwareCommitWriteSelect q fs s = true →
    ∃ u, exec (.firmwareCommitWriteSelect q fs fails) s = .next u ∧ (Config.imageVerifies s.cs.image s.cs.imageLen = false → u.cs = { s.cs with image := [], imageLen := 0 } ∧ Cond.completed s u q (sc 1 0x07) 0 = true) ∧ (Config.imageVerifies s.cs.image s.cs.imageLen = true → ∀ k ∈ s.cs.commitSlot fs.toNat, u.cs = { s.cs.writeSlot k s.cs.image s.cs.imageLen fails.val true with image := [], imageLen := 0 } ∧ Cond.completed s u q (if fails.val = 0 then 0 else sc 1 0x07) 0 = true) ∧ u.mem = s.mem) ∧
  (∀ (q : Sqe) (fs : BitVec 3) (action : BitVec 3) (fails : Bool) (s : State), Cond.firmwareCommitSelect q fs action fails s = true →
    ∃ u, exec (.firmwareCommitSelect q fs action fails) s = .next u ∧ (∀ k ∈ s.cs.commitSlot fs.toNat, u.cs = s.cs.addMarker 3 k 0 []) ∧ Cond.completed s u q 0 0 = true ∧ u.mem = s.mem) ∧
  (∀ (q : Sqe) (fs : BitVec 3) (action : BitVec 3) (fails : Bool) (s : State), Cond.firmwareCommitSelectBad q action s = true →
    ∃ u, exec (.firmwareCommitSelect q fs action fails) s = .next u ∧ u.cs = s.cs ∧ Cond.completed s u q (sc 0 0x02) 0 = true ∧ u.mem = s.mem)

/-- Each command answers a next state whenever its condition holds, as follows. DEVICE_SELF_TEST_SHORT: with none running, a short test of the controller
begins in segment 1 and the command completes. DEVICE_SELF_TEST_EXTENDED: likewise an extended test. DEVICE_SELF_TEST_ABORT: with code Fh no test
runs, and one that ran is first in the log with result 1; a code that is none of 1h, 2h and Fh completes with Invalid Field in Command.
SELFTEST_STEP_START: a step with no host work about for 100 µs: a failure, or code that does not hold its digest at the end of segment 3, ends the
test with result 7 and its segment; segment 5 is skipped and passes where the package is single; the last step of a segment leads to the next, of the
last segment to result 0; after another step the test goes on as it was. But for segment 6, whose pages read by die parity are set to be refreshed,
nothing but the front end changes; a step that may not start is deferred, and counted. SELFTEST_TIMEOUT: after 10 minutes of a short test, 1,440 of an
extended one, it ends with result 8, first in a log of 20. PRIMARY_FLEXIBLE_ALLOCATION: from the PF completes with Invalid Field in Command.
SECONDARY_CONTROLLER_ASSIGN: within the pool and the VF's 2,048, or of what the VF has and does not use, the queues or the vectors are added or taken
away, and DW0 gives their number. SECONDARY_CONTROLLER_ONLINE: a VF with queues and vectors, not being scrubbed or reset, is online.
SECONDARY_CONTROLLER_OFFLINE: a VF whose controller is not enabled is offline with no queue left, and its resources stay; one whose controller is
enabled is first reset: its reset begins, its queues are gone, and the command waits for the end of the reset. -/
def Obligations.SelfTestsAndFunctions : Prop :=
  (∀ (q : Sqe) (s : State), Cond.deviceSelfTestShort q s = true →
    ∃ u, exec (.deviceSelfTestShort q) s = .next u ∧ u.nvme.selfTest = some ⟨false, q.fn.toNat, 1, s.pkg.timebase⟩ ∧ Cond.completed s u q 0 0 = true ∧ Cond.keepsRest s u = true) ∧
  (∀ (q : Sqe) (s : State), Cond.deviceSelfTestExtended q s = true →
    ∃ u, exec (.deviceSelfTestExtended q) s = .next u ∧ u.nvme.selfTest = some ⟨true, q.fn.toNat, 1, s.pkg.timebase⟩ ∧ Cond.completed s u q 0 0 = true ∧ Cond.keepsRest s u = true) ∧
  (∀ (q : Sqe) (stc : BitVec 4) (s : State), Cond.deviceSelfTestAbort q stc s = true →
    ∃ u, exec (.deviceSelfTestAbort q stc) s = .next u ∧ u.nvme.selfTest = none ∧ (∀ t ∈ s.nvme.selfTest, u.nvme.selfTestLog.head? = some (if t.extended then 0x21 else 0x11, t.segment)) ∧ Cond.completed s u q 0 0 = true ∧ Cond.keepsRest s u = true) ∧
  (∀ (q : Sqe) (stc : BitVec 4) (s : State), Cond.deviceSelfTestAbortBad q stc s = true →
    ∃ u, exec (.deviceSelfTestAbort q stc) s = .next u ∧ u.nvme.selfTest = s.nvme.selfTest ∧ u.nvme.selfTestLog = s.nvme.selfTestLog ∧ Cond.completed s u q (sc 0 0x02) 0 = true ∧ Cond.keepsRest s u = true) ∧
  (∀ (region : Option (Fin 4)) (last : Bool) (fails : Bool) (refreshed : List (Fin 32 × Fin 32 × BitVec 16)) (s : State), Cond.selftestStepStart region s = true →
    ∃ u, exec (.selftestStepStart region last fails refreshed) s = .next u ∧ ∀ t ∈ s.nvme.selfTest, (let skip := t.segment == 5 && !s.isTwin; let bad := (fails || (t.segment == 3 && last && !s.codeDigestsHold)) && !skip; let lastSegment := decide ((if t.extended then 6 else 5) ≤ t.segment); (bad = true → u.nvme.selfTest = none ∧ u.nvme.selfTestLog.head? = some (7 + 16 * (if t.extended then 2 else 1), t.segment)) ∧ (bad = false → (last || skip) = true → lastSegment = true → u.nvme.selfTest = none ∧ u.nvme.selfTestLog.head? = some (16 * (if t.extended then 2 else 1), t.segment)) ∧ (bad = false → (last || skip) = true → lastSegment = false → u.nvme.selfTest = some { t with segment := t.segment + 1 } ∧ u.nvme.selfTestLog = s.nvme.selfTestLog) ∧ (bad = false → last = false → skip = false → u.nvme.selfTest = some t ∧ u.nvme.selfTestLog = s.nvme.selfTestLog) ∧ (t.segment ≠ 6 → u = { s with nvme := u.nvme }))) ∧
  (∀ (region : Option (Fin 4)) (last : Bool) (fails : Bool) (refreshed : List (Fin 32 × Fin 32 × BitVec 16)) (s : State), Cond.selftestStepStartDeferred region s = true →
    ∃ u, exec (.selftestStepStart region last fails refreshed) s = .next u ∧ u.val 0x3040 0x0B = (s.bump 0x3040 0x0B).val 0x3040 0x0B ∧ u.nvme = s.nvme ∧ Cond.keepsRest s u = true) ∧
  (∀ (s : State), Cond.selftestTimeout s = true →
    ∃ u, exec .selftestTimeout s = .next u ∧ ∀ t ∈ s.nvme.selfTest, u = { s with nvme.selfTest := none, nvme.selfTestLog := ((8 + 16 * (if t.extended then 2 else 1), t.segment) :: s.nvme.selfTestLog).take 20 }) ∧
  (∀ (q : Sqe) (s : State), Cond.primaryFlexibleAllocation q s = true →
    ∃ u, exec (.primaryFlexibleAllocation q) s = .next u ∧ Cond.completed s u q (sc 0 0x02) 0 = true ∧ Cond.keepsRest s u = true) ∧
  (∀ (q : Sqe) (cntlid : BitVec 16) (nr : BitVec 16) (vi : Bool) (remove : Bool) (s : State), Cond.secondaryControllerAssign q cntlid nr vi remove s = true →
    ∃ u, exec (.secondaryControllerAssign q cntlid nr vi remove) s = .next u ∧ ∀ n ∈ s.vfOf cntlid.toNat, (let c := s.ctrl n; (u.ctrl n).vq = (if vi then c.vq else if remove then c.vq - nr.toNat else c.vq + nr.toNat) ∧ (u.ctrl n).vi = (if vi then (if remove then c.vi - nr.toNat else c.vi + nr.toNat) else c.vi)) ∧ Cond.completed s u q 0 nr.toNat = true ∧ Cond.keepsRest s u = true) ∧
  (∀ (q : Sqe) (cntlid : BitVec 16) (s : State), Cond.secondaryControllerOnline q cntlid s = true →
    ∃ u, exec (.secondaryControllerOnline q cntlid) s = .next u ∧ ∀ n ∈ s.vfOf cntlid.toNat, u.ctrl n = { s.ctrl n with online := true } ∧ Cond.completed s u q 0 0 = true ∧ Cond.keepsRest s u = true) ∧
  (∀ (q : Sqe) (cntlid : BitVec 16) (s : State), Cond.secondaryControllerOffline q cntlid s = true →
    ∃ u, exec (.secondaryControllerOffline q cntlid) s = .next u ∧ ∀ n ∈ s.vfOf cntlid.toNat, u.ctrl n = { s.ctrl n with online := false } ∧ (∀ k : BitVec 16, u.sq? n k.toNat = none) ∧ Cond.completed s u q 0 0 = true ∧ Cond.keepsRest s u = true) ∧
  (∀ (q : Sqe) (cntlid : BitVec 16) (s : State), Cond.secondaryControllerOfflineEnabled q cntlid s = true →
    ∃ u, exec (.secondaryControllerOffline q cntlid) s = .next u ∧ ∀ n ∈ s.vfOf cntlid.toNat, (u.ctrl n).flr = some s.pkg.timebase ∧ (u.ctrl n).offlineCids = (s.ctrl n).offlineCids ++ [q.cid.toNat] ∧ (u.ctrl n).vq = (s.ctrl n).vq ∧ (u.ctrl n).vi = (s.ctrl n).vi ∧ (∀ k : BitVec 16, u.sq? n k.toNat = none))

/-- Each command answers a next state whenever its condition holds, as follows. An SPDM response goes out as a DOE object on the mailbox the request came
by, or else is held for Security Receive; a request that its stage does not admit has the error the stage gives. GET_VERSION: version 1.2 alone is
answered, and the exchange begins again; with SPDM_ENABLE clear error 05h is answered. GET_CAPABILITIES: after a version the capabilities of
certificates, challenges and signed measurements are answered; the eight bytes of sizes are free (log 29); before one error 04h is answered.
NEGOTIATE_ALGORITHMS: after capabilities ECDSA P-384 and SHA-384 are selected where they are offered, and the exchange goes on where both are.
GET_DIGESTS: the digest of the certificate chain of slot 0 is answered. GET_CERTIFICATE: the bytes of that chain from an offset on, with how many
follow, are answered; error 01h for another slot or an offset beyond. SPDM_CHALLENGE: the chain's digest and a fresh nonce are answered, signed with
the requester's nonce. GET_MEASUREMENTS: index 0 gives their number, 3, signed where that is asked; index 1 the boot block's digest, 2 the running
firmware's, 3 that of the committed protection set-up; another index but FFh gives error 01h. SECURITY_SEND: protocol E8h carries an SPDM request,
here for the version, and completes; another protocol completes with Invalid Field in Command. SECURITY_RECEIVE: protocol 0 returns the list of the
two protocols, E8h the response that is held, which is then held no more. SANITIZE_CRYPTO_ERASE: the operation is in progress, on the twin too where
there is one in the pair; no self-test runs; every NVM namespace has a new data key, and the pair and table keys are new. SANITIZE_BLOCK_ERASE: with
action 010b a block erase is in progress in the same way; overwrite, an action there is not, and Exit Failure Mode with a field of overwrite complete
with Invalid Field in Command. SANITIZE_DONE: with every loadable slot empty and no part of the twin's left, the operation ends; a block erase leaves
no page in the data blocks of the channels this Isle owns, a crypto erase the array as it was. -/
def Obligations.SpdmAndSecurity : Prop :=
  (∀ (doe : Bool) (s : State), Cond.spdmGetVersion s = true →
    ∃ u, exec (.spdmGetVersion doe) s = .next u ∧ u.nvme.spdm = .version ∧ Cond.said s u doe [0x10, 0x04, 0, 0, 0, 1, 0, 0x12] = true ∧ Cond.keepsRest s u = true) ∧
  (∀ (doe : Bool) (s : State), Cond.spdmGetVersionOff s = true →
    ∃ u, exec (.spdmGetVersion doe) s = .next u ∧ Cond.said s u doe [0x12, 0x7F, 5, 0] = true ∧ u.nvme.spdm = s.nvme.spdm ∧ Cond.keepsRest s u = true) ∧
  (∀ (doe : Bool) (s : State), Cond.spdmGetCapabilities s = true →
    ∃ u, exec (.spdmGetCapabilities doe) s = .next u ∧ u.nvme.spdm = .capabilities ∧ Cond.said s u doe ([0x12, 0x61, 0, 0, 0, 20, 0, 0, 0x16, 0, 0, 0] ++ padTo 8 (Config.randomBytes s.free 8)) = true ∧ Cond.keepsRest s u = true) ∧
  (∀ (doe : Bool) (s : State), Cond.spdmGetCapabilitiesEarly s = true →
    ∃ u, exec (.spdmGetCapabilities doe) s = .next u ∧ Cond.said s u doe [0x12, 0x7F, 4, 0] = true ∧ u.nvme.spdm = s.nvme.spdm ∧ Cond.keepsRest s u = true) ∧
  (∀ (p384 : Bool) (sha384 : Bool) (doe : Bool) (s : State), Cond.spdmNegotiate s = true →
    ∃ u, exec (.spdmNegotiate p384 sha384 doe) s = .next u ∧ u.nvme.spdm = (if p384 && sha384 then .algorithms else s.nvme.spdm) ∧ Cond.said s u doe ([0x12, 0x63, 0, 0, 36, 0, 1, 0, 4, 0, 0, 0, if p384 then 0x80 else 0, 0, 0, 0, if sha384 then 2 else 0, 0, 0, 0] ++ List.replicate 16 0) = true ∧ Cond.keepsRest s u = true) ∧
  (∀ (doe : Bool) (s : State), Cond.spdmGetDigests s = true →
    ∃ u, exec (.spdmGetDigests doe) s = .next u ∧ Cond.said s u doe ([0x12, 0x01, 0, 1] ++ sha384 Config.certChain) = true ∧ u.nvme.spdm = s.nvme.spdm ∧ Cond.keepsRest s u = true) ∧
  (∀ (slot : BitVec 8) (offset : BitVec 16) (len : BitVec 16) (doe : Bool) (s : State), Cond.spdmGetCertificate s = true →
    ∃ u, exec (.spdmGetCertificate slot offset len doe) s = .next u ∧ (let n := Config.certChain.length; (slot ≠ 0 ∨ n ≤ offset.toNat → Cond.said s u doe [0x12, 0x7F, 1, 0] = true) ∧ (slot = 0 → offset.toNat < n → Cond.said s u doe ([0x12, 0x02, 0, 0] ++ leBytes 2 (min len.toNat (n - offset.toNat)) ++ leBytes 2 (n - offset.toNat - min len.toNat (n - offset.toNat)) ++ (Config.certChain.drop offset.toNat).take len.toNat) = true)) ∧ u.nvme.spdm = s.nvme.spdm ∧ Cond.keepsRest s u = true) ∧
  (∀ (slot : BitVec 8) (nonce : BitVec 256) (doe : Bool) (s : State), Cond.spdmChallenge s = true →
    ∃ u, exec (.spdmChallenge slot nonce doe) s = .next u ∧ (slot ≠ 0 → Cond.said s u doe [0x12, 0x7F, 1, 0] = true) ∧ (slot = 0 → (let m := [0x12, 0x03, 0, 1] ++ sha384 Config.certChain ++ padTo 32 (Config.randomBytes s.free 32) ++ [0, 0]; Cond.said s u doe (m ++ padTo 96 (Config.signature (leBytes 32 nonce.toNat ++ m))) = true)) ∧ u.nvme.spdm = s.nvme.spdm ∧ Cond.keepsRest s u = true) ∧
  (∀ (index : BitVec 8) (signed : Bool) (nonce : BitVec 256) (doe : Bool) (s : State), Cond.spdmGetMeasurements index s = true →
    ∃ u, exec (.spdmGetMeasurements index signed nonce doe) s = .next u ∧ (let m := [0x12, 0x60, 3, 0, 0, 0, 0, 0] ++ padTo 32 (Config.randomBytes s.free 32) ++ [0, 0]; Cond.said s u doe (if signed then m ++ padTo 96 (Config.signature (leBytes 32 nonce.toNat ++ m)) else m) = true) ∧ u.nvme.spdm = s.nvme.spdm ∧ Cond.keepsRest s u = true) ∧
  (∀ (index : BitVec 8) (signed : Bool) (nonce : BitVec 256) (doe : Bool) (s : State), Cond.spdmGetMeasurementsBlock index s = true →
    ∃ u, exec (.spdmGetMeasurements index signed nonce doe) s = .next u ∧ (let d := if index = 1 then sha384 (s.cs.bytes 0 0x40000) else if index = 2 then ((s.cs.lastOf 2 s.cs.runningSlot).map (fun k => k.digest)).getD [] else sha384 s.protectionBytes; let b := measurementBlock index.toNat d; let m := [0x12, 0x60, 0, 0, 1] ++ leBytes 3 b.length ++ b ++ padTo 32 (Config.randomBytes s.free 32) ++ [0, 0]; Cond.said s u doe (if signed then m ++ padTo 96 (Config.signature (leBytes 32 nonce.toNat ++ m)) else m) = true) ∧ u.nvme.spdm = s.nvme.spdm ∧ Cond.keepsRest s u = true) ∧
  (∀ (index : BitVec 8) (signed : Bool) (nonce : BitVec 256) (doe : Bool) (s : State), Cond.spdmGetMeasurementsBad index s = true →
    ∃ u, exec (.spdmGetMeasurements index signed nonce doe) s = .next u ∧ Cond.said s u doe [0x12, 0x7F, 1, 0] = true ∧ u.nvme.spdm = s.nvme.spdm ∧ Cond.keepsRest s u = true) ∧
  (∀ (q : Sqe) (secp : BitVec 8) (len : BitVec 32) (m : SpdmReq) (w : Walk) (s : State), Cond.securitySend q secp len m w s = true →
    ∃ u, exec (.securitySend q secp len m w) s = .next u ∧ u.nvme.spdm = .version ∧ u.nvme.spdmOut = [0x10, 0x04, 0, 0, 0, 1, 0, 0x12] ∧ Cond.completed s u q 0 0 = true ∧ Cond.keepsRest s u = true) ∧
  (∀ (q : Sqe) (secp : BitVec 8) (len : BitVec 32) (m : SpdmReq) (w : Walk) (s : State), Cond.securitySendBad q secp s = true →
    ∃ u, exec (.securitySend q secp len m w) s = .next u ∧ u.nvme.spdm = s.nvme.spdm ∧ u.nvme.spdmOut = s.nvme.spdmOut ∧ Cond.completed s u q (sc 0 0x02) 0 = true ∧ Cond.keepsRest s u = true) ∧
  (∀ (q : Sqe) (secp : BitVec 8) (len : BitVec 32) (w : Walk) (s : State), Cond.securityReceive q secp len w s = true →
    ∃ u, exec (.securityReceive q secp len w) s = .next u ∧ (secp = 0 → Cond.landed s u q w ([0, 0, 0, 0, 0, 0, 0, 2, 0, 0xE8].take len.toNat) = true ∧ u.nvme.spdmOut = s.nvme.spdmOut) ∧ (secp = 0xE8 → Cond.landed s u q w (s.nvme.spdmOut.take len.toNat) = true ∧ u.nvme.spdmOut = []) ∧ Cond.completed s u q 0 0 = true ∧ Cond.keepsRest s u = true) ∧
  (∀ (q : Sqe) (s : State), Cond.sanitizeCryptoErase q s = true →
    ∃ u, exec (.sanitizeCryptoErase q) s = .next u ∧ u.nvme.sanitize = some ⟨false, true, s.isTwin && s.mirrorPartner⟩ ∧ u.nvme.selfTest = none ∧ u.nvme.pairKeyGen = s.nvme.pairKeyGen + 1 ∧ u.nvme.tableKeyGen = s.nvme.tableKeyGen + 1 ∧ (∀ n ∈ s.nvme.namespaces, ∀ m ∈ u.namespace? n.nsid, 1 ≤ n.nsid → n.nsid ≤ 1020 → s.nvme.nextKeyGen ≤ m.keyGen) ∧ Cond.completed s u q 0 0 = true) ∧
  (∀ (q : Sqe) (cdw10 : BitVec 10) (s : State), Cond.sanitizeBlockErase q cdw10 s = true →
    ∃ u, exec (.sanitizeBlockErase q cdw10) s = .next u ∧ u.nvme.sanitize = some ⟨true, true, s.isTwin && s.mirrorPartner⟩ ∧ u.nvme.selfTest = none ∧ Cond.completed s u q 0 0 = true) ∧
  (∀ (q : Sqe) (cdw10 : BitVec 10) (s : State), Cond.sanitizeBlockEraseBad q cdw10 s = true →
    ∃ u, exec (.sanitizeBlockErase q cdw10) s = .next u ∧ u.nvme.sanitize = none ∧ Cond.completed s u q (sc 0 0x02) 0 = true ∧ Cond.keepsRest s u = true) ∧
  (∀ (s : State), Cond.sanitizeDone s = true →
    ∃ u, exec .sanitizeDone s = .next u ∧ ∀ z ∈ s.nvme.sanitize, u.nvme.sanitize = none ∧ u.nvme.sanitizeDone = (if z.block then 2 else 4) ∧ u.sched = s.sched ∧ (z.block = false → u.flash = s.flash ∧ u.mem = s.mem) ∧ (z.block = true → ∀ p ∈ u.flash.pages, u.sanitizePage p.1 = false))

/-- For a command alone in the front end that passes its checks, on a namespace with no protection information that this Isle serves, and that waits for
nothing (no page of flash to read but where one is named, range-lock entries free; for a write also write-back mode, no mirroring and room), each
answers a next state as follows, completing successfully where nothing else is said. FLUSH: of all namespaces or of one attached, in any state of the
front end, completes with no media action. NVM_READ: the stored blocks of its extent, with the metadata that moves with them, go to its data and
metadata pointers; one of classes 1 to 3 with units on flash is admitted and waits for the flash reads posted for it. VERIFY: a readable extent moves
no data. COMPARE: completes with Compare Failure where a block or its metadata differs from what is stored. NVM_WRITE: its extent then reads as the
blocks written, and every unit outside it as before. WRITE_ZEROES: its extent then reads as zeros. DATASET_MANAGEMENT: with the Deallocate attribute
every unit that a range covers whole reads as zeros, without it nothing stored changes; here no unit is dirty. COPY: the destination then reads as its
sources did, one after the other, and every unit outside it as before. -/
def Obligations.NvmReadsAndWrites : Prop :=
  (∀ (q : Sqe) (nsid : BitVec 32) (s : State), Cond.nvmFlush q nsid s = true →
    ∃ u, exec (.nvmFlush q nsid) s = .next u ∧ Cond.completed s u q 0 0 = true ∧ u.nvme.cmds = s.nvme.cmds ∧ Cond.keepsRest s u = true) ∧
  (∀ (q : Sqe) (nsid : BitVec 32) (lba : BitVec 64) (nlb : BitVec 16) (pr : PrInfo) (w : Walk) (s : State), Cond.nvmRead q nsid lba nlb pr w s = true →
    ∃ u, exec (.nvmRead q nsid lba nlb pr w) s = .next u ∧ (∀ n ∈ s.namespace? nsid.toNat, Cond.returned s u q w (n.apart pr) (extentBytes (n.infoMoved pr) (s.readExtent ⟨nsid.toNat, lba.toNat, nlb.toNat + 1⟩).1) = true) ∧ Cond.completed s u q 0 0 = true ∧ u.nvme.cmds = [] ∧ u.mem = s.mem ∧ u.hold.dirty = s.hold.dirty ∧ u.sets = s.sets ∧ u.flash = s.flash) ∧
  (∀ (q : Sqe) (nsid : BitVec 32) (lba : BitVec 64) (nlb : BitVec 16) (pr : PrInfo) (w : Walk) (s : State), Cond.nvmReadFlash q nsid lba nlb pr w s = true →
    ∃ u, exec (.nvmRead q nsid lba nlb pr w) s = .next u ∧ u.nvme.cmds.map (fun c => (c.cid, c.admitted, c.media.isEmpty, c.status)) = [(q.cid.toNat, true, false, 0)] ∧ u.hold.dirty = s.hold.dirty ∧ u.mem = s.mem) ∧
  (∀ (q : Sqe) (nsid : BitVec 32) (lba : BitVec 64) (nlb : BitVec 16) (pr : PrInfo) (s : State), Cond.nvmVerify q nsid lba nlb pr s = true →
    ∃ u, exec (.nvmVerify q nsid lba nlb pr) s = .next u ∧ Cond.completed s u q 0 0 = true ∧ u.nvme.cmds = [] ∧ u.mem = s.mem ∧ u.hold.dirty = s.hold.dirty ∧ u.sets = s.sets ∧ u.flash = s.flash) ∧
  (∀ (q : Sqe) (nsid : BitVec 32) (lba : BitVec 64) (nlb : BitVec 16) (data : List Lba) (pr : PrInfo) (w : Walk) (s : State), Cond.nvmCompare q nsid lba nlb data pr w s = true →
    ∃ u, exec (.nvmCompare q nsid lba nlb data pr w) s = .next u ∧ Cond.completed s u q (if ((s.readExtent ⟨nsid.toNat, lba.toNat, nlb.toNat + 1⟩).1.zip (blocksOf (nlb.toNat + 1) data)).all (fun p => padTo 4096 p.1.data == padTo 4096 p.2.data && padTo 64 p.1.info == padTo 64 p.2.info) then 0 else sc 2 0x85) 0 = true ∧ u.nvme.cmds = [] ∧ u.mem = s.mem ∧ u.hold.dirty = s.hold.dirty ∧ u.sets = s.sets ∧ u.flash = s.flash) ∧
  (∀ (q : Sqe) (nsid : BitVec 32) (lba : BitVec 64) (nlb : BitVec 16) (data : List Lba) (pr : PrInfo) (w : Walk) (s : State), Cond.nvmWrite q nsid lba nlb data pr w s = true →
    ∃ u, exec (.nvmWrite q nsid lba nlb data pr w) s = .next u ∧ (u.readExtent ⟨nsid.toNat, lba.toNat, nlb.toNat + 1⟩).1 = blocksOf (nlb.toNat + 1) data ∧ Cond.completed s u q 0 0 = true ∧ u.nvme.cmds = [] ∧ (∀ m : Nat, ∀ k : Nat, (m ≠ nsid.toNat ∨ k < (⟨nsid.toNat, lba.toNat, nlb.toNat + 1⟩ : Extent).units.1 ∨ (⟨nsid.toNat, lba.toNat, nlb.toNat + 1⟩ : Extent).units.1 + (⟨nsid.toNat, lba.toNat, nlb.toNat + 1⟩ : Extent).units.2 ≤ k) → u.readUnit m k = s.readUnit m k) ∧ u.mem = s.mem ∧ u.flash = s.flash) ∧
  (∀ (q : Sqe) (nsid : BitVec 32) (lba : BitVec 64) (nlb : BitVec 16) (pr : PrInfo) (s : State), Cond.writeZeroes q nsid lba nlb pr s = true →
    ∃ u, exec (.writeZeroes q nsid lba nlb pr) s = .next u ∧ (u.readExtent ⟨nsid.toNat, lba.toNat, nlb.toNat + 1⟩).1 = List.replicate (nlb.toNat + 1) ⟨[], []⟩ ∧ Cond.completed s u q 0 0 = true ∧ u.nvme.cmds = [] ∧ u.mem = s.mem ∧ u.flash = s.flash) ∧
  (∀ (q : Sqe) (nsid : BitVec 32) (ranges : List (BitVec 64 × BitVec 32)) (ad : Bool) (w : Walk) (s : State), Cond.datasetManagement q nsid ranges ad w s = true →
    ∃ u, exec (.datasetManagement q nsid ranges ad w) s = .next u ∧ (ad = true → ∀ p ∈ ranges, ∀ k ∈ List.range (⟨nsid.toNat, p.1.toNat, p.2.toNat⟩ : Extent).whole.2, u.readUnit nsid.toNat ((⟨nsid.toNat, p.1.toNat, p.2.toNat⟩ : Extent).whole.1 + k) = .ok [] false false) ∧ (ad = false → u.sets = s.sets) ∧ Cond.completed s u q 0 0 = true ∧ u.nvme.cmds = [] ∧ u.mem = s.mem ∧ u.flash = s.flash) ∧
  (∀ (q : Sqe) (nsid : BitVec 32) (sdlba : BitVec 64) (src : List CopyRange) (check : CopyPr) (pr : PrInfo) (w : Walk) (s : State), Cond.nvmCopy q nsid sdlba src check pr w s = true →
    ∃ u, exec (.nvmCopy q nsid sdlba src check pr w) s = .next u ∧ (u.readExtent ⟨nsid.toNat, sdlba.toNat, sumOf (fun e => e.count) (Cond.copied nsid src)⟩).1 = (Cond.copied nsid src).flatMap (fun e => (s.readExtent e).1) ∧ Cond.completed s u q 0 0 = true ∧ u.nvme.cmds = [] ∧ (∀ m : Nat, ∀ k : Nat, (m ≠ nsid.toNat ∨ k < (⟨nsid.toNat, sdlba.toNat, sumOf (fun e => e.count) (Cond.copied nsid src)⟩ : Extent).units.1 ∨ (⟨nsid.toNat, sdlba.toNat, sumOf (fun e => e.count) (Cond.copied nsid src)⟩ : Extent).units.1 + (⟨nsid.toNat, sdlba.toNat, sumOf (fun e => e.count) (Cond.copied nsid src)⟩ : Extent).units.2 ≤ k) → u.readUnit m k = s.readUnit m k) ∧ u.mem = s.mem ∧ u.flash = s.flash)

/-- For a command alone in the front end, to a namespace that this Isle serves, whose pointer holds its data, each answers a next state as follows;
nothing but the front end, the dictionary, the events, the Strait and what is sent changes. RESERVATION_REGISTER: a controller not yet registered
joins the registrants with its key, and the generation moves on; the reservation itself stays; a reserved action completes with Invalid Field in
Command. RESERVATION_ACQUIRE: a registrant with the right key takes a free reservation of a type 1 to 6; a controller that is not registered, or has a
wrong key, completes with Reservation Conflict. RESERVATION_RELEASE: a holder with the right key and type gives its reservation up and stays
registered. RESERVATION_REPORT: the extended status structure goes to the data pointer; without the extended structure it completes with Host
Identifier Inconsistent Format. -/
def Obligations.Reservations : Prop :=
  (∀ (q : Sqe) (nsid : BitVec 32) (action : BitVec 3) (iekey : Bool) (cptpl : BitVec 2) (crkey : BitVec 64) (nrkey : BitVec 64) (w : Walk) (s : State), Cond.reservationRegister q nsid action w s = true →
    ∃ u, exec (.reservationRegister q nsid action iekey cptpl crkey nrkey w) s = .next u ∧ (u.namespace? nsid.toNat).map (fun n => n.registrants) = (s.namespace? nsid.toNat).map (fun n => n.registrants ++ [⟨s.cntlid q.fn.toNat, s.hostId q.fn.toNat, nrkey.toNat⟩]) ∧ (u.namespace? nsid.toNat).map (fun n => n.resvGen) = (s.namespace? nsid.toNat).map (fun n => (n.resvGen + 1) % 2 ^ 32) ∧ (u.namespace? nsid.toNat).map (fun n => (n.holder, n.resvType)) = (s.namespace? nsid.toNat).map (fun n => (n.holder, n.resvType)) ∧ Cond.completed s u q 0 0 = true ∧ Cond.keepsRest s u = true) ∧
  (∀ (q : Sqe) (nsid : BitVec 32) (action : BitVec 3) (iekey : Bool) (cptpl : BitVec 2) (crkey : BitVec 64) (nrkey : BitVec 64) (w : Walk) (s : State), Cond.reservationRegisterBad q nsid action w s = true →
    ∃ u, exec (.reservationRegister q nsid action iekey cptpl crkey nrkey w) s = .next u ∧ u.nvme.namespaces = s.nvme.namespaces ∧ Cond.completed s u q (sc 0 0x02) 0 = true ∧ Cond.keepsRest s u = true) ∧
  (∀ (q : Sqe) (nsid : BitVec 32) (action : BitVec 3) (iekey : Bool) (type : BitVec 8) (crkey : BitVec 64) (prkey : BitVec 64) (w : Walk) (s : State), Cond.reservationAcquire q nsid action iekey type crkey w s = true →
    ∃ u, exec (.reservationAcquire q nsid action iekey type crkey prkey w) s = .next u ∧ (u.namespace? nsid.toNat).map (fun n => (n.holder, n.resvType)) = some (((s.namespace? nsid.toNat).bind fun n => n.registrant (s.cntlid q.fn.toNat) (s.hostId q.fn.toNat)).map fun g => g.cntlid, type.toNat) ∧ (u.namespace? nsid.toNat).map (fun n => n.registrants) = (s.namespace? nsid.toNat).map (fun n => n.registrants) ∧ Cond.completed s u q 0 0 = true ∧ Cond.keepsRest s u = true) ∧
  (∀ (q : Sqe) (nsid : BitVec 32) (action : BitVec 3) (iekey : Bool) (type : BitVec 8) (crkey : BitVec 64) (prkey : BitVec 64) (w : Walk) (s : State), Cond.reservationAcquireConflict q nsid iekey crkey w s = true →
    ∃ u, exec (.reservationAcquire q nsid action iekey type crkey prkey w) s = .next u ∧ u.nvme.namespaces = s.nvme.namespaces ∧ Cond.completed s u q (sc 0 0x83) 0 = true ∧ Cond.keepsRest s u = true) ∧
  (∀ (q : Sqe) (nsid : BitVec 32) (action : BitVec 3) (iekey : Bool) (type : BitVec 8) (crkey : BitVec 64) (w : Walk) (s : State), Cond.reservationRelease q nsid action iekey type crkey w s = true →
    ∃ u, exec (.reservationRelease q nsid action iekey type crkey w) s = .next u ∧ (u.namespace? nsid.toNat).map (fun n => (n.holder, n.resvType)) = some (none, 0) ∧ (u.namespace? nsid.toNat).map (fun n => n.registrants) = (s.namespace? nsid.toNat).map (fun n => n.registrants) ∧ Cond.completed s u q 0 0 = true ∧ Cond.keepsRest s u = true) ∧
  (∀ (q : Sqe) (nsid : BitVec 32) (numd : BitVec 32) (eds : Bool) (w : Walk) (s : State), Cond.reservationReport q nsid numd eds w s = true →
    ∃ u, exec (.reservationReport q nsid numd eds w) s = .next u ∧ (∀ n ∈ s.namespace? nsid.toNat, Cond.landed s u q w (n.resvReport.take (4 * (numd.toNat + 1))) = true) ∧ Cond.completed s u q 0 0 = true ∧ u.nvme.namespaces = s.nvme.namespaces ∧ Cond.keepsRest s u = true) ∧
  (∀ (q : Sqe) (nsid : BitVec 32) (numd : BitVec 32) (eds : Bool) (w : Walk) (s : State), Cond.reservationReportShort q nsid numd eds w s = true →
    ∃ u, exec (.reservationReport q nsid numd eds w) s = .next u ∧ Cond.completed s u q (sc 0 0x24) 0 = true ∧ u.nvme.namespaces = s.nvme.namespaces ∧ Cond.keepsRest s u = true)

/-- A device command is alone in the front end, on a namespace of this Isle attached to its controller, and its pointer holds its data. Each command
answers a next state whenever its condition holds, as follows; where nothing else is said a device command completes successfully, and cores, flash,
map and dirty units are as they were. LOAD_PROGRAM: a part that comes next and does not end its image goes behind what the slot holds and into program
memory, with the slot loading; one that ends it loads an image that verifies, with the next generation, and empties the slot of one that does not,
counted, with Invalid Field in Command; an index of no loadable slot completes with Invalid Field in Command. PROGRAM_UNLOAD: a loaded slot of its
owner is unloading, and the command waits for its end. SLOT_UNLOADED: an unloading slot that no descriptor names is empty, its generation kept; else
nothing changes. LOADING_TIMEOUT: a slot that has had no part for 60 s is empty in the same way, and nothing else changes. PROGRAM_ACTIVATE: a loaded
program of its owner is active, and a fixed program is already. PROGRAM_DEACTIVATE: an active one is loaded; a fixed one cannot be: Invalid Field in
Command. -/
def Obligations.ProgramSlots : Prop :=
  (∀ (q : Sqe) (nsid : BitVec 32) (index : BitVec 16) (offset : BitVec 32) (data : List Byte) (w : Walk) (s : State), Cond.loadProgram q nsid index offset data w s = true →
    ∃ u, exec (.loadProgram q nsid index offset data w) s = .next u ∧ (∀ k ∈ slotOf index.toNat, u.slot k = { s.slot k with state := .loading, fn := q.fn.toNat, image := (s.slot k).image ++ data, at_ := s.pkg.timebase } ∧ u.mem.read (programAt k + offset.toNat) data.length = data) ∧ Cond.completed s u q 0 0 = true ∧ u.cores = s.cores ∧ u.flash = s.flash ∧ u.hold = s.hold ∧ u.sets = s.sets) ∧
  (∀ (q : Sqe) (nsid : BitVec 32) (index : BitVec 16) (offset : BitVec 32) (data : List Byte) (w : Walk) (s : State), Cond.loadProgramWhole q nsid index offset data w s = true →
    ∃ u, exec (.loadProgram q nsid index offset data w) s = .next u ∧ (∀ k ∈ slotOf index.toNat, (s.imageOk q.fn.toNat ((s.slot k).image ++ data) = true → (u.slot k).state = .loaded ∧ (u.slot k).gen = ((s.slot k).gen + 1) % 65536 ∧ (u.slot k).image = (s.slot k).image ++ data ∧ Cond.completed s u q 0 0 = true) ∧ (s.imageOk q.fn.toNat ((s.slot k).image ++ data) = false → (u.slot k).state = .empty ∧ (u.slot k).gen = (s.slot k).gen ∧ u.val 0xA030 2 = (s.bump 0xA030 2).val 0xA030 2 ∧ Cond.completed s u q (sc 0 0x02) 0 = true)) ∧ u.cores = s.cores ∧ u.flash = s.flash ∧ u.hold = s.hold ∧ u.sets = s.sets) ∧
  (∀ (q : Sqe) (nsid : BitVec 32) (index : BitVec 16) (offset : BitVec 32) (data : List Byte) (w : Walk) (s : State), Cond.loadProgramIndex q nsid index offset data w s = true →
    ∃ u, exec (.loadProgram q nsid index offset data w) s = .next u ∧ u.sched = s.sched ∧ Cond.completed s u q (sc 0 0x02) 0 = true ∧ u.mem = s.mem ∧ u.cores = s.cores ∧ u.flash = s.flash ∧ u.hold = s.hold ∧ u.sets = s.sets) ∧
  (∀ (q : Sqe) (nsid : BitVec 32) (index : BitVec 16) (w : Walk) (s : State), Cond.programUnload q nsid index w s = true →
    ∃ u, exec (.programUnload q nsid index w) s = .next u ∧ (∀ k ∈ slotOf index.toNat, u.slot k = { s.slot k with state := .unloading, unload := some s.nvme.nextOrder }) ∧ (u.nvme.cmds.map fun c => (c.order, c.fn, c.cid)) = [(s.nvme.nextOrder, q.fn.toNat, q.cid.toNat)] ∧ u.mem = s.mem ∧ u.cores = s.cores ∧ u.flash = s.flash ∧ u.hold = s.hold ∧ u.sets = s.sets) ∧
  (∀ (k : BitVec 8) (s : State), Cond.slotUnloaded k s = true →
    ∃ u, exec (.slotUnloaded k) s = .next u ∧ u.slot k.toNat = { Slot.init with gen := (s.slot k.toNat).gen } ∧ u.mem = s.mem ∧ u.cores = s.cores ∧ u.flash = s.flash ∧ u.hold = s.hold ∧ u.sets = s.sets) ∧
  (∀ (k : BitVec 8) (s : State), Cond.slotUnloadedNamed k s = true →
    exec (.slotUnloaded k) s = .next (s)) ∧
  (∀ (k : BitVec 8) (s : State), Cond.loadingTimeout k s = true →
    exec (.loadingTimeout k) s = .next (s.setSlot k.toNat { Slot.init with gen := (s.slot k.toNat).gen })) ∧
  (∀ (q : Sqe) (nsid : BitVec 32) (index : BitVec 16) (w : Walk) (s : State), Cond.programActivate q nsid index w s = true →
    ∃ u, exec (.programActivate q nsid index w) s = .next u ∧ (∀ k ∈ slotOf index.toNat, u.slot k = { s.slot k with state := .active }) ∧ Cond.completed s u q 0 0 = true ∧ u.mem = s.mem ∧ u.cores = s.cores ∧ u.flash = s.flash ∧ u.hold = s.hold ∧ u.sets = s.sets) ∧
  (∀ (q : Sqe) (nsid : BitVec 32) (index : BitVec 16) (w : Walk) (s : State), Cond.programDeactivate q nsid index w s = true →
    ∃ u, exec (.programDeactivate q nsid index w) s = .next u ∧ (∀ k ∈ slotOf index.toNat, u.slot k = { s.slot k with state := .loaded }) ∧ Cond.completed s u q 0 0 = true ∧ u.mem = s.mem ∧ u.cores = s.cores ∧ u.flash = s.flash ∧ u.hold = s.hold ∧ u.sets = s.sets) ∧
  (∀ (q : Sqe) (nsid : BitVec 32) (index : BitVec 16) (w : Walk) (s : State), Cond.programDeactivateFixed q nsid index w s = true →
    ∃ u, exec (.programDeactivate q nsid index w) s = .next u ∧ u.sched = s.sched ∧ Cond.completed s u q (sc 0 0x02) 0 = true ∧ u.mem = s.mem ∧ u.cores = s.cores ∧ u.flash = s.flash ∧ u.hold = s.hold ∧ u.sets = s.sets)

/-- A device command is alone in the front end, on a namespace of this Isle attached to its controller, and its pointer holds its data. Each command
answers a next state whenever its condition holds, as follows; cores, flash, map and dirty units are as they were. MEMORY_RANGE_SET_MANAGEMENT: 1 to
128 ranges within the function's window make a set with the lowest free identifier of 64, which DW0 returns; a set of the function is deleted.
EXECUTE_PROGRAM: of an active program, with a header, selectors and ranges in order, its parameters are copied and it waits to enqueue its tasks; with
a header that breaks R421 it completes with Invalid Field in Command. MEMORY_READ: the bytes of the window, none poisoned, go to the data pointer; a
misaligned range completes with Invalid Field in Command, one beyond the window with LBA Out of Range. MEMORY_WRITE: its bytes are in the window, and
no other byte of memory changes. MEMORY_COPY: the data of the blocks named, none of them to be read from flash, is in the window, and no other byte of
memory changes. -/
def Obligations.SlmAndPrograms : Prop :=
  (∀ (q : Sqe) (nsid : BitVec 32) (ranges : List (BitVec 64 × BitVec 64)) (w : Walk) (s : State), Cond.memoryRangeSetManagement q nsid ranges w s = true →
    ∃ u, exec (.memoryRangeSetManagement q nsid none ranges w) s = .next u ∧ (∀ id ∈ ((List.range 64).map (· + 1)).find? (fun (i : Nat) => !(s.sched.sets.map fun x => x.id).contains i), u.sched.sets = s.sched.sets ++ [⟨id, q.fn.toNat, ranges.map fun p => ⟨p.1.toNat, p.2.toNat⟩⟩] ∧ u.sched.slots = s.sched.slots ∧ u.sched.execs = s.sched.execs ∧ Cond.completed s u q 0 id = true) ∧ u.mem = s.mem ∧ u.cores = s.cores ∧ u.flash = s.flash ∧ u.hold = s.hold ∧ u.sets = s.sets) ∧
  (∀ (q : Sqe) (nsid : BitVec 32) (id : BitVec 16) (ranges : List (BitVec 64 × BitVec 64)) (w : Walk) (s : State), Cond.memoryRangeSetManagementDelete q nsid id w s = true →
    ∃ u, exec (.memoryRangeSetManagement q nsid (some id) ranges w) s = .next u ∧ u.sched = { s.sched with sets := s.sched.sets.filter fun x => x.id != id.toNat } ∧ Cond.completed s u q 0 0 = true ∧ u.mem = s.mem ∧ u.cores = s.cores ∧ u.flash = s.flash ∧ u.hold = s.hold ∧ u.sets = s.sets) ∧
  (∀ (q : Sqe) (nsid : BitVec 32) (index : BitVec 16) (rangeSet : BitVec 16) (params : List Byte) (w : Walk) (s : State), Cond.executeProgram q nsid index rangeSet params w s = true →
    ∃ u, exec (.executeProgram q nsid index rangeSet params w) s = .next u ∧ (u.sched.execs.map fun e => (e.tag, e.fn, e.program, e.rangeSet, e.count, e.next, e.ended)) = (s.sched.execs.map fun e => (e.tag, e.fn, e.program, e.rangeSet, e.count, e.next, e.ended)) ++ [(s.nvme.nextOrder, q.fn.toNat, index.toNat, rangeSet.toNat, field params 4 4, 0, 0)] ∧ u.mem.read (paramAt s.nvme.nextOrder) params.length = params ∧ (u.nvme.cmds.map fun c => (c.order, c.fn, c.cid)) = [(s.nvme.nextOrder, q.fn.toNat, q.cid.toNat)] ∧ u.cores = s.cores ∧ u.flash = s.flash ∧ u.hold = s.hold ∧ u.sets = s.sets) ∧
  (∀ (q : Sqe) (nsid : BitVec 32) (index : BitVec 16) (rangeSet : BitVec 16) (params : List Byte) (w : Walk) (s : State), Cond.executeProgramHeader q nsid index rangeSet params w s = true →
    ∃ u, exec (.executeProgram q nsid index rangeSet params w) s = .next u ∧ u.sched.execs = s.sched.execs ∧ Cond.completed s u q (sc 0 0x02) 0 = true ∧ u.mem = s.mem ∧ u.cores = s.cores ∧ u.flash = s.flash ∧ u.hold = s.hold ∧ u.sets = s.sets) ∧
  (∀ (q : Sqe) (nsid : BitVec 32) (offset : BitVec 64) (len : BitVec 32) (w : Walk) (s : State), Cond.slmRead q nsid offset len w s = true →
    ∃ u, exec (.slmRead q nsid offset len w) s = .next u ∧ Cond.landed s u q w (s.mem.read (s.slmAt q.fn.toNat offset.toNat) len.toNat) = true ∧ Cond.completed s u q 0 0 = true ∧ u.mem = s.mem ∧ u.cores = s.cores ∧ u.flash = s.flash ∧ u.hold = s.hold ∧ u.sets = s.sets) ∧
  (∀ (q : Sqe) (nsid : BitVec 32) (offset : BitVec 64) (len : BitVec 32) (w : Walk) (s : State), Cond.slmReadBad q nsid offset len w s = true →
    ∃ u, exec (.slmRead q nsid offset len w) s = .next u ∧ Cond.completed s u q (s.slmCheck q.fn.toNat offset.toNat len.toNat) 0 = true ∧ (s.slmCheck q.fn.toNat offset.toNat len.toNat = sc 0 0x02 ∨ s.slmCheck q.fn.toNat offset.toNat len.toNat = sc 0 0x80) ∧ u.mem = s.mem ∧ u.cores = s.cores ∧ u.flash = s.flash ∧ u.hold = s.hold ∧ u.sets = s.sets) ∧
  (∀ (q : Sqe) (nsid : BitVec 32) (offset : BitVec 64) (data : List Byte) (w : Walk) (s : State), Cond.slmWrite q nsid offset data w s = true →
    ∃ u, exec (.slmWrite q nsid offset data w) s = .next u ∧ u.mem.read (s.slmAt q.fn.toNat offset.toNat) data.length = data ∧ (∀ a : Nat, a < s.slmAt q.fn.toNat offset.toNat ∨ s.slmAt q.fn.toNat offset.toNat + data.length ≤ a → u.mem.byte a = s.mem.byte a) ∧ Cond.completed s u q 0 0 = true ∧ u.cores = s.cores ∧ u.flash = s.flash ∧ u.hold = s.hold ∧ u.sets = s.sets) ∧
  (∀ (q : Sqe) (nsid : BitVec 32) (dst : BitVec 64) (src : BitVec 32) (ranges : List (BitVec 64 × BitVec 16)) (w : Walk) (s : State), Cond.slmCopy q nsid dst src ranges w s = true →
    ∃ u, exec (.slmCopy q nsid dst src ranges w) s = .next u ∧ u.mem.read (s.slmAt q.fn.toNat dst.toNat) (Cond.slmData s src ranges).length = Cond.slmData s src ranges ∧ (∀ a : Nat, a < s.slmAt q.fn.toNat dst.toNat ∨ s.slmAt q.fn.toNat dst.toNat + (Cond.slmData s src ranges).length ≤ a → u.mem.byte a = s.mem.byte a) ∧ Cond.completed s u q 0 0 = true ∧ u.nvme.cmds = [] ∧ u.cores = s.cores ∧ u.flash = s.flash ∧ u.hold = s.hold ∧ u.sets = s.sets)

/-- Each command answers a next state whenever its condition holds, as follows. TASK_ENQUEUE: a firmware descriptor goes into a ready list with room,
behind every one of its level; an Execute Program's next task goes likewise into that of the region its place in the rotation gives; without room, or
behind one that waits, a descriptor waits at the port. ENQUEUE_RESUME: a port with room again gives the descriptor that has waited longest to the
ready list. TASK_DISPATCH: where no free core holds a prefetched task, the first task that has a free eligible core leaves the ready list and is on
that core with the registers of R437; a task whose window set is lost leaves the ready list and no core runs it. PREFETCH_FILL: the one task of a
ready list that no core is free for goes to the slot of a busy core with no prefetched task, with the window epoch of its function. -/
def Obligations.TaskScheduling : Prop :=
  (∀ (r : Fin 4) (t : Task) (s : State), Cond.taskEnqueue r t s = true →
    ∃ u, exec (.taskEnqueue none r t) s = .next u ∧ u.readyList r.val = addTask { t with exec := false, id := s.sched.nextTask, order := s.sched.nextOrder, stamp := s.pkg.timebase } (s.readyList r.val) ∧ u.sched.nextTask = (s.sched.nextTask + 1) % 2 ^ 32 ∧ u.cores = s.cores ∧ u.mem = s.mem ∧ u.nvme = s.nvme) ∧
  (∀ (tag : BitVec 32) (r : Fin 4) (t : Task) (s : State), Cond.taskEnqueueExec tag s = true →
    ∃ u, exec (.taskEnqueue (some tag) r t) s = .next u ∧ (∀ e ∈ s.exec? tag.toNat, let l := s.maskRegions e.mask; ∀ k ∈ l[e.next % l.length]?, u.readyList k = addTask (s.execTask e) (s.readyList k)) ∧ (u.exec? tag.toNat) = (s.exec? tag.toNat).map (fun e => { e with next := e.next + 1, stalled := false }) ∧ u.cores = s.cores ∧ u.mem = s.mem) ∧
  (∀ (r : Fin 4) (t : Task) (s : State), Cond.taskEnqueueStalled r t s = true →
    ∃ u, exec (.taskEnqueue none r t) s = .next u ∧ u.readyList r.val = s.readyList r.val ∧ u.sched.stalled = s.sched.stalled ++ [⟨r.val, { t with exec := false, id := s.sched.nextTask, order := s.sched.nextOrder, stamp := s.pkg.timebase }, s.pkg.timebase⟩] ∧ u.cores = s.cores ∧ u.mem = s.mem ∧ u.nvme = s.nvme) ∧
  (∀ (r : Fin 4) (target : Bool) (s : State), Cond.enqueueResume r target s = true →
    ∃ u, exec (.enqueueResume r target) s = .next u ∧ ∀ x ∈ s.sched.stalled.find? (fun (x : Stalled) => x.region == r.val && x.task.target == target), u.readyList r.val = addTask x.task (s.readyList r.val) ∧ u.sched.stalled = s.sched.stalled.filter (fun y => y.task.id != x.task.id) ∧ u.cores = s.cores ∧ u.mem = s.mem) ∧
  (∀ (r : Fin 4) (ecc : Ecc) (lost : Bool) (s : State), Cond.taskDispatch r ecc lost s = true →
    ∃ u, exec (.taskDispatch r ecc lost) s = .next u ∧ ∀ p ∈ s.nextTask r.val, u.core p.2 = (s.core p.2).dispatched p.1 (s.taskWins p.1 p.2) ∧ (u.core p.2).pc = BitVec.ofNat 48 p.1.entry ∧ (u.core p.2).d[0] = BitVec.ofNat 64 p.1.index ∧ (u.core p.2).d[1] = BitVec.ofNat 64 p.1.count ∧ (u.core p.2).d[2] = BitVec.ofNat 64 p.1.fn ∧ (u.core p.2).d[3] = 0 ∧ (u.core p.2).a[0] = BitVec.ofNat 48 p.1.param ∧ (u.core p.2).a[1] = BitVec.ofNat 48 (p.1.param + 32) ∧ (u.core p.2).a[7] = 0x1F0000008000 ∧ u.readyList r.val = (s.readyList r.val).filter (fun x => x.id != p.1.id)) ∧
  (∀ (r : Fin 4) (ecc : Ecc) (lost : Bool) (s : State), Cond.taskDispatchLost r ecc lost s = true →
    ∃ u, exec (.taskDispatch r ecc lost) s = .next u ∧ ∀ p ∈ s.nextTask r.val, (u.core p.2).task = none ∧ u.readyList r.val = (s.readyList r.val).filter (fun x => x.id != p.1.id)) ∧
  (∀ (r : Fin 4) (ecc : Ecc) (lost : Bool) (s : State), Cond.prefetchFill r ecc lost s = true →
    ∃ u, exec (.prefetchFill r ecc lost) s = .next u ∧ ∀ t ∈ (s.readyList r.val).head?, (∀ n ∈ s.chooseCore ((s.busyCores r.val t).filter fun n => (s.core n).prefetch.isNone), (u.core n).prefetch = some (t, s.epoch r.val t.fn)) ∧ u.readyList r.val = [] ∧ u.mem = s.mem ∧ u.nvme = s.nvme)

/-- Each command answers a next state whenever its condition holds, as follows. NUMVFS_WRITE: a number up to 255 is taken while VF Enable is clear, and
nothing else changes; else it has no effect and is counted. VF_ENABLE: the VFs of NumVFs are there, offline, without resources, with their saved
features, and a reset or a scrub that had begun goes on; with NumVFs 0, or VF Enable set already, nothing changes. VF_DISABLE: with no command in the
front end every VF is in reset, and one that was not has no queue left. FUNCTION_LEVEL_RESET: with no command in the front end the reset of a VF
begins: its event requests, queues and dictionary stage are gone; the submission queues of the PF stay; that of the PF begins likewise, and clears VF
Enable. FLR_READS_DRAINED: with no task of the function to stop, every stop of its forwarded commands acknowledged, no Offline command waiting, and no
host read outstanding or 90 ms gone, the reset is complete: the controller is as reset, with its saved features, its Timestamp, its resources and what
is to arrive late; its MSI-X table is as reset, and of the PF NumVFs is 0; before, with host reads outstanding, nothing changes. LATE_COMPLETION: of
an abandoned read it is discarded and counted in 0x4020.0A, and nothing else changes. TENANT_SCRUB_DONE: a scrub under way ends: the window reads zero
and no other byte of memory has changed, and no ternary entry of the match window is valid. -/
def Obligations.TenantFunctions : Prop :=
  (∀ (n : BitVec 16) (s : State), Cond.numvfsWrite n s = true →
    exec (.numvfsWrite n) s = .next ({ s with nvme.numVfs := n.toNat })) ∧
  (∀ (n : BitVec 16) (s : State), Cond.numvfsWriteIgnored n s = true →
    exec (.numvfsWrite n) s = .next (s.bump 0x3010 2)) ∧
  (∀ (s : State), Cond.vfEnable s = true →
    ∃ u, exec .vfEnable s = .next u ∧ u.nvme.vfEnable = true ∧ (∀ n ∈ List.range s.nvme.numVfs, u.ctrl (n + 1) = { Ctrl.init with features := s.savedFeatures (n + 1), scrub := (s.ctrl (n + 1)).scrub, tokens := (s.ctrl (n + 1)).tokens, flr := (s.ctrl (n + 1)).flr, lateExpected := (s.ctrl (n + 1)).lateExpected, offlineCids := (s.ctrl (n + 1)).offlineCids }) ∧ u.ctrl 0 = s.ctrl 0 ∧ u.dict = s.dict ∧ Cond.keepsRest s u = true) ∧
  (∀ (s : State), Cond.vfEnableNone s = true →
    exec .vfEnable s = .next (s)) ∧
  (∀ (s : State), Cond.vfDisable s = true →
    ∃ u, exec .vfDisable s = .next u ∧ u.nvme.vfEnable = false ∧ (∀ n ∈ List.range s.nvme.numVfs, (u.ctrl (n + 1)).flr.isSome = true ∧ (∀ k : BitVec 16, (s.ctrl (n + 1)).flr.isNone = true → u.sq? (n + 1) k.toNat = none))) ∧
  (∀ (fn : BitVec 8) (s : State), Cond.functionLevelReset fn s = true →
    ∃ u, exec (.functionLevelReset fn) s = .next u ∧ (u.ctrl fn.toNat).flr = some s.pkg.timebase ∧ (u.ctrl fn.toNat).aers = [] ∧ (∀ k : BitVec 16, u.sq? fn.toNat k.toNat = none ∧ u.cq? fn.toNat k.toNat = none) ∧ u.stage (.nvme fn.toNat) = ⟨.nvme fn.toNat, [], none⟩ ∧ (∀ k : BitVec 16, u.sq? 0 k.toNat = s.sq? 0 k.toNat)) ∧
  (∀ (fn : BitVec 8) (s : State), Cond.functionLevelResetPf fn s = true →
    ∃ u, exec (.functionLevelReset fn) s = .next u ∧ (u.ctrl 0).flr = some s.pkg.timebase ∧ u.nvme.vfEnable = false ∧ (∀ k : BitVec 16, u.sq? 0 k.toNat = none ∧ u.cq? 0 k.toNat = none)) ∧
  (∀ (fn : BitVec 8) (left : BitVec 16) (s : State), Cond.flrReadsDrained fn left s = true →
    ∃ u, exec (.flrReadsDrained fn left) s = .next u ∧ (let c := u.ctrl fn.toNat; c.flr = none ∧ c.enabled = false ∧ c.ready = false ∧ c.cfs = false ∧ c.features = Tab.putAll (Tab.keep (fun k _ => k == 0x0E || k == 0x50000) (s.ctrl fn.toNat).features) (s.savedFeatures fn.toNat) ∧ c.vq = (s.ctrl fn.toNat).vq ∧ c.vi = (s.ctrl fn.toNat).vi ∧ c.online = (s.ctrl fn.toNat).online ∧ c.lateExpected = (s.ctrl fn.toNat).lateExpected + left.toNat) ∧ u.nvme.sqs = s.nvme.sqs ∧ Tab.keep (fun k _ => k / 8192 == fn.toNat) u.nvme.msix = [] ∧ (fn = 0 → u.nvme.numVfs = 0)) ∧
  (∀ (fn : BitVec 8) (left : BitVec 16) (s : State), Cond.flrReadsDrainedWaits fn left s = true →
    exec (.flrReadsDrained fn left) s = .next (s)) ∧
  (∀ (fn : BitVec 8) (s : State), Cond.lateCompletion fn s = true →
    exec (.lateCompletion fn) s = .next ((s.setCtrl fn.toNat { s.ctrl fn.toNat with lateExpected := (s.ctrl fn.toNat).lateExpected - 1 }).fbump fn.toNat 0x4020 0x0A 1)) ∧
  (∀ (fn : BitVec 8) (s : State), Cond.tenantScrubDone fn s = true →
    ∃ u, exec (.tenantScrubDone fn) s = .next u ∧ (u.ctrl fn.toNat).scrub = 2 ∧ (∀ a : Nat, s.slmAt fn.toNat 0 ≤ a → a < s.slmAt fn.toNat 0 + s.slmLen fn.toNat → u.mem.byte a = 0) ∧ (∀ a : Nat, a < s.slmAt fn.toNat 0 ∨ s.slmAt fn.toNat 0 + s.slmLen fn.toNat ≤ a → u.mem.byte a = s.mem.byte a) ∧ (∀ p ∈ u.tern.entries, s.fval fn.toNat 0x4010 7 ≤ p.1 → p.1 < s.fval fn.toNat 0x4010 7 + s.fval fn.toNat 0x4010 8 → p.2.valid = false) ∧ u.sched = s.sched ∧ u.cores = s.cores)

/-- The media engine runs, with no work of the firmware waiting for a port. Each command answers a next state whenever its condition holds, as follows.
PORT_ENABLE: with its rings aligned and inside its region's staging a port is enabled, and RING_ERROR is clear; nothing else changes; else it is not
enabled, and RING_ERROR is set. PORT_DISABLE: the port is not enabled; nothing else changes. RING_RESET: of a port whose fetched operations are a
ring's or have started: the reset is busy up to the present tail, what has started goes on, and a completion is posted for each that has not.
RING_RESET_DONE: with no operation left and completion slots for the slots not fetched, the ring is empty up to where its tail was, a completion
posted for each, and the reset is over. DESC_TAIL_DOORBELL: moves the tail, and changes nothing else; during a ring reset it is ignored and counted.
MEDIA_DESC_FETCH: a descriptor that passes the check goes behind its LUN's operations, and the head moves on; one that does not completes BAD_DESC,
and no LUN has more to do; one that cannot be read completes BUS_ERROR with tag 0. CHANNEL_CLAIM_LUN_WAIT: a LUN of a claimed channel is seen ready,
and its erase is over; nothing else changes; an erase that FFh ended leaves the write-pointer entries of its blocks unknown. CHANNEL_TRAINING_DONE:
with every LUN seen ready and no parameter page that disagrees: a channel trained again is trained where a LUN is not retired, with the temperature
noted, and nothing else changes; a channel trained for the first time since start-up likewise, and every entry of the best copy of its bad-block table
is known; at first initialization a block of the geometry one of whose first spare bytes is not FFh is in the table. CHANNEL_RETRAIN: 10 °C away from
where it was trained, with nothing queued, a channel is to be trained again; nothing else changes. BAD_BLOCK_TABLE_REWRITE: the next of the three
copies is written: the first takes the table under a new sequence, the others what the first holds; nothing else changes. -/
def Obligations.MediaRings : Prop :=
  (∀ (c : Fin 32) (s : State), Cond.portEnable c s = true →
    exec (.portEnable c) s = .next (s.setPort c.val { s.port c.val with enable := true, ringError := false })) ∧
  (∀ (c : Fin 32) (s : State), Cond.portEnableRefused c s = true →
    exec (.portEnable c) s = .next (s.setPort c.val { s.port c.val with enable := false, ringError := true })) ∧
  (∀ (c : Fin 32) (s : State), exec (.portDisable c) s = .next (s.setPort c.val { s.port c.val with enable := false })) ∧
  (∀ (c : Fin 32) (s : State), Cond.ringReset c s = true →
    ∃ u, exec (.ringReset c) s = .next u ∧ (u.port c.val).resetBusy = true ∧ (u.port c.val).resetEnd = (s.port c.val).descTail ∧ (u.port c.val).cplTail = ((s.port c.val).cplTail + sumOf (fun l => ((s.lun c.val l).ops.filter fun o => !o.started).length) (List.range 32)) % 256 ∧ (∀ l ∈ List.range 32, (u.lun c.val l).ops = (s.lun c.val l).ops.filter fun o => o.started) ∧ u.flash = s.flash ∧ Cond.restMedia s u = true) ∧
  (∀ (c : Fin 32) (s : State), Cond.ringResetDone c s = true →
    ∃ u, exec (.ringResetDone c) s = .next u ∧ (u.port c.val).resetBusy = false ∧ (u.port c.val).descHead = (s.port c.val).resetEnd ∧ (u.port c.val).cplTail = ((s.port c.val).cplTail + ((s.port c.val).resetEnd + 256 - (s.port c.val).descHead) % 256) % 256 ∧ u.media.luns = s.media.luns ∧ u.flash = s.flash ∧ Cond.restMedia s u = true) ∧
  (∀ (c : Fin 32) (tail : BitVec 8) (s : State), Cond.descTailDoorbell c s = true →
    exec (.descTailDoorbell c tail) s = .next (s.setPort c.val { s.port c.val with descTail := tail.toNat })) ∧
  (∀ (c : Fin 32) (tail : BitVec 8) (s : State), Cond.descTailDoorbellIgnored c s = true →
    exec (.descTailDoorbell c tail) s = .next (s.setPort c.val { s.port c.val with doorbellIgnored := (s.port c.val).doorbellIgnored + 1 })) ∧
  (∀ (c : Fin 32) (busErr : Bool) (s : State), Cond.mediaDescFetch c busErr s = true →
    ∃ u, exec (.mediaDescFetch c busErr) s = .next u ∧ (∀ d ∈ s.checkMedia (fun (i : Nat) => s.load ((s.port c.val).descBase + 32 * (s.port c.val).descHead + 4 * i) 4), u.lun c.val d.lun = { s.lun c.val d.lun with ops := (s.lun c.val d.lun).ops ++ [Cond.fetchedOp s c.val d] }) ∧ u.port c.val = { s.port c.val with descHead := ((s.port c.val).descHead + 1) % 256 } ∧ u.media.nextId = s.media.nextId + 1 ∧ u.mem = s.mem ∧ u.flash = s.flash ∧ Cond.restFetch s u = true) ∧
  (∀ (c : Fin 32) (busErr : Bool) (s : State), Cond.mediaDescFetchBadDesc c busErr s = true →
    ∃ u, exec (.mediaDescFetch c busErr) s = .next u ∧ Cond.posted s u c.val (rejectedOp (s.port c.val).descHead (bits (s.load ((s.port c.val).descBase + 32 * (s.port c.val).descHead + 4 * 1) 4) 0 16) (bit (s.load ((s.port c.val).descBase + 32 * (s.port c.val).descHead + 4 * 0) 4) 9)) mBadDesc 0 ∧ (u.port c.val).descHead = ((s.port c.val).descHead + 1) % 256 ∧ u.media.luns = s.media.luns ∧ u.flash = s.flash) ∧
  (∀ (c : Fin 32) (busErr : Bool) (s : State), Cond.mediaDescFetchBusError c busErr s = true →
    ∃ u, exec (.mediaDescFetch c busErr) s = .next u ∧ u.mem.read (Cond.cplAt s c.val) 16 = Cond.entryOf s c.val (rejectedOp (s.port c.val).descHead 0 false) mBusError 0 ∧ Cond.cplMoved s u c.val ∧ (u.port c.val).descHead = ((s.port c.val).descHead + 1) % 256 ∧ u.media.luns = s.media.luns ∧ u.flash = s.flash) ∧
  (∀ (c : Fin 32) (l : Fin 32) (ready : Bool) (s : State), Cond.channelClaimLunWait c l ready s = true →
    exec (.channelClaimLunWait c l ready) s = .next (s.setLun c.val l.val { s.lun c.val l.val with unobserved := false, erase := none }.freed)) ∧
  (∀ (c : Fin 32) (l : Fin 32) (ready : Bool) (s : State), Cond.channelClaimLunWaitLate c l ready s = true →
    ∃ u, exec (.channelClaimLunWait c l ready) s = .next u ∧ (∀ e ∈ (s.lun c.val l.val).erase, (e.op.desc.opcode = .erase → Cond.wpSet s u (e.op.desc.blockKeys c.val) ⟨.unknown, 0⟩)) ∧ (u.lun c.val l.val).unobserved = false ∧ (u.lun c.val l.val).erase = none ∧ u.media.ports = s.media.ports ∧ Cond.restMedia s u = true) ∧
  (∀ (c : Fin 32) (disagree : BitVec 32) (spare : List (Fin 32 × Fin 8 × BitVec 16 × Byte × Byte)) (copies : List (List Byte)) (s : State), Cond.channelTrainingDone c disagree s = true →
    exec (.channelTrainingDone c disagree spare copies) s = .next (s.setPort c.val { s.port c.val with trained := ((List.range 32).filter s.hasLun).any (fun l => !bit disagree.toNat l && !(s.lun c.val l).retired), retraining := false, trainedTemp := s.hubTemp })) ∧
  (∀ (c : Fin 32) (disagree : BitVec 32) (spare : List (Fin 32 × Fin 8 × BitVec 16 × Byte × Byte)) (copies : List (List Byte)) (s : State), Cond.channelTrainingDoneTable c disagree s = true →
    ∃ u, exec (.channelTrainingDone c disagree spare copies) s = .next u ∧ u.port c.val = { s.port c.val with trained := ((List.range 32).filter s.hasLun).any (fun l => !bit disagree.toNat l && !(s.lun c.val l).retired), retraining := false, trainedTemp := s.hubTemp } ∧ (∀ x ∈ s.bestTable c.val copies, ∀ b ∈ x.2.2, b ∈ u.flash.bad) ∧ u.flash.pages = s.flash.pages ∧ u.media.luns = s.media.luns ∧ u.mem = s.mem) ∧
  (∀ (c : Fin 32) (disagree : BitVec 32) (spare : List (Fin 32 × Fin 8 × BitVec 16 × Byte × Byte)) (copies : List (List Byte)) (s : State), Cond.channelTrainingDoneFirst c disagree s = true →
    ∃ u, exec (.channelTrainingDone c disagree spare copies) s = .next u ∧ (u.port c.val).trained = ((List.range 32).filter s.hasLun).any (fun l => !bit disagree.toNat l && !(s.lun c.val l).retired) ∧ (∀ m ∈ spare, s.hasLun m.1.val = true → m.2.1.val < s.planes → m.2.2.1.toNat < s.blocks → (m.2.2.2.1 ≠ 0xFF ∨ m.2.2.2.2 ≠ 0xFF) → u.isBad c.val m.1.val m.2.1.val m.2.2.1.toNat = true) ∧ (∀ b ∈ s.flash.bad, b ∈ u.flash.bad) ∧ u.flash.pages = s.flash.pages ∧ u.media.luns = s.media.luns) ∧
  (∀ (c : Fin 32) (s : State), Cond.channelRetrain c s = true →
    exec (.channelRetrain c) s = .next (s.setPort c.val { s.port c.val with trained := false, retraining := true })) ∧
  (∀ (c : Fin 32) (s : State), Cond.badBlockTableRewrite c s = true →
    ∃ u, exec (.badBlockTableRewrite c) s = .next u ∧ (let k := Tab.get s.flash.tableNext 0 c.val; u.flash.tableNext = Tab.set s.flash.tableNext 0 c.val ((k + 1) % 3) ∧ u.flash.badSeq = (if k = 0 then Tab.put s.flash.badSeq c.val (Tab.get s.flash.badSeq 0 c.val + 1) else s.flash.badSeq) ∧ Tab.find u.flash.tables (4 * c.val + k) = some (if k = 0 then State.badTable { s with flash.badSeq := u.flash.badSeq } c.val else (Tab.find s.flash.tables (4 * c.val)).getD []) ∧ u = { s with flash := { s.flash with tables := u.flash.tables, tableNext := u.flash.tableNext, badSeq := u.flash.badSeq } }))

/-- The media engine runs, with no work of the firmware waiting for a port, and the operation is a ring's that its channel and its LUN do not turn away.
Each command answers a next state whenever its condition holds, as follows. Nothing but the media engine, the flash, memory, the dictionary, the
events, the Strait and what is sent changes. READ: a read that may start senses, with all its codewords to come; ports and memory are as they were;
one of class 0 behind a running erase suspends it. READ_CONT: likewise. PROGRAM: a program that passes the write-pointer check waits for the channel,
the entries of its blocks advanced by a wordline, full at the end of the block; no other byte of memory changes; one that does not is counted and
completes with the check's status. ERASE: an erase of blocks none of which is bad starts, and leaves their entries unknown; no other byte of memory
changes; one of a bad block is counted and completes BAD_BLOCK. MEDIA_GET_FEATURES: with the die's answer the parameters of a feature that is not the
retry feature are stored at DATA_ADDR and it completes OK; no other byte of memory changes; without it the access has begun and goes on.
MEDIA_SET_FEATURES: once the LUN is ready the feature holds P1 to P4 and the access completes OK; before that it has begun and goes on. READ_STATUS:
completes OK with the status byte, whatever the LUN does. RESET_LUN: FFh is issued, and the LUN is waited for. RAW: with RAW_ENABLE, a sequence that
keeps R204 and has no data-in and no wait step completes OK; no byte of memory but the completion entry changes; one data-in step stores the die's
bytes at META_ADDR; without RAW_ENABLE it completes DENIED. -/
def Obligations.MediaOperations : Prop :=
  (∀ (c : Fin 32) (l : Fin 32) (s : State), Cond.mediaRead c l s = true →
    ∃ u, exec (.mediaRead c l) s = .next u ∧ (∀ o ∈ (s.lun c.val l.val).next, (u.lun c.val l.val) = { (s.lun c.val l.val).put (Cond.senses s c.val l.val o) with state := if (s.lun c.val l.val).erase.isSome then .suspRead else .reading, retryOld := (u.lun c.val l.val).retryOld }) ∧ u.media.ports = s.media.ports ∧ u.mem = s.mem ∧ u.flash = { s.flash with lunFeatures := u.flash.lunFeatures } ∧ Cond.restMedia s u = true) ∧
  (∀ (c : Fin 32) (l : Fin 32) (s : State), Cond.mediaReadCont c l s = true →
    ∃ u, exec (.mediaReadCont c l) s = .next u ∧ (∀ o ∈ (s.lun c.val l.val).next, (u.lun c.val l.val) = { (s.lun c.val l.val).put (Cond.senses s c.val l.val o) with state := if (s.lun c.val l.val).erase.isSome then .suspRead else .reading, retryOld := (u.lun c.val l.val).retryOld }) ∧ u.media.ports = s.media.ports ∧ u.mem = s.mem ∧ u.flash = { s.flash with lunFeatures := u.flash.lunFeatures } ∧ Cond.restMedia s u = true) ∧
  (∀ (c : Fin 32) (l : Fin 32) (s : State), Cond.mediaReadSuspends c l s = true →
    ∃ u, exec (.mediaRead c l) s = .next u ∧ (u.lun c.val l.val).state = .suspending ∧ (u.lun c.val l.val).ops = (s.lun c.val l.val).ops ∧ u.media.ports = s.media.ports ∧ u.mem = s.mem ∧ u.flash = s.flash ∧ Cond.restMedia s u = true) ∧
  (∀ (c : Fin 32) (l : Fin 32) (ecc : Ecc) (s : State), Cond.mediaProgram c l ecc s = true →
    ∃ u, exec (.mediaProgram c l ecc) s = .next u ∧ (∀ o ∈ (s.lun c.val l.val).next, (u.lun c.val l.val).state = (if (s.lun c.val l.val).erase.isSome then .suspProgram else .programming) ∧ (u.port c.val).transfers = (s.port c.val).transfers ++ [o.id] ∧ Cond.wpSet s u (o.desc.blockKeys c.val) ⟨if s.pages ≤ o.desc.page + s.bitsPerCell then .full else .opened, (o.desc.page + s.bitsPerCell) % 2 ^ 13⟩) ∧ u.flash = { s.flash with lunFeatures := u.flash.lunFeatures } ∧ Cond.restMedia s u = true) ∧
  (∀ (c : Fin 32) (l : Fin 32) (ecc : Ecc) (s : State), Cond.mediaProgramRejected c l ecc s = true →
    ∃ u, exec (.mediaProgram c l ecc) s = .next u ∧ (∀ o ∈ (s.lun c.val l.val).next, Cond.posted s u c.val o (s.programCheck c.val o.desc) 0 ∧ (u.lun c.val l.val).ops = Cond.others s c.val l.val o) ∧ u.val (0x5100 + c.val) 0x0B = (s.bump (0x5100 + c.val) 0x0B).val (0x5100 + c.val) 0x0B ∧ u.flash = s.flash) ∧
  (∀ (c : Fin 32) (l : Fin 32) (ecc : Ecc) (s : State), Cond.mediaErase c l ecc s = true →
    ∃ u, exec (.mediaErase c l ecc) s = .next u ∧ (∀ o ∈ (s.lun c.val l.val).next, (u.lun c.val l.val).state = .erasing ∧ (u.lun c.val l.val).erase = some ⟨Cond.begunOp s o, 0, s.pkg.timebase, 0, [], false⟩ ∧ (u.lun c.val l.val).ops = Cond.others s c.val l.val o ∧ Cond.wpSet s u (o.desc.blockKeys c.val) ⟨.unknown, 0⟩) ∧ u.flash = { s.flash with lunFeatures := u.flash.lunFeatures } ∧ Cond.restMedia s u = true) ∧
  (∀ (c : Fin 32) (l : Fin 32) (ecc : Ecc) (s : State), Cond.mediaEraseRejected c l ecc s = true →
    ∃ u, exec (.mediaErase c l ecc) s = .next u ∧ (∀ o ∈ (s.lun c.val l.val).next, Cond.posted s u c.val o mBadBlock 0 ∧ (u.lun c.val l.val).ops = Cond.others s c.val l.val o) ∧ u.val (0x5100 + c.val) 0x0B = (s.bump (0x5100 + c.val) 0x0B).val (0x5100 + c.val) 0x0B ∧ u.flash = s.flash) ∧
  (∀ (c : Fin 32) (l : Fin 32) (die : Option (BitVec 32)) (s : State), Cond.mediaGetFeatures c l die s = true →
    ∃ u, exec (.mediaGetFeatures c l die) s = .next u ∧ ∀ o ∈ (s.lun c.val l.val).inHand .getFeatures, ∀ v ∈ die, Cond.posted (s.store o.desc.dataAddr (leBytes 4 ((Tab.find s.flash.lunFeatures (featureKey c.val l.val (bits o.desc.param 0 8))).getD v.toNat)) false) u c.val (Cond.seen u c.val l.val (Cond.begunOp s o)) mOK 0 ∧ (u.lun c.val l.val).ops = Cond.others s c.val l.val o ∧ u.flash = { s.flash with lunFeatures := u.flash.lunFeatures }) ∧
  (∀ (c : Fin 32) (l : Fin 32) (die : Option (BitVec 32)) (s : State), Cond.mediaGetFeaturesWaits c l die s = true →
    ∃ u, exec (.mediaGetFeatures c l die) s = .next u ∧ ∀ o ∈ (s.lun c.val l.val).inHand .getFeatures, (u.lun c.val l.val).ops = ((s.lun c.val l.val).put (Cond.begunOp s o)).ops ∧ u.media.ports = s.media.ports ∧ u.mem = s.mem ∧ Cond.restMedia s u = true) ∧
  (∀ (c : Fin 32) (l : Fin 32) (ready : Bool) (s : State), Cond.mediaSetFeatures c l ready s = true →
    ∃ u, exec (.mediaSetFeatures c l ready) s = .next u ∧ ∀ o ∈ (s.lun c.val l.val).inHand .setFeatures, Cond.posted s u c.val (Cond.seen u c.val l.val (Cond.begunOp s o)) mOK 0 ∧ Tab.find u.flash.lunFeatures (featureKey c.val l.val (bits o.desc.param 0 8)) = some (bits o.desc.param 32 32) ∧ u.flash = { s.flash with lunFeatures := u.flash.lunFeatures } ∧ (u.lun c.val l.val).ops = Cond.others s c.val l.val o) ∧
  (∀ (c : Fin 32) (l : Fin 32) (ready : Bool) (s : State), Cond.mediaSetFeaturesWaits c l ready s = true →
    ∃ u, exec (.mediaSetFeatures c l ready) s = .next u ∧ ∀ o ∈ (s.lun c.val l.val).inHand .setFeatures, (u.lun c.val l.val).ops = ((s.lun c.val l.val).put (Cond.begunOp s o)).ops ∧ u.media.ports = s.media.ports ∧ u.mem = s.mem ∧ Cond.restMedia s u = true) ∧
  (∀ (c : Fin 32) (l : Fin 32) (status : BitVec 8) (s : State), Cond.mediaReadStatus c l s = true →
    ∃ u, exec (.mediaReadStatus c l status) s = .next u ∧ ∀ o ∈ (s.lun c.val l.val).ops.find? (fun (o : MOp) => o.desc.opcode == .readStatus), Cond.posted s u c.val { o with onfi := status.toNat, started := true, startAt := s.pkg.timebase } mOK 0 ∧ (u.lun c.val l.val).ops = Cond.others s c.val l.val o ∧ u.flash = s.flash) ∧
  (∀ (c : Fin 32) (l : Fin 32) (s : State), Cond.mediaResetLun c l s = true →
    ∃ u, exec (.mediaResetLun c l) s = .next u ∧ ∀ o ∈ (s.lun c.val l.val).next, (u.lun c.val l.val) = { (s.lun c.val l.val).put (Cond.begunOp s o) with recovering := some s.pkg.timebase, retryOld := (u.lun c.val l.val).retryOld } ∧ u.media.ports = s.media.ports ∧ u.mem = s.mem ∧ u.flash = { s.flash with lunFeatures := u.flash.lunFeatures } ∧ Cond.restMedia s u = true) ∧
  (∀ (c : Fin 32) (l : Fin 32) (die : List Byte) (waits : BitVec 8) (busErr : Bool) (s : State), Cond.mediaRaw c l busErr s = true →
    ∃ u, exec (.mediaRaw c l die waits busErr) s = .next u ∧ ∀ o ∈ (s.lun c.val l.val).next, Cond.posted s u c.val (Cond.seen u c.val l.val (Cond.begunOp s o)) mOK 0 ∧ (u.lun c.val l.val).ops = Cond.others s c.val l.val o) ∧
  (∀ (c : Fin 32) (l : Fin 32) (die : List Byte) (waits : BitVec 8) (busErr : Bool) (s : State), Cond.mediaRawDataIn c l busErr s = true →
    ∃ u, exec (.mediaRaw c l die waits busErr) s = .next u ∧ ∀ o ∈ (s.lun c.val l.val).next, ∀ x ∈ (s.rawSteps o.desc.dataAddr 64).head?, Cond.posted (s.store o.desc.metaAddr (padTo x.2 (die.take x.2)) false) u c.val (Cond.seen u c.val l.val (Cond.begunOp s o)) mOK 0 ∧ u.flash = { s.flash with lunFeatures := u.flash.lunFeatures }) ∧
  (∀ (c : Fin 32) (l : Fin 32) (die : List Byte) (waits : BitVec 8) (busErr : Bool) (s : State), Cond.mediaRawDenied c l s = true →
    ∃ u, exec (.mediaRaw c l die waits busErr) s = .next u ∧ ∀ o ∈ (s.lun c.val l.val).next, Cond.posted s u c.val o mDenied 0 ∧ (u.lun c.val l.val).ops = Cond.others s c.val l.val o ∧ u.flash = s.flash)

/-- The media engine runs, with no work of the firmware waiting for a port, and the operation is a ring's. Each command answers a next state whenever its
condition holds, as follows. Nothing but the media engine, the flash, memory, the dictionary, the events, the Strait and what is sent changes.
SENSE_END: the page of the read that senses is in the cache register and waits for the channel. CHANNEL_TRANSFER_END: the transfer in hand leaves the
channel; a read's data has left the die; of a program the last of its pages holds the codewords of its buffers, and no page but its own changes.
CODEWORD_DECODED: a codeword that reads as erased, with more to come, is noted as such; one of a programmed page decoded at its first sense with few
bits corrected is delivered to the buffers with its poison; the last such of a read none of whose codewords failed completes it OK. PROGRAM_END: a
program ends OK with the die's status byte; one that fails ends PROG_FAIL, its pages undefined and the entries of its blocks unknown. ERASE_END: an
erase ends OK with its count of suspensions, no page left in its blocks, their entries open at page 0, and every other page as it was; one that fails
ends ERASE_FAIL and leaves the entries bad. ERASE_SUSPENDED: a suspension that has something to serve is counted, and the LUN is suspended.
MEDIA_OP_TIMEOUT: past the limit of an operation FFh is issued, counted, and the LUN waited for. LUN_RECOVERY_END: where one read ran and nothing
waited: a LUN that becomes ready is idle and the read completes TIMEOUT; one that does not is in fault, and the read completes LUN_FAULT. -/
def Obligations.MediaEnds : Prop :=
  (∀ (c : Fin 32) (l : Fin 32) (s : State), Cond.senseEnd c l s = true →
    ∃ u, exec (.senseEnd c l) s = .next u ∧ ∀ o ∈ (s.lun c.val l.val).ops.find? (fun (o : MOp) => o.holds && !o.sensed), (u.lun c.val l.val).ops = ((s.lun c.val l.val).put { o with sensed := true }).ops ∧ (u.port c.val).transfers = (s.port c.val).transfers ++ [o.id] ∧ u.mem = s.mem ∧ u.flash = s.flash ∧ Cond.restMedia s u = true) ∧
  (∀ (c : Fin 32) (s : State), Cond.channelTransferEnd c s = true →
    ∃ u, exec (.channelTransferEnd c) s = .next u ∧ ∀ p ∈ (s.nextTransfer c.val).bind (s.findOp c.val), (u.lun c.val p.1).ops = ((s.lun c.val p.1).put { p.2 with transferred := true }).ops ∧ (u.port c.val).transfers = (s.port c.val).transfers.filter (fun i => some i != s.nextTransfer c.val) ∧ u.mem = s.mem ∧ u.flash = s.flash ∧ Cond.restMedia s u = true) ∧
  (∀ (c : Fin 32) (s : State), Cond.channelTransferEndProgram c s = true →
    ∃ u, exec (.channelTransferEnd c) s = .next u ∧ (∀ p ∈ (s.nextTransfer c.val).bind (s.findOp c.val), (∀ k : Nat, k ∉ s.programPages c.val p.2.desc → Tab.find u.flash.pages k = Tab.find s.flash.pages k) ∧ (∀ i ∈ (List.range (s.programPages c.val p.2.desc).length).getLast?, ∀ k ∈ (s.programPages c.val p.2.desc)[i]?, Tab.find u.flash.pages k = some (.raw (s.pageFrom p.2 i)))) ∧ u.flash.units = s.flash.units ∧ u.mem = s.mem ∧ Cond.restMedia s u = true) ∧
  (∀ (c : Fin 32) (l : Fin 32) (r : CwResult) (s : State), Cond.codewordDecoded c l r s = true →
    ∃ u, exec (.codewordDecoded c l r) s = .next u ∧ ∀ o ∈ (s.lun c.val l.val).ops.find? (fun (o : MOp) => o.isRead && o.transferred && !o.left.isEmpty), ∀ x ∈ o.left.head?, u = s.setLun c.val l.val ((s.lun c.val l.val).put { o with left := o.left.tail, erasedCws := setBit o.erasedCws x.1 true })) ∧
  (∀ (c : Fin 32) (l : Fin 32) (r : CwResult) (s : State), Cond.codewordDecodedClean c l r s = true →
    ∃ u, exec (.codewordDecoded c l r) s = .next u ∧ (∀ o ∈ (s.lun c.val l.val).ops.find? (fun (o : MOp) => o.isRead && o.transferred && !o.left.isEmpty), ∀ x ∈ o.left.head?, let w := (s.codeword (o.ppn c.val (x.1 / 4)) (x.1 % 4)).1; u.mem = (s.deliver o x.1 w w.poison).mem ∧ (u.lun c.val l.val) = (s.lun c.val l.val).put { o with left := o.left.tail, maxBits := max o.maxBits (match r with | .decoded n => n | _ => 0), poisoned := o.poisoned || w.poison }) ∧ u.flash = s.flash ∧ Cond.restMedia s u = true) ∧
  (∀ (c : Fin 32) (l : Fin 32) (r : CwResult) (s : State), Cond.codewordDecodedLast c l r s = true →
    ∃ u, exec (.codewordDecoded c l r) s = .next u ∧ (∀ o ∈ (s.lun c.val l.val).ops.find? (fun (o : MOp) => o.isRead && o.transferred && !o.left.isEmpty), ∀ x ∈ o.left.head?, let w := (s.codeword (o.ppn c.val (x.1 / 4)) (x.1 % 4)).1; Cond.posted (s.deliver o x.1 w w.poison) u c.val { o with left := [], maxBits := max o.maxBits (match r with | .decoded n => n | _ => 0), poisoned := o.poisoned || w.poison, onfi := (s.lun c.val l.val).status } mOK 0 ∧ (u.lun c.val l.val).ops = Cond.others s c.val l.val o) ∧ u.flash = s.flash) ∧
  (∀ (c : Fin 32) (l : Fin 32) (ok : Bool) (status : BitVec 8) (s : State), Cond.programEnd c l ok s = true →
    ∃ u, exec (.programEnd c l ok status) s = .next u ∧ ∀ o ∈ (s.lun c.val l.val).ops.find? (fun (o : MOp) => o.started && o.transferred && o.desc.opcode == .program), Cond.posted s u c.val { o with onfi := status.toNat } mOK 0 ∧ (u.lun c.val l.val).ops = Cond.others s c.val l.val o ∧ u.flash = s.flash) ∧
  (∀ (c : Fin 32) (l : Fin 32) (ok : Bool) (status : BitVec 8) (s : State), Cond.programEndFails c l ok s = true →
    ∃ u, exec (.programEnd c l ok status) s = .next u ∧ ∀ o ∈ (s.lun c.val l.val).ops.find? (fun (o : MOp) => o.started && o.transferred && o.desc.opcode == .program), Cond.wpPosted s u c.val { o with onfi := status.toNat } mProgFail 0 (o.desc.blockKeys c.val) ⟨.unknown, 0⟩ ∧ (∀ p ∈ s.programPages c.val o.desc, Tab.find u.flash.pages p = some .undefined)) ∧
  (∀ (c : Fin 32) (l : Fin 32) (ok : Bool) (status : BitVec 8) (s : State), Cond.eraseEnd c l ok s = true →
    ∃ u, exec (.eraseEnd c l ok status) s = .next u ∧ ∀ e ∈ (s.lun c.val l.val).erase, Cond.wpPosted s u c.val { e.op with onfi := status.toNat } mOK e.count (e.op.desc.blockKeys c.val) ⟨.opened, 0⟩ ∧ (∀ k ∈ e.op.desc.blockKeys c.val, ∀ p ∈ List.range (2 ^ 13), Tab.find u.flash.pages (k * 2 ^ 13 + p) = none) ∧ (∀ p : Nat, p / 2 ^ 13 ∉ e.op.desc.blockKeys c.val → Tab.find u.flash.pages p = Tab.find s.flash.pages p) ∧ (u.lun c.val l.val).erase = none) ∧
  (∀ (c : Fin 32) (l : Fin 32) (ok : Bool) (status : BitVec 8) (s : State), Cond.eraseEndFails c l ok s = true →
    ∃ u, exec (.eraseEnd c l ok status) s = .next u ∧ ∀ e ∈ (s.lun c.val l.val).erase, Cond.wpPosted s u c.val { e.op with onfi := status.toNat } mEraseFail e.count (e.op.desc.blockKeys c.val) ⟨.bad, 0⟩ ∧ (u.lun c.val l.val).erase = none) ∧
  (∀ (c : Fin 32) (l : Fin 32) (s : State), Cond.eraseSuspended c l s = true →
    ∃ u, exec (.eraseSuspended c l) s = .next u ∧ (∀ e ∈ (s.lun c.val l.val).erase, (u.lun c.val l.val) = { s.lun c.val l.val with state := .suspended, erase := some { e with count := e.count + 1 } }) ∧ u.val (0x5100 + c.val) 0x0A = (s.bump (0x5100 + c.val) 0x0A).val (0x5100 + c.val) 0x0A ∧ u.mem = s.mem ∧ u.flash = s.flash ∧ Cond.restMedia s u = true) ∧
  (∀ (c : Fin 32) (l : Fin 32) (s : State), Cond.mediaOpTimeout c l s = true →
    ∃ u, exec (.mediaOpTimeout c l) s = .next u ∧ (u.lun c.val l.val) = { s.lun c.val l.val with recovering := some s.pkg.timebase, status := (u.lun c.val l.val).status } ∧ u.val (0x5100 + c.val) 9 = (s.bump (0x5100 + c.val) 9).val (0x5100 + c.val) 9 ∧ u.mem = s.mem ∧ u.flash = s.flash ∧ Cond.restMedia s u = true) ∧
  (∀ (c : Fin 32) (l : Fin 32) (ready : Bool) (s : State), Cond.lunRecoveryEnd c l ready s = true →
    ∃ u, exec (.lunRecoveryEnd c l ready) s = .next u ∧ ∀ o ∈ (s.lun c.val l.val).ops.head?, Cond.posted s u c.val (Cond.seen u c.val l.val o) mTimeout 0 ∧ (u.lun c.val l.val) = { s.lun c.val l.val with state := .idle, erase := none, recovering := none, fault := false, ops := [], status := (u.lun c.val l.val).status } ∧ u.flash = s.flash) ∧
  (∀ (c : Fin 32) (l : Fin 32) (ready : Bool) (s : State), Cond.lunRecoveryEndFaults c l ready s = true →
    ∃ u, exec (.lunRecoveryEnd c l ready) s = .next u ∧ ∀ o ∈ (s.lun c.val l.val).ops.head?, Cond.posted s u c.val (Cond.seen u c.val l.val o) mLunFault 0 ∧ (u.lun c.val l.val).fault = true ∧ (u.lun c.val l.val).ops = [] ∧ u.flash = s.flash)

/-- Each command answers a next state whenever its condition holds, as follows. CS_ENABLE: with both rings aligned and in the hub's table memory, and no
descriptor waiting, the controller is enabled and RING_ERROR clear; nothing else changes; with a ring misplaced or misaligned it is not enabled and
RING_ERROR is set. QUEUE_RESET: with both banks idle and completion slots for all, a completion is posted for each descriptor that waits and each slot
up to the tail, the ring is empty, and the reset is over; the array is as it was; with an operation running in bank 0 and nothing waiting, the reset
is busy and the operation goes on; during a reset another changes nothing. XIP_INVALIDATE: the cache is empty, and nothing else changes.
CS_DESC_TAIL_DOORBELL: during a queue reset it is ignored and counted; of a controller not enabled, or with the tail at the head, only the tail moves;
with a completion slot free, one descriptor that passes the check is fetched behind those that wait; of a store in fault one descriptor completes
FAULTED. CS_READ: in an idle bank, of lines that decode and hold no record of the store: the bytes go to the buffer and the read completes OK; whose
first line is uncorrectable: it completes UNCORRECTABLE with the offset of that line; the only one that waits, with no flush, while an erase runs: the
erase is suspended, counted, and resumed with the time it ran noted; the bytes and the entry, marked as in a suspension, are stored. CS_PROGRAM: in an
idle bank, of blank lines not locked: the program runs, and the cache has forgotten its range; of a locked range: it completes LOCKED; of a line not
blank, without OVERWRITE: it completes NOT_BLANK with the first such line; whose buffer meets a bus error: it completes BUS_ERROR. CS_ERASE: in an
idle bank, of a sector not locked: the erase runs, and the cache has forgotten the sector; of a locked one: it completes LOCKED. BLANK_CHECK: in an
idle bank, of blank lines: OK; else NOT_BLANK with the first line that is not. CS_PROGRAM_END: outside a suspension and a queue reset: the array holds
the buffer's bytes as R238 merges them, and the program completes OK; one that fails leaves the lines of its page undefined and completes PROG_FAIL.
CS_ERASE_END: every byte of the sector reads FFh, every other byte is as it was, and the erase completes OK with its suspensions; one that fails
leaves the lines of the sector undefined and completes ERASE_FAIL. CS_OP_TIMEOUT: a program past its limit, outside a suspension: its bank is reset,
it completes TIMEOUT, and its page is undefined. BANK_READY_TIMEOUT: 10 ms after the reset of a bank, nothing running: the store is in fault, its
cache empty, and a completion is posted for each descriptor that waits. XIP_FETCH: of a bank at rest, of lines that decode: a hit gives the bytes and
changes nothing else; a miss gives them too, and the line and those behind it enter the cache; of a store in fault it gives no value and changes
nothing. -/
def Obligations.CodeStoreQueue : Prop :=
  (∀ (s : State), Cond.csEnable s = true →
    exec .csEnable s = .next ({ s with cs.enable := true, cs.ringError := false })) ∧
  (∀ (s : State), Cond.csEnableRefused s = true →
    exec .csEnable s = .next ({ s with cs.enable := false, cs.ringError := true })) ∧
  (∀ (s : State), Cond.csQueueReset s = true →
    ∃ u, exec .csQueueReset s = .next u ∧ u.cs.ops = [] ∧ u.cs.resetBusy = false ∧ u.cs.descHead = s.cs.descTail ∧ u.cs.cplTail = (s.cs.cplTail + s.cs.ops.length + (s.cs.descTail + 64 - s.cs.descHead) % 64) % 64 ∧ u.cs.array = s.cs.array ∧ u.cs.undefinedLines = s.cs.undefinedLines ∧ u.cs.badLines = s.cs.badLines ∧ Cond.restCs s u = true) ∧
  (∀ (s : State), Cond.csQueueResetWaits s = true →
    exec .csQueueReset s = .next ({ s with cs.resetBusy := true, cs.resetEnd := s.cs.descTail })) ∧
  (∀ (s : State), Cond.csQueueResetAgain s = true →
    exec .csQueueReset s = .next (s)) ∧
  (∀ (s : State), exec .xipInvalidate s = .next ({ s with cs.cache := [] })) ∧
  (∀ (tail : Fin 64) (busErr : Bool) (s : State), Cond.csDescTailDoorbellIgnored s = true →
    exec (.csDescTailDoorbell tail busErr) s = .next ({ s with cs.doorbellIgnored := s.cs.doorbellIgnored + 1 })) ∧
  (∀ (tail : Fin 64) (busErr : Bool) (s : State), Cond.csDescTailDoorbellNothing tail s = true →
    exec (.csDescTailDoorbell tail busErr) s = .next ({ s with cs.descTail := tail.val })) ∧
  (∀ (tail : Fin 64) (busErr : Bool) (s : State), Cond.csDescTailDoorbell tail busErr s = true →
    ∃ u, exec (.csDescTailDoorbell tail busErr) s = .next u ∧ ∀ o ∈ s.csCheck s.cs.descHead (fun (i : Nat) => s.load (s.cs.descBase + 32 * s.cs.descHead + 4 * i) 4), u = { s with cs.descTail := tail.val, cs.descHead := tail.val, cs.ops := s.cs.ops ++ [o] }) ∧
  (∀ (tail : Fin 64) (busErr : Bool) (s : State), Cond.csDescTailDoorbellFaulted tail busErr s = true →
    ∃ u, exec (.csDescTailDoorbell tail busErr) s = .next u ∧ Cond.csPosted s u (csReject s.cs.descHead (bits (s.load (s.cs.descBase + 32 * s.cs.descHead) 4) 16 16) (bit (s.load (s.cs.descBase + 32 * s.cs.descHead) 4) 10)) cFaulted 0 0 ∧ u.cs.descHead = tail.val ∧ u.cs.ops = s.cs.ops) ∧
  (∀ (b : Fin 2) (ecc : Ecc) (s : State), Cond.csRead b ecc s = true →
    ∃ u, exec (.csRead b ecc) s = .next u ∧ ∀ o ∈ s.csNext b .read, Cond.csPosted (s.store o.buf (s.cs.bytes o.addr o.len) false) u (Cond.csBegun s false o) cOK 0 0 ∧ u.cs.ops = Cond.csBehind s o ∧ u.cs.array = s.cs.array ∧ u.cs.undefinedLines = s.cs.undefinedLines ∧ u.cs.badLines = s.cs.badLines) ∧
  (∀ (b : Fin 2) (ecc : Ecc) (s : State), Cond.csReadUncorrectable b ecc s = true →
    ∃ u, exec (.csRead b ecc) s = .next u ∧ ∀ o ∈ s.csNext b .read, Cond.csEnded s u (Cond.csBegun s false o) cUncorrectable 0 (32 * (o.addr / 32)) ∧ u.cs.ops = Cond.csBehind s o ∧ u.cs.array = s.cs.array ∧ u.cs.undefinedLines = s.cs.undefinedLines ∧ u.cs.badLines = s.cs.badLines) ∧
  (∀ (b : Fin 2) (ecc : Ecc) (s : State), Cond.csReadSuspends b ecc s = true →
    ∃ u, exec (.csRead b ecc) s = .next u ∧ ∀ o ∈ s.csNext b .read, u.cs.bank b = { s.cs.bank b with suspCount := (s.cs.bank b).suspCount + 1, spent := (s.cs.bank b).spent + s.since (s.cs.bank b).runSince, programUsed := false, resetting := none, runSince := s.pkg.timebase } ∧ Cond.csEnded s u (Cond.csBegun s true o) cOK 0 0 ∧ u.mem.read o.buf o.len = s.cs.bytes o.addr o.len ∧ u.cs.ops = [] ∧ u.cs.array = s.cs.array ∧ u.cs.undefinedLines = s.cs.undefinedLines ∧ u.cs.badLines = s.cs.badLines) ∧
  (∀ (b : Fin 2) (busErr : Bool) (s : State), Cond.csProgram b busErr s = true →
    ∃ u, exec (.csProgram b busErr) s = .next u ∧ ∀ o ∈ s.csNext b .program, u.cs.bank b = { s.cs.bank b with running := some (Cond.csBegun s false o), resetting := none, programUsed := false } ∧ u.cs.ops = Cond.csBehind s o ∧ u.cs.cache = (s.cs.forget o.addr o.len).cache ∧ u.cs.array = s.cs.array ∧ u.cs.undefinedLines = s.cs.undefinedLines ∧ u.cs.badLines = s.cs.badLines ∧ u.mem = s.mem ∧ u.dict = s.dict ∧ Cond.restCs s u = true) ∧
  (∀ (b : Fin 2) (busErr : Bool) (s : State), Cond.csProgramLocked b s = true →
    ∃ u, exec (.csProgram b busErr) s = .next u ∧ ∀ o ∈ s.csNext b .program, Cond.csPosted s u o cLocked 0 0 ∧ u.cs.ops = Cond.csBehind s o ∧ u.cs.array = s.cs.array ∧ u.cs.undefinedLines = s.cs.undefinedLines ∧ u.cs.badLines = s.cs.badLines ∧ u.cs.banks = s.cs.banks) ∧
  (∀ (b : Fin 2) (busErr : Bool) (s : State), Cond.csProgramNotBlank b s = true →
    ∃ u, exec (.csProgram b busErr) s = .next u ∧ ∀ o ∈ s.csNext b .program, ∀ x ∈ s.cs.firstUsed o.addr o.len, Cond.csPosted s u o cNotBlank 0 x ∧ u.cs.ops = Cond.csBehind s o ∧ u.cs.array = s.cs.array ∧ u.cs.undefinedLines = s.cs.undefinedLines ∧ u.cs.badLines = s.cs.badLines ∧ u.cs.banks = s.cs.banks) ∧
  (∀ (b : Fin 2) (busErr : Bool) (s : State), Cond.csProgramBusError b busErr s = true →
    ∃ u, exec (.csProgram b busErr) s = .next u ∧ ∀ o ∈ s.csNext b .program, Cond.csEnded s u o cBusError 0 0 ∧ u.cs.ops = Cond.csBehind s o ∧ u.cs.array = s.cs.array ∧ u.cs.undefinedLines = s.cs.undefinedLines ∧ u.cs.badLines = s.cs.badLines ∧ u.cs.banks = s.cs.banks) ∧
  (∀ (b : Fin 2) (s : State), Cond.csErase b s = true →
    ∃ u, exec (.csErase b) s = .next u ∧ ∀ o ∈ s.csNext b .erase, u.cs.bank b = { s.cs.bank b with running := some { o with started := true, startAt := s.pkg.timebase }, resetting := none, suspCount := 0, spent := 0, runSince := s.pkg.timebase, programUsed := false } ∧ u.cs.ops = Cond.csBehind s o ∧ (∀ r ∈ s.cs.sector o.addr, u.cs.cache = (s.cs.forget o.addr r.2).cache) ∧ u.cs.array = s.cs.array ∧ u.cs.undefinedLines = s.cs.undefinedLines ∧ u.cs.badLines = s.cs.badLines ∧ u.mem = s.mem ∧ u.dict = s.dict ∧ Cond.restCs s u = true) ∧
  (∀ (b : Fin 2) (s : State), Cond.csEraseLocked b s = true →
    ∃ u, exec (.csErase b) s = .next u ∧ ∀ o ∈ s.csNext b .erase, Cond.csPosted s u o cLocked 0 0 ∧ u.cs.ops = Cond.csBehind s o ∧ u.cs.array = s.cs.array ∧ u.cs.undefinedLines = s.cs.undefinedLines ∧ u.cs.badLines = s.cs.badLines ∧ u.cs.banks = s.cs.banks) ∧
  (∀ (b : Fin 2) (s : State), Cond.csBlankCheck b s = true →
    ∃ u, exec (.csBlankCheck b) s = .next u ∧ ∀ o ∈ s.csNext b .blankCheck, Cond.csPosted s u (Cond.csBegun s false o) cOK 0 0 ∧ u.cs.ops = Cond.csBehind s o ∧ u.cs.array = s.cs.array ∧ u.cs.undefinedLines = s.cs.undefinedLines ∧ u.cs.badLines = s.cs.badLines) ∧
  (∀ (b : Fin 2) (s : State), Cond.csBlankCheckNotBlank b s = true →
    ∃ u, exec (.csBlankCheck b) s = .next u ∧ ∀ o ∈ s.csNext b .blankCheck, ∀ x ∈ s.cs.firstUsed o.addr o.len, Cond.csPosted s u (Cond.csBegun s false o) cNotBlank 0 x ∧ u.cs.ops = Cond.csBehind s o ∧ u.cs.array = s.cs.array ∧ u.cs.undefinedLines = s.cs.undefinedLines ∧ u.cs.badLines = s.cs.badLines) ∧
  (∀ (b : Fin 2) (ok : Bool) (s : State), Cond.csProgramEnd b ok s = true →
    ∃ u, exec (.csProgramEnd b ok) s = .next u ∧ ∀ o ∈ (s.cs.bank b).running, Cond.csPosted s u o cOK 0 0 ∧ u.cs.array = (s.cs.programAt o.addr (s.mem.read o.buf o.len)).array ∧ u.cs.bank b = { s.cs.bank b with running := none } ∧ u.cs.ops = s.cs.ops) ∧
  (∀ (b : Fin 2) (ok : Bool) (s : State), Cond.csProgramEndFails b ok s = true →
    ∃ u, exec (.csProgramEnd b ok) s = .next u ∧ ∀ o ∈ (s.cs.bank b).running, Cond.csPosted s u o cProgFail 0 0 ∧ u.cs.array = s.cs.array ∧ (∀ l : Nat, (o.addr / 256 * 256) / 32 ≤ l → l < (o.addr / 256 * 256 + 256) / 32 → u.cs.lineOk l = false) ∧ u.cs.bank b = { s.cs.bank b with running := none }) ∧
  (∀ (b : Fin 2) (ok : Bool) (s : State), Cond.csEraseEnd b ok s = true →
    ∃ u, exec (.csEraseEnd b ok) s = .next u ∧ ∀ o ∈ (s.cs.bank b).running, Cond.csPosted s u o cOK (s.cs.bank b).suspCount 0 ∧ (∀ r ∈ s.cs.sector o.addr, (∀ a : Nat, o.addr ≤ a → a < o.addr + r.2 → u.cs.byte a = 0xFF) ∧ (∀ a : Nat, a < o.addr ∨ o.addr + r.2 ≤ a → u.cs.byte a = s.cs.byte a)) ∧ u.cs.bank b = { s.cs.bank b with running := none, suspCount := 0 }) ∧
  (∀ (b : Fin 2) (ok : Bool) (s : State), Cond.csEraseEndFails b ok s = true →
    ∃ u, exec (.csEraseEnd b ok) s = .next u ∧ ∀ o ∈ (s.cs.bank b).running, Cond.csPosted s u o cEraseFail (s.cs.bank b).suspCount 0 ∧ u.cs.array = s.cs.array ∧ (∀ r ∈ s.cs.sector o.addr, (∀ l : Nat, o.addr / 32 ≤ l → l < (o.addr + r.2 / 32 * 32) / 32 → u.cs.lineOk l = false)) ∧ u.cs.bank b = { s.cs.bank b with running := none, suspCount := 0 }) ∧
  (∀ (b : Fin 2) (s : State), Cond.csOpTimeout b s = true →
    ∃ u, exec (.csOpTimeout b) s = .next u ∧ ∀ o ∈ (s.cs.bank b).running, Cond.csPosted s u o cTimeout 0 0 ∧ u.cs.bank b = { s.cs.bank b with running := none, resetting := some s.pkg.timebase } ∧ u.cs.array = s.cs.array ∧ (∀ l : Nat, (o.addr / 256 * 256) / 32 ≤ l → l < (o.addr / 256 * 256 + 256) / 32 → u.cs.lineOk l = false)) ∧
  (∀ (b : Fin 2) (s : State), Cond.csBankTimeout b s = true →
    ∃ u, exec (.csBankTimeout b) s = .next u ∧ u.cs.faulted = true ∧ u.cs.ops = [] ∧ u.cs.cache = [] ∧ u.cs.cplTail = (s.cs.cplTail + s.cs.ops.length) % 64 ∧ u.cs.array = s.cs.array ∧ u.cs.undefinedLines = s.cs.undefinedLines ∧ u.cs.badLines = s.cs.badLines ∧ Cond.restCs s u = true) ∧
  (∀ (n : Fin 132) (addr : BitVec 48) (wide : Bool) (ecc : Ecc) (s : State), Cond.xipFetchHit addr wide s = true →
    exec (.xipFetch n addr wide ecc) s = .next (s.emit (.value n.val (ofLe (s.cs.bytes addr.toNat (if wide then 8 else 4)))))) ∧
  (∀ (n : Fin 132) (addr : BitVec 48) (wide : Bool) (ecc : Ecc) (s : State), Cond.xipFetchMiss addr wide ecc s = true →
    exec (.xipFetch n addr wide ecc) s = .next ({ s with cs := s.cs.fill addr.toNat }.emit (.value n.val (ofLe (s.cs.bytes addr.toNat (if wide then 8 else 4)))))) ∧
  (∀ (n : Fin 132) (addr : BitVec 48) (wide : Bool) (ecc : Ecc) (s : State), Cond.xipFetch s = true →
    exec (.xipFetch n addr wide ecc) s = .next (s))

/-- The firmware's work goes on with nothing that waits for a port, and, where a record is journaled, nothing is shipped to the twin. Each command answers
a next state whenever its condition holds, as follows. Nothing changes but the sets, the flash, the media engine, the dirty units, the dictionary, the
events, the Strait and what is sent, and what a clause names. SOW_ROW: the open furrow of a group on a region that is online takes its next wordline
row: the units that wait, in order, then gleaned copies, as many as its pages hold; its columns are programmed or wait to be, in their order; the
units placed are marked as being sown, and the row and the carry of the furrow move on. ROW_CONFIRMED: of a row of one unit, the only one dirty,
before the furrow's last: the row's record and the unit's are journaled in turn, the unit stands on flash where its map entry now points, the wordline
is confirmed, the row is gone, and the buffer is released. ROW_PROGRAM_FAILED: the row is gone, its failed columns leave the furrow and their blocks
are bad; of memory only the write-pointer entries of those blocks change, and of the code store only its copy of the bad blocks. END_MARKER_WRITE:
with no row in hand the marker stands on its page, no other page changes, the furrow is FULL from now, and that is journaled. JOURNAL_PAGE_PROGRAMMED:
the whole groups among the oldest 512 records leave the DRAM for flash, and the last of them is the highest programmed. CHECKPOINT_START: due by
bytes, with none running: the next number, the map and the furrows are taken at the sequence of the begin record, which is journaled.
CHECKPOINT_COMPLETE: the checkpoint that ran is the latest, its end record is journaled, and older records leave the flash journal.
MAP_SEGMENT_RELOAD: a lost segment holds what the last checkpoint and the journal over it give, and no other does change. -/
def Obligations.SowingAndJournal : Prop :=
  (∀ (i : Fin 2) (g : BitVec 8) (s : State), Cond.sowRow i g s = true →
    ∃ u, exec (.sowRow i g) s = .next u ∧ ∀ f ∈ (s.xset i).sowing g.toNat, let pages := s.rowPages f f.nextRow; let p := placeUnits pages (64 * pages.length) (decide (f.nextRow + 1 < s.wordlines) && !(s.rowPages f (f.nextRow + 1)).isEmpty) (s.toSow i ++ s.toMove i f.id).length f.carry (s.toSow i ++ s.toMove i f.id); ((u.xset i).row f.id).map (fun r => (r.wordline, r.units, r.posted ++ r.waiting)) = some (f.nextRow, p.1, s.rowCols f f.nextRow) ∧ ((u.xset i).furrow f.id).map (fun x => (x.nextRow, x.carry)) = some (f.nextRow + 1, p.2 - 64 * pages.length) ∧ u.hold.dirty = updateIf (fun d => p.1.any fun x => x.movedFrom.isNone && x.order == d.order) (fun d => { d with sowing := true }) s.hold.dirty ∧ (u.xset i).map = (s.xset i).map ∧ u.flash = s.flash ∧ Cond.restWork s u = true) ∧
  (∀ (i : Fin 2) (id : BitVec 32) (s : State), Cond.rowConfirmed i id s = true →
    ∃ u, exec (.rowConfirmed i id) s = .next u ∧ ∀ r ∈ (s.xset i).row id.toNat, ∀ p ∈ r.units.head?, ∀ d ∈ s.hold.dirty.head?, u.hold.dirty = [] ∧ (u.xset i).entry d.nsid d.unit = p.entry ∧ Tab.find u.flash.units (flashKey p.entry) = some p.stored ∧ ((u.xset i).dram.drop (s.xset i).dram.length).map (fun x => (x.seq, x.last, x.body)) = [((s.xset i).seq + 1, true, .rowConfirmed id.toNat r.wordline (colMask r.posted)), ((s.xset i).seq + 2, true, .unitMap d.nsid d.unit p.entry)] ∧ ((u.xset i).furrow id.toNat).map (fun f => f.confirmed) = some (r.wordline + 1) ∧ (u.xset i).row id.toNat = none ∧ u.flash.pages = s.flash.pages ∧ Cond.restXlat s u = true) ∧
  (∀ (i : Fin 2) (id : BitVec 32) (s : State), Cond.rowProgramFailed i id s = true →
    ∃ u, exec (.rowProgramFailed i id) s = .next u ∧ ∀ r ∈ (s.xset i).row id.toNat, ∀ f ∈ (s.xset i).furrow id.toNat, (u.xset i).row id.toNat = none ∧ ((u.xset i).furrow id.toNat).map (fun y => y.cols.map fun k => k.gone) = some (f.cols.map fun k => k.gone || r.failed.contains k.col) ∧ (∀ k ∈ f.cols.filter (fun (k : FCol) => r.failed.contains k.col), ∀ p ∈ bitList 8 k.planes, u.isBad k.channel k.lun p k.block = true) ∧ (∀ a : Nat, (∀ k ∈ f.cols.filter (fun (k : FCol) => r.failed.contains k.col), ∀ p ∈ bitList 8 k.planes, a < s.wpAddr (blockKey k.channel k.lun p k.block) ∨ s.wpAddr (blockKey k.channel k.lun p k.block) + 2 ≤ a) → u.mem.byte a = s.mem.byte a) ∧ (u.xset i).map = (s.xset i).map ∧ u.flash.pages = s.flash.pages ∧ u.flash.units = s.flash.units ∧ Cond.restMark s u = true) ∧
  (∀ (i : Fin 2) (id : BitVec 32) (s : State), Cond.endMarkerWrite i id s = true →
    ∃ u, exec (.endMarkerWrite i id) s = .next u ∧ ∀ f ∈ (s.xset i).furrow id.toNat, ∀ ppn ∈ s.markerPage f, Tab.find u.flash.marks ppn = some ⟨id.toNat, f.confirmed, s.durable i⟩ ∧ Tab.find u.flash.pages ppn = some (EndMark.page ⟨id.toNat, f.confirmed, s.durable i⟩) ∧ (∀ k : Nat, k ≠ ppn → Tab.find u.flash.pages k = Tab.find s.flash.pages k ∧ Tab.find u.flash.marks k = Tab.find s.flash.marks k) ∧ ((u.xset i).furrow id.toNat).map (fun y => (y.state, y.fullAt)) = some (.full, s.pkg.timebase) ∧ Cond.journaled s u i false [.furrowState id.toNat .full s.pkg.timebase] = true ∧ Cond.restXlat s u = true) ∧
  (∀ (i : Fin 2) (s : State), Cond.journalPageProgrammed i s = true →
    ∃ u, exec (.journalPageProgrammed i) s = .next u ∧ let page := wholeGroups ((s.xset i).dram.take 512); (u.xset i).flashLog = (s.xset i).flashLog ++ page ∧ (u.xset i).dram = (s.xset i).dram.drop page.length ∧ some (u.xset i).programmed = page.getLast?.map (fun r => r.seq) ∧ (u.xset i).map = (s.xset i).map ∧ u.flash = s.flash ∧ u.media = s.media ∧ Cond.restXlat s u = true) ∧
  (∀ (i : Fin 2) (s : State), Cond.checkpointStart i s = true →
    ∃ u, exec (.checkpointStart i) s = .next u ∧ let n := (((s.xset i).checkpoint.map (fun k => k.number)).getD 0) + 1; (u.xset i).running = some (n, (s.xset i).seq + 1, (s.xset i).map, (s.xset i).furrows) ∧ (u.xset i).sinceCheckpoint = 0 ∧ (u.xset i).checkpointAt = s.pkg.timebase ∧ Cond.journaled s u i false [.checkpoint false n ((s.xset i).seq + 1)] = true ∧ u.flash = s.flash ∧ u.media = s.media ∧ u.hold = s.hold ∧ Cond.restXlat s u = true) ∧
  (∀ (i : Fin 2) (s : State), Cond.checkpointComplete i s = true →
    ∃ u, exec (.checkpointComplete i) s = .next u ∧ ∀ r ∈ (s.xset i).running, (u.xset i).checkpoint = some ⟨r.1, r.2.1, r.2.2.1, r.2.2.2⟩ ∧ (u.xset i).running = none ∧ (u.xset i).flashLog = (s.xset i).flashLog.filter (fun x => decide (r.2.1 ≤ x.seq)) ∧ Cond.journaled s u i false [.checkpoint true r.1 r.2.1] = true ∧ u.flash = s.flash ∧ u.media = s.media ∧ Cond.restXlat s u = true) ∧
  (∀ (i : Fin 2) (seg : BitVec 64) (s : State), Cond.mapSegmentReload i seg s = true →
    ∃ u, exec (.mapSegmentReload i seg) s = .next u ∧ (∀ k : Nat, k / 131072 ≠ seg.toNat → Tab.find (u.xset i).map k = Tab.find (s.xset i).map k) ∧ (∀ k : Nat, k / 131072 = seg.toNat → Tab.find (u.xset i).map k = Tab.find ((s.xset i).replayed s.isTwin i ((s.xset i).flashLog ++ (s.xset i).dram)).map k) ∧ (u.xset i).badSegments = (s.xset i).badSegments.filter (fun x => x != seg.toNat) ∧ u.flash = s.flash ∧ u.media = s.media ∧ u.hold = s.hold ∧ Cond.restXlat s u = true)

/-- The firmware's work goes on with nothing that waits for a port, and, where a record is journaled, nothing is shipped to the twin. Each command answers
a next state whenever its condition holds, as follows. Nothing changes but the sets, the flash, the media engine, the dirty units, the dictionary, the
events, the Strait, what is sent and the time of a region's last host work, and what a clause names. DIE_PARITY_REBUILD: with no rebuild of the unit
begun: for each page that its reads could not have one begins, with as many reads out as its stripe has other pages; once the reads of a unit's
rebuilds have ended, all within reach, and its check fails: the entry reads as poison, journaled so, its copy is given up and the rebuilds are gone;
where one page was lost, enough of its stripe was read and the unit's check passes: the copy goes on, the page's block is to be refreshed, and the map
is as it was. GLEAN_START: with no refresh due and too few furrows fallow: the FULL furrow of highest score that holds valid units is gleaned, its
units are set out for copying, and its state is journaled. GLEAN_MAP_UPDATE: one confirmed copy whose unit's entry is still the one it was read from:
the entry points to the copy, journaled with MOVE and counted, and no other entry changes; one whose unit has been written since is given up and
counted; the map and the journal are as they were. FURROW_ERASE: a reclaimable furrow that no read is in flight to, its moves durable, is being
erased: every column within reach that is neither retired nor kept from it; its state is journaled. FURROW_ERASE_DONE: with every erase ended and none
failed, the furrow is gone, journaled as fallow, and no other furrow changes. PATROL_READ: of a written page of an owned channel, its LUN free to take
it: a read in class 4 goes behind the LUN's operations, and nothing else changes; where its LUN may take no more, the read waits, and nothing else
changes; of a page not written nothing changes. STATIC_SWAP: with the wear spread beyond its limit and no swap running, the FULL furrow of lowest
erase count is gleaned for a swap, its units are set out for copying, and it is counted. LUN_RETIRED: after a third fault within 24 hours the LUN is
retired, entered as bad with cause 5, and every FULL furrow with a column on it is to be gleaned; of the code store only its copy of the bad blocks
changes. -/
def Obligations.GleaningAndWear : Prop :=
  (∀ (nsid : BitVec 32) (unit : BitVec 64) (ok : Bool) (s : State), Cond.dieParityRebuildBegins nsid unit s = true →
    ∃ u, exec (.dieParityRebuild nsid unit ok) s = .next u ∧ (∀ p ∈ (s.lostPages (s.setOf nsid.toNat) nsid.toNat unit.toNat), ∃ m ∈ (u.xset (s.setOf nsid.toNat)).mending, m.is nsid.toNat unit.toNat p = true ∧ m.left = (s.stripeMates (s.setOf nsid.toNat) p).1.length ∧ m.got = 0) ∧ (u.xset (s.setOf nsid.toNat)).map = (s.xset (s.setOf nsid.toNat)).map ∧ (u.xset (s.setOf nsid.toNat)).gleans = (s.xset (s.setOf nsid.toNat)).gleans ∧ u.flash = s.flash ∧ u.hold = s.hold ∧ Cond.restWork s u = true) ∧
  (∀ (nsid : BitVec 32) (unit : BitVec 64) (ok : Bool) (s : State), Cond.dieParityRebuildLost nsid unit ok s = true →
    ∃ u, exec (.dieParityRebuild nsid unit ok) s = .next u ∧ let i := s.setOf nsid.toNat; (u.xset i).entry nsid.toNat unit.toNat = { (s.xset i).entry nsid.toNat unit.toNat with state := 3, len := 0, off := 0 } ∧ (u.xset i).gleans = (s.xset i).gleans.filter (fun g => !(g.nsid == nsid.toNat && g.unit == unit.toNat)) ∧ (u.xset (s.setOf nsid.toNat)).mending = (s.xset (s.setOf nsid.toNat)).mending.filter (fun m => !(m.nsid == nsid.toNat && m.unit == unit.toNat)) ∧ ((u.xset i).dram[(s.xset i).dram.length]?).map (fun r => r.body) = some (.unitMap nsid.toNat unit.toNat { (s.xset i).entry nsid.toNat unit.toNat with state := 3, len := 0, off := 0 }) ∧ u.flash = s.flash ∧ u.media = s.media ∧ u.hold = s.hold ∧ Cond.restXlat s u = true) ∧
  (∀ (nsid : BitVec 32) (unit : BitVec 64) (ok : Bool) (s : State), Cond.dieParityRebuild nsid unit ok s = true →
    ∃ u, exec (.dieParityRebuild nsid unit ok) s = .next u ∧ let i := s.setOf nsid.toNat; (u.xset i).map = (s.xset i).map ∧ (u.xset i).gleans = updateIf (fun (g : Glean) => g.nsid == nsid.toNat && g.unit == unit.toNat) (fun g => { g with reads := g.reads - g.lost.length, lost := [] }) (s.xset i).gleans ∧ (u.xset (s.setOf nsid.toNat)).mending = (s.xset (s.setOf nsid.toNat)).mending.filter (fun m => !(m.nsid == nsid.toNat && m.unit == unit.toNat)) ∧ (∀ p ∈ (s.lostPages (s.setOf nsid.toNat) nsid.toNat unit.toNat), ∀ j : Fin 2, (u.xset j).refreshes = (s.scheduleRefresh (pageChannel p) (pageLun p) (bits p 13 14)).sets[j].refreshes) ∧ u.flash = s.flash ∧ u.media = s.media ∧ u.hold = s.hold ∧ Cond.restXlat s u = true) ∧
  (∀ (i : Fin 2) (s : State), Cond.gleanStart i s = true →
    ∃ u, exec (.gleanStart i) s = .next u ∧ ∀ f ∈ bestFurrow (fun a b => scoreAbove (s.score i a) (s.score i b)) ((s.xset i).furrows.filter fun f => f.state == .full), (u.xset i).gleans.map Cond.gleaned = ((s.xset i).gleans ++ (s.xset i).validIn f.id).map Cond.gleaned ∧ ((u.xset i).furrow f.id).map (fun y => y.state) = some .gleaning ∧ Cond.journaled s u i false [.furrowState f.id .gleaning s.pkg.timebase] = true ∧ (u.xset i).map = (s.xset i).map ∧ u.flash = s.flash ∧ u.hold = s.hold ∧ Cond.restWork s u = true) ∧
  (∀ (i : Fin 2) (s : State), Cond.gleanMapUpdate i s = true →
    ∃ u, exec (.gleanMapUpdate i) s = .next u ∧ ∀ p ∈ (s.xset i).moved.head?, (u.xset i).entry p.nsid p.unit = p.entry ∧ (∀ k : Nat, k ≠ unitKey p.nsid p.unit → Tab.get (u.xset i).map MapEntry.unmapped k = Tab.get (s.xset i).map MapEntry.unmapped k) ∧ (u.xset i).moved = [] ∧ Cond.journaled s u i true [.unitMap p.nsid p.unit p.entry] = true ∧ u.val 0x6010 8 = (s.bump 0x6010 8).val 0x6010 8 ∧ u.flash = s.flash ∧ u.media = s.media ∧ u.hold = s.hold ∧ Cond.restXlat s u = true) ∧
  (∀ (i : Fin 2) (s : State), Cond.gleanMapUpdateStale i s = true →
    ∃ u, exec (.gleanMapUpdate i) s = .next u ∧ (u.xset i).map = (s.xset i).map ∧ (u.xset i).moved = [] ∧ Cond.journaled s u i true [] = true ∧ u.val 0x6010 9 = (s.bump 0x6010 9).val 0x6010 9 ∧ u.flash = s.flash ∧ u.media = s.media ∧ u.hold = s.hold ∧ Cond.restXlat s u = true) ∧
  (∀ (i : Fin 2) (id : BitVec 32) (s : State), Cond.furrowErase i id s = true →
    ∃ u, exec (.furrowErase i id) s = .next u ∧ ∀ f ∈ (s.xset i).furrow id.toNat, ((u.xset i).furrow id.toNat).map (fun y => (y.state, y.eraseLeft)) = some (.erasing, (f.cols.filter fun k => s.reachable k.channel && !f.noErase.contains k.col && !(s.lun k.channel k.lun).retired).map fun k => k.col) ∧ Cond.journaled s u i false [.furrowState id.toNat .erasing s.pkg.timebase] = true ∧ (u.xset i).map = (s.xset i).map ∧ u.flash = s.flash ∧ u.hold = s.hold ∧ Cond.restWork s u = true) ∧
  (∀ (i : Fin 2) (id : BitVec 32) (s : State), Cond.furrowEraseDone i id s = true →
    ∃ u, exec (.furrowEraseDone i id) s = .next u ∧ (u.xset i).furrow id.toNat = none ∧ (∀ k : Nat, k ≠ id.toNat → (u.xset i).furrow k = (s.xset i).furrow k) ∧ Cond.journaled s u i false [.furrowState id.toNat .fallow s.pkg.timebase] = true ∧ u.flash = s.flash ∧ u.media = s.media ∧ u.hold = s.hold ∧ Cond.restXlat s u = true) ∧
  (∀ (c : Fin 32) (l : Fin 32) (plane : Fin 8) (block : BitVec 16) (page : BitVec 16) (s : State), Cond.patrolRead c l plane block page s = true →
    exec (.patrolRead c l plane block page) s = .next ({ s.setLun c.val l.val { s.lun c.val l.val with ops := (s.lun c.val l.val).ops ++ [{ freshOp s.media.nextId c.val (firmwareDesc .read 4 (2 ^ plane.val) l.val block.toNat page.toNat 15) .patrol with place := s.nvme.nextOrder }] } with media := { (s.setLun c.val l.val { s.lun c.val l.val with ops := (s.lun c.val l.val).ops ++ [{ freshOp s.media.nextId c.val (firmwareDesc .read 4 (2 ^ plane.val) l.val block.toNat page.toNat 15) .patrol with place := s.nvme.nextOrder }] }).media with nextId := s.media.nextId + 1 } })) ∧
  (∀ (c : Fin 32) (l : Fin 32) (plane : Fin 8) (block : BitVec 16) (page : BitVec 16) (s : State), Cond.patrolReadWaits c l plane block page s = true →
    exec (.patrolRead c l plane block page) s = .next ({ s with media.backlog := [(c.val, (firmwareDesc .read 4 (2 ^ plane.val) l.val block.toNat page.toNat 15), .patrol)] })) ∧
  (∀ (c : Fin 32) (l : Fin 32) (plane : Fin 8) (block : BitVec 16) (page : BitVec 16) (s : State), Cond.patrolReadBlank c l plane block page s = true →
    exec (.patrolRead c l plane block page) s = .next (s)) ∧
  (∀ (i : Fin 2) (s : State), Cond.staticSwap i s = true →
    ∃ u, exec (.staticSwap i) s = .next u ∧ ∀ f ∈ bestFurrow (fun a b => decide (s.furrowErases a < s.furrowErases b)) ((s.xset i).furrows.filter fun f => f.state == .full), (u.xset i).swapRunning = some (f.id, none) ∧ (u.xset i).gleans.map Cond.gleaned = ((s.xset i).gleans ++ (s.xset i).validIn f.id).map Cond.gleaned ∧ ((u.xset i).furrow f.id).map (fun y => y.state) = some .gleaning ∧ u.val 0x6020 8 = (s.bump 0x6020 8).val 0x6020 8 ∧ (u.xset i).map = (s.xset i).map ∧ u.flash = s.flash ∧ u.hold = s.hold ∧ Cond.restWork s u = true) ∧
  (∀ (c : Fin 32) (l : Fin 32) (s : State), Cond.lunRetired c l s = true →
    ∃ u, exec (.lunRetired c l) s = .next u ∧ let i := s.setOfChannel c.val; u.lun c.val l.val = { s.lun c.val l.val with retired := true } ∧ u.flash.bad = s.flash.bad ++ [⟨c.val, l.val, 0, 0, 5, 0, Tab.get s.flash.badSeq 0 c.val + 1⟩] ∧ (∀ f ∈ (s.xset i).furrows, f.state = .full → (f.cols.any fun k => k.channel == c.val && k.lun == l.val) = true → 2 ^ 40 + f.id ∈ (u.xset i).refreshes) ∧ (u.xset i).map = (s.xset i).map ∧ u.flash.pages = s.flash.pages ∧ u.mem = s.mem ∧ Cond.restMark s u = true)

/-- Each command answers a next state whenever its condition holds, as follows. Memory, the flash, the media engine, the sets, the cores, the engines and
the commands in flight are as they were, but for the write that is granted room. DIRTY_RESERVATION_GRANTED: the write that has waited longest, with
data still to come, reserves its units once they fit, and nothing else changes. CEILING_RAISE_EFFECTIVE: in single topology with no command in flight,
a higher ceiling is in force once set 0 holds its flush reserve fallow, and the write-through warning is clear. HU_MEASUREMENT_START: outside a flush,
with the bank charged, the sum is V0 and HU_TEST is asserted; nothing else changes; with the bank not charged, the measurement is postponed, up to 60
times; nothing else changes; after that the series ends without a result, and the ceiling is as it was. HU_TEST_END: with V0 and V1 far enough apart:
HU_TEST is released, and C, V0, E (half of it under HU_SHARED), the time and the computed ceiling are as R305 and R306 give them; an invalid
measurement is counted, and repeated up to two more times; after three in a row the computed ceiling and the ceiling are 0, the write-through warning
is set, and the series has ended. HU_PERIOD_EXPIRY: a period after the last valid measurement a series starts, where none runs and no flush does;
nothing else changes. HU_SERIES_RETRY: so does one 600 s after a series without a result. HU_SHARED_TIMEOUT: on Isle 1 under HU_SHARED, a period and
3,600 s after the last shared result, a series starts; nothing else changes. -/
def Obligations.HoldUp : Prop :=
  (∀ (s : State), Cond.dirtyReservationGranted s = true →
    ∃ u, exec .dirtyReservationGranted s = .next u ∧ ∀ c ∈ s.nvme.cmds.find? (fun (c : HostCmd) => c.waitDirty), u = s.onCmd c.order (fun k => { k with waitDirty := false, reserved := c.op.writeUnits })) ∧
  (∀ (s : State), Cond.ceilingRaiseEffective s = true →
    ∃ u, exec .ceilingRaiseEffective s = .next u ∧ ∀ t ∈ s.hold.raise, u.hold = { s.hold with ceiling := t, raise := none } ∧ bit u.nvme.warnings.toNat 4 = false ∧ Cond.restXlat { s with nvme := u.nvme } u = true ∧ u.nvme.cmds = s.nvme.cmds ∧ u.nvme.namespaces = s.nvme.namespaces ∧ u.flash = s.flash ∧ u.media = s.media ∧ u.sets = s.sets) ∧
  (∀ (sum : BitVec 32) (s : State), Cond.huMeasurementStart sum s = true →
    ∃ u, exec (.huMeasurementStart sum) s = .next u ∧ ∀ m ∈ s.hold.series, u = { s with hold.series := some { m with v0 := sum.toNat, asserted := true }, hold.huTest := true }) ∧
  (∀ (sum : BitVec 32) (s : State), Cond.huMeasurementStartPostponed sum s = true →
    ∃ u, exec (.huMeasurementStart sum) s = .next u ∧ ∀ m ∈ s.hold.series, u = { s with hold.series := some { m with postpones := m.postpones + 1 } }) ∧
  (∀ (sum : BitVec 32) (s : State), Cond.huMeasurementStartGivenUp sum s = true →
    ∃ u, exec (.huMeasurementStart sum) s = .next u ∧ u.hold.series = none ∧ u.hold.endedAt = s.pkg.timebase ∧ u.hold.needRetry = true ∧ u.hold.ceiling = s.hold.ceiling ∧ u.flash = s.flash ∧ u.media = s.media ∧ u.sets = s.sets ∧ Cond.restXlat s u = true) ∧
  (∀ (sum : BitVec 32) (s : State), Cond.huTestEnd sum s = true →
    ∃ u, exec (.huTestEnd sum) s = .next u ∧ ∀ m ∈ s.hold.series, let c := s.val 0x7010 1 * 2 * 1048576 * 4 / (5 * (m.v0 - sum.toNat) * max 1 (s.val 0x7010 2)); let v0 := m.v0 * 1250 * s.val 0x7010 2 / 1048576; let e := c * (v0 * v0 - s.val 0x7010 3 * s.val 0x7010 3) / 2000000000; u.hold.huTest = false ∧ u.hold.series = none ∧ u.hold.valid = true ∧ u.hold.lastC = c ∧ u.hold.lastV0 = v0 ∧ u.hold.lastE = (if s.flag 0x7010 8 then e / 2 else e) ∧ u.hold.lastTime = s.pkg.timebase ∧ u.hold.computed = s.computeCeiling c (if s.flag 0x7010 8 then e / 2 else e) ∧ Cond.restXlat { s with nvme := u.nvme } u = true ∧ u.nvme.cmds = s.nvme.cmds ∧ u.nvme.namespaces = s.nvme.namespaces ∧ u.flash = s.flash ∧ u.media = s.media ∧ u.sets = s.sets) ∧
  (∀ (sum : BitVec 32) (s : State), Cond.huTestEndInvalid sum s = true →
    ∃ u, exec (.huTestEnd sum) s = .next u ∧ ∀ m ∈ s.hold.series, u.hold = { s.hold with huTest := false, series := some { m with asserted := false, invalids := m.invalids + 1 } } ∧ u.val 0x7020 5 = (s.bump 0x7020 5).val 0x7020 5 ∧ u.flash = s.flash ∧ u.media = s.media ∧ u.sets = s.sets ∧ Cond.restXlat s u = true) ∧
  (∀ (sum : BitVec 32) (s : State), Cond.huTestEndThirdInvalid sum s = true →
    ∃ u, exec (.huTestEnd sum) s = .next u ∧ u.hold.computed = 0 ∧ u.hold.ceiling = 0 ∧ u.hold.series = none ∧ u.hold.needRetry = true ∧ bit u.nvme.warnings.toNat 4 = true ∧ Cond.restXlat { s with nvme := u.nvme } u = true ∧ u.nvme.cmds = s.nvme.cmds ∧ u.nvme.namespaces = s.nvme.namespaces ∧ u.flash = s.flash ∧ u.media = s.media ∧ u.sets = s.sets) ∧
  (∀ (s : State), Cond.huPeriodExpiry s = true →
    exec .huPeriodExpiry s = .next ({ s with hold.series := some ⟨0, false, 0, 0⟩ })) ∧
  (∀ (s : State), Cond.huSeriesRetry s = true →
    exec .huSeriesRetry s = .next ({ s with hold.series := some ⟨0, false, 0, 0⟩ })) ∧
  (∀ (s : State), Cond.huSharedTimeout s = true →
    exec .huSharedTimeout s = .next ({ s with hold.series := some ⟨0, false, 0, 0⟩ }))

/-- The Strait is up in a session, unless a clause says otherwise. Each command answers a next state whenever its condition holds, as follows. A frame
taken moves the sequence on and is owed an acknowledgement, unless a frame that carries it goes. Nothing changes but the twin's state, the dictionary,
the events and what is sent, and what a clause names. STRAIT_LINK_UP: with at least 4 lanes usable in each direction the link runs on 8, or on 4 where
a direction has fewer than 8, a session starts from sequence 0, and HELLO is handed to the sender; with fewer the link stays down, and nothing
changes. STRAIT_FRAME_ERROR: in a session the frame is not taken: NAK is owed, and the link is not silent; nothing else changes. STRAIT_NAK: with
nothing that waits to be sent: the frames that the acknowledgement does not cover stay for replay and are sent again, counted, with the replays in a
row kept. STRAIT_ACK_SEND: with a credit of class 0, a place for replay and no credits to return, a frame of class 0 without a payload goes with the
next sequence, acknowledging the last frame taken, with NAK where it is owed; nothing is owed any more. STRAIT_NOP: with nothing that waits to be
sent: covered frames leave the replay buffer, the credit comes back to its class, and nothing is sent. HELLO: from the other Isle of a twin pair with
the same code and no other pair serial: the twin's serial, and whether it serves alone, are noted, the pair serial is the one held, the twin's, or
Isle 0's, and HELLO_ACK is handed to the sender; from any other the pairing is refused: the session is over, nothing is held for replay, the pair is
apart, and it is counted. HELLO_ACK: of Isles apart, the twin not serving alone: the pair is in RESYNC with mirroring off, the mirror area is asked
for, and each shadow asks for its records from the highest it has applied. ECHO: the first 236 bytes go back. EVENT_FWD: of a source not latched and
not routed to the twin: the twin slot's source is latched. UNKNOWN_FRAME: the frame is counted. HEARTBEAT_SEND: with a pair together, a heartbeat is
handed to the sender with the time, the pair state, the regions online, the channels claimed, the highest sequence shipped and the highest applied,
and the free mirror slots. HEARTBEAT: of a twin that is not in FAILBACK: the view of the twin is what the frame says, and each shadow is current where
it has all that the twin has shipped. STRAIT_LOCK_LOSS: the link trains again, counted, and the frames held for replay are sent again, counted. -/
def Obligations.StraitLink : Prop :=
  (∀ (tx : Fin 9) (rx : Fin 9) (order : BitVec 2) (invert : BitVec 16) (s : State), Cond.straitLinkUp tx rx s = true →
    ∃ u, exec (.straitLinkUp tx rx order invert) s = .next u ∧ u.twin.lanes = (if min tx.val rx.val < 8 then 4 else 8) ∧ u.twin.session = true ∧ u.twin.refused = false ∧ u.twin.rxNext = 0 ∧ u.twin.laneOrder = order ∧ u.twin.laneInvert = invert ∧ ((u.twin.waiting ++ u.twin.replay.map fun p => p.2).any fun f => f.cls == 0 && f.type == 1) = true ∧ Cond.restTwin s u = true) ∧
  (∀ (tx : Fin 9) (rx : Fin 9) (order : BitVec 2) (invert : BitVec 16) (s : State), Cond.straitLinkUpDown tx rx s = true →
    exec (.straitLinkUp tx rx order invert) s = .next (s)) ∧
  (∀ (s : State), Cond.straitFrameError s = true →
    exec .straitFrameError s = .next ({ s with twin.nak := true, twin.silent := false })) ∧
  (∀ (l : Link) (s : State), Cond.straitNak l s = true →
    ∃ u, exec (.straitNak l) s = .next u ∧ u.twin.replay = Cond.uncovered s l ∧ u.twin.resent = (if (Cond.uncovered s l).length < s.twin.replay.length then 1 else s.twin.resent + 1) ∧ u.val 0x8000 3 = (s.fbump 0 0x8000 3 (Cond.uncovered s l).length).val 0x8000 3 ∧ (Cond.sent s u).length = (Cond.uncovered s l).length ∧ Cond.restTwin s u = true) ∧
  (∀ (s : State), Cond.straitAckSend s = true →
    ∃ u, exec .straitAckSend s = .next u ∧ u.out = s.out ++ [.strait (TxFrame.bytes ⟨0, 0, [], false⟩ s.twin.txSeq (s.twin.rxNext - 1) s.twin.nak 0 0)] ∧ u.twin.unackedRx = false ∧ u.twin.nak = false ∧ u.twin.replay = s.twin.replay ++ [(s.twin.txSeq, ⟨0, 0, [], false⟩)] ∧ u.twin.txSeq = s.twin.txSeq + 1 ∧ Cond.restTwin s u = true) ∧
  (∀ (l : Link) (s : State), Cond.straitNop s = true →
    ∃ u, exec (.straitNop l) s = .next u ∧ Cond.got s u = true ∧ u.twin.replay = Cond.uncovered s l ∧ u.twin.credit l.cls.toNat = (if l.cls.toNat < 6 then s.twin.credit l.cls.toNat + l.credit.toNat else 0) ∧ u.dict = s.dict ∧ u.out = s.out ∧ Cond.restTwin s u = true) ∧
  (∀ (l : Link) (sameCode : Bool) (isle : Bool) (single : Bool) (serial : BitVec 64) (pair : BitVec 64) (state : BitVec 8) (s : State), Cond.hello sameCode isle single pair s = true →
    ∃ u, exec (.hello l sameCode isle single serial pair state) s = .next u ∧ Cond.got s u = true ∧ u.twin.twinSerial = serial.toNat ∧ u.twin.twinSole = (state == 5) ∧ u.twin.aliveI = true ∧ u.twin.failI = false ∧ u.val 0x8000 0x10 = (if s.val 0x8000 0x10 != 0 then s.val 0x8000 0x10 else if pair != 0 then pair.toNat else if s.pkg.straps.isle then serial.toNat else Config.factorySerial) ∧ ((u.twin.waiting ++ u.twin.replay.map fun p => p.2).any fun f => f.cls == 0 && f.type == 2) = true ∧ Cond.restTwin s u = true) ∧
  (∀ (l : Link) (sameCode : Bool) (isle : Bool) (single : Bool) (serial : BitVec 64) (pair : BitVec 64) (state : BitVec 8) (s : State), Cond.helloRefused sameCode isle single s = true →
    ∃ u, exec (.hello l sameCode isle single serial pair state) s = .next u ∧ u.twin.refused = true ∧ u.twin.session = false ∧ u.twin.replay = [] ∧ u.twin.pair = .alone ∧ u.val 0x8000 0x0D = (s.bump 0x8000 0x0D).val 0x8000 0x0D ∧ u.flash = s.flash ∧ u.sets = s.sets ∧ u.hold = s.hold ∧ u.mem = s.mem) ∧
  (∀ (l : Link) (s : State), Cond.helloAck s = true →
    ∃ u, exec (.helloAck l) s = .next u ∧ Cond.got s u = true ∧ u.twin.pair = .resync ∧ u.twin.mirrorOn = false ∧ u.twin.groupDown = false ∧ u.twin.resyncStart = #v[none, none] ∧ Cond.handed u 0 0x03 (leBytes 8 (max s.hold.ceiling (s.hold.raise.getD 0))) ∧ (∀ i : Fin 2, (s.xset i).live = false → Cond.handed u 3 0x02 ([BitVec.ofNat 8 i.val, 0, 0, 0] ++ leBytes 8 (if (s.xset i).seq = 0 then 2 ^ 64 - 1 else (s.xset i).seq)) = true) ∧ u.sets = s.sets ∧ u.flash = s.flash ∧ u.mem = s.mem) ∧
  (∀ (l : Link) (data : List Byte) (s : State), Cond.echo s = true →
    ∃ u, exec (.echo l data) s = .next u ∧ Cond.got s u = true ∧ Cond.handed u 0 0x0A (data.take 236) ∧ u.dict = s.dict ∧ Cond.restTwin s u = true) ∧
  (∀ (l : Link) (slot : Fin 128) (s : State), Cond.eventFwd slot s = true →
    ∃ u, exec (.eventFwd l slot) s = .next u ∧ Cond.got s u = true ∧ srcBit u.ev.latch (1920 + slot.val) = true ∧ Cond.restTwin s u = true) ∧
  (∀ (l : Link) (cls : BitVec 8) (s : State), Cond.unknownFrame s = true →
    ∃ u, exec (.unknownFrame l cls) s = .next u ∧ Cond.got s u = true ∧ u.val 0x8000 0x11 = (s.bump 0x8000 0x11).val 0x8000 0x11 ∧ Cond.restTwin s u = true) ∧
  (∀ (s : State), Cond.heartbeatSend s = true →
    ∃ u, exec .heartbeatSend s = .next u ∧ Cond.handed u 1 0x00 (leBytes 8 s.now ++ [BitVec.ofNat 8 s.twin.pair.code, BitVec.ofNat 8 (sumOf (fun r => b2n (s.regionOnline r) * 2 ^ r) (List.range 4))] ++ leBytes 4 s.chownOut ++ leBytes 8 (max (s.twin.shippedTo.get 0) (s.twin.shippedTo.get 1)) ++ leBytes 8 ([0, 1].foldl (fun m (i : Fin 2) => if (s.xset i).live then m else max m (s.xset i).seq) 0) ++ leBytes 4 (s.twin.area / 16384 - s.twin.held.length)) ∧ u.dict = s.dict ∧ Cond.restTwin s u = true) ∧
  (∀ (l : Link) (timebase : BitVec 64) (pair : BitVec 8) (regions : BitVec 4) (chown : BitVec 32) (shipped : BitVec 64) (applied : BitVec 64) (freeSlots : BitVec 32) (s : State), Cond.heartbeat pair s = true →
    ∃ u, exec (.heartbeat l timebase pair regions chown shipped applied freeSlots) s = .next u ∧ Cond.got s u = true ∧ u.twin.view = ⟨timebase.toNat, pair.toNat, regions.toNat, chown.toNat, shipped.toNat, applied.toNat, freeSlots.toNat⟩ ∧ u.twin.twinSole = (pair == 5) ∧ u.twin.pair = s.twin.pair ∧ (∀ i : Fin 2, u.xset i = if (s.xset i).live then s.xset i else { s.xset i with current := decide (shipped.toNat ≤ (s.xset i).seq) }) ∧ u.dict = s.dict ∧ u.nvme = s.nvme ∧ u.flash = s.flash ∧ u.hold = s.hold ∧ u.mem = s.mem) ∧
  (∀ (s : State), Cond.straitLockLoss s = true →
    ∃ u, exec .straitLockLoss s = .next u ∧ u.twin.replay = s.twin.replay ∧ u.twin.waiting = s.twin.waiting ∧ (Cond.sent s u).length = s.twin.replay.length ∧ u.val 0x8000 3 = ((s.bump 0x8000 4).fbump 0 0x8000 3 s.twin.replay.length).val 0x8000 3 ∧ u.val 0x8000 4 = ((s.bump 0x8000 4).fbump 0 0x8000 3 s.twin.replay.length).val 0x8000 4 ∧ Cond.restTwin s u = true)

/-- The Strait is up in a session, but for the step to IN_STEP. Each command answers a next state whenever its condition holds, as follows. A frame taken
moves the sequence on and is owed an acknowledgement, unless a frame that carries it goes. The flash and memory are as they were. MIRROR_SIZE: a
request is granted: the area is noted, and confirmed to the sender; in RESYNC with nothing dirty, a confirmation is noted, and mirroring is on.
MIRROR_FLUSHED: no slot is held any more. HU_RESULT: on Isle 1 under HU_SHARED: C and V0 are the frame's, the energy is half of the frame's, and the
ceiling computed follows. RESV_STATE: the registrants, the holder, the type, the generation and PTPL of that namespace are the frame's, and no other
namespace changes. MIRROR_DESC: the slot is held as the frame describes it, with no data yet, and no other slot changes. MIRROR_DATA: a chunk that
leaves a slot incomplete is stored in it, zero-filled, and no slot goes; of a slot that no forwarded write has: with the last chunk it is
acknowledged. MIRROR_ACK: of the only dirty unit, not committed: it is acknowledged and committed. MIRROR_FREE: the slots named are held no longer.
MIRROR_DISCARD: nor are these, and no forwarded command counts their pieces any more. JOURNAL_RECORDS: of a shadow with nothing left over and no slot
held, one record of a confirmed row that ends its group and goes beyond what is applied: the shadow applies it and acknowledges its sequence.
JOURNAL_ACK: with no command in flight and nothing dirty: the set's acknowledged sequence rises to the frame's, and nothing else of the sets changes.
RESYNC_FROM: of a live set, from a sequence that its checkpoint covers: records are shipped from the next one on, up to the last that the journal
holds, and the acknowledged sequence is the frame's. SEGMENT: of a shadow, entries without data: the last entry stands in its place. PAIR_IN_STEP:
with both shadows current, what was shipped and mirrored acknowledged, the areas confirmed, and no group to hand back: the pair is in step. -/
def Obligations.MirrorAndShipping : Prop :=
  (∀ (l : Link) (bytes : BitVec 64) (confirm : Bool) (s : State), Cond.mirrorSize confirm s = true →
    ∃ u, exec (.mirrorSize l bytes confirm) s = .next u ∧ Cond.got s u = true ∧ u.twin.areaIn = bytes.toNat ∧ Cond.handed u 0 0x03 (leBytes 8 bytes.toNat) ∧ u.dict = s.dict ∧ Cond.restTwin s u = true) ∧
  (∀ (l : Link) (bytes : BitVec 64) (confirm : Bool) (s : State), Cond.mirrorSizeConfirmed confirm s = true →
    ∃ u, exec (.mirrorSize l bytes confirm) s = .next u ∧ Cond.got s u = true ∧ u.twin.areaOut = bytes.toNat ∧ u.twin.mirrorOn = true ∧ u.dict = s.dict ∧ Cond.restTwin s u = true) ∧
  (∀ (l : Link) (s : State), Cond.mirrorFlushed s = true →
    ∃ u, exec (.mirrorFlushed l) s = .next u ∧ Cond.got s u = true ∧ u.twin.held = [] ∧ u.dict = s.dict ∧ Cond.restTwin s u = true) ∧
  (∀ (l : Link) (c : BitVec 32) (v0 : BitVec 32) (e : BitVec 32) (s : State), Cond.huResult s = true →
    ∃ u, exec (.huResult l c v0 e) s = .next u ∧ Cond.got s u = true ∧ u.hold.lastC = c.toNat ∧ u.hold.lastV0 = v0.toNat ∧ u.hold.lastE = e.toNat / 2 ∧ u.hold.computed = s.computeCeiling c.toNat (e.toNat / 2) ∧ u.hold.valid = true ∧ u.hold.sharedAt = s.pkg.timebase ∧ u.flash = s.flash ∧ u.sets = s.sets ∧ u.mem = s.mem) ∧
  (∀ (l : Link) (nsid : BitVec 32) (regs : List Registration) (holder : Option (BitVec 16)) (type : BitVec 8) (gen : BitVec 32) (ptpl : Bool) (s : State), Cond.resvState s = true →
    ∃ u, exec (.resvState l nsid regs holder type gen ptpl) s = .next u ∧ Cond.got s u = true ∧ (∀ n : Nat, n ≠ nsid.toNat → u.namespace? n = s.namespace? n) ∧ u.namespace? nsid.toNat = (s.namespace? nsid.toNat).map (fun n => { n with registrants := regs.map (fun g => ⟨g.cntlid.toNat, g.host.toNat, g.key.toNat⟩), holder := holder.map (fun h => h.toNat), resvType := type.toNat, resvGen := gen.toNat, ptpl := ptpl }) ∧ u.flash = s.flash ∧ u.sets = s.sets ∧ u.hold = s.hold ∧ u.mem = s.mem) ∧
  (∀ (l : Link) (slot : BitVec 32) (nsid : BitVec 32) (unit : BitVec 56) (gen : BitVec 8) (seq : BitVec 64) (piece : BitVec 64) (units : BitVec 16) (crc : BitVec 64) (info : List Byte) (fwdTag : Option (BitVec 32)) (s : State), Cond.mirrorDesc s = true →
    ∃ u, exec (.mirrorDesc l slot nsid unit gen seq piece units crc info fwdTag) s = .next u ∧ Cond.got s u = true ∧ u.twin.held = s.twin.held.filter (fun q => q.slot != slot.toNat) ++ [⟨slot.toNat, nsid.toNat, unit.toNat, gen.toNat, seq.toNat, piece.toNat, units.toNat, crc.toNat, info, fwdTag.map (fun t => t.toNat), [], false, false⟩] ∧ u.dict = s.dict ∧ Cond.restTwin s u = true) ∧
  (∀ (l : Link) (slot : BitVec 32) (chunk : BitVec 8) (data : List Byte) (s : State), Cond.mirrorData slot chunk s = true →
    ∃ u, exec (.mirrorData l slot chunk data) s = .next u ∧ Cond.got s u = true ∧ (∀ h ∈ s.twin.held.find? (fun (h : Held) => h.slot == slot.toNat), ∀ k ∈ u.twin.held.find? (fun (h : Held) => h.slot == slot.toNat), k = { h with chunks := Tab.put h.chunks chunk.toNat (padTo 228 data) }) ∧ u.twin.held.length = s.twin.held.length ∧ u.dict = s.dict ∧ Cond.restTwin s u = true) ∧
  (∀ (l : Link) (slot : BitVec 32) (chunk : BitVec 8) (data : List Byte) (s : State), Cond.mirrorDataWhole slot chunk s = true →
    ∃ u, exec (.mirrorData l slot chunk data) s = .next u ∧ Cond.got s u = true ∧ (∀ k ∈ u.twin.held.find? (fun (h : Held) => h.slot == slot.toNat), k.acked = true) ∧ Cond.handed u 2 0x02 ([1, 0, 0, 0] ++ leBytes 4 slot.toNat) ∧ u.dict = s.dict ∧ Cond.restTwin s u = true) ∧
  (∀ (l : Link) (slots : List (BitVec 32)) (s : State), Cond.mirrorAck slots s = true →
    ∃ u, exec (.mirrorAck l slots) s = .next u ∧ Cond.got s u = true ∧ u.hold.dirty.map (fun d => (d.order, d.acked, d.committed)) = s.hold.dirty.map (fun d => (d.order, true, true)) ∧ u.flash = s.flash ∧ u.mem = s.mem) ∧
  (∀ (l : Link) (slots : List (BitVec 32)) (s : State), Cond.mirrorFree s = true →
    ∃ u, exec (.mirrorFree l slots) s = .next u ∧ Cond.got s u = true ∧ u.twin.held = s.twin.held.filter (fun h => !(slots.map fun k => k.toNat).contains h.slot) ∧ u.dict = s.dict ∧ Cond.restTwin s u = true) ∧
  (∀ (l : Link) (slots : List (BitVec 32)) (s : State), Cond.mirrorDiscard s = true →
    ∃ u, exec (.mirrorDiscard l slots) s = .next u ∧ Cond.got s u = true ∧ u.twin.held = s.twin.held.filter (fun h => !(slots.map fun k => k.toNat).contains h.slot) ∧ u.nvme.cmds = s.nvme.cmds ∧ (∀ f ∈ u.nvme.fwdOut, ∀ p ∈ f.pieces, ∀ h ∈ s.twin.held, h.slot ∈ slots.map (fun k => k.toNat) → h.piece ≠ p) ∧ u.flash = s.flash ∧ u.sets = s.sets ∧ u.hold = s.hold ∧ u.mem = s.mem) ∧
  (∀ (l : Link) (i : Fin 2) (first : BitVec 64) (records : List (List Byte)) (s : State), Cond.journalRecords i first records s = true →
    ∃ u, exec (.journalRecords l i first records) s = .next u ∧ Cond.got s u = true ∧ (∀ b ∈ records.head?, ∀ r ∈ JRec.ofBytes first.toNat b, (u.xset i).seq = first.toNat ∧ (u.xset i).furrows = ((s.xset i).apply true i.val r).furrows ∧ (u.xset i).dram = [] ∧ Cond.handed u 3 0x01 ([BitVec.ofNat 8 i.val, 0, 0, 0] ++ leBytes 8 first.toNat) = true) ∧ u.flash = s.flash ∧ u.nvme = s.nvme ∧ u.hold = s.hold ∧ u.mem = s.mem) ∧
  (∀ (l : Link) (i : Fin 2) (seq : BitVec 64) (s : State), Cond.journalAck s = true →
    ∃ u, exec (.journalAck l i seq) s = .next u ∧ Cond.got s u = true ∧ (u.xset i) = { s.xset i with twinAck := max (s.xset i).twinAck seq.toNat } ∧ (∀ j : Fin 2, j ≠ i → u.xset j = s.xset j) ∧ u.nvme = s.nvme ∧ u.flash = s.flash ∧ u.mem = s.mem) ∧
  (∀ (l : Link) (i : Fin 2) (applied : BitVec 64) (s : State), Cond.resyncFrom i applied s = true →
    ∃ u, exec (.resyncFrom l i applied) s = .next u ∧ Cond.got s u = true ∧ u.twin.resyncStart.get i = some (applied.toNat + 1) ∧ u.xset i = { s.xset i with twinAck := applied.toNat } ∧ u.twin.shippedTo.get i = ((((s.xset i).flashLog ++ (s.xset i).dram).filter fun r => decide (applied.toNat + 1 ≤ r.seq)).getLast?.map fun r => r.seq).getD (s.twin.shippedTo.get i) ∧ u.nvme = s.nvme ∧ u.flash = s.flash ∧ u.hold = s.hold ∧ u.mem = s.mem) ∧
  (∀ (l : Link) (i : Fin 2) (seg : BitVec 32) (offset : BitVec 32) (entries : List (BitVec 64)) (s : State), Cond.segment i entries s = true →
    ∃ u, exec (.segment l i seg offset entries) s = .next u ∧ Cond.got s u = true ∧ (∀ e ∈ entries.getLast?, (u.xset i).entry (seg.toNat / 2 ^ 22) (131072 * (seg.toNat % 2 ^ 22) + offset.toNat / 8 + (entries.length - 1)) = MapEntry.ofBits e.toNat) ∧ (u.xset i).furrows = (s.xset i).furrows ∧ u.nvme = s.nvme ∧ u.flash = s.flash ∧ u.hold = s.hold ∧ u.mem = s.mem) ∧
  (∀ (s : State), Cond.pairInStep s = true →
    ∃ u, exec .pairInStep s = .next u ∧ u.twin.pair = .inStep ∧ u.twin.twinSole = false ∧ u.sets = s.sets ∧ u.flash = s.flash ∧ u.hold = s.hold ∧ u.mem = s.mem ∧ u.nvme.cmds = s.nvme.cmds)

/-- The Strait is up in a session, and the firmware has no work that waits. Each command answers a next state whenever its condition holds, as follows. A
frame taken moves the sequence on and is owed an acknowledgement, unless a frame that carries it goes. Memory is as it was. FWD_CMD: for a namespace
this Isle does not have: Invalid Namespace or Format goes back; a write to a live group with room, nothing to merge and no command in flight: it takes
its place in the order here under the twin's function, and all its data are asked for. FWD_PULL: of up to 228 bytes for a command not of class 0 whose
data did not fail: the host's data from that offset are handed to the sender. FWD_DATA: of a command forwarded from here, with no metadata buffer and
its function not in reset: what of the data its buffer takes goes to the host, and nothing else goes out; of the only command of the twin here, with
nothing received and more to come: the data are kept at their offset. FWD_CPL: of a command forwarded from here whose queue is in service and has
room, with status 0: its completion goes to the host, and it is forwarded no longer. FWD_STOP: naming up to 38 commands none of which is here: each is
acknowledged as unknown. FWD_STOP_ACK: a command past its commit point stops stopping, and runs on. MEDIA_REQ: on a trained channel held for the twin,
of a descriptor that passes the check and is neither a program nor RAW: it goes behind its LUN's operations; RAW is turned away as DENIED. MEDIA_DATA:
data of a read of this Isle are kept at their offset and counted. MEDIA_CPL: of an erase that a furrow asked for, with no furrow left: the transfer is
over, and no page is left in its blocks. -/
def Obligations.ForwardingAndProxy : Prop :=
  (∀ (l : Link) (tag : BitVec 32) (cntlid : BitVec 16) (cls : BitVec 8) (nsid : BitVec 32) (q : FwdOp) (pr : PrInfo) (s : State), Cond.fwdCmdNoNamespace nsid s = true →
    ∃ u, exec (.fwdCmd l tag cntlid cls nsid q pr) s = .next u ∧ Cond.got s u = true ∧ Cond.handed u 4 0x03 (leBytes 4 tag.toNat ++ leBytes 8 0 ++ leBytes 2 (sc 0 0x0B * 2) ++ [1, 0] ++ errorBytes (sc 0 0x0B) 0 0 0 0) ∧ u.nvme.cmds = s.nvme.cmds ∧ u.flash = s.flash ∧ u.sets = s.sets ∧ u.hold = s.hold ∧ u.mem = s.mem) ∧
  (∀ (l : Link) (tag : BitVec 32) (cntlid : BitVec 16) (cls : BitVec 8) (nsid : BitVec 32) (q : FwdOp) (pr : PrInfo) (s : State), Cond.fwdCmd cls nsid q s = true →
    ∃ u, exec (.fwdCmd l tag cntlid cls nsid q pr) s = .next u ∧ Cond.got s u = true ∧ (∀ n ∈ s.namespace? nsid.toNat, let need := (match q with | .write _ k => k.toNat + 1 | _ => 0) * (4096 + n.infoMoved pr); (u.nvme.cmds.map fun c => (c.order, c.fn, c.fwdTag, c.need)) = [(s.nvme.nextOrder, 256 + cntlid.toNat, some tag.toNat, need)] ∧ Cond.handed u 4 0x01 (leBytes 4 tag.toNat ++ leBytes 4 0 ++ leBytes 4 need) = true) ∧ Tab.find u.twin.fwdIn tag.toNat = some s.nvme.nextOrder ∧ u.flash = s.flash ∧ u.hold = s.hold ∧ u.sets = s.sets ∧ u.mem = s.mem) ∧
  (∀ (l : Link) (tag : BitVec 32) (offset : BitVec 32) (count : BitVec 32) (s : State), Cond.fwdPull tag count s = true →
    ∃ u, exec (.fwdPull l tag offset count) s = .next u ∧ Cond.got s u = true ∧ (∀ f ∈ Cond.forwarded s tag.toNat, Cond.handed u 4 0x02 (leBytes 4 tag.toNat ++ leBytes 4 offset.toNat ++ slice f.data offset.toNat count.toNat) = true) ∧ u.dict = s.dict ∧ Cond.restTwin s u = true) ∧
  (∀ (l : Link) (tag : BitVec 32) (offset : BitVec 32) (data : List Byte) (s : State), Cond.fwdDataToHost tag s = true →
    ∃ u, exec (.fwdData l tag offset data) s = .next u ∧ Cond.got s u = true ∧ (∀ f ∈ Cond.forwarded s tag.toNat, (Cond.sent s u).filter (fun e => match e with | .strait _ => false | _ => true) = [.data f.fn f.sq f.cid (f.ptr.data.lands offset.toNat data) false false (s.onVc1 f.cls) s.relaxed]) ∧ u.nvme = s.nvme ∧ u.flash = s.flash ∧ u.sets = s.sets ∧ u.hold = s.hold ∧ u.mem = s.mem) ∧
  (∀ (l : Link) (tag : BitVec 32) (offset : BitVec 32) (data : List Byte) (s : State), Cond.fwdDataWaits tag offset data s = true →
    ∃ u, exec (.fwdData l tag offset data) s = .next u ∧ Cond.got s u = true ∧ (∀ c ∈ s.nvme.cmds.head?, u.nvme.cmds = [{ c with inbuf := overlay (padTo (offset.toNat + data.length) []) offset.toNat data }]) ∧ u.flash = s.flash ∧ u.sets = s.sets ∧ u.hold = s.hold ∧ u.mem = s.mem) ∧
  (∀ (l : Link) (tag : BitVec 32) (dw0 : BitVec 32) (dw1 : BitVec 32) (status : BitVec 15) (lba : BitVec 64) (specific : BitVec 16) (s : State), Cond.fwdCpl tag status s = true →
    ∃ u, exec (.fwdCpl l tag dw0 dw1 status lba specific) s = .next u ∧ Cond.got s u = true ∧ (∀ f ∈ Cond.forwarded s tag.toNat, Cond.completed s u ⟨BitVec.ofNat _ f.fn, BitVec.ofNat _ f.sq, BitVec.ofNat _ f.cid⟩ 0 dw0.toNat = true) ∧ u.nvme.fwdOut = s.nvme.fwdOut.filter (fun k => k.tag != tag.toNat) ∧ u.flash = s.flash ∧ u.sets = s.sets ∧ u.hold = s.hold ∧ u.mem = s.mem) ∧
  (∀ (l : Link) (tags : List (BitVec 32)) (s : State), Cond.fwdStop tags s = true →
    ∃ u, exec (.fwdStop l tags) s = .next u ∧ Cond.got s u = true ∧ Cond.handed u 4 0x05 ([BitVec.ofNat 8 tags.length, 0, 0, 0] ++ tags.flatMap fun t => leBytes 4 t.toNat ++ [2, 0]) ∧ u.nvme = s.nvme ∧ u.flash = s.flash ∧ u.sets = s.sets ∧ u.hold = s.hold ∧ u.mem = s.mem) ∧
  (∀ (l : Link) (entries : List (BitVec 32 × BitVec 8)) (s : State), Cond.fwdStopAck entries s = true →
    ∃ u, exec (.fwdStopAck l entries) s = .next u ∧ Cond.got s u = true ∧ (∀ e ∈ entries.head?, u.nvme.fwdOut = updateIf (fun (k : FwdCmd) => k.tag == e.1.toNat) (fun k => { k with stopping := false }) s.nvme.fwdOut) ∧ u.nvme.cmds = s.nvme.cmds ∧ u.flash = s.flash ∧ u.sets = s.sets ∧ u.hold = s.hold ∧ u.mem = s.mem) ∧
  (∀ (l : Link) (c : Fin 32) (number : BitVec 32) (desc : BitVec 256) (s : State), Cond.mediaReq c desc s = true →
    ∃ u, exec (.mediaReq l c number desc) s = .next u ∧ Cond.got s u = true ∧ (∀ d ∈ s.checkMedia (fun (k : Nat) => if k = 4 || k = 5 || k = 6 || k = 7 then 0 else bits desc.toNat (32 * k) 32), u.lun c.val d.lun = { s.lun c.val d.lun with ops := (s.lun c.val d.lun).ops ++ [{ freshOp s.media.nextId c.val d (.proxied number.toNat) with place := s.nvme.nextOrder }] } ∧ u.twin.mediaIn = s.twin.mediaIn ++ [⟨number.toNat, c.val, freshOp 0 c.val d (.proxied number.toNat), [], [], [], 0⟩]) ∧ u.nvme = { s.nvme with busyAt := u.nvme.busyAt } ∧ u.flash = s.flash ∧ u.mem = s.mem) ∧
  (∀ (l : Link) (c : Fin 32) (number : BitVec 32) (desc : BitVec 256) (s : State), Cond.mediaReqRaw desc s = true →
    ∃ u, exec (.mediaReq l c number desc) s = .next u ∧ Cond.got s u = true ∧ Cond.handed u 4 0x12 ([BitVec.ofNat 8 c.val, 0, 0, 0] ++ leBytes 4 number.toNat ++ mediaEntry (rejectedOp 0 (bits (bits desc.toNat 32 32) 0 16) false) 0 mDenied 0 0 true) ∧ u.media = s.media ∧ u.nvme = s.nvme ∧ u.flash = s.flash ∧ u.mem = s.mem) ∧
  (∀ (l : Link) (number : BitVec 32) (stream : BitVec 8) (offset : BitVec 32) (poisoned : Bool) (data : List Byte) (s : State), Cond.mediaData stream poisoned s = true →
    ∃ u, exec (.mediaData l number stream offset poisoned data) s = .next u ∧ Cond.got s u = true ∧ u.twin.mediaOut = s.twin.mediaOut.map (fun q => if q.number == number.toNat then { q with data := overlay (padTo (max q.data.length (offset.toNat + data.length)) q.data) offset.toNat data, got := q.got + data.length } else q) ∧ u.media = s.media ∧ u.nvme = s.nvme ∧ u.flash = s.flash ∧ u.mem = s.mem) ∧
  (∀ (l : Link) (number : BitVec 32) (status : BitVec 8) (s : State), Cond.mediaCpl number status s = true →
    ∃ u, exec (.mediaCpl l number status) s = .next u ∧ Cond.got s u = true ∧ u.twin.mediaOut = s.twin.mediaOut.filter (fun q => q.number != number.toNat) ∧ (∀ t ∈ s.twin.mediaOut.find? (fun (t : Transfer345) => t.number == number.toNat), t.op.desc.opcode = .erase → ∀ k ∈ t.op.desc.blockKeys t.op.channel, ∀ p : Nat, p / 2 ^ 13 = k → Tab.find u.flash.pages p = none) ∧ u.media.done = [] ∧ u.nvme.cmds = s.nvme.cmds ∧ u.mem = s.mem)

/-- The firmware has no work that waits. Each command answers a next state whenever its condition holds, as follows. The flash and memory are as they
were. REGION_HANDOVER: in step, on a region that is online: the channels named, none claimed, are claimed for the twin, and no other port changes.
REGION_RECLAIM: channels whose claim for the twin has not been met are let go at once, and no other port changes; one owned for the twin with nothing
in its ring and no LUN at work is let go at once. SET_RELEASED: of the group awaited: the channels of its home set that no one here has claimed are
claimed, those of an offline region apart. STRAIT_SILENCE: where this Isle may not act on its twin: the link is silent and down, the session is over,
and nothing else comes of it; in step with a twin that shows alive, with nothing in flight or dirty and no channel claimed: the pair is split,
mirroring is off, and it is counted. TWIN_FAIL_ASSERTED: in step, with nothing in flight or dirty and no channel claimed: a takeover of the twin's
group starts, and the channels of its home set in regions that are online are claimed. TWIN_ALIVE_FALL: with frames arriving it is counted, and
nothing else comes of it. TAKEOVER_COMPLETE: with the channels claimed trained, the group live and settled, nothing forwarded or in flight, and data
mirrored so that none is lost: its time is noted, and this Isle serves alone. FAILBACK_COMPLETE: on the holder, once the set is released: it is a
shadow, current, and the pair is in step; on the returning Isle in a session, with its channels trained, no furrow and no bad block: its set is live
with the map it has, and the pair is in step. CHANNEL_CLAIM_MET: 10 µs after the claim the channel is owned and untrained, and its LUNs are to be seen
ready. SIMULTANEOUS_CLAIM: Isle 0 keeps its claim, and it is counted; nothing else changes; Isle 1 withdraws its own, with no takeover running;
nothing else changes. OWNERSHIP_CONFLICT: the owner keeps its channel, and it is counted; nothing else changes. CLAIM_TIMEOUT: a claim not met in time
is withdrawn, with no takeover and no admission running; nothing else changes. -/
def Obligations.TakeoverAndChannels : Prop :=
  (∀ (l : Link) (r : Fin 4) (channels : BitVec 32) (s : State), Cond.regionHandover r channels s = true →
    ∃ u, exec (.regionHandover l r channels) s = .next u ∧ Cond.got s u = true ∧ (∀ c ∈ bitList 32 channels.toNat, u.port c = { s.port c with claim := .waiting s.pkg.timebase, byTwin := true }) ∧ (∀ c : Nat, c ∉ bitList 32 channels.toNat → u.port c = s.port c) ∧ u.nvme = s.nvme ∧ u.flash = s.flash ∧ u.sets = s.sets ∧ u.hold = s.hold ∧ u.mem = s.mem) ∧
  (∀ (l : Link) (r : Fin 4) (channels : BitVec 32) (s : State), Cond.regionReclaim r channels s = true →
    ∃ u, exec (.regionReclaim l r channels) s = .next u ∧ Cond.got s u = true ∧ (∀ c ∈ bitList 32 channels.toNat, u.port c = { s.port c with claim := .none, trained := false, retraining := false, byTwin := false, enable := false }) ∧ (∀ c : Nat, c ∉ bitList 32 channels.toNat → u.port c = s.port c) ∧ u.nvme = s.nvme ∧ u.flash = s.flash ∧ u.sets = s.sets ∧ u.hold = s.hold ∧ u.mem = s.mem) ∧
  (∀ (l : Link) (r : Fin 4) (channels : BitVec 32) (s : State), Cond.regionReclaimOwned r channels s = true →
    ∃ u, exec (.regionReclaim l r channels) s = .next u ∧ Cond.got s u = true ∧ (∀ c ∈ bitList 32 channels.toNat, (u.port c).claim = .none ∧ (u.port c).byTwin = false ∧ (u.port c).enable = false ∧ (u.port c).trained = false) ∧ u.nvme = s.nvme ∧ u.flash = s.flash ∧ u.sets = s.sets ∧ u.hold = s.hold ∧ u.mem = s.mem) ∧
  (∀ (l : Link) (group : BitVec 8) (s : State), Cond.setReleased group s = true →
    ∃ u, exec (.setReleased l group) s = .next u ∧ Cond.got s u = true ∧ (∀ f ∈ s.twin.failback, u.twin.failback = some { f with released := true }) ∧ (∀ c ∈ homeSet group.toNat, (s.port c).claim = .none → (s.pkg.regions[c / 8]?).getD .offline ≠ .offline → (u.port c).claim = .waiting s.pkg.timebase) ∧ u.nvme = s.nvme ∧ u.flash = s.flash ∧ u.sets = s.sets ∧ u.hold = s.hold ∧ u.mem = s.mem) ∧
  (∀ (s : State), Cond.straitSilence s = true →
    ∃ u, exec .straitSilence s = .next u ∧ u.twin.silent = true ∧ u.twin.lanes = 0 ∧ u.twin.session = false ∧ u.twin.replay = [] ∧ u.twin.pair = s.twin.pair ∧ Cond.restTwin s u = true) ∧
  (∀ (s : State), Cond.straitSilenceSplits s = true →
    ∃ u, exec .straitSilence s = .next u ∧ u.twin.silent = true ∧ u.twin.lanes = 0 ∧ u.twin.session = false ∧ u.twin.pair = .split ∧ u.twin.mirrorOn = false ∧ u.val 0x8000 5 = (s.bump 0x8000 5).val 0x8000 5 ∧ u.sets = s.sets ∧ u.flash = s.flash ∧ u.mem = s.mem) ∧
  (∀ (s : State), Cond.twinFailAsserted s = true →
    ∃ u, exec .twinFailAsserted s = .next u ∧ u.twin.failI = true ∧ u.twin.pair = .takeover ∧ u.twin.takeover.map (fun t => (t.group, t.startAt)) = some (s.twinGroup, s.pkg.timebase) ∧ (∀ c ∈ homeSet s.twinGroup, s.regionOnline (c / 8) = true → (u.port c).claim = .waiting s.pkg.timebase) ∧ u.twin.session = false ∧ u.sets = s.sets ∧ u.flash = s.flash ∧ u.mem = s.mem) ∧
  (∀ (s : State), Cond.twinAliveFall s = true →
    exec .twinAliveFall s = .next ({ s with twin.aliveI := false }.bump 0x8000 0x0E)) ∧
  (∀ (found : List (List Byte)) (s : State), Cond.takeoverComplete s = true →
    ∃ u, exec (.takeoverComplete found) s = .next u ∧ (∀ t ∈ s.twin.takeover, u.val 0x8000 7 = (s.setVal 0x8000 7 (s.since t.startAt / 100)).val 0x8000 7 ∧ (u.xset (setOfGroup t.group)).live = true) ∧ u.twin.takeover = none ∧ u.twin.pair = .sole ∧ u.flash = s.flash ∧ u.mem = s.mem) ∧
  (∀ (s : State), Cond.failbackCompleteHolder s = true →
    ∃ u, exec .failbackComplete s = .next u ∧ (∀ f ∈ s.twin.failback, u.xset (setOfGroup f.group) = { s.xset (setOfGroup f.group) with live := false, current := true, dram := [] }) ∧ u.twin.failback = none ∧ u.twin.pair = .inStep ∧ u.flash = s.flash ∧ u.hold = s.hold ∧ u.mem = s.mem) ∧
  (∀ (s : State), Cond.failbackCompleteReturning s = true →
    ∃ u, exec .failbackComplete s = .next u ∧ (∀ f ∈ s.twin.failback, (u.xset (setOfGroup f.group)).live = true ∧ (u.xset (setOfGroup f.group)).map = (s.xset (setOfGroup f.group)).map ∧ (u.xset (setOfGroup f.group)).programmed = (s.xset (setOfGroup f.group)).seq) ∧ u.twin.failback = none ∧ u.twin.pair = .inStep ∧ u.flash = s.flash ∧ u.mem = s.mem) ∧
  (∀ (c : Fin 32) (s : State), Cond.channelClaimMet c s = true →
    ∃ u, exec (.channelClaimMet c) s = .next u ∧ u.port c.val = { s.port c.val with claim := .owned, chownI := false, trained := false, retraining := false, proxied := false } ∧ (∀ l ∈ List.range 32, u.lun c.val l = if s.hasLun l then { s.lun c.val l with unobserved := true } else s.lun c.val l) ∧ u.nvme = s.nvme ∧ u.flash = s.flash ∧ u.sets = s.sets ∧ u.mem = s.mem) ∧
  (∀ (c : Fin 32) (s : State), Cond.simultaneousClaimKept c s = true →
    exec (.simultaneousClaim c) s = .next ((s.bump 0x8000 0x0A).setPort c.val { s.port c.val with chownI := true })) ∧
  (∀ (c : Fin 32) (s : State), Cond.simultaneousClaimWithdrawn c s = true →
    exec (.simultaneousClaim c) s = .next ((s.bump 0x8000 0x0A).setPort c.val { s.port c.val with claim := .none, byTwin := false })) ∧
  (∀ (c : Fin 32) (s : State), Cond.ownershipConflict c s = true →
    exec (.ownershipConflict c) s = .next ((s.setPort c.val { s.port c.val with chownI := true }).bump 0x8000 0x0A)) ∧
  (∀ (c : Fin 32) (s : State), Cond.claimTimeout c s = true →
    exec (.claimTimeout c) s = .next (s.setPort c.val { s.port c.val with claim := .none, byTwin := false }))

/-- The package runs, the firmware has no work that waits and, for the scrub, the DRAM is trained. Each command answers a next state whenever its
condition holds, as follows. Nothing but the error accounting, the dictionary, the events, the Strait, what is sent, and what a clause names changes;
a scrub may also queue a write to its DRAM channel. LEAK_INTERVAL_EXPIRY: with power, every bucket of the class's instances falls by 1 and none below
0; no other bucket and nothing else changes. DRAM_SCRUB_READ: of a burst within the DRAM that reads clean: its channel leaves self-refresh and has
been asked now, and nothing else changes; a correction below the threshold, with CE_MODE not 1, is counted and raises its instance's bucket; no byte
changes; a burst not marked before that cannot be corrected takes the poison mark with every byte as it was, counted, with the event of R358.
TERNARY_REFRESH: with refresh on, an entry within the table is refreshed and counted, and nothing else changes; a correction is counted, the entries
as they were; an entry that cannot be had is valid no more, and no other changes. -/
def Obligations.IntegrityBackground : Prop :=
  (∀ (cls : Fin 7) (s : State), Cond.leakIntervalExpiry s = true →
    ∃ u, exec (.leakIntervalExpiry cls) s = .next u ∧ (∀ k : Nat, u.bucket k = if (classInstances cls.val).1 ≤ k ∧ k < (classInstances cls.val).1 + (classInstances cls.val).2 then s.bucket k - 1 else s.bucket k) ∧ u = { s with integ := { s.integ with buckets := u.integ.buckets } }) ∧
  (∀ (addr : BitVec 48) (ecc : Ecc) (s : State), Cond.dramScrubReadClean addr ecc s = true →
    exec (.dramScrubRead addr ecc) s = .next (s.setDchan (s.placeOf (burstOf addr.toNat * 64)).chan { s.dchan (s.placeOf (burstOf addr.toNat * 64)).chan with selfRefresh := false, lastReq := s.pkg.timebase })) ∧
  (∀ (addr : BitVec 48) (ecc : Ecc) (s : State), Cond.dramScrubReadCorrected addr ecc s = true →
    ∃ u, exec (.dramScrubRead addr ecc) s = .next u ∧ u.bucket (s.placeOf (burstOf addr.toNat * 64)).chan = s.bucket (s.placeOf (burstOf addr.toNat * 64)).chan + 1 ∧ u.val (0x9100 + (s.placeOf (burstOf addr.toNat * 64)).chan) 1 = (s.bump (0x9100 + (s.placeOf (burstOf addr.toNat * 64)).chan) 1).val (0x9100 + (s.placeOf (burstOf addr.toNat * 64)).chan) 1 ∧ u.mem = s.mem ∧ Cond.restInteg s u) ∧
  (∀ (addr : BitVec 48) (ecc : Ecc) (s : State), Cond.dramScrubReadMarked addr ecc s = true →
    ∃ u, exec (.dramScrubRead addr ecc) s = .next u ∧ u.mem.poisoned (burstOf addr.toNat * 64) 64 = true ∧ (∀ x : Nat, u.mem.byte x = s.mem.byte x) ∧ u.val (0x9100 + (s.placeOf (burstOf addr.toNat * 64)).chan) 2 = (s.bump (0x9100 + (s.placeOf (burstOf addr.toNat * 64)).chan) 2).val (0x9100 + (s.placeOf (burstOf addr.toNat * 64)).chan) 2 ∧ srcBit u.ev.latch (evSrc 43 7) = true ∧ Cond.restInteg s u) ∧
  (∀ (i : BitVec 18) (ecc : Ecc) (s : State), Cond.ternaryRefreshClean i ecc s = true →
    exec (.ternaryRefresh i ecc) s = .next ({ s with tern.updateCount := s.tern.updateCount + 1 })) ∧
  (∀ (i : BitVec 18) (ecc : Ecc) (s : State), Cond.ternaryRefreshCorrected i ecc s = true →
    ∃ u, exec (.ternaryRefresh i ecc) s = .next u ∧ u.tern = { s.tern with updateCount := s.tern.updateCount + 1 } ∧ u.val (0x9100 + ternInstance i.toNat) 1 = (s.bump (0x9100 + ternInstance i.toNat) 1).val (0x9100 + ternInstance i.toNat) 1 ∧ u.mem = s.mem ∧ u = { s with dict := u.dict, ev := u.ev, out := u.out, twin := u.twin, integ := u.integ, tern := u.tern }) ∧
  (∀ (i : BitVec 18) (ecc : Ecc) (s : State), Cond.ternaryRefreshLost i ecc s = true →
    ∃ u, exec (.ternaryRefresh i ecc) s = .next u ∧ u.ternEntry i.toNat = { s.ternEntry i.toNat with valid := false } ∧ (∀ k : Nat, k ≠ i.toNat → u.ternEntry k = s.ternEntry k) ∧ u.mem = s.mem ∧ u = { s with dict := u.dict, ev := u.ev, out := u.out, twin := u.twin, integ := u.integ, tern := u.tern })

/-- An instruction of a core that can execute, fetched clean and within its windows, with no source that owes a bus error. Each answers a next state in
which the destination d holds the value given, poisoned when a source a or b is, one more instruction has retired, the core goes on at the next one,
and no other core and nothing else changes. MOV: a. ADD: a + b, modulo 2^64. SUB: a − b, modulo 2^64. AND: a and b. OR: a or b. XOR: a exclusive-or b.
ANDN: a and not b. SHL: a shifted left by b modulo 64. SHR: a shifted right by b modulo 64, zeros coming in. SAR: a shifted right by b modulo 64, its
sign coming in. ROL: a rotated left by b modulo 64. MUL: the low half of a × b. DIVU: a / b unsigned, all ones for b = 0. DIV: a / b signed, rounded
towards 0, all ones for b = 0. REMU: the remainder of a / b unsigned, a for b = 0. REM: the signed remainder, with the sign of a, a for b = 0. MINU:
the smaller unsigned. MAXU: the larger unsigned. MIN: the smaller signed. MAX: the larger signed. SLT: 1 where a is below b, signed, else 0. SLTU: the
same, unsigned. SEQ: 1 where a is b, else 0. CLZ: the zeros above a's highest one, 64 for none. CTZ: the zeros below its lowest one, 64 for none.
POPC: the ones of a. BSWAP: a with its bytes in reverse. CMOVNZ: a where b is not 0, poisoned as a or b is; else d as it was, poisoned as d or b was. -/
def Obligations.BasizInteger : Prop :=
  (∀ (x : Issue) (d : Fin 16) (a : Fin 16) (s : State), Cond.mov x a s = true →
    ∃ u, exec (.mov x d a) s = .next u ∧ Cond.did s u x false (fun c => c.setD d (c.dv a) (c.pv a))) ∧
  (∀ (x : Issue) (d : Fin 16) (a : Fin 16) (b : Fin 16) (s : State), Cond.add x a b s = true →
    ∃ u, exec (.add x d a b) s = .next u ∧ Cond.did s u x false (fun c => c.setD d (c.dv a + c.dv b) (c.pv a || c.pv b))) ∧
  (∀ (x : Issue) (d : Fin 16) (a : Fin 16) (b : Fin 16) (s : State), Cond.sub x a b s = true →
    ∃ u, exec (.sub x d a b) s = .next u ∧ Cond.did s u x false (fun c => c.setD d (c.dv a - c.dv b) (c.pv a || c.pv b))) ∧
  (∀ (x : Issue) (d : Fin 16) (a : Fin 16) (b : Fin 16) (s : State), Cond.and x a b s = true →
    ∃ u, exec (.and x d a b) s = .next u ∧ Cond.did s u x false (fun c => c.setD d (c.dv a &&& c.dv b) (c.pv a || c.pv b))) ∧
  (∀ (x : Issue) (d : Fin 16) (a : Fin 16) (b : Fin 16) (s : State), Cond.or x a b s = true →
    ∃ u, exec (.or x d a b) s = .next u ∧ Cond.did s u x false (fun c => c.setD d (c.dv a ||| c.dv b) (c.pv a || c.pv b))) ∧
  (∀ (x : Issue) (d : Fin 16) (a : Fin 16) (b : Fin 16) (s : State), Cond.xor x a b s = true →
    ∃ u, exec (.xor x d a b) s = .next u ∧ Cond.did s u x false (fun c => c.setD d (c.dv a ^^^ c.dv b) (c.pv a || c.pv b))) ∧
  (∀ (x : Issue) (d : Fin 16) (a : Fin 16) (b : Fin 16) (s : State), Cond.andn x a b s = true →
    ∃ u, exec (.andn x d a b) s = .next u ∧ Cond.did s u x false (fun c => c.setD d (c.dv a &&& ~~~(c.dv b)) (c.pv a || c.pv b))) ∧
  (∀ (x : Issue) (d : Fin 16) (a : Fin 16) (b : Fin 16) (s : State), Cond.shl x a b s = true →
    ∃ u, exec (.shl x d a b) s = .next u ∧ Cond.did s u x false (fun c => c.setD d (c.dv a <<< ((c.dv b).toNat % 64)) (c.pv a || c.pv b))) ∧
  (∀ (x : Issue) (d : Fin 16) (a : Fin 16) (b : Fin 16) (s : State), Cond.shr x a b s = true →
    ∃ u, exec (.shr x d a b) s = .next u ∧ Cond.did s u x false (fun c => c.setD d (c.dv a >>> ((c.dv b).toNat % 64)) (c.pv a || c.pv b))) ∧
  (∀ (x : Issue) (d : Fin 16) (a : Fin 16) (b : Fin 16) (s : State), Cond.sar x a b s = true →
    ∃ u, exec (.sar x d a b) s = .next u ∧ Cond.did s u x false (fun c => c.setD d ((c.dv a).sshiftRight ((c.dv b).toNat % 64)) (c.pv a || c.pv b))) ∧
  (∀ (x : Issue) (d : Fin 16) (a : Fin 16) (b : Fin 16) (s : State), Cond.rol x a b s = true →
    ∃ u, exec (.rol x d a b) s = .next u ∧ Cond.did s u x false (fun c => c.setD d ((c.dv a).rotateLeft ((c.dv b).toNat % 64)) (c.pv a || c.pv b))) ∧
  (∀ (x : Issue) (d : Fin 16) (a : Fin 16) (b : Fin 16) (s : State), Cond.mul x a b s = true →
    ∃ u, exec (.mul x d a b) s = .next u ∧ Cond.did s u x false (fun c => c.setD d (BitVec.ofNat 64 ((c.dv a).toNat * (c.dv b).toNat)) (c.pv a || c.pv b))) ∧
  (∀ (x : Issue) (d : Fin 16) (a : Fin 16) (b : Fin 16) (s : State), Cond.divu x a b s = true →
    ∃ u, exec (.divu x d a b) s = .next u ∧ Cond.did s u x false (fun c => c.setD d (if c.dv b = 0 then BitVec.allOnes 64 else BitVec.ofNat 64 ((c.dv a).toNat / (c.dv b).toNat)) (c.pv a || c.pv b))) ∧
  (∀ (x : Issue) (d : Fin 16) (a : Fin 16) (b : Fin 16) (s : State), Cond.div x a b s = true →
    ∃ u, exec (.div x d a b) s = .next u ∧ Cond.did s u x false (fun c => c.setD d (if c.dv b = 0 then BitVec.allOnes 64 else BitVec.ofInt 64 ((c.dv a).toInt.tdiv (c.dv b).toInt)) (c.pv a || c.pv b))) ∧
  (∀ (x : Issue) (d : Fin 16) (a : Fin 16) (b : Fin 16) (s : State), Cond.remu x a b s = true →
    ∃ u, exec (.remu x d a b) s = .next u ∧ Cond.did s u x false (fun c => c.setD d (if c.dv b = 0 then c.dv a else BitVec.ofNat 64 ((c.dv a).toNat % (c.dv b).toNat)) (c.pv a || c.pv b))) ∧
  (∀ (x : Issue) (d : Fin 16) (a : Fin 16) (b : Fin 16) (s : State), Cond.rem x a b s = true →
    ∃ u, exec (.rem x d a b) s = .next u ∧ Cond.did s u x false (fun c => c.setD d (if c.dv b = 0 then c.dv a else BitVec.ofInt 64 ((c.dv a).toInt.tmod (c.dv b).toInt)) (c.pv a || c.pv b))) ∧
  (∀ (x : Issue) (d : Fin 16) (a : Fin 16) (b : Fin 16) (s : State), Cond.minu x a b s = true →
    ∃ u, exec (.minu x d a b) s = .next u ∧ Cond.did s u x false (fun c => c.setD d (BitVec.ofNat 64 (min (c.dv a).toNat (c.dv b).toNat)) (c.pv a || c.pv b))) ∧
  (∀ (x : Issue) (d : Fin 16) (a : Fin 16) (b : Fin 16) (s : State), Cond.maxu x a b s = true →
    ∃ u, exec (.maxu x d a b) s = .next u ∧ Cond.did s u x false (fun c => c.setD d (BitVec.ofNat 64 (max (c.dv a).toNat (c.dv b).toNat)) (c.pv a || c.pv b))) ∧
  (∀ (x : Issue) (d : Fin 16) (a : Fin 16) (b : Fin 16) (s : State), Cond.min x a b s = true →
    ∃ u, exec (.min x d a b) s = .next u ∧ Cond.did s u x false (fun c => c.setD d (BitVec.ofInt 64 (min (c.dv a).toInt (c.dv b).toInt)) (c.pv a || c.pv b))) ∧
  (∀ (x : Issue) (d : Fin 16) (a : Fin 16) (b : Fin 16) (s : State), Cond.max x a b s = true →
    ∃ u, exec (.max x d a b) s = .next u ∧ Cond.did s u x false (fun c => c.setD d (BitVec.ofInt 64 (max (c.dv a).toInt (c.dv b).toInt)) (c.pv a || c.pv b))) ∧
  (∀ (x : Issue) (d : Fin 16) (a : Fin 16) (b : Fin 16) (s : State), Cond.slt x a b s = true →
    ∃ u, exec (.slt x d a b) s = .next u ∧ Cond.did s u x false (fun c => c.setD d (if (c.dv a).toInt < (c.dv b).toInt then 1 else 0) (c.pv a || c.pv b))) ∧
  (∀ (x : Issue) (d : Fin 16) (a : Fin 16) (b : Fin 16) (s : State), Cond.sltu x a b s = true →
    ∃ u, exec (.sltu x d a b) s = .next u ∧ Cond.did s u x false (fun c => c.setD d (if (c.dv a).toNat < (c.dv b).toNat then 1 else 0) (c.pv a || c.pv b))) ∧
  (∀ (x : Issue) (d : Fin 16) (a : Fin 16) (b : Fin 16) (s : State), Cond.seq x a b s = true →
    ∃ u, exec (.seq x d a b) s = .next u ∧ Cond.did s u x false (fun c => c.setD d (if c.dv a = c.dv b then 1 else 0) (c.pv a || c.pv b))) ∧
  (∀ (x : Issue) (d : Fin 16) (a : Fin 16) (s : State), Cond.clz x a s = true →
    ∃ u, exec (.clz x d a) s = .next u ∧ Cond.did s u x false (fun c => c.setD d (BitVec.ofNat 64 (leadingZeros 64 (c.dv a).toNat)) (c.pv a))) ∧
  (∀ (x : Issue) (d : Fin 16) (a : Fin 16) (s : State), Cond.ctz x a s = true →
    ∃ u, exec (.ctz x d a) s = .next u ∧ Cond.did s u x false (fun c => c.setD d (BitVec.ofNat 64 (trailingZeros 64 (c.dv a).toNat)) (c.pv a))) ∧
  (∀ (x : Issue) (d : Fin 16) (a : Fin 16) (s : State), Cond.popc x a s = true →
    ∃ u, exec (.popc x d a) s = .next u ∧ Cond.did s u x false (fun c => c.setD d (BitVec.ofNat 64 (((List.range 64).filter fun i => (c.dv a).getLsbD i).length)) (c.pv a))) ∧
  (∀ (x : Issue) (d : Fin 16) (a : Fin 16) (s : State), Cond.bswap x a s = true →
    ∃ u, exec (.bswap x d a) s = .next u ∧ Cond.did s u x false (fun c => c.setD d (BitVec.ofNat 64 (ofLe (leBytes 8 (c.dv a).toNat).reverse)) (c.pv a))) ∧
  (∀ (x : Issue) (d : Fin 16) (a : Fin 16) (b : Fin 16) (s : State), Cond.cmovnz x d a b s = true →
    ∃ u, exec (.cmovnz x d a b) s = .next u ∧ Cond.did s u x false (fun c => if c.dv b = 0 then c.setD d (c.dv d) (c.pv b || c.pv d) else c.setD d (c.dv a) (c.pv b || c.pv a)))

/-- An instruction of a core that can execute, fetched clean with its extension word and within its windows, with no source that owes a bus error. Each
answers a next state in which its destination holds the value given — of a pair, both registers, from sources read before — poisoned, for a D
register, when a D source is, unless a clause says otherwise; immediates are sign-extended; one more instruction has retired, the core goes on behind
the instruction, and no other core and nothing else changes. ADDC: a + b below, its carry above. SUBB: a − b below, its borrow above. MULW: the low
and the high half of a × b signed. MULWU: the same, unsigned. ADDCC: a + b + bit 0 of the pair's upper register below, the carry above. SUBBC: a − b −
that bit below, the borrow above. ADDI: a + the immediate. ANDI: a and it. ORI: a or it. XORI: a exclusive-or it. SHI: a shifted left, right with
zeros or with its sign, or rotated left, by the count, as the kind says. INSHI: the extension word above the low half of d. MOVI: the immediate in d,
without poison. MOVA: of a D register not poisoned: its low 48 bits in an A register. MOVD: an A register zero-extended in d, without poison. AADD:
with b not poisoned: a + the low 48 bits of b, modulo 2^48, in an A register. ASUB: a − them likewise. ADIFF: the difference of two A registers,
sign-extended, in d, without poison. LEA: an A register + the immediate in an A register. MFCR: of a listed register that the level allows: its value
in d, without poison. MTCR: at supervisor level, from a register not poisoned, to a listed register: it takes the value as R407 says. -/
def Obligations.BasizPairsImmediatesAddresses : Prop :=
  (∀ (x : Issue) (d : Fin 16) (a : Fin 16) (b : Fin 16) (s : State), Cond.addc x d a b s = true →
    ∃ u, exec (.addc x d a b) s = .next u ∧ Cond.did s u x false (fun c => (c.setD d (BitVec.ofNat 64 ((c.dv a).toNat + (c.dv b).toNat)) (c.pv a || c.pv b)).setD (pairOf d) (if 2 ^ 64 ≤ (c.dv a).toNat + (c.dv b).toNat then 1 else 0) (c.pv a || c.pv b))) ∧
  (∀ (x : Issue) (d : Fin 16) (a : Fin 16) (b : Fin 16) (s : State), Cond.subb x d a b s = true →
    ∃ u, exec (.subb x d a b) s = .next u ∧ Cond.did s u x false (fun c => (c.setD d (c.dv a - c.dv b) (c.pv a || c.pv b)).setD (pairOf d) (if (c.dv a).toNat < (c.dv b).toNat then 1 else 0) (c.pv a || c.pv b))) ∧
  (∀ (x : Issue) (d : Fin 16) (a : Fin 16) (b : Fin 16) (s : State), Cond.mulw x d a b s = true →
    ∃ u, exec (.mulw x d a b) s = .next u ∧ Cond.did s u x false (fun c => (c.setD d (BitVec.ofInt 64 ((c.dv a).toInt * (c.dv b).toInt)) (c.pv a || c.pv b)).setD (pairOf d) (BitVec.ofInt 64 ((c.dv a).toInt * (c.dv b).toInt / 2 ^ 64)) (c.pv a || c.pv b))) ∧
  (∀ (x : Issue) (d : Fin 16) (a : Fin 16) (b : Fin 16) (s : State), Cond.mulwu x d a b s = true →
    ∃ u, exec (.mulwu x d a b) s = .next u ∧ Cond.did s u x false (fun c => (c.setD d (BitVec.ofNat 64 ((c.dv a).toNat * (c.dv b).toNat)) (c.pv a || c.pv b)).setD (pairOf d) (BitVec.ofNat 64 ((c.dv a).toNat * (c.dv b).toNat / 2 ^ 64)) (c.pv a || c.pv b))) ∧
  (∀ (x : Issue) (d : Fin 16) (a : Fin 16) (b : Fin 16) (s : State), Cond.addcc x d a b s = true →
    ∃ u, exec (.addcc x d a b) s = .next u ∧ Cond.did s u x false (fun c => (c.setD d (BitVec.ofNat 64 ((c.dv a).toNat + (c.dv b).toNat + (c.dv (pairOf d)).toNat % 2)) (c.pv a || c.pv b || c.pv (pairOf d))).setD (pairOf d) (if 2 ^ 64 ≤ (c.dv a).toNat + (c.dv b).toNat + (c.dv (pairOf d)).toNat % 2 then 1 else 0) (c.pv a || c.pv b || c.pv (pairOf d)))) ∧
  (∀ (x : Issue) (d : Fin 16) (a : Fin 16) (b : Fin 16) (s : State), Cond.subbc x d a b s = true →
    ∃ u, exec (.subbc x d a b) s = .next u ∧ Cond.did s u x false (fun c => (c.setD d (BitVec.ofInt 64 (((c.dv a).toNat : Int) - (c.dv b).toNat - ((c.dv (pairOf d)).toNat % 2 : Nat))) (c.pv a || c.pv b || c.pv (pairOf d))).setD (pairOf d) (if (c.dv a).toNat < (c.dv b).toNat + (c.dv (pairOf d)).toNat % 2 then 1 else 0) (c.pv a || c.pv b || c.pv (pairOf d)))) ∧
  (∀ (x : Issue) (d : Fin 16) (a : Fin 16) (i : Imm) (s : State), Cond.addi x a i s = true →
    ∃ u, exec (.addi x d a i) s = .next u ∧ Cond.did s u x i.ext (fun c => c.setD d (c.dv a + i.v.signExtend 64) (c.pv a))) ∧
  (∀ (x : Issue) (d : Fin 16) (a : Fin 16) (i : Imm) (s : State), Cond.andi x a i s = true →
    ∃ u, exec (.andi x d a i) s = .next u ∧ Cond.did s u x i.ext (fun c => c.setD d (c.dv a &&& i.v.signExtend 64) (c.pv a))) ∧
  (∀ (x : Issue) (d : Fin 16) (a : Fin 16) (i : Imm) (s : State), Cond.ori x a i s = true →
    ∃ u, exec (.ori x d a i) s = .next u ∧ Cond.did s u x i.ext (fun c => c.setD d (c.dv a ||| i.v.signExtend 64) (c.pv a))) ∧
  (∀ (x : Issue) (d : Fin 16) (a : Fin 16) (i : Imm) (s : State), Cond.xori x a i s = true →
    ∃ u, exec (.xori x d a i) s = .next u ∧ Cond.did s u x i.ext (fun c => c.setD d (c.dv a ^^^ i.v.signExtend 64) (c.pv a))) ∧
  (∀ (x : Issue) (d : Fin 16) (a : Fin 16) (kind : Fin 4) (count : Fin 64) (s : State), Cond.shi x a s = true →
    ∃ u, exec (.shi x d a kind count) s = .next u ∧ Cond.did s u x false (fun c => c.setD d (match kind with | 0 => c.dv a <<< count.val | 1 => c.dv a >>> count.val | 2 => (c.dv a).sshiftRight count.val | 3 => (c.dv a).rotateLeft count.val) (c.pv a))) ∧
  (∀ (x : Issue) (d : Fin 16) (v : BitVec 32) (s : State), Cond.inshi x d s = true →
    ∃ u, exec (.inshi x d v) s = .next u ∧ Cond.did s u x true (fun c => c.setD d (BitVec.ofNat 64 (v.toNat * 2 ^ 32 + (c.dv d).toNat % 2 ^ 32)) (c.pv d))) ∧
  (∀ (x : Issue) (d : Fin 16) (i : Imm) (s : State), Cond.movi x i s = true →
    ∃ u, exec (.movi x d i) s = .next u ∧ Cond.did s u x i.ext (fun c => c.setD d (i.v.signExtend 64) false)) ∧
  (∀ (x : Issue) (d : Fin 8) (a : Fin 16) (s : State), Cond.mova x a s = true →
    ∃ u, exec (.mova x d a) s = .next u ∧ Cond.did s u x false (fun c => c.setA d ((c.dv a).setWidth 48))) ∧
  (∀ (x : Issue) (d : Fin 16) (a : Fin 8) (s : State), Cond.movd x a s = true →
    ∃ u, exec (.movd x d a) s = .next u ∧ Cond.did s u x false (fun c => c.setD d ((c.av a).setWidth 64) false)) ∧
  (∀ (x : Issue) (d : Fin 8) (a : Fin 8) (b : Fin 16) (s : State), Cond.aadd x a b s = true →
    ∃ u, exec (.aadd x d a b) s = .next u ∧ Cond.did s u x false (fun c => c.setA d (c.av a + (c.dv b).setWidth 48))) ∧
  (∀ (x : Issue) (d : Fin 8) (a : Fin 8) (b : Fin 16) (s : State), Cond.asub x a b s = true →
    ∃ u, exec (.asub x d a b) s = .next u ∧ Cond.did s u x false (fun c => c.setA d (c.av a - (c.dv b).setWidth 48))) ∧
  (∀ (x : Issue) (d : Fin 16) (a : Fin 8) (b : Fin 8) (s : State), Cond.adiff x a b s = true →
    ∃ u, exec (.adiff x d a b) s = .next u ∧ Cond.did s u x false (fun c => c.setD d ((c.av a - c.av b).signExtend 64) false)) ∧
  (∀ (x : Issue) (d : Fin 8) (a : Fin 8) (i : Imm) (s : State), Cond.lea x a i s = true →
    ∃ u, exec (.lea x d a i) s = .next u ∧ Cond.did s u x i.ext (fun c => c.setA d (c.av a + i.v.signExtend 48))) ∧
  (∀ (x : Issue) (d : Fin 16) (k : BitVec 12) (long : Bool) (s : State), Cond.mfcr x k long s = true →
    ∃ u, exec (.mfcr x d k long) s = .next u ∧ Cond.did s u x long (fun c => c.setD d (s.crRead x.core.val k.toNat) false)) ∧
  (∀ (x : Issue) (d : Fin 16) (k : BitVec 12) (long : Bool) (s : State), Cond.mtcr x d k long s = true →
    ∃ u, exec (.mtcr x d k long) s = .next u ∧ Cond.did s u x long (fun c => c.crWrite k.toNat (c.dv d)))

/-- An instruction of a core that can execute, fetched clean and within its windows, with no source that owes a bus error. Each answers a next state in
which its destination holds the value given, poisoned when a source is, one more instruction has retired, the core goes on at the next one, and no
other core and nothing else of the package changes, but for the free values that a poisoned result takes. DADD: of valid digits: their decimal sum
modulo 10^16 in the pair, its carry above; with a poisoned source, both registers of the pair are poisoned. DSUB: of valid digits: their decimal
difference modulo 10^16 in the pair, its borrow above; with a poisoned source, both registers of the pair are poisoned. DADJ: the binary sum a of two
packed values whose exclusive-or is b, corrected digit by digit as R392 says. PACK: of zoned bytes: their sixteen digits packed, byte 0 of a highest;
with a poisoned source, d is poisoned. UNPK: of 16 digits: eight zoned bytes with zone 3 in each register of the pair, the eight most significant
digits in d; with a poisoned source, both registers of the pair are poisoned. UNPKF: of 16 digits: eight zoned bytes with zone 15 in each register of
the pair, the eight most significant digits in d; with a poisoned source, both registers of the pair are poisoned. DSGN_GET: of a sign below 15
digits: 1 for minus, else 0; with a poisoned source, d is poisoned. DSGN_STRIP: the digits alone; with a poisoned source, d is poisoned. DSGN_APPLY:
of fifteen digits: they, with D behind them where bit 0 of b is set and they are not 0, else C; with a poisoned source, d is poisoned. DSGN_NORM: of a
sign below 15 digits: the sign made C or D, and C for 0; with a poisoned source, d is poisoned. DCVT: of a sign below 15 digits: the number in binary;
with a poisoned source, d is poisoned. DCVTU: of 16 digits: the number in binary; with a poisoned source, d is poisoned. -/
def Obligations.BasizDecimal : Prop :=
  (∀ (x : Issue) (d : Fin 16) (a : Fin 16) (b : Fin 16) (s : State), Cond.dadd x d a b s = true →
    ∃ u, exec (.dadd x d a b) s = .next u ∧ Cond.did s u x false (fun c => (c.setD d (BitVec.ofNat 64 (packDigits 16 (digitsAt (c.dv a).toNat 0 16 + digitsAt (c.dv b).toNat 0 16))) (c.pv a || c.pv b)).setD (pairOf d) (if 10 ^ 16 ≤ digitsAt (c.dv a).toNat 0 16 + digitsAt (c.dv b).toNat 0 16 then 1 else 0) (c.pv a || c.pv b))) ∧
  (∀ (x : Issue) (d : Fin 16) (a : Fin 16) (b : Fin 16) (s : State), Cond.daddPoisoned x d a b s = true →
    ∃ u, exec (.dadd x d a b) s = .next u ∧ Cond.poisons s u x [d, pairOf d]) ∧
  (∀ (x : Issue) (d : Fin 16) (a : Fin 16) (b : Fin 16) (s : State), Cond.dsub x d a b s = true →
    ∃ u, exec (.dsub x d a b) s = .next u ∧ Cond.did s u x false (fun c => (c.setD d (BitVec.ofNat 64 (packDigits 16 (if digitsAt (c.dv b).toNat 0 16 ≤ digitsAt (c.dv a).toNat 0 16 then digitsAt (c.dv a).toNat 0 16 - digitsAt (c.dv b).toNat 0 16 else 10 ^ 16 + digitsAt (c.dv a).toNat 0 16 - digitsAt (c.dv b).toNat 0 16))) (c.pv a || c.pv b)).setD (pairOf d) (if digitsAt (c.dv a).toNat 0 16 < digitsAt (c.dv b).toNat 0 16 then 1 else 0) (c.pv a || c.pv b))) ∧
  (∀ (x : Issue) (d : Fin 16) (a : Fin 16) (b : Fin 16) (s : State), Cond.dsubPoisoned x d a b s = true →
    ∃ u, exec (.dsub x d a b) s = .next u ∧ Cond.poisons s u x [d, pairOf d]) ∧
  (∀ (x : Issue) (d : Fin 16) (a : Fin 16) (b : Fin 16) (s : State), Cond.dadj x a b s = true →
    ∃ u, exec (.dadj x d a b) s = .next u ∧ Cond.did s u x false (fun c => c.setD d (BitVec.ofNat 64 (adjust (c.dv a).toNat ((c.dv a).toNat ^^^ (c.dv b).toNat) 16 0 0)) (c.pv a || c.pv b))) ∧
  (∀ (x : Issue) (d : Fin 16) (a : Fin 16) (b : Fin 16) (s : State), Cond.pack x a b s = true →
    ∃ u, exec (.pack x d a b) s = .next u ∧ Cond.did s u x false (fun c => c.setD d (BitVec.ofNat 64 (sumOf (fun (k : Nat) => nibble (c.dv a).toNat (2 * k) * 16 ^ (15 - k) + nibble (c.dv b).toNat (2 * k) * 16 ^ (7 - k)) (List.range 8))) (c.pv a || c.pv b))) ∧
  (∀ (x : Issue) (d : Fin 16) (a : Fin 16) (b : Fin 16) (s : State), Cond.packPoisoned x a b s = true →
    ∃ u, exec (.pack x d a b) s = .next u ∧ Cond.poisons s u x [d]) ∧
  (∀ (x : Issue) (d : Fin 16) (a : Fin 16) (s : State), Cond.unpk x d a s = true →
    ∃ u, exec (.unpk x d a) s = .next u ∧ Cond.did s u x false (fun c => (c.setD d (BitVec.ofNat 64 (sumOf (fun (k : Nat) => (16 * 3 + nibble (c.dv a).toNat (15 - k)) * 256 ^ k) (List.range 8))) (c.pv a)).setD (pairOf d) (BitVec.ofNat 64 (sumOf (fun (k : Nat) => (16 * 3 + nibble (c.dv a).toNat (7 - k)) * 256 ^ k) (List.range 8))) (c.pv a))) ∧
  (∀ (x : Issue) (d : Fin 16) (a : Fin 16) (s : State), Cond.unpkPoisoned x d a s = true →
    ∃ u, exec (.unpk x d a) s = .next u ∧ Cond.poisons s u x [d, pairOf d]) ∧
  (∀ (x : Issue) (d : Fin 16) (a : Fin 16) (s : State), Cond.unpkf x d a s = true →
    ∃ u, exec (.unpkf x d a) s = .next u ∧ Cond.did s u x false (fun c => (c.setD d (BitVec.ofNat 64 (sumOf (fun (k : Nat) => (16 * 15 + nibble (c.dv a).toNat (15 - k)) * 256 ^ k) (List.range 8))) (c.pv a)).setD (pairOf d) (BitVec.ofNat 64 (sumOf (fun (k : Nat) => (16 * 15 + nibble (c.dv a).toNat (7 - k)) * 256 ^ k) (List.range 8))) (c.pv a))) ∧
  (∀ (x : Issue) (d : Fin 16) (a : Fin 16) (s : State), Cond.unpkfPoisoned x d a s = true →
    ∃ u, exec (.unpkf x d a) s = .next u ∧ Cond.poisons s u x [d, pairOf d]) ∧
  (∀ (x : Issue) (d : Fin 16) (a : Fin 16) (s : State), Cond.dsgnGet x a s = true →
    ∃ u, exec (.dsgnGet x d a) s = .next u ∧ Cond.did s u x false (fun c => c.setD d (if nibble (c.dv a).toNat 0 = 0xB ∨ nibble (c.dv a).toNat 0 = 0xD then 1 else 0) (c.pv a))) ∧
  (∀ (x : Issue) (d : Fin 16) (a : Fin 16) (s : State), Cond.dsgnGetPoisoned x a s = true →
    ∃ u, exec (.dsgnGet x d a) s = .next u ∧ Cond.poisons s u x [d]) ∧
  (∀ (x : Issue) (d : Fin 16) (a : Fin 16) (s : State), Cond.dsgnStrip x a s = true →
    ∃ u, exec (.dsgnStrip x d a) s = .next u ∧ Cond.did s u x false (fun c => c.setD d ((c.dv a) >>> 4) (c.pv a))) ∧
  (∀ (x : Issue) (d : Fin 16) (a : Fin 16) (s : State), Cond.dsgnStripPoisoned x a s = true →
    ∃ u, exec (.dsgnStrip x d a) s = .next u ∧ Cond.poisons s u x [d]) ∧
  (∀ (x : Issue) (d : Fin 16) (a : Fin 16) (b : Fin 16) (s : State), Cond.dsgnApply x a b s = true →
    ∃ u, exec (.dsgnApply x d a b) s = .next u ∧ Cond.did s u x false (fun c => c.setD d (BitVec.ofNat 64 (16 * (c.dv a).toNat + (if (c.dv b).toNat % 2 = 1 ∧ (c.dv a).toNat ≠ 0 then 0xD else 0xC))) (c.pv a || c.pv b))) ∧
  (∀ (x : Issue) (d : Fin 16) (a : Fin 16) (b : Fin 16) (s : State), Cond.dsgnApplyPoisoned x a b s = true →
    ∃ u, exec (.dsgnApply x d a b) s = .next u ∧ Cond.poisons s u x [d]) ∧
  (∀ (x : Issue) (d : Fin 16) (a : Fin 16) (s : State), Cond.dsgnNorm x a s = true →
    ∃ u, exec (.dsgnNorm x d a) s = .next u ∧ Cond.did s u x false (fun c => c.setD d (BitVec.ofNat 64 (16 * ((c.dv a).toNat / 16) + Cond.signOf (Cond.decOf 15 (c.dv a).toNat))) (c.pv a))) ∧
  (∀ (x : Issue) (d : Fin 16) (a : Fin 16) (s : State), Cond.dsgnNormPoisoned x a s = true →
    ∃ u, exec (.dsgnNorm x d a) s = .next u ∧ Cond.poisons s u x [d]) ∧
  (∀ (x : Issue) (d : Fin 16) (a : Fin 16) (s : State), Cond.dcvt x a s = true →
    ∃ u, exec (.dcvt x d a) s = .next u ∧ Cond.did s u x false (fun c => c.setD d (BitVec.ofInt 64 (Cond.decOf 15 (c.dv a).toNat)) (c.pv a))) ∧
  (∀ (x : Issue) (d : Fin 16) (a : Fin 16) (s : State), Cond.dcvtPoisoned x a s = true →
    ∃ u, exec (.dcvt x d a) s = .next u ∧ Cond.poisons s u x [d]) ∧
  (∀ (x : Issue) (d : Fin 16) (a : Fin 16) (s : State), Cond.dcvtu x a s = true →
    ∃ u, exec (.dcvtu x d a) s = .next u ∧ Cond.did s u x false (fun c => c.setD d (BitVec.ofNat 64 (digitsAt (c.dv a).toNat 0 16)) (c.pv a))) ∧
  (∀ (x : Issue) (d : Fin 16) (a : Fin 16) (s : State), Cond.dcvtuPoisoned x a s = true →
    ∃ u, exec (.dcvtu x d a) s = .next u ∧ Cond.poisons s u x [d])

/-- An instruction of a core that can execute, fetched clean and within its windows, with no source that owes a bus error, and, unless a clause says
otherwise, of an accumulator that no unfinished MACX holds. Each answers a next state in which its destination holds the value given, poisoned when
what it reads is, one more instruction has retired, the core goes on at the next one, and no other core and nothing else of the package changes, but
for the free values that a poisoned result takes. MTAC: the pair in the accumulator, its upper register above. MTACS: a sign-extended. MTACZ: a
zero-extended. MTACD: of a sign below 15 digits: the number as 31 digits and a sign; of a poisoned operand: the accumulator is poisoned, and no other
changes. DACC: of valid digits and signs whose sum takes 31 digits: the decimal sum of a and the accumulator; of a poisoned operand: the accumulator
is poisoned, and no other changes. MFAC: the accumulator in the pair, its low half below; while an unfinished MACX holds the accumulator the core
stays at the instruction, and nothing but its waiting for events changes. MFACS: the accumulator as a signed number of 64 bits, saturated, and above
it whether it was. MFACU: the same, unsigned. MFACD: of 31 valid digits: fifteen digits and a sign, saturated, and above them whether they were; of a
poisoned accumulator: both registers are poisoned, with no check. -/
def Obligations.BasizAccumulators : Prop :=
  (∀ (x : Issue) (k : Fin 4) (a : Fin 16) (s : State), Cond.mtac x k a s = true →
    ∃ u, exec (.mtac x k a) s = .next u ∧ Cond.did s u x false (fun c => c.setAc k (BitVec.ofNat 128 ((c.dv (pairOf a)).toNat * 2 ^ 64 + (c.dv a).toNat)) (c.pv a || c.pv (pairOf a)))) ∧
  (∀ (x : Issue) (k : Fin 4) (a : Fin 16) (s : State), Cond.mtacs x k a s = true →
    ∃ u, exec (.mtacs x k a) s = .next u ∧ Cond.did s u x false (fun c => c.setAc k (BitVec.ofInt 128 (c.dv a).toInt) (c.pv a))) ∧
  (∀ (x : Issue) (k : Fin 4) (a : Fin 16) (s : State), Cond.mtacz x k a s = true →
    ∃ u, exec (.mtacz x k a) s = .next u ∧ Cond.did s u x false (fun c => c.setAc k (BitVec.ofNat 128 (c.dv a).toNat) (c.pv a))) ∧
  (∀ (x : Issue) (k : Fin 4) (a : Fin 16) (s : State), Cond.mtacd x k a s = true →
    ∃ u, exec (.mtacd x k a) s = .next u ∧ Cond.did s u x false (fun c => c.setAc k (BitVec.ofNat 128 (16 * packDigits 31 (digitsAt (c.dv a).toNat 1 15) + Cond.signOf (Cond.decOf 15 (c.dv a).toNat))) (c.pv a))) ∧
  (∀ (x : Issue) (k : Fin 4) (a : Fin 16) (s : State), Cond.mtacdPoisoned x k a s = true →
    ∃ u, exec (.mtacd x k a) s = .next u ∧ (u.core x.core.val).acp[k] = true ∧ (∀ j : Fin 4, j ≠ k → (u.core x.core.val).acp[j] = (s.core x.core.val).acp[j] ∧ (u.core x.core.val).ac[j] = (s.core x.core.val).ac[j]) ∧ u.core x.core.val = { Cond.stepped s x (Cond.after s x false) (fun (c : Core) => c) with ac := (u.core x.core.val).ac, acp := (u.core x.core.val).acp } ∧ u = { s with cores := u.cores, free := u.free } ∧ (∀ m : Nat, m ≠ x.core.val → u.core m = s.core m)) ∧
  (∀ (x : Issue) (k : Fin 4) (a : Fin 16) (s : State), Cond.dacc x k a s = true →
    ∃ u, exec (.dacc x k a) s = .next u ∧ Cond.did s u x false (fun c => c.setAc k (BitVec.ofNat 128 (16 * packDigits 31 (Cond.decOf 15 (c.dv a).toNat + Cond.decOf 31 (c.acv k)).natAbs + Cond.signOf (Cond.decOf 15 (c.dv a).toNat + Cond.decOf 31 (c.acv k)))) (c.pv a || c.acp[k]))) ∧
  (∀ (x : Issue) (k : Fin 4) (a : Fin 16) (s : State), Cond.daccPoisoned x k a s = true →
    ∃ u, exec (.dacc x k a) s = .next u ∧ (u.core x.core.val).acp[k] = true ∧ (∀ j : Fin 4, j ≠ k → (u.core x.core.val).acp[j] = (s.core x.core.val).acp[j] ∧ (u.core x.core.val).ac[j] = (s.core x.core.val).ac[j]) ∧ u.core x.core.val = { Cond.stepped s x (Cond.after s x false) (fun (c : Core) => c) with ac := (u.core x.core.val).ac, acp := (u.core x.core.val).acp } ∧ u = { s with cores := u.cores, free := u.free } ∧ (∀ m : Nat, m ≠ x.core.val → u.core m = s.core m)) ∧
  (∀ (x : Issue) (d : Fin 16) (k : Fin 4) (s : State), Cond.mfac x d k s = true →
    ∃ u, exec (.mfac x d k) s = .next u ∧ Cond.did s u x false (fun c => (c.setD d ((c.ac[k]).setWidth 64) c.acp[k]).setD (pairOf d) (BitVec.ofNat 64 ((c.ac[k]).toNat / 2 ^ 64)) c.acp[k])) ∧
  (∀ (x : Issue) (d : Fin 16) (k : Fin 4) (s : State), Cond.mfacs x d k s = true →
    ∃ u, exec (.mfacs x d k) s = .next u ∧ Cond.did s u x false (fun c => (c.setD d (BitVec.ofInt 64 (max (-(2 ^ 63)) (min (2 ^ 63 - 1) (c.ac[k]).toInt))) c.acp[k]).setD (pairOf d) (if (c.ac[k]).toInt < -(2 ^ 63) ∨ 2 ^ 63 ≤ (c.ac[k]).toInt then 1 else 0) c.acp[k])) ∧
  (∀ (x : Issue) (d : Fin 16) (k : Fin 4) (s : State), Cond.mfacu x d k s = true →
    ∃ u, exec (.mfacu x d k) s = .next u ∧ Cond.did s u x false (fun c => (c.setD d (BitVec.ofInt 64 (max 0 (min (2 ^ 64 - 1) (c.ac[k]).toInt))) c.acp[k]).setD (pairOf d) (if (c.ac[k]).toInt < 0 ∨ 2 ^ 64 ≤ (c.ac[k]).toInt then 1 else 0) c.acp[k])) ∧
  (∀ (x : Issue) (d : Fin 16) (k : Fin 4) (s : State), Cond.mfacd x d k s = true →
    ∃ u, exec (.mfacd x d k) s = .next u ∧ Cond.did s u x false (fun c => (c.setD d (BitVec.ofNat 64 (16 * packDigits 15 (min (Cond.decOf 31 (c.acv k)).natAbs (10 ^ 15 - 1)) + Cond.signOf (Cond.decOf 31 (c.acv k)))) c.acp[k]).setD (pairOf d) (if 10 ^ 15 ≤ (Cond.decOf 31 (c.acv k)).natAbs then 1 else 0) c.acp[k])) ∧
  (∀ (x : Issue) (d : Fin 16) (k : Fin 4) (s : State), Cond.mfacdPoisoned x d k s = true →
    ∃ u, exec (.mfacd x d k) s = .next u ∧ Cond.poisons s u x [d, pairOf d]) ∧
  (∀ (x : Issue) (d : Fin 16) (k : Fin 4) (s : State), Cond.mfacHeld x d k s = true →
    exec (.mfac x d k) s = .next (s.setCore x.core.val { s.core x.core.val with waiting := false }))

/-- Branches, jumps and the return stacks: each goes where its line says, and nothing else of the block changes. BEQ: to its target where a = b, else on
at the next instruction. BNE: to its target where a ≠ b, else on at the next instruction. BLT: to its target where a < b signed, else on at the next
instruction. BGE: to its target where a ≥ b signed, else on at the next instruction. BLTU: to its target where a < b unsigned, else on at the next
instruction. BGEU: to its target where a ≥ b unsigned, else on at the next instruction. BZ: to its target where a = 0, else on at the next
instruction. BNZ: to its target where a ≠ 0, else on at the next instruction. BAEQ: to its target where a = b, A registers, else on at the next
instruction. BANE: to its target where a ≠ b, A registers, else on at the next instruction. BALTU: to its target where a < b, A registers, else on at
the next instruction. BDV: to its target where a holds sixteen valid digits (mode 0), or a valid sign below 15 of them, else on at the next
instruction. JMP: to its target. CALL: to its target, the address of the next instruction pushed on the return stack of the level; where a full stack
is not refused, its oldest entry is lost. JR: to the address in D[a]. CALLR: to the address in D[a], the address of the next instruction pushed; where
a full stack is not refused, its oldest entry is lost. RET: to the newest entry of a return stack that is not empty, which is popped. RPUSH: pushes
D[a] on the return stack. RPOP: pops the newest entry of a return stack that is not empty into D[d]. -/
def Obligations.BasizBranches : Prop :=
  (∀ (x : Issue) (a : Fin 16) (b : Fin 16) (i : Imm) (s : State), Cond.beq x a b i s = true →
    ∃ u, exec (.beq x a b i) s = .next u ∧ Cond.jumped s u x (if ((s.core x.core.val).dv a) = ((s.core x.core.val).dv b) then Cond.target s x i else Cond.after s x i.ext) (fun c => c)) ∧
  (∀ (x : Issue) (a : Fin 16) (b : Fin 16) (i : Imm) (s : State), Cond.bne x a b i s = true →
    ∃ u, exec (.bne x a b i) s = .next u ∧ Cond.jumped s u x (if ((s.core x.core.val).dv a) ≠ ((s.core x.core.val).dv b) then Cond.target s x i else Cond.after s x i.ext) (fun c => c)) ∧
  (∀ (x : Issue) (a : Fin 16) (b : Fin 16) (i : Imm) (s : State), Cond.blt x a b i s = true →
    ∃ u, exec (.blt x a b i) s = .next u ∧ Cond.jumped s u x (if ((s.core x.core.val).dv a).toInt < ((s.core x.core.val).dv b).toInt then Cond.target s x i else Cond.after s x i.ext) (fun c => c)) ∧
  (∀ (x : Issue) (a : Fin 16) (b : Fin 16) (i : Imm) (s : State), Cond.bge x a b i s = true →
    ∃ u, exec (.bge x a b i) s = .next u ∧ Cond.jumped s u x (if ((s.core x.core.val).dv b).toInt ≤ ((s.core x.core.val).dv a).toInt then Cond.target s x i else Cond.after s x i.ext) (fun c => c)) ∧
  (∀ (x : Issue) (a : Fin 16) (b : Fin 16) (i : Imm) (s : State), Cond.bltu x a b i s = true →
    ∃ u, exec (.bltu x a b i) s = .next u ∧ Cond.jumped s u x (if ((s.core x.core.val).dv a).toNat < ((s.core x.core.val).dv b).toNat then Cond.target s x i else Cond.after s x i.ext) (fun c => c)) ∧
  (∀ (x : Issue) (a : Fin 16) (b : Fin 16) (i : Imm) (s : State), Cond.bgeu x a b i s = true →
    ∃ u, exec (.bgeu x a b i) s = .next u ∧ Cond.jumped s u x (if ((s.core x.core.val).dv b).toNat ≤ ((s.core x.core.val).dv a).toNat then Cond.target s x i else Cond.after s x i.ext) (fun c => c)) ∧
  (∀ (x : Issue) (a : Fin 16) (i : Imm) (s : State), Cond.bz x a i s = true →
    ∃ u, exec (.bz x a i) s = .next u ∧ Cond.jumped s u x (if ((s.core x.core.val).dv a) = 0 then Cond.target s x i else Cond.after s x i.ext) (fun c => c)) ∧
  (∀ (x : Issue) (a : Fin 16) (i : Imm) (s : State), Cond.bnz x a i s = true →
    ∃ u, exec (.bnz x a i) s = .next u ∧ Cond.jumped s u x (if ((s.core x.core.val).dv a) ≠ 0 then Cond.target s x i else Cond.after s x i.ext) (fun c => c)) ∧
  (∀ (x : Issue) (a : Fin 8) (b : Fin 8) (i : Imm) (s : State), Cond.baeq x a b i s = true →
    ∃ u, exec (.baeq x a b i) s = .next u ∧ Cond.jumped s u x (if ((s.core x.core.val).av a) = ((s.core x.core.val).av b) then Cond.target s x i else Cond.after s x i.ext) (fun c => c)) ∧
  (∀ (x : Issue) (a : Fin 8) (b : Fin 8) (i : Imm) (s : State), Cond.bane x a b i s = true →
    ∃ u, exec (.bane x a b i) s = .next u ∧ Cond.jumped s u x (if ((s.core x.core.val).av a) ≠ ((s.core x.core.val).av b) then Cond.target s x i else Cond.after s x i.ext) (fun c => c)) ∧
  (∀ (x : Issue) (a : Fin 8) (b : Fin 8) (i : Imm) (s : State), Cond.baltu x a b i s = true →
    ∃ u, exec (.baltu x a b i) s = .next u ∧ Cond.jumped s u x (if ((s.core x.core.val).av a).toNat < ((s.core x.core.val).av b).toNat then Cond.target s x i else Cond.after s x i.ext) (fun c => c)) ∧
  (∀ (x : Issue) (a : Fin 16) (mode : Fin 2) (i : Imm) (s : State), Cond.bdv x a i s = true →
    ∃ u, exec (.bdv x a mode i) s = .next u ∧ Cond.jumped s u x (if (if mode = 0 then Cond.digits16 ((s.core x.core.val).dv a).toNat else Cond.signedDigits 15 ((s.core x.core.val).dv a).toNat) then Cond.target s x i else Cond.after s x i.ext) (fun c => c)) ∧
  (∀ (x : Issue) (i : Imm) (s : State), Cond.jmp x i s = true →
    ∃ u, exec (.jmp x i) s = .next u ∧ Cond.jumped s u x (Cond.target s x i) (fun c => c)) ∧
  (∀ (x : Issue) (i : Imm) (s : State), Cond.call x i s = true →
    ∃ u, exec (.call x i) s = .next u ∧ Cond.jumped s u x (Cond.target s x i) (fun c => c.setStack ((Cond.after s x i.ext :: c.stack).take 16))) ∧
  (∀ (x : Issue) (a : Fin 16) (s : State), Cond.jr x a s = true →
    ∃ u, exec (.jr x a) s = .next u ∧ Cond.jumped s u x (((s.core x.core.val).dv a).setWidth 48) (fun c => c)) ∧
  (∀ (x : Issue) (a : Fin 16) (s : State), Cond.callr x a s = true →
    ∃ u, exec (.callr x a) s = .next u ∧ Cond.jumped s u x (((s.core x.core.val).dv a).setWidth 48) (fun c => c.setStack ((Cond.after s x false :: c.stack).take 16))) ∧
  (∀ (x : Issue) (s : State), Cond.ret x s = true →
    ∃ u, exec (.ret x) s = .next u ∧ ∀ p ∈ (s.core x.core.val).stack.head?, Cond.jumped s u x p (fun c => c.setStack c.stack.tail)) ∧
  (∀ (x : Issue) (a : Fin 16) (s : State), Cond.rpush x a s = true →
    ∃ u, exec (.rpush x a) s = .next u ∧ Cond.did s u x false (fun c => c.setStack (((c.dv a).setWidth 48 :: c.stack).take 16))) ∧
  (∀ (x : Issue) (d : Fin 16) (s : State), Cond.rpop x s = true →
    ∃ u, exec (.rpop x d) s = .next u ∧ ∀ p ∈ (s.core x.core.val).stack.head?, Cond.did s u x false (fun c => (c.setStack c.stack.tail).setD d (p.setWidth 64) false))

/-- What the instructions of the system group do where they do not raise an exception. NOP: only goes on. PCHK: with D[a] not poisoned only goes on.
FENCE: performs the core's own stores at their memory, no other byte of it changing, and goes on. CORE_SYNC: with no MACX running performs the core's
own stores, puts the pending windows in force and goes on; with a MACX running goes on no further: only the core's waiting ends. SVC: enters the
handler of vector 10 at supervisor level, the address of the next instruction saved; from task level enters the handler of vector 10, the address of
the next instruction saved and the system call counted. BRK: enters the handler of vector 11, the address of the next instruction saved. ERET: at
supervisor level goes to EPC, the level and the event enable as ESTATUS gives them and EXL clear. WAITEV: at supervisor level goes on, waiting unless
an event is pending. IINV: at supervisor level empties the instruction cache and goes on. TEND: of a firmware task: performs the stores, ends the task
and counts its fault where its status is a fault or poisoned; scheduling, commands and flash unchanged; of a task of a program that is not fixed, with
others of its set outstanding: counts it ended, its fault, and the first fault by index; of a task of a fixed program whose run writes nothing: stores
the sixteen result bytes (made, items, status) at the place of its index and counts it ended. -/
def Obligations.BasizSystem : Prop :=
  (∀ (x : Issue) (s : State), Cond.nop x s = true →
    ∃ u, exec (.nop x) s = .next u ∧ Cond.did s u x false (fun c => c)) ∧
  (∀ (x : Issue) (a : Fin 16) (s : State), Cond.pchk x a s = true →
    ∃ u, exec (.pchk x a) s = .next u ∧ Cond.did s u x false (fun c => c)) ∧
  (∀ (x : Issue) (s : State), Cond.fence x s = true →
    ∃ u, exec (.fence x) s = .next u ∧ Cond.fenced s u x.core.val ∧ u.core x.core.val = Cond.stepped s x (Cond.after s x false) (fun c => { c with stores := [] }) ∧ Cond.coreAndMem s u x.core.val) ∧
  (∀ (x : Issue) (s : State), Cond.coreSync x s = true →
    ∃ u, exec (.coreSync x) s = .next u ∧ Cond.fenced s u x.core.val ∧ u.core x.core.val = Cond.stepped s x (Cond.after s x false) (fun c => { c with stores := [], wins := c.nextWins, winsPending := false }) ∧ Cond.coreAndMem s u x.core.val) ∧
  (∀ (x : Issue) (s : State), Cond.coreSyncWaits x s = true →
    exec (.coreSync x) s = .next (s.setCore x.core.val { s.core x.core.val with waiting := false })) ∧
  (∀ (x : Issue) (s : State), Cond.svc x s = true →
    ∃ u, exec (.svc x) s = .next u ∧ Cond.entered s u x 10 (Cond.after s x false) (s.core x.core.val).pc 0 (BitVec.ofNat 32 (3 * 2 ^ 26 + 3))) ∧
  (∀ (x : Issue) (s : State), Cond.svcTask x s = true →
    ∃ u, exec (.svc x) s = .next u ∧ u.core x.core.val = Cond.inHandler s x.core.val { s.core x.core.val with started := true, retired := (s.core x.core.val).retired + 1 } 10 (Cond.after s x false) (s.core x.core.val).pc 0 (BitVec.ofNat 32 (3 * 2 ^ 26 + 3)) ∧ (∀ m : Nat, m ≠ x.core.val → u.core m = s.core m) ∧ u.val 0xA010 10 = (s.bump 0xA010 10).val 0xA010 10 ∧ u = { s with cores := u.cores, dict := u.dict }) ∧
  (∀ (x : Issue) (s : State), Cond.brk x s = true →
    ∃ u, exec (.brk x) s = .next u ∧ Cond.entered s u x 11 (Cond.after s x false) (s.core x.core.val).pc 0 (BitVec.ofNat 32 (3 * 2 ^ 26 + 5))) ∧
  (∀ (x : Issue) (s : State), Cond.eret x s = true →
    ∃ u, exec (.eret x) s = .next u ∧ Cond.jumped s u x (s.core x.core.val).epc (fun c => { c with sup := c.estatus.getLsbD 0, eventEn := c.estatus.getLsbD 1, exl := false })) ∧
  (∀ (x : Issue) (s : State), Cond.waitev x s = true →
    ∃ u, exec (.waitev x) s = .next u ∧ Cond.did s u x false (fun c => { c with waiting := !s.eventPending x.core.val })) ∧
  (∀ (x : Issue) (s : State), Cond.iinv x s = true →
    ∃ u, exec (.iinv x) s = .next u ∧ u.core x.core.val = { Cond.stepped s x (Cond.after s x false) (fun c => c) with icache := false } ∧ Cond.onlyCore s u x.core.val) ∧
  (∀ (x : Issue) (a : Fin 16) (s : State), Cond.tend x a s = true →
    ∃ u, exec (.tend x a) s = .next u ∧ Cond.fenced s u x.core.val ∧ u.core x.core.val = { Cond.stepped s x (Cond.after s x false) (fun c => { c with stores := [], task := none, stop := false }) with started := true } ∧ (∀ m : Nat, m ≠ x.core.val → u.core m = s.core m) ∧ u.val 0xA030 5 = (if (s.core x.core.val).pv a = true ∨ 0xFF00 ≤ ((s.core x.core.val).dv a).toNat % 65536 then (s.bump 0xA030 5).val 0xA030 5 else s.val 0xA030 5) ∧ u.sched = s.sched ∧ u.nvme = s.nvme ∧ u.flash = s.flash) ∧
  (∀ (x : Issue) (a : Fin 16) (s : State), Cond.tendProgram x a s = true →
    ∃ u, exec (.tend x a) s = .next u ∧ (u.core x.core.val).task = none ∧ (∀ m : Nat, m ≠ x.core.val → u.core m = s.core m) ∧ Cond.fenced s u x.core.val ∧ (∀ t ∈ (s.core x.core.val).task, ∀ e ∈ s.exec? t.tag, let v := if (s.core x.core.val).pv a then 0xFFFE else if ((s.core x.core.val).dv a).toNat % 65536 < 0xFF00 then ((s.core x.core.val).dv a).toNat % 65536 else 0xFF00; u.exec? t.tag = some { e with ended := e.ended + 1, faults := e.faults + (if v = 0 then 0 else 1), first := if v ≠ 0 ∧ (e.first.all fun f => decide (t.index < f.1)) = true then some (t.index, v) else e.first }) ∧ u.nvme = s.nvme ∧ u.flash = s.flash) ∧
  (∀ (x : Issue) (a : Fin 16) (s : State), Cond.tendFixed x a s = true →
    ∃ u, exec (.tend x a) s = .next u ∧ ∀ t ∈ (s.core x.core.val).task, ∀ e ∈ s.exec? t.tag, let o := s.fixedOutcome (s.core x.core.val) t (s.mem.read t.param 4096); Cond.stores s u (((s.core x.core.val).win 4).span.1 + (field (s.mem.read t.param 4096) 72 8 + 16 * t.index)) (leBytes 8 o.made ++ leBytes 4 o.items ++ leBytes 4 o.status) ∧ (u.core x.core.val).task = none ∧ (∀ m : Nat, m ≠ x.core.val → u.core m = s.core m) ∧ (u.exec? t.tag).map (fun k => (k.ended, k.faults)) = some (e.ended + 1, e.faults + (if o.status = 0 then 0 else 1)) ∧ u.nvme = s.nvme ∧ u.flash = s.flash)

/-- Exceptions, stops and restarts of a core; a handler entered saves the address of the instruction (or of the next, where a line says so), with the
other cores unchanged. ILLEGAL_INSTRUCTION: a word that is no instruction raises vector 1 with nothing else done; at task level the same word ends the
task by its fault. SVC: at supervisor level with EXL set halts the core: HALTED counted, its event latched. MFCR: of a register not listed, or not for
tasks, raises vector 1. ADDC: with a destination that has no pair raises vector 1. BEQ: on a poisoned operand raises vector 4, counts it and latches
its event. CALL: with a full stack at a level that refuses it raises vector 7. RET: with an empty stack raises vector 8. DADD: on an operand that is
no decimal raises vector 9 with the first such digit in the cause. DACC: past 31 digits raises vector 9 with the overflow bit in the cause and the
accumulator unchanged. EVENT_EXCEPTION: enters the handler of vector 12 between instructions, where events are enabled and one is pending. TASK_STOP:
a task asked to stop leaves its core through vector 13 with its stores performed. WSYNC: puts the pending windows in force, counted, and drains where
a MACX runs. CORE_RESTART: a halted core with no store outstanding restarts at its handler of vector 0 with its registers cleared. -/
def Obligations.BasizExceptions : Prop :=
  (∀ (x : Issue) (w : BitVec 32) (ext : BitVec 32) (s : State), Cond.illegalInstruction x w ext s = true →
    ∃ u, exec (.illegalInstruction x w ext) s = .next u ∧ Cond.entered s u x 1 (s.core x.core.val).pc (s.core x.core.val).pc (0) w) ∧
  (∀ (x : Issue) (w : BitVec 32) (ext : BitVec 32) (s : State), Cond.illegalInstructionTask x w ext s = true →
    ∃ u, exec (.illegalInstruction x w ext) s = .next u ∧ Cond.taskFault s u x 1 (s.core x.core.val).pc w) ∧
  (∀ (x : Issue) (s : State), Cond.svcDouble x s = true →
    ∃ u, exec (.svc x) s = .next u ∧ u.core x.core.val = { s.core x.core.val with started := true, waiting := false, retired := (s.core x.core.val).retired + 1, halted := true } ∧ (∀ m : Nat, m ≠ x.core.val → u.core m = s.core m) ∧ u.val 0xA020 2 = (s.bump 0xA020 2).val 0xA020 2 ∧ srcBit u.ev.latch (haltSource x.core.val) = true ∧ u = { s with cores := u.cores, dict := u.dict, ev := u.ev, out := u.out, twin := u.twin }) ∧
  (∀ (x : Issue) (d : Fin 16) (k : BitVec 12) (long : Bool) (s : State), Cond.mfcrUnlisted x k long s = true →
    ∃ u, exec (.mfcr x d k long) s = .next u ∧ Cond.entered s u x 1 (s.core x.core.val).pc (s.core x.core.val).pc (0) (BitVec.ofNat 32 (6 * 2 ^ 26 + d.val * 2 ^ 21 + k.toNat))) ∧
  (∀ (x : Issue) (d : Fin 16) (a : Fin 16) (b : Fin 16) (s : State), Cond.addcNoPair x d a b s = true →
    ∃ u, exec (.addc x d a b) s = .next u ∧ Cond.entered s u x 1 (s.core x.core.val).pc (s.core x.core.val).pc (0) (BitVec.ofNat 32 (0 * 2 ^ 26 + 15 * 2 ^ 21 + a.val * 2 ^ 16 + b.val * 2 ^ 11 + 0x20))) ∧
  (∀ (x : Issue) (a : Fin 16) (b : Fin 16) (i : Imm) (s : State), Cond.beqPoisoned x a b i s = true →
    ∃ u, exec (.beq x a b i) s = .next u ∧ u.core x.core.val = Cond.inHandler s x.core.val { s.core x.core.val with started := true } 4 (s.core x.core.val).pc (s.core x.core.val).pc 0 (BitVec.ofNat 32 (0x30 * 2 ^ 26 + a.val * 2 ^ 21 + b.val * 2 ^ 16 + i.v.toNat % 65536)) ∧ (∀ m : Nat, m ≠ x.core.val → u.core m = s.core m) ∧ u.val 0x9080 3 = (s.bump 0x9080 3).val 0x9080 3 ∧ srcBit u.ev.latch (evSrc 43 8) = true ∧ u.mem = s.mem ∧ u.nvme = s.nvme ∧ u.flash = s.flash) ∧
  (∀ (x : Issue) (i : Imm) (s : State), Cond.callOverflow x i s = true →
    ∃ u, exec (.call x i) s = .next u ∧ Cond.entered s u x 7 (s.core x.core.val).pc (s.core x.core.val).pc (0) (BitVec.ofNat 32 (0x3D * 2 ^ 26 + i.v.toNat % 65536))) ∧
  (∀ (x : Issue) (s : State), Cond.retUnderflow x s = true →
    ∃ u, exec (.ret x) s = .next u ∧ Cond.entered s u x 8 (s.core x.core.val).pc (s.core x.core.val).pc (0) (BitVec.ofNat 32 (3 * 2 ^ 26 + 10))) ∧
  (∀ (x : Issue) (d : Fin 16) (a : Fin 16) (b : Fin 16) (s : State), Cond.daddNoDigit x d a b s = true →
    ∃ u, exec (.dadd x d a b) s = .next u ∧ ∀ k ∈ badDigit ((s.core x.core.val).dv a).toNat 0 16, u.core x.core.val = Cond.inHandler s x.core.val { s.core x.core.val with started := true } 9 (s.core x.core.val).pc (s.core x.core.val).pc (k * 2 ^ 8) (BitVec.ofNat 32 (1 * 2 ^ 26 + d.val * 2 ^ 21 + a.val * 2 ^ 16 + b.val * 2 ^ 11 + 0)) ∧ u = { s with cores := u.cores, free := u.free } ∧ (∀ m : Nat, m ≠ x.core.val → u.core m = s.core m)) ∧
  (∀ (x : Issue) (k : Fin 4) (a : Fin 16) (s : State), Cond.daccOverflow x k a s = true →
    ∃ u, exec (.dacc x k a) s = .next u ∧ ∃ c : Nat, bit c 14 = true ∧ u.core x.core.val = Cond.inHandler s x.core.val { s.core x.core.val with started := true } 9 (s.core x.core.val).pc (s.core x.core.val).pc c (BitVec.ofNat 32 (1 * 2 ^ 26 + (24 + k.val) * 2 ^ 21 + a.val * 2 ^ 16 + 0 * 2 ^ 11 + 0xC)) ∧ u = { s with cores := u.cores, free := u.free } ∧ (∀ m : Nat, m ≠ x.core.val → u.core m = s.core m)) ∧
  (∀ (n : Fin 132) (s : State), Cond.eventException n s = true →
    ∃ u, exec (.eventException n) s = .next u ∧ (∃ w : BitVec 32, u.core n.val = Cond.inHandler s n.val (s.core n.val) 12 (s.core n.val).pc 0 0 w) ∧ (∀ m : Nat, m ≠ n.val → u.core m = s.core m) ∧ u.val 0xA010 12 = (if (s.core n.val).sup then s else s.bump 0xA010 12).val 0xA010 12 ∧ u = { s with cores := u.cores, dict := u.dict, ev := u.ev, out := u.out, twin := u.twin, free := u.free }) ∧
  (∀ (n : Fin 132) (s : State), Cond.taskStop n s = true →
    ∃ u, exec (.taskStop n) s = .next u ∧ (∃ w : BitVec 32, u.core n.val = { Cond.inHandler s n.val (s.core n.val) 13 (s.core n.val).pc 0 0 w with task := none, started := false, stop := false, stores := [] }) ∧ Cond.fenced s u n.val ∧ (∀ m : Nat, m ≠ n.val → u.core m = s.core m) ∧ u.val 0xA010 13 = (if (s.core n.val).sup then s else s.bump 0xA010 13).val 0xA010 13 ∧ u.sched = s.sched ∧ u.nvme = s.nvme ∧ u.flash = s.flash) ∧
  (∀ (n : Fin 132) (s : State), ∃ u, exec (.wsync n) s = .next u ∧ u.core n.val = { s.core n.val with wins := (s.core n.val).nextWins, winsPending := false, draining := (s.core n.val).macx.isSome } ∧ (∀ m : Nat, m ≠ n.val → u.core m = s.core m) ∧ u.val 0xA020 5 = (s.bump 0xA020 5).val 0xA020 5 ∧ u = { s with cores := u.cores, dict := u.dict, ev := u.ev, out := u.out, twin := u.twin }) ∧
  (∀ (n : Fin 132) (s : State), Cond.coreRestart n s = true →
    ∃ u, exec (.coreRestart n) s = .next u ∧ u.core n.val = { Core.cleared with vbar := (s.core n.val).vbar, prefetch := (s.core n.val).prefetch, lastFn := (s.core n.val).lastFn, lastGen := (s.core n.val).lastGen, icache := (s.core n.val).icache, pc := BitVec.ofNat 48 (s.vectorEntry n.val 0) } ∧ Cond.onlyCore s u n.val)

/-- Loads, stores and compare-and-swap of a core, each under what its line says; a store writes its bytes and no other byte of memory changes. A load
finds the stores of its own core. LD8U: loads 1 byte, zero-extended, poisoned where a byte read is. LD8S: loads 1 byte, sign-extended, poisoned where
a byte read is. LD16U: loads 2 bytes, zero-extended, poisoned where a byte read is. LD16S: loads 2 bytes, sign-extended, poisoned where a byte read
is. LD32U: loads 4 bytes, zero-extended, poisoned where a byte read is; of a register of a block: D[d] holds what the read of the register answers,
and nothing is changed but by that read; from an address with no memory: goes on, the register unknown and owing a bus error of that address; no other
register changes. LD32S: loads 4 bytes, sign-extended, poisoned where a byte read is. LD64: loads 8 bytes, zero-extended, poisoned where a byte read
is; of a register of a block: D[d] holds what the read of the register answers, and nothing is changed but by that read; with an error that is
corrected loads as before, and no byte of memory changes; of payload not marked before that cannot be corrected: D[d] is poisoned, the granule is
marked and the event of it latched, with every byte as it was. LDP: loads two words of 8 bytes into D[d] and its pair, each poisoned by its own bytes.
LDA: loads 8 bytes with no poison among them into A[d]. ST8: stores the low 1 byte of D[d] with its poison: in cluster memory as a store of its own,
elsewhere in memory at once; of control traffic into part of a granule that cannot be read raises vector 6 with nothing stored, counted, and its event
latched. ST16: stores the low 2 bytes of D[d] with its poison: in cluster memory as a store of its own, elsewhere in memory at once. ST32: stores the
low 4 bytes of D[d] with its poison: in cluster memory as a store of its own, elsewhere in memory at once; of a register of a block: what the write of
the register does, and the core goes on; to an address with no memory raises vector 6 with nothing stored. ST64: stores the low 8 bytes of D[d] with
its poison: in cluster memory as a store of its own, elsewhere in memory at once; in cluster memory: memory is as it was and the core itself reads the
bytes stored; at task level outside the windows ends the task through vector 3. STP: stores D[d] and its pair at their memory, outside cluster memory,
and no other byte changes. STA: stores A[d] in 8 bytes. POST_INCREMENT_ACCESS: of a load: as the load at A[a], then A[a] is stepped by the immediate;
of a store: as the store at A[a], then A[a] is stepped by the immediate. MOV: of a register that owes a bus error raises vector 6 with the address of
the load, and the register owes nothing more. CAS: gives D[d] the word found and stores D[b] where the two were equal, under a fence; not aligned, or
at memory it does not act on, raises vector 6. -/
def Obligations.BasizMemory : Prop :=
  (∀ (x : Issue) (d : Fin 16) (a : Fin 8) (i : Imm) (e : LoadEcc) (s : State), Cond.ld8u x a i e s = true →
    ∃ u, exec (.ld8u x d a i e) s = .next u ∧ Cond.did s u x i.ext (fun c => c.setD d (BitVec.ofNat 64 (ofLe (Cond.found s x (Cond.offset s x a i) 1))) ((Cond.tainted s x (Cond.offset s x a i) 1).any (fun b => b)))) ∧
  (∀ (x : Issue) (d : Fin 16) (a : Fin 8) (i : Imm) (e : LoadEcc) (s : State), Cond.ld8s x a i e s = true →
    ∃ u, exec (.ld8s x d a i e) s = .next u ∧ Cond.did s u x i.ext (fun c => c.setD d ((BitVec.ofNat 8 (ofLe (Cond.found s x (Cond.offset s x a i) 1))).signExtend 64) ((Cond.tainted s x (Cond.offset s x a i) 1).any (fun b => b)))) ∧
  (∀ (x : Issue) (d : Fin 16) (a : Fin 8) (i : Imm) (e : LoadEcc) (s : State), Cond.ld16u x a i e s = true →
    ∃ u, exec (.ld16u x d a i e) s = .next u ∧ Cond.did s u x i.ext (fun c => c.setD d (BitVec.ofNat 64 (ofLe (Cond.found s x (Cond.offset s x a i) 2))) ((Cond.tainted s x (Cond.offset s x a i) 2).any (fun b => b)))) ∧
  (∀ (x : Issue) (d : Fin 16) (a : Fin 8) (i : Imm) (e : LoadEcc) (s : State), Cond.ld16s x a i e s = true →
    ∃ u, exec (.ld16s x d a i e) s = .next u ∧ Cond.did s u x i.ext (fun c => c.setD d ((BitVec.ofNat 16 (ofLe (Cond.found s x (Cond.offset s x a i) 2))).signExtend 64) ((Cond.tainted s x (Cond.offset s x a i) 2).any (fun b => b)))) ∧
  (∀ (x : Issue) (d : Fin 16) (a : Fin 8) (i : Imm) (e : LoadEcc) (s : State), Cond.ld32u x a i e s = true →
    ∃ u, exec (.ld32u x d a i e) s = .next u ∧ Cond.did s u x i.ext (fun c => c.setD d (BitVec.ofNat 64 (ofLe (Cond.found s x (Cond.offset s x a i) 4))) ((Cond.tainted s x (Cond.offset s x a i) 4).any (fun b => b)))) ∧
  (∀ (x : Issue) (d : Fin 16) (a : Fin 8) (i : Imm) (e : LoadEcc) (s : State), Cond.ld32s x a i e s = true →
    ∃ u, exec (.ld32s x d a i e) s = .next u ∧ Cond.did s u x i.ext (fun c => c.setD d ((BitVec.ofNat 32 (ofLe (Cond.found s x (Cond.offset s x a i) 4))).signExtend 64) ((Cond.tainted s x (Cond.offset s x a i) 4).any (fun b => b)))) ∧
  (∀ (x : Issue) (d : Fin 16) (a : Fin 8) (i : Imm) (e : LoadEcc) (s : State), Cond.ld64 x a i e s = true →
    ∃ u, exec (.ld64 x d a i e) s = .next u ∧ Cond.did s u x i.ext (fun c => c.setD d (BitVec.ofNat 64 (ofLe (Cond.found s x (Cond.offset s x a i) 8))) ((Cond.tainted s x (Cond.offset s x a i) 8).any (fun b => b)))) ∧
  (∀ (x : Issue) (d : Fin 16) (a : Fin 8) (i : Imm) (e : LoadEcc) (s : State), Cond.ldp x d a i e s = true →
    ∃ u, exec (.ldp x d a i e) s = .next u ∧ Cond.did s u x i.ext (fun c => (c.setD d (BitVec.ofNat 64 (ofLe ((Cond.found s x (Cond.offset s x a i) 16).take 8))) (((Cond.tainted s x (Cond.offset s x a i) 16).take 8).any (fun b => b))).setD (pairOf d) (BitVec.ofNat 64 (ofLe ((Cond.found s x (Cond.offset s x a i) 16).drop 8))) (((Cond.tainted s x (Cond.offset s x a i) 16).drop 8).any (fun b => b)))) ∧
  (∀ (x : Issue) (d : Fin 8) (a : Fin 8) (i : Imm) (e : LoadEcc) (s : State), Cond.lda x a i e s = true →
    ∃ u, exec (.lda x d a i e) s = .next u ∧ Cond.did s u x i.ext (fun c => c.setA d (BitVec.ofNat 48 (ofLe (Cond.found s x (Cond.offset s x a i) 8))))) ∧
  (∀ (x : Issue) (d : Fin 16) (a : Fin 8) (i : Imm) (e : LoadEcc) (s : State), Cond.st8 x d a i e s = true →
    ∃ u, exec (.st8 x d a i e) s = .next u ∧ Cond.wrote s u x i.ext (Cond.offset s x a i) (leBytes 1 ((s.core x.core.val).dv d).toNat) ((s.core x.core.val).pv d) (fun c => c)) ∧
  (∀ (x : Issue) (d : Fin 16) (a : Fin 8) (i : Imm) (e : LoadEcc) (s : State), Cond.st16 x d a i e s = true →
    ∃ u, exec (.st16 x d a i e) s = .next u ∧ Cond.wrote s u x i.ext (Cond.offset s x a i) (leBytes 2 ((s.core x.core.val).dv d).toNat) ((s.core x.core.val).pv d) (fun c => c)) ∧
  (∀ (x : Issue) (d : Fin 16) (a : Fin 8) (i : Imm) (e : LoadEcc) (s : State), Cond.st32 x d a i e s = true →
    ∃ u, exec (.st32 x d a i e) s = .next u ∧ Cond.wrote s u x i.ext (Cond.offset s x a i) (leBytes 4 ((s.core x.core.val).dv d).toNat) ((s.core x.core.val).pv d) (fun c => c)) ∧
  (∀ (x : Issue) (d : Fin 16) (a : Fin 8) (i : Imm) (e : LoadEcc) (s : State), Cond.st64 x d a i e s = true →
    ∃ u, exec (.st64 x d a i e) s = .next u ∧ Cond.wrote s u x i.ext (Cond.offset s x a i) (leBytes 8 ((s.core x.core.val).dv d).toNat) ((s.core x.core.val).pv d) (fun c => c)) ∧
  (∀ (x : Issue) (d : Fin 16) (a : Fin 8) (i : Imm) (e : LoadEcc) (s : State), Cond.st64Own x d a i e s = true →
    ∃ u, exec (.st64 x d a i e) s = .next u ∧ u.mem = s.mem ∧ (u.coreMem x.core.val).read (s.phys x.core.val (Cond.offset s x a i).toNat) 8 = leBytes 8 ((s.core x.core.val).dv d).toNat) ∧
  (∀ (x : Issue) (d : Fin 16) (a : Fin 8) (i : Imm) (e : LoadEcc) (s : State), Cond.stp x d a i e s = true →
    ∃ u, exec (.stp x d a i e) s = .next u ∧ Cond.coreAndMem s u x.core.val ∧ u.core x.core.val = Cond.stepped s x (Cond.after s x i.ext) (fun c => c) ∧ Cond.stores s u (s.phys x.core.val (Cond.offset s x a i).toNat) (leBytes 8 ((s.core x.core.val).dv d).toNat ++ leBytes 8 ((s.core x.core.val).dv (pairOf d)).toNat)) ∧
  (∀ (x : Issue) (d : Fin 8) (a : Fin 8) (i : Imm) (e : LoadEcc) (s : State), Cond.sta x d a i e s = true →
    ∃ u, exec (.sta x d a i e) s = .next u ∧ Cond.wrote s u x i.ext (Cond.offset s x a i) (leBytes 8 ((s.core x.core.val).av d).toNat) false (fun c => c)) ∧
  (∀ (x : Issue) (o : MemOp) (a : Fin 8) (i : Imm) (e : LoadEcc) (s : State), Cond.postIncrementLoad x o a i e s = true →
    ∃ u, exec (.postIncrement x o a i e) s = .next u ∧ Cond.did s u x i.ext (fun c => (c.loaded o (Cond.found s x ((s.core x.core.val).av a) o.bytes) (Cond.tainted s x ((s.core x.core.val).av a) o.bytes)).setA a (((s.core x.core.val).av a) + i.v.signExtend 48))) ∧
  (∀ (x : Issue) (o : MemOp) (a : Fin 8) (i : Imm) (e : LoadEcc) (s : State), Cond.postIncrementStore x o a i e s = true →
    ∃ u, exec (.postIncrement x o a i e) s = .next u ∧ match o with | .store k d => Cond.wrote s u x i.ext ((s.core x.core.val).av a) (leBytes k.bytes ((s.core x.core.val).dv d).toNat) ((s.core x.core.val).pv d) (fun c => c.setA a (c.av a + i.v.signExtend 48)) | _ => False) ∧
  (∀ (x : Issue) (d : Fin 16) (a : Fin 8) (i : Imm) (e : LoadEcc) (s : State), Cond.ld32uMmio x a i s = true →
    ∃ u, exec (.ld32u x d a i e) s = .next u ∧ match (s.setCore x.core.val { s.core x.core.val with waiting := false }).mmioRead x.core.val (Cond.offset s x a i).toNat 4 with | .ok t v => u = t.setCore x.core.val { (t.core x.core.val).setD d (BitVec.ofNat 64 (ofLe (leBytes 4 v))) false with pc := Cond.after s x i.ext, retired := (t.core x.core.val).retired + 1, started := true, icache := true } | _ => False) ∧
  (∀ (x : Issue) (d : Fin 16) (a : Fin 8) (i : Imm) (e : LoadEcc) (s : State), Cond.ld64Mmio x a i s = true →
    ∃ u, exec (.ld64 x d a i e) s = .next u ∧ match (s.setCore x.core.val { s.core x.core.val with waiting := false }).mmioRead x.core.val (Cond.offset s x a i).toNat 8 with | .ok t v => u = t.setCore x.core.val { (t.core x.core.val).setD d (BitVec.ofNat 64 (ofLe (leBytes 8 v))) false with pc := Cond.after s x i.ext, retired := (t.core x.core.val).retired + 1, started := true, icache := true } | _ => False) ∧
  (∀ (x : Issue) (d : Fin 16) (a : Fin 8) (i : Imm) (e : LoadEcc) (s : State), Cond.st32Mmio x d a i s = true →
    ∃ u, exec (.st32 x d a i e) s = .next u ∧ ∀ t ∈ (s.setCore x.core.val { s.core x.core.val with waiting := false }).mmioWrite x.core.val (Cond.offset s x a i).toNat 4 (((s.core x.core.val).dv d).toNat % 2 ^ 32), u = t.setCore x.core.val { t.core x.core.val with pc := Cond.after s x i.ext, retired := (t.core x.core.val).retired + 1, started := true, icache := true }) ∧
  (∀ (x : Issue) (d : Fin 16) (a : Fin 8) (i : Imm) (e : LoadEcc) (s : State), Cond.ld32uOwes x a i s = true →
    ∃ u, exec (.ld32u x d a i e) s = .next u ∧ (u.core x.core.val).owed[d.val]? = some (some (Cond.offset s x a i)) ∧ (∀ k : Fin 16, k ≠ d → (u.core x.core.val).dv k = (s.core x.core.val).dv k ∧ (u.core x.core.val).pv k = (s.core x.core.val).pv k) ∧ u.core x.core.val = { Cond.stepped s x (Cond.after s x i.ext) (fun (c : Core) => c) with d := (u.core x.core.val).d, dp := (u.core x.core.val).dp, owed := (u.core x.core.val).owed } ∧ u = { s with cores := u.cores, free := u.free } ∧ (∀ m : Nat, m ≠ x.core.val → u.core m = s.core m)) ∧
  (∀ (x : Issue) (d : Fin 16) (a : Fin 8) (i : Imm) (e : LoadEcc) (s : State), Cond.ld64Corrected x a i e s = true →
    ∃ u, exec (.ld64 x d a i e) s = .next u ∧ u.core x.core.val = Cond.stepped s x (Cond.after s x i.ext) (fun c => c.setD d (BitVec.ofNat 64 (ofLe (Cond.found s x (Cond.offset s x a i) 8))) ((Cond.tainted s x (Cond.offset s x a i) 8).any (fun b => b))) ∧ (∀ m : Nat, m ≠ x.core.val → u.core m = s.core m) ∧ (∀ y : Nat, u.mem.byte y = s.mem.byte y) ∧ u.nvme = s.nvme ∧ u.flash = s.flash) ∧
  (∀ (x : Issue) (d : Fin 16) (a : Fin 8) (i : Imm) (e : LoadEcc) (s : State), Cond.ld64Marked x a i e s = true →
    ∃ u, exec (.ld64 x d a i e) s = .next u ∧ u.core x.core.val = Cond.stepped s x (Cond.after s x i.ext) (fun c => c.setD d (BitVec.ofNat 64 (ofLe (Cond.found s x (Cond.offset s x a i) 8))) true) ∧ (∀ m : Nat, m ≠ x.core.val → u.core m = s.core m) ∧ u.mem.poisoned (s.phys x.core.val (Cond.offset s x a i).toNat) 1 = true ∧ (∀ y : Nat, u.mem.byte y = s.mem.byte y) ∧ srcBit u.ev.latch (evSrc 43 7) = true ∧ u.nvme = s.nvme ∧ u.flash = s.flash) ∧
  (∀ (x : Issue) (d : Fin 16) (a : Fin 16) (s : State), Cond.movOwed x a s = true →
    ∃ u, exec (.mov x d a) s = .next u ∧ let p := (((s.core x.core.val).owed[a.val]?).getD none).getD 0; u.core x.core.val = Cond.inHandler s x.core.val { s.core x.core.val with started := true, owed := (s.core x.core.val).owed.setIfInBounds a.val none } 6 (s.core x.core.val).pc p 0 (BitVec.ofNat 32 (0 * 2 ^ 26 + d.val * 2 ^ 21 + a.val * 2 ^ 16 + 0 * 2 ^ 11 + 0)) ∧ Cond.onlyCore s u x.core.val) ∧
  (∀ (x : Issue) (d : Fin 16) (a : Fin 8) (i : Imm) (e : LoadEcc) (s : State), Cond.st64Window x d a i s = true →
    ∃ u, exec (.st64 x d a i e) s = .next u ∧ Cond.taskFault s u x 3 (Cond.offset s x a i) (BitVec.ofNat 32 (0x1B * 2 ^ 26 + d.val * 2 ^ 21 + (16 + a.val) * 2 ^ 16 + i.v.toNat % 65536))) ∧
  (∀ (x : Issue) (d : Fin 16) (a : Fin 8) (i : Imm) (e : LoadEcc) (s : State), Cond.st32Bus x d a i s = true →
    ∃ u, exec (.st32 x d a i e) s = .next u ∧ Cond.entered s u x 6 (s.core x.core.val).pc (Cond.offset s x a i) 0 (BitVec.ofNat 32 (0x1A * 2 ^ 26 + d.val * 2 ^ 21 + (16 + a.val) * 2 ^ 16 + i.v.toNat % 65536))) ∧
  (∀ (x : Issue) (d : Fin 16) (a : Fin 8) (i : Imm) (e : LoadEcc) (s : State), Cond.st8Unread x d a i e s = true →
    ∃ u, exec (.st8 x d a i e) s = .next u ∧ u.core x.core.val = Cond.inHandler s x.core.val { s.core x.core.val with started := true } 6 (s.core x.core.val).pc (Cond.offset s x a i) 0 (BitVec.ofNat 32 (0x18 * 2 ^ 26 + d.val * 2 ^ 21 + (16 + a.val) * 2 ^ 16 + i.v.toNat % 65536)) ∧ (∀ m : Nat, m ≠ x.core.val → u.core m = s.core m) ∧ u.mem = s.mem ∧ u.val 0x9080 5 = (s.bump 0x9080 5).val 0x9080 5 ∧ srcBit u.ev.latch (evSrc 43 9) = true ∧ u.nvme = s.nvme ∧ u.flash = s.flash) ∧
  (∀ (x : Issue) (d : Fin 16) (a : Fin 8) (b : Fin 16) (e : LoadEcc) (s : State), Cond.cas x d a b e s = true →
    ∃ u, exec (.cas x d a b e) s = .next u ∧ (let q := s.phys x.core.val ((s.core x.core.val).av a).toNat; let old := BitVec.ofNat 64 (ofLe (Cond.found s x ((s.core x.core.val).av a) 8)); u.mem.read q 8 = (if old = (s.core x.core.val).dv d then leBytes 8 ((s.core x.core.val).dv b).toNat else Cond.found s x ((s.core x.core.val).av a) 8) ∧ (∀ y : Nat, y < q ∨ q + 8 ≤ y → u.mem.byte y = (s.coreMem x.core.val).byte y) ∧ u.core x.core.val = Cond.stepped s x (Cond.after s x false) (fun c => { c.setD d old false with stores := [] })) ∧ Cond.coreAndMem s u x.core.val) ∧
  (∀ (x : Issue) (d : Fin 16) (a : Fin 8) (b : Fin 16) (e : LoadEcc) (s : State), Cond.casDenied x d a b s = true →
    ∃ u, exec (.cas x d a b e) s = .next u ∧ Cond.entered s u x 6 (s.core x.core.val).pc ((s.core x.core.val).av a) 0 (BitVec.ofNat 32 (0x1F * 2 ^ 26 + d.val * 2 ^ 21 + (16 + a.val) * 2 ^ 16 + b.val * 2 ^ 11 + 0)))

/-- MACX and the unit that runs it; memory changes only by the stores of the core that MACX performs. MACX: with aligned streams in the cluster's own
memory: leaves its steps to the unit, with A registers stepped and the accumulator cleared as it says. MACX_STEP: with both blocks read clean: the
next core in turn has one step added to its accumulator, poisoned where a block is; its streams go on by 64 bytes and it ends after its last; the step
is counted, and apart where both blocks lie in one bank. -/
def Obligations.BasizMac : Prop :=
  (∀ (x : Issue) (k : Fin 4) (a : Fin 8) (b : Fin 8) (mode : BitVec 2) (postinc : Bool) (clear : Bool) (uns : Bool) (steps : Option (BitVec 16)) (s : State), Cond.macx x k a b steps s = true →
    ∃ u, exec (.macx x k a b mode postinc clear uns steps) s = .next u ∧ Cond.fenced s u x.core.val ∧ u.core x.core.val = Cond.stepped s x (Cond.after s x steps.isSome) (fun c => let c1 : Core := if clear then { c with ac := c.ac.set k 0, acp := c.acp.set k false } else c; let c2 : Core := if postinc then (if a = b then c1.setA a (c.av a + BitVec.ofNat 48 (64 * (steps.elim 1 (fun (k : BitVec 16) => k.toNat)))) else (c1.setA a (c.av a + BitVec.ofNat 48 (64 * (steps.elim 1 (fun (k : BitVec 16) => k.toNat))))).setA b (c.av b + BitVec.ofNat 48 (64 * (steps.elim 1 (fun (k : BitVec 16) => k.toNat))))) else c1; { c2 with stores := [], macx := some ⟨k, mode, uns, (c.av a).toNat, (c.av b).toNat, (steps.elim 1 (fun (k : BitVec 16) => k.toNat))⟩ }) ∧ Cond.coreAndMem s u x.core.val) ∧
  (∀ (cluster : Fin 16) (ea : LoadEcc) (eb : LoadEcc) (s : State), Cond.macxStep cluster ea eb s = true →
    ∃ u, exec (.macxStep cluster ea eb) s = .next u ∧ (∀ n ∈ s.macNext cluster.val, ∀ m ∈ (s.core n).macx, u.core n = { (s.core n).setAc m.ac (macStep m.mode m.uns (s.core n).ac[m.ac] (s.mem.read m.a 64) (s.mem.read m.b 64)) ((s.core n).acp[m.ac] || s.mem.poisoned m.a 64 || s.mem.poisoned m.b 64) with macSteps := (s.core n).macSteps + 1, macx := if m.left ≤ 1 then none else some { m with a := m.a + 64, b := m.b + 64, left := m.left - 1 }, draining := (s.core n).draining && !decide (m.left ≤ 1) } ∧ (∀ k : Nat, k ≠ n → u.core k = s.core k) ∧ u.val 0xA020 3 = (if (m.a - clusterBase cluster.val) / 65536 = (m.b - clusterBase cluster.val) / 65536 then s.bump 0xA020 3 else s).val 0xA020 3 ∧ u.val 0xA020 4 = (s.bump 0xA020 4).val 0xA020 4 ∧ Tab.find u.sched.macLast cluster.val = some (n % 8)) ∧ u = { s with cores := u.cores, dict := u.dict, sched := { s.sched with macLast := u.sched.macLast } })

/-- Enable, doorbell, ring reset and boundaries of the region engines, each under what its line says; no other queue and no other engine changes.
ENGINE_ENABLE: with no suspended job: ENABLE is as written, no other engine and nothing else changes. ENGINE_DESC_DOORBELL: with an empty queue and
one good descriptor: that descriptor is fetched with the set-up of its time, and nothing else changes. CONTEXT_RING_RESET: of a context with one
waiting descriptor: completes it FLUSHED, closes the context and moves the ring's end. QUEUE_RING_RESET: of a queue of the other engines with one
waiting descriptor: completes it FLUSHED and discards the open message. COMP_BOUNDARY, CIPHER_BOUNDARY: at the last boundary of the only job of its
queue and engine: the rest of the output and the completion entry are written and no other byte, the queue empty and its ring moved on; at an earlier
boundary, with no head of another queue waiting for the pipe: nothing but the output up to it is written and the rest of the job goes on. -/
def Obligations.EngineQueues : Prop :=
  (∀ (r : Fin 4) (k : EngKind) (on : Bool) (s : State), Cond.engineEnable r k s = true →
    ∃ u, exec (.engineEnable r k on) s = .next u ∧ u.engine (engKey r k) = { s.engine (engKey r k) with enable := on } ∧ (∀ n : Nat, n ≠ (engKey r k) → u.engine n = s.engine n) ∧ u = { s with eng := { s.eng with engines := u.eng.engines } }) ∧
  (∀ (r : Fin 4) (k : EngKind) (q : Fin 64) (tail : Fin 64) (busErr : Bool) (s : State), Cond.engineDescDoorbell r k q tail busErr s = true →
    ∃ u, exec (.engineDescDoorbell r k q tail busErr) s = .next u ∧ (let x := s.equeue (queueKey r k q); u.equeue (queueKey r k q) = { x with descTail := tail.val, descHead := tail.val, queue := [⟨x.descHead, s.load (x.descBase + 64 * x.descHead) 64, false, x.setup⟩], headSince := s.eng.nextOrder }) ∧ (∀ n : Nat, n ≠ (queueKey r k q) → u.equeue n = s.equeue n) ∧ u = { s with eng := { s.eng with queues := u.eng.queues, nextOrder := s.eng.nextOrder + 1 } }) ∧
  (∀ (r : Fin 4) (q : Fin 64) (s : State), Cond.contextRingReset r q s = true →
    ∃ u, exec (.contextRingReset r q) s = .next u ∧ (∀ d ∈ (s.equeue (queueKey r .comp q)).queue.head?, Cond.finished s u (queueKey r .comp q) d 0x0C 0 [0, 0, 0, 0, 0, 0] [] (fun (x : EQueue) => { x with ctx := CompCtx.init, message := none, cursor := none, scan := none, resetEnd := x.descTail })) ∧ Cond.restEng s u) ∧
  (∀ (r : Fin 4) (k : EngKind) (q : Fin 64) (s : State), Cond.queueRingReset r k q s = true →
    ∃ u, exec (.queueRingReset r k q) s = .next u ∧ (∀ d ∈ (s.equeue (queueKey r k q)).queue.head?, Cond.finished s u (queueKey r k q) d (if k = .pat then 0x08 else 0x0B) 0 [0, 0, 0, 0, 0, 0] [] (fun (x : EQueue) => { x with ctx := CompCtx.init, message := none, cursor := none, scan := none, resetEnd := x.descTail })) ∧ Cond.restEng s u) ∧
  (∀ (r : Fin 4) (pipe : Fin 2) (n : BitVec 16) (s : State), Cond.compBoundaryEnds r pipe n s = true →
    ∃ u, exec (.compBoundary r pipe n) s = .next u ∧ (∀ j ∈ s.runningJob (engKey r .comp) pipe.val, ∀ l ∈ j.steps.head?, ∀ c ∈ l.head?, u.mem.read (Cond.entryAt s j.q) 32 = engEntry j.desc j.ending.status (j.ending.flags + (if j.everSuspended then suspendedFlag (engKind (engKey r .comp)) else 0)) (s.equeue j.q).cplPhase (j.ending.dws.set (elapsedAt (engKind (engKey r .comp))) (s.since j.startAt)) ∧ u.mem.read c.addr c.data.length = c.data ∧ (∀ x : Nat, (x < Cond.entryAt s j.q ∨ Cond.entryAt s j.q + 32 ≤ x) → (x < c.addr ∨ c.addr + c.data.length ≤ x) → u.mem.byte x = s.mem.byte x) ∧ (u.equeue j.q).queue = [] ∧ (u.equeue j.q).cplTail = ((s.equeue j.q).cplTail + 1) % 64 ∧ (∀ k : Nat, k ≠ j.q → u.equeue k = s.equeue k)) ∧ u.engine (engKey r .comp) = { s.engine (engKey r .comp) with jobs := [] } ∧ Cond.restEng s u) ∧
  (∀ (r : Fin 4) (pipe : Fin 2) (n : BitVec 16) (s : State), Cond.compBoundaryGoes r pipe n s = true →
    ∃ u, exec (.compBoundary r pipe n) s = .next u ∧ (∀ j ∈ s.runningJob (engKey r .comp) pipe.val, u.engine (engKey r .comp) = { s.engine (engKey r .comp) with jobs := [{ j with steps := j.steps.drop (max n.toNat 1) }] } ∧ (∀ x : Nat, (∀ c ∈ (j.steps.take (max n.toNat 1)).flatten, x < c.addr ∨ c.addr + c.data.length ≤ x) → u.mem.byte x = s.mem.byte x)) ∧ (∀ k : Nat, u.equeue k = s.equeue k) ∧ Cond.restEng s u) ∧
  (∀ (r : Fin 4) (digest : Bool) (pipe : Fin 2) (n : BitVec 16) (s : State), Cond.cipherBoundaryEnds r digest pipe n s = true →
    ∃ u, exec (.cipherBoundary r digest pipe n) s = .next u ∧ (∀ j ∈ s.runningJob (engKey r (if digest then .digest else .cipher)) pipe.val, ∀ l ∈ j.steps.head?, ∀ c ∈ l.head?, u.mem.read (Cond.entryAt s j.q) 32 = engEntry j.desc j.ending.status (j.ending.flags + (if j.everSuspended then suspendedFlag (engKind (engKey r (if digest then .digest else .cipher))) else 0)) (s.equeue j.q).cplPhase (j.ending.dws.set (elapsedAt (engKind (engKey r (if digest then .digest else .cipher)))) (s.since j.startAt)) ∧ u.mem.read c.addr c.data.length = c.data ∧ (∀ x : Nat, (x < Cond.entryAt s j.q ∨ Cond.entryAt s j.q + 32 ≤ x) → (x < c.addr ∨ c.addr + c.data.length ≤ x) → u.mem.byte x = s.mem.byte x) ∧ (u.equeue j.q).queue = [] ∧ (u.equeue j.q).cplTail = ((s.equeue j.q).cplTail + 1) % 64 ∧ (∀ k : Nat, k ≠ j.q → u.equeue k = s.equeue k)) ∧ u.engine (engKey r (if digest then .digest else .cipher)) = { s.engine (engKey r (if digest then .digest else .cipher)) with jobs := [] } ∧ Cond.restEng s u) ∧
  (∀ (r : Fin 4) (digest : Bool) (pipe : Fin 2) (n : BitVec 16) (s : State), Cond.cipherBoundaryGoes r digest pipe n s = true →
    ∃ u, exec (.cipherBoundary r digest pipe n) s = .next u ∧ (∀ j ∈ s.runningJob (engKey r (if digest then .digest else .cipher)) pipe.val, u.engine (engKey r (if digest then .digest else .cipher)) = { s.engine (engKey r (if digest then .digest else .cipher)) with jobs := [{ j with steps := j.steps.drop (max n.toNat 1) }] } ∧ (∀ x : Nat, (∀ c ∈ (j.steps.take (max n.toNat 1)).flatten, x < c.addr ∨ c.addr + c.data.length ≤ x) → u.mem.byte x = s.mem.byte x)) ∧ (∀ k : Nat, u.equeue k = s.equeue k) ∧ Cond.restEng s u)

/-- The operations of the compression contexts, each taken by a pipe under what its line says. OPEN: of a closed context: completes with the context idle
and holding its parameters. CLOSE: of an idle or full context: completes with the context closed. DATA: of a storage context that compresses: the job
that writes what the codec makes, padded to 16, and ends with the bytes read, made and their check is in the pipe; of another context: a job is in the
pipe, the context runs, and no step of it writes past the output buffer; of a closed context: completes with status 0x0A and nothing written. RESUME:
of a full context: a job is in the pipe, the context runs, and no step of it writes past the output buffer. -/
def Obligations.Compression : Prop :=
  (∀ (r : Fin 4) (pipe : Fin 2) (s : State), Cond.compOpen r pipe s = true →
    ∃ u, exec (.compOpen r pipe) s = .next u ∧ (∀ p ∈ (Cond.taken s r .comp pipe.val 1), let qk := p.1; let d := p.2; Cond.finished s u qk d 0 0 [0, 0, 0, 0, 0, 0] [] (fun (q : EQueue) => { q with ctx := { CompCtx.init with state := .idle, params := d.f 40 16 } })) ∧ Cond.restEng s u) ∧
  (∀ (r : Fin 4) (pipe : Fin 2) (s : State), Cond.compClose r pipe s = true →
    ∃ u, exec (.compClose r pipe) s = .next u ∧ (∀ p ∈ (Cond.taken s r .comp pipe.val 4), let qk := p.1; let d := p.2; Cond.finished s u qk d 0 0 [0, 0, 0, 0, 0, 0] [] (fun (q : EQueue) => { q with ctx := CompCtx.init })) ∧ Cond.restEng s u) ∧
  (∀ (r : Fin 4) (pipe : Fin 2) (s : State), Cond.compDataStorage r pipe s = true →
    ∃ u, exec (.compData r pipe) s = .next u ∧ (∀ p ∈ (Cond.taken s r .comp pipe.val 2), let qk := p.1; let d := p.2; let c := (s.equeue qk).ctx; let x := Config.codec c.params [(s.mem.read (d.addr 8) (d.f 4 4), 2)]; let out := padTo (16 * ceilDiv x.out.length 16) x.out; let bad := !(s.badBytes (d.addr 8) (d.f 4 4)).isEmpty; out.length ≤ d.f 24 4 → Cond.begun s u qk pipe.val d [[⟨d.addr 16, out, bad⟩]] { Ending.of (if bad then 0x08 else 0) with flags := b2n bad * 2 ^ 26 + 2 ^ 25, dws := [d.f 4 4, out.length, lastCheck (x.frames.take 1), 1, 0, 0], ctx := some { c with state := .idle } } (fun (q : EQueue) => { q with ctx.state := .running })) ∧ Cond.restEng s u) ∧
  (∀ (r : Fin 4) (pipe : Fin 2) (s : State), Cond.compData r pipe s = true →
    ∃ u, exec (.compData r pipe) s = .next u ∧ (∀ p ∈ (Cond.taken s r .comp pipe.val 2), let qk := p.1; let d := p.2; (u.engine (qk / 64)).jobs ≠ [] ∧ ∀ j ∈ (u.engine (qk / 64)).jobs.head?, Cond.begun s u qk pipe.val d j.steps j.ending (fun (q : EQueue) => { q with ctx.state := .running }) ∧ (∀ c ∈ j.steps.flatten, d.addr 16 ≤ c.addr ∧ c.addr + c.data.length ≤ d.addr 16 + d.f 24 4)) ∧ u = { s with eng := u.eng }) ∧
  (∀ (r : Fin 4) (pipe : Fin 2) (s : State), Cond.compResume r pipe s = true →
    ∃ u, exec (.compResume r pipe) s = .next u ∧ (∀ p ∈ (Cond.taken s r .comp pipe.val 3), let qk := p.1; let d := p.2; (u.engine (qk / 64)).jobs ≠ [] ∧ ∀ j ∈ (u.engine (qk / 64)).jobs.head?, Cond.begun s u qk pipe.val d j.steps j.ending (fun (q : EQueue) => { q with ctx.state := .running }) ∧ (∀ c ∈ j.steps.flatten, d.addr 16 ≤ c.addr ∧ c.addr + c.data.length ≤ d.addr 16 + d.f 24 4)) ∧ u = { s with eng := u.eng }) ∧
  (∀ (r : Fin 4) (pipe : Fin 2) (s : State), Cond.compDataClosed r pipe s = true →
    ∃ u, exec (.compData r pipe) s = .next u ∧ (∀ p ∈ (Cond.taken s r .comp pipe.val 2), let qk := p.1; let d := p.2; Cond.finished s u qk d 0x0A 0 [0, 0, 0, 0, 0, 0] [] (fun (q : EQueue) => q)) ∧ Cond.restEng s u)

/-- The operations of the cipher and digest engines, each of a good one-descriptor message taken by its pipe, under what its line says; a job put into a
pipe has written nothing yet. XTS_ENC, XTS_DEC: of the package's own queue, under a key it may use: the job that puts XTS of the input into the output
block by block is in the pipe. GCM_ENC: under a key it may use: the job that puts the GCM stream of the input into the output is in the pipe, the tag
written at its end. GCM_DEC: under a key it may use: the job that puts the GCM stream of the input into the output is in the pipe, ending well exactly
where the tag given is the tag computed. KW_WRAP: completes with the wrapped input in the output. KW_UNWRAP: completes with the unwrapped input in the
output, or AUTH_FAIL and nothing written where it does not check. KEY_IMPORT: unwraps under the key agreed with the import key: the key stands in the
lowest free slot under its handle, or nothing is loaded where it does not check. KEY_UNWRAP_LOAD: unwraps under a loaded key-wrapping key: the same.
KEY_GENERATE: the lowest free slot holds a key of the length of its type. KEY_EXPORT: of an exportable key: the wrapped key is written where its
buffer allows. KEY_UNLOAD: the slot is empty under the next generation, and no other changes. HASH: of a one-descriptor message: the job that writes
the digest of the input at its end is in the pipe; with COMPARE: the job ends with EQUAL where the digest given is the digest computed and with
NOT_EQUAL otherwise, and writes nothing. CTX_EXPORT: writes the open message's state, wrapped where it is keyed, and leaves the message open.
CTX_IMPORT: opens a message from a state, unwrapped where it is keyed, or completes AUTH_FAIL with nothing opened where it does not check. -/
def Obligations.CipherAndDigest : Prop :=
  (∀ (r : Fin 4) (s : State), Cond.xtsEnc r s = true →
    ∃ u, exec (.xtsEnc r) s = .next u ∧ (∀ p ∈ (Cond.taken s r .cipher 0 0x01), let qk := p.1; let d := p.2; ∀ key ∈ s.keyFor d.setup (d.f 24 4) useXts, Cond.begun s u qk 0 d (blockSteps (d.addr 16) (xts true key (d.f 52 7 + 2 ^ 64 * d.f 48 4 + (if d.bit 472 then 2 ^ 127 else 0)) (s.mem.read (d.addr 8) (d.f 4 4))) none) (cipherEnd 0 (d.f 4 4) false) (fun (q : EQueue) => q)) ∧ Cond.restEng s u) ∧
  (∀ (r : Fin 4) (s : State), Cond.xtsDec r s = true →
    ∃ u, exec (.xtsDec r) s = .next u ∧ (∀ p ∈ (Cond.taken s r .cipher 1 0x02), let qk := p.1; let d := p.2; ∀ key ∈ s.keyFor d.setup (d.f 24 4) useXts, Cond.begun s u qk 1 d (blockSteps (d.addr 16) (xts false key (d.f 52 7 + 2 ^ 64 * d.f 48 4 + (if d.bit 472 then 2 ^ 127 else 0)) (s.mem.read (d.addr 8) (d.f 4 4))) none) (cipherEnd 0 (d.f 4 4) false) (fun (q : EQueue) => q)) ∧ Cond.restEng s u) ∧
  (∀ (r : Fin 4) (s : State), Cond.gcmEnc r s = true →
    ∃ u, exec (.gcmEnc r) s = .next u ∧ (∀ p ∈ (Cond.taken s r .cipher 0 0x10), let qk := p.1; let d := p.2; ∀ key ∈ s.keyFor d.setup (d.f 24 4) useGcmEnc, let tag := (gcmTag key (d.bytes 48 12) (s.mem.read (d.addr 32) (d.f 28 4)) (gcmStream key (d.bytes 48 12) 0 (s.mem.read (d.addr 8) (d.f 4 4)))).take (d.f 60 1); Cond.begun s u qk 0 d (blockSteps (d.addr 16) (gcmStream key (d.bytes 48 12) 0 (s.mem.read (d.addr 8) (d.f 4 4))) none) { cipherEnd 0 (d.f 4 4) false with writes := [⟨d.addr 40, tag, false⟩] } (fun (q : EQueue) => q)) ∧ Cond.restEng s u) ∧
  (∀ (r : Fin 4) (s : State), Cond.gcmDec r s = true →
    ∃ u, exec (.gcmDec r) s = .next u ∧ (∀ p ∈ (Cond.taken s r .cipher 1 0x11), let qk := p.1; let d := p.2; ∀ key ∈ s.keyFor d.setup (d.f 24 4) useGcmDec, let tag := (gcmTag key (d.bytes 48 12) (s.mem.read (d.addr 32) (d.f 28 4)) (s.mem.read (d.addr 8) (d.f 4 4))).take (d.f 60 1); Cond.begun s u qk 1 d (blockSteps (d.addr 16) (gcmStream key (d.bytes 48 12) 0 (s.mem.read (d.addr 8) (d.f 4 4))) none) (cipherEnd (if s.mem.read (d.addr 40) (d.f 60 1) = tag then 0 else 0x03) (d.f 4 4) false) (fun (q : EQueue) => q)) ∧ Cond.restEng s u) ∧
  (∀ (r : Fin 4) (s : State), Cond.kwWrap r s = true →
    ∃ u, exec (.kwWrap r) s = .next u ∧ (∀ p ∈ (Cond.taken s r .cipher 0 0x20), let qk := p.1; let d := p.2; ∀ key ∈ s.keyFor d.setup (d.f 24 4) useDataWrap, let out := kwWrap key (s.mem.read (d.addr 8) (d.f 4 4)); Cond.clear s qk (d.addr 16) out.length = true → Cond.finished s u qk d 0 0 [(d.f 4 4), 0, 0, 0, 0, 0] [(d.addr 16, out)] (fun (q : EQueue) => q)) ∧ Cond.restEng s u) ∧
  (∀ (r : Fin 4) (s : State), Cond.kwUnwrap r s = true →
    ∃ u, exec (.kwUnwrap r) s = .next u ∧ (∀ p ∈ (Cond.taken s r .cipher 0 0x21), let qk := p.1; let d := p.2; ∀ key ∈ s.keyFor d.setup (d.f 24 4) useDataWrap, (∀ out ∈ kwUnwrap key (s.mem.read (d.addr 8) (d.f 4 4)), Cond.clear s qk (d.addr 16) out.length = true → Cond.finished s u qk d 0 0 [(d.f 4 4), 0, 0, 0, 0, 0] [(d.addr 16, out)] (fun (q : EQueue) => q)) ∧ (kwUnwrap key (s.mem.read (d.addr 8) (d.f 4 4)) = none → Cond.finished s u qk d 0x03 0 [(d.f 4 4), 0, 0, 0, 0, 0] [] (fun (q : EQueue) => q))) ∧ Cond.restEng s u) ∧
  (∀ (r : Fin 4) (s : State), Cond.keyImport r s = true →
    ∃ u, exec (.keyImport r) s = .next u ∧ (∀ p ∈ (Cond.taken s r .cipher 0 0x30), let qk := p.1; let d := p.2; ((kwUnwrap (hkdf384 (Config.ecdh s.vault.importPrivate ((s.mem.read (d.addr 8) (d.f 4 4)).take 97)) (("DXL-VAULT".toList.map fun c => BitVec.ofNat 8 c.toNat) ++ [BitVec.ofNat 8 d.setup.fn]) 32) ((s.mem.read (d.addr 8) (d.f 4 4)).drop 97)).bind openBlock = none → u.vault = s.vault ∧ Cond.finished s u qk d 0x03 0 [(d.f 4 4), 0, 0, 0, 0, 0] [] (fun (q : EQueue) => q)) ∧ (∀ b ∈ (kwUnwrap (hkdf384 (Config.ecdh s.vault.importPrivate ((s.mem.read (d.addr 8) (d.f 4 4)).take 97)) (("DXL-VAULT".toList.map fun c => BitVec.ofNat 8 c.toNat) ++ [BitVec.ofNat 8 d.setup.fn]) 32) ((s.mem.read (d.addr 8) (d.f 4 4)).drop 97)).bind openBlock, if wrapsBoth b.2.1 = true then Cond.finished s u qk d 0x09 0 [0, 0, 0, 0, 0, 0] [] (fun (q : EQueue) => q) else ∀ k ∈ ((List.range 3072).find? fun k => !(s.keySlot k).loaded), u.keySlot k = ⟨true, b.1, b.2.1, d.setup.fn, (s.keySlot k).gen, b.2.2⟩ ∧ (∀ m : Nat, m ≠ k → u.keySlot m = s.keySlot m) ∧ Cond.finished s u qk d 0 0 [(d.f 4 4), k + (s.keySlot k).gen.toNat * 4096, 0, 0, 0, 0] [] (fun (q : EQueue) => q))) ∧ Cond.restVault s u) ∧
  (∀ (r : Fin 4) (s : State), Cond.keyUnwrapLoad r s = true →
    ∃ u, exec (.keyUnwrapLoad r) s = .next u ∧ (∀ p ∈ (Cond.taken s r .cipher 0 0x31), let qk := p.1; let d := p.2; ∀ kek ∈ s.keyFor d.setup (d.f 24 4) useKeyWrap, ((kwUnwrap kek (s.mem.read (d.addr 8) (d.f 4 4))).bind openBlock = none → u.vault = s.vault ∧ Cond.finished s u qk d 0x03 0 [(d.f 4 4), 0, 0, 0, 0, 0] [] (fun (q : EQueue) => q)) ∧ (∀ b ∈ (kwUnwrap kek (s.mem.read (d.addr 8) (d.f 4 4))).bind openBlock, if wrapsBoth b.2.1 = true then Cond.finished s u qk d 0x09 0 [0, 0, 0, 0, 0, 0] [] (fun (q : EQueue) => q) else ∀ k ∈ ((List.range 3072).find? fun k => !(s.keySlot k).loaded), u.keySlot k = ⟨true, b.1, b.2.1, d.setup.fn, (s.keySlot k).gen, b.2.2⟩ ∧ (∀ m : Nat, m ≠ k → u.keySlot m = s.keySlot m) ∧ Cond.finished s u qk d 0 0 [(d.f 4 4), k + (s.keySlot k).gen.toNat * 4096, 0, 0, 0, 0] [] (fun (q : EQueue) => q))) ∧ Cond.restVault s u) ∧
  (∀ (r : Fin 4) (s : State), Cond.keyGenerate r s = true →
    ∃ u, exec (.keyGenerate r) s = .next u ∧ (∀ p ∈ (Cond.taken s r .cipher 0 0x32), let qk := p.1; let d := p.2; ∀ k ∈ ((List.range 3072).find? fun k => !(s.keySlot k).loaded), u.keySlot k = ⟨true, d.f 52 1, d.f 53 1, d.setup.fn, (s.keySlot k).gen, (u.keySlot k).key⟩ ∧ (∀ m : Nat, m ≠ k → u.keySlot m = s.keySlot m) ∧ Cond.finished s u qk d 0 0 [0, k + (s.keySlot k).gen.toNat * 4096, 0, 0, 0, 0] [] (fun (q : EQueue) => q) ∧ (u.keySlot k).key.length = keyBytes (d.f 52 1)) ∧ Cond.restVault s u) ∧
  (∀ (r : Fin 4) (s : State), Cond.keyExport r s = true →
    ∃ u, exec (.keyExport r) s = .next u ∧ (∀ p ∈ (Cond.taken s r .cipher 0 0x33), let qk := p.1; let d := p.2; ∀ kek ∈ s.keyFor d.setup (d.f 24 4) useKeyWrap, ∀ k ∈ s.namedSlot d.setup (d.f 48 4), let out := kwWrap kek (keyBlock (s.keySlot k).type (s.keySlot k).usage (s.keySlot k).key); ((s.checkBuffers .cipher d.setup [(d.addr 16, out.length, true)]).isNone && Cond.clear s qk (d.addr 16) out.length) = true → Cond.finished s u qk d 0 0 [0, 0, 0, 0, 0, 0] [(d.addr 16, out)] (fun (q : EQueue) => q)) ∧ Cond.restEng s u) ∧
  (∀ (r : Fin 4) (s : State), Cond.keyUnload r s = true →
    ∃ u, exec (.keyUnload r) s = .next u ∧ (∀ p ∈ (Cond.taken s r .cipher 0 0x34), let qk := p.1; let d := p.2; ∀ k ∈ s.namedSlot d.setup (d.f 24 4), u.keySlot k = ⟨false, 0, 0, 0, (s.keySlot k).gen + 1, []⟩ ∧ (∀ m : Nat, m ≠ k → u.keySlot m = s.keySlot m) ∧ Cond.finished s u qk d 0 0 [0, 0, 0, 0, 0, 0] [] (fun (q : EQueue) => q)) ∧ Cond.restVault s u) ∧
  (∀ (r : Fin 4) (s : State), Cond.digestHash r s = true →
    ∃ u, exec (.digestHash r) s = .next u ∧ (∀ p ∈ (Cond.taken s r .digest 0 0x01), let qk := p.1; let d := p.2; Cond.begun s u qk 0 d (List.replicate (ceilDiv (d.f 4 4) (hashBlock (d.f 48 1))) []) { cipherEnd 0 (d.f 4 4) false with writes := [⟨d.addr 16, ((Message.opened (d.f 48 1) (d.bit 392)).absorb (s.mem.read (d.addr 8) (d.f 4 4))).digest, false⟩] } (fun (q : EQueue) => q)) ∧ Cond.restEng s u) ∧
  (∀ (r : Fin 4) (s : State), Cond.digestHashCompare r s = true →
    ∃ u, exec (.digestHash r) s = .next u ∧ (∀ p ∈ (Cond.taken s r .digest 0 0x01), let qk := p.1; let d := p.2; Cond.begun s u qk 0 d (List.replicate (ceilDiv (d.f 4 4) (hashBlock (d.f 48 1))) []) (cipherEnd (if s.mem.read (d.addr 40) (digestLen (d.f 48 1)) = ((Message.opened (d.f 48 1) (d.bit 392)).absorb (s.mem.read (d.addr 8) (d.f 4 4))).digest then 0x01 else 0x02) (d.f 4 4) false) (fun (q : EQueue) => q)) ∧ Cond.restEng s u) ∧
  (∀ (r : Fin 4) (s : State), Cond.ctxExport r s = true →
    ∃ u, exec (.ctxExport r) s = .next u ∧ (∀ p ∈ (Cond.taken s r .digest 0 0x10), let qk := p.1; let d := p.2; ∀ m ∈ (s.equeue qk).message, Cond.finished s u qk d 0 0 [0, 0, 0, 0, 0, 0] [(d.addr 16, (if m.keyed then Sys2Proof.Machine.kwWrap s.vault.contextKey m.bytes else m.bytes))] (fun (q : EQueue) => q)) ∧ Cond.restEng s u) ∧
  (∀ (r : Fin 4) (s : State), Cond.ctxImport r s = true →
    ∃ u, exec (.ctxImport r) s = .next u ∧ (∀ p ∈ (Cond.taken s r .digest 0 0x11), let qk := p.1; let d := p.2; let n := (if d.bit 392 then 264 else 256); let raw := s.mem.read (d.addr 8) n; let state := ((if d.bit 392 then kwUnwrap s.vault.contextKey raw else some raw).filter fun b => byteAt b 1 == b2n (d.bit 392)).bind openState; (∀ m ∈ state, Cond.finished s u qk d 0 0 [n, 0, 0, 0, 0, 0] [] (fun (q : EQueue) => { q with message := some { m with slot := s.ctxSlot (qk / 64) 8 64, poisoned := false } })) ∧ (state = none → Cond.finished s u qk d 0x03 0 [n, 0, 0, 0, 0, 0] [] (fun (q : EQueue) => q))) ∧ Cond.restEng s u)

/-- Searches and updates of the ternary table with no error in its memory, each taken by the engine under what its line says. No other entry and no other
byte of memory changes. SEARCH: that finds entries reports the lowest, how many match and its word, keeping its place where it is asked to, and takes
a slot; that finds none reports no match, keeping its place where it is asked to, and takes a slot. NEXT: reports the next match after the last, or
that there is none more and the place is given up. SEARCH_BATCH: of one key writes its result and completes; of more writes the first result and goes
on from there. TERN_WRITE: within its window replaces the entry with what the descriptor holds, owned by its function, and no other. INVALIDATE: of a
run it may have, within one job's steps: each entry of the run is valid no more and every other is as it was. MOVE_BLOCK: of a run whose place above
is empty, with no search keeping its place: each entry stands one index up with its move tag inverted and the first is empty. TERN_READ: writes the 64
bytes of an entry, the table as it was. -/
def Obligations.TernaryTable : Prop :=
  (∀ (ecc : Ecc) (delayed : Bool) (s : State), Cond.ternSearchHit ecc s = true →
    ∃ u, exec (.ternSearch ecc delayed) s = .next u ∧ (∀ p ∈ Cond.searching s 0x01, let qk := p.1; let d := p.2; let l := Cond.matchesOf s d (d.f 8 20) (d.f 4 1); (∀ i ∈ l.head?, Cond.finished s u qk d 0 (if 1 < l.length then 2 ^ 26 else 0) [i, l.length, (if d.bit 41 then (s.ternEntry i).word else 0) % 2 ^ 32, (if d.bit 41 then (s.ternEntry i).word else 0) / 2 ^ 32, 0, 0] [] (fun (q : EQueue) => if d.bit 40 then { q with cursor := some ⟨d.f 8 20, d.f 4 1, (s.ternRange d.setup).1, (s.ternRange d.setup).2, l.length, l.head?⟩ } else q)) ∧ (l = [] → ∃ v : Nat, Cond.finished s u qk d 1 0 [v, 0, 0, 0, 0, 0] [] (fun (q : EQueue) => if d.bit 40 then { q with cursor := some ⟨d.f 8 20, d.f 4 1, (s.ternRange d.setup).1, (s.ternRange d.setup).2, l.length, l.head?⟩ } else q))) ∧ u.tern = { s.tern with slotCount := s.tern.slotCount + 1 } ∧ u.integ = s.integ ∧ Cond.restTern s u) ∧
  (∀ (ecc : Ecc) (delayed : Bool) (s : State), Cond.ternSearchMiss ecc s = true →
    ∃ u, exec (.ternSearch ecc delayed) s = .next u ∧ (∀ p ∈ Cond.searching s 0x01, let qk := p.1; let d := p.2; let l := Cond.matchesOf s d (d.f 8 20) (d.f 4 1); (∀ i ∈ l.head?, Cond.finished s u qk d 0 (if 1 < l.length then 2 ^ 26 else 0) [i, l.length, (if d.bit 41 then (s.ternEntry i).word else 0) % 2 ^ 32, (if d.bit 41 then (s.ternEntry i).word else 0) / 2 ^ 32, 0, 0] [] (fun (q : EQueue) => if d.bit 40 then { q with cursor := some ⟨d.f 8 20, d.f 4 1, (s.ternRange d.setup).1, (s.ternRange d.setup).2, l.length, l.head?⟩ } else q)) ∧ (l = [] → ∃ v : Nat, Cond.finished s u qk d 1 0 [v, 0, 0, 0, 0, 0] [] (fun (q : EQueue) => if d.bit 40 then { q with cursor := some ⟨d.f 8 20, d.f 4 1, (s.ternRange d.setup).1, (s.ternRange d.setup).2, l.length, l.head?⟩ } else q))) ∧ u.tern = { s.tern with slotCount := s.tern.slotCount + 1 } ∧ u.integ = s.integ ∧ Cond.restTern s u) ∧
  (∀ (ecc : Ecc) (delayed : Bool) (s : State), Cond.ternNext ecc s = true →
    ∃ u, exec (.ternNext ecc delayed) s = .next u ∧ (∀ p ∈ Cond.searching s 0x02, let qk := p.1; let d := p.2; ∀ c ∈ (s.equeue qk).cursor, let l := (s.ternMatches c.key c.tagSel (c.last.elim c.first (fun (i : Nat) => i + 1)) c.stop).1; (∀ i ∈ l.head?, Cond.finished s u qk d 0 (if 1 < c.count then 2 ^ 26 else 0) [i, c.count, (if d.bit 41 then (s.ternEntry i).word else 0) % 2 ^ 32, (if d.bit 41 then (s.ternEntry i).word else 0) / 2 ^ 32, 0, 0] [] (fun (q : EQueue) => { q with cursor := some { c with last := some i } })) ∧ (l = [] → ∃ v : Nat, Cond.finished s u qk d 1 0 [v, c.count, 0, 0, 0, 0] [] (fun (q : EQueue) => { q with cursor := none }))) ∧ u.tern = { s.tern with slotCount := s.tern.slotCount + 1 } ∧ u.integ = s.integ ∧ Cond.restTern s u) ∧
  (∀ (ecc : Ecc) (delayed : Bool) (s : State), Cond.ternSearchBatch ecc s = true →
    ∃ u, exec (.ternSearchBatch ecc delayed) s = .next u ∧ (∀ p ∈ Cond.searching s 0x03, let qk := p.1; let d := p.2; let l := Cond.matchesOf s d (ofLe (s.mem.read (d.addr 16) 20)) (d.f 4 1); let res := leBytes 4 (l.head?.getD 0xFFFFFFFF) ++ leBytes 4 l.length; Cond.finished s u qk d 0 0 [1, 0, 0, 0, 0, 0] [(d.addr 24, res)] (fun (q : EQueue) => q)) ∧ u.tern = { s.tern with slotCount := s.tern.slotCount + 1 } ∧ u.integ = s.integ ∧ Cond.restTern s u) ∧
  (∀ (ecc : Ecc) (delayed : Bool) (s : State), Cond.ternSearchBatchFirst ecc s = true →
    ∃ u, exec (.ternSearchBatch ecc delayed) s = .next u ∧ (∀ p ∈ Cond.searching s 0x03, let qk := p.1; let d := p.2; let l := Cond.matchesOf s d (ofLe (s.mem.read (d.addr 16) 20)) (d.f 4 1); let res := leBytes 4 (l.head?.getD 0xFFFFFFFF) ++ leBytes 4 l.length; Cond.stores s u (d.addr 24) res ∧ u.tern = { s.tern with slotCount := s.tern.slotCount + 1, jobs := [⟨qk, 1, s.pkg.timebase⟩] } ∧ u.equeue qk = { s.equeue qk with headSince := s.eng.nextOrder } ∧ (∀ k : Nat, k ≠ qk → u.equeue k = s.equeue k)) ∧ Cond.restTern s u) ∧
  (∀ (r : Fin 4) (q : Fin 64) (s : State), Cond.ternWrite r q s = true →
    ∃ u, exec (.ternWrite r q) s = .next u ∧ (∀ d ∈ Cond.updating s r q 0x10, let qk := queueKey r .pat q; u.ternEntry (d.f 4 4) = ⟨d.f 8 20, d.f 28 20, d.f 48 1, d.bit 392, d.bit 393, false, d.f 56 8, d.setup.fn⟩ ∧ (∀ k : Nat, k ≠ d.f 4 4 → u.ternEntry k = s.ternEntry k) ∧ Cond.finished s u qk d 0 0 [0, 0, 0, 0, 0, 0] [] (fun (q : EQueue) => q)) ∧ u.tern = { s.tern with entries := u.tern.entries, updateCount := s.tern.updateCount + 1 } ∧ Cond.restTern s u) ∧
  (∀ (r : Fin 4) (q : Fin 64) (steps : BitVec 18) (s : State), Cond.ternInvalidate r q steps s = true →
    ∃ u, exec (.ternInvalidate r q steps) s = .next u ∧ (∀ d ∈ Cond.updating s r q 0x11, let qk := queueKey r .pat q; (∀ k : Nat, u.ternEntry k = if d.f 4 4 ≤ k ∧ k < d.f 4 4 + d.f 8 4 then { s.ternEntry k with valid := false } else s.ternEntry k) ∧ u.tern = { s.tern with entries := u.tern.entries, updateCount := s.tern.updateCount + BitVec.ofNat 32 (d.f 8 4) } ∧ Cond.finished s u qk d 0 0 [0, 0, 0, 0, 0, 0] [] (fun (q : EQueue) => q)) ∧ Cond.restTern s u) ∧
  (∀ (r : Fin 4) (q : Fin 64) (steps : BitVec 18) (s : State), Cond.moveBlock r q steps s = true →
    ∃ u, exec (.moveBlock r q steps) s = .next u ∧ (∀ d ∈ Cond.updating s r q 0x12, let qk := queueKey r .pat q; (∀ k : Nat, u.ternEntry k = if k = d.f 4 4 then { (s.ternEntry k) with valid := false } else if d.f 4 4 < k ∧ k ≤ d.f 4 4 + d.f 8 4 then { s.ternEntry (k - 1) with moveTag := !(s.ternEntry (k - 1)).moveTag } else s.ternEntry k) ∧ u.tern = { s.tern with entries := u.tern.entries, updateCount := s.tern.updateCount + BitVec.ofNat 32 (d.f 8 4 + 1) } ∧ Cond.finished s u qk d 0 0 [0, 0, 0, 0, 0, 0] [] (fun (q : EQueue) => q)) ∧ Cond.restTern s u) ∧
  (∀ (r : Fin 4) (q : Fin 64) (s : State), Cond.ternRead r q s = true →
    ∃ u, exec (.ternRead r q) s = .next u ∧ (∀ d ∈ Cond.updating s r q 0x13, let qk := queueKey r .pat q; let e := s.ternEntry (d.f 4 4); Cond.finished s u qk d 0 0 [0, 0, 0, 0, 0, 0] [(d.addr 16, leBytes 20 e.value ++ leBytes 20 e.mask ++ leBytes 1 e.tag ++ leBytes 1 (b2n e.wildcard + 2 * b2n e.valid) ++ leBytes 1 e.owner ++ leBytes 5 0 ++ leBytes 8 e.word ++ leBytes 8 0)] (fun (q : EQueue) => q)) ∧ u.tern = s.tern ∧ Cond.restTern s u)

/-- Scans and pattern sets of the match engine, each under what its line says. SCAN: takes a free lane in the start state of its set, waiting where the
set is not resident. PATTERN_SET_LOADED: of the set the only scan of its engine waits for, where it fits: the set is resident and the scan waits no
more, counted. SCAN_BOUNDARY: before its end, with room in its result ring: the records found stand behind those before, and the scan goes on in the
state reached; at its end with no record found: completes with the bytes scanned and records written, its queue holding the state reached.
RESULT_RING_DRAINED: of a queue without a scan only sets the ring's head; of a queue whose scan is stalled with room for what it holds: the held
records are written and the scan goes on. -/
def Obligations.PatternScans : Prop :=
  (∀ (r : Fin 4) (lane : Fin 4) (s : State), Cond.scanStart r s = true →
    ∃ u, exec (.scanStart r lane) s = .next u ∧ (∀ p ∈ (Cond.taken s r .pat 0 0x40), let qk := p.1; let d := p.2; ∀ x ∈ patSet (s.scanImage d.program) d.set, let here := (s.residents r.val).any (fun (y : Resident) => s.isSetOf y d); u.engine (engKey r .pat) = { s.engine (engKey r .pat) with scans := [⟨qk, lane.val, d, s.pkg.timebase, 0, ⟨x.start, 0, 0, 0⟩, [], 0, false, !here, false, false⟩] } ∧ (here = false → u.eng.resident = s.eng.resident)) ∧ (∀ k : Nat, u.equeue k = s.equeue k) ∧ u = { s with eng := u.eng }) ∧
  (∀ (r : Fin 4) (lane : Fin 4) (s : State), Cond.patternSetLoaded r lane s = true →
    ∃ u, exec (.patternSetLoaded r lane) s = .next u ∧ (∀ j ∈ Cond.scanIn s r lane, ∀ p ∈ patSet (s.scanImage j.desc.program) j.desc.set, u.residents r.val = s.residents r.val ++ [⟨j.desc.program, j.desc.set, s.scanGen j.desc.program, p.states, p.states * p.classes, p.words, s.eng.nextOrder⟩] ∧ u.engine (engKey r .pat) = { s.engine (engKey r .pat) with scans := [{ j with waitSet := false }] }) ∧ u.val (0xB430 + r.val) 3 = (s.bump (0xB430 + r.val) 3).val (0xB430 + r.val) 3 ∧ (∀ k : Nat, u.equeue k = s.equeue k) ∧ u = { s with eng := u.eng, dict := u.dict }) ∧
  (∀ (r : Fin 4) (lane : Fin 4) (s : State), Cond.scanBoundaryGoes r lane s = true →
    ∃ u, exec (.scanBoundary r lane) s = .next u ∧ (∀ j ∈ Cond.scanRuns s r lane, ∀ p ∈ patSet (s.scanImage j.desc.program) j.desc.set, let x := Cond.scanned s j p (Cond.scanStep j); Cond.ringed s u j x.2 ∧ u.engine (engKey r .pat) = { s.engine (engKey r .pat) with scans := [{ j with done := j.done + Cond.scanStep j, st := x.1, held := [], written := j.written + x.2.length }] } ∧ (∀ k : Nat, k ≠ j.q → u.equeue k = s.equeue k)) ∧ Cond.restEng s u) ∧
  (∀ (r : Fin 4) (lane : Fin 4) (s : State), Cond.scanBoundaryEnds r lane s = true →
    ∃ u, exec (.scanBoundary r lane) s = .next u ∧ (∀ j ∈ Cond.scanRuns s r lane, ∀ p ∈ patSet (s.scanImage j.desc.program) j.desc.set, u.mem.read (Cond.entryAt s j.q) 32 = engEntry j.desc 0 (b2n j.everSuspended * 2 ^ 28) (s.equeue j.q).cplPhase ([j.desc.f 4 4, j.written, 0, 0, s.since j.startAt, 0]) ∧ (∀ x : Nat, (x < Cond.entryAt s j.q ∨ Cond.entryAt s j.q + 32 ≤ x) → u.mem.byte x = s.mem.byte x) ∧ (u.equeue j.q).scan = some (Cond.scanned s j p (Cond.scanStep j)).1 ∧ (u.equeue j.q).queue = [] ∧ (∀ k : Nat, k ≠ j.q → u.equeue k = s.equeue k)) ∧ (u.engine (engKey r .pat)).scans = [] ∧ Cond.restEng s u) ∧
  (∀ (r : Fin 4) (q : Fin 64) (head : BitVec 32) (s : State), Cond.resultRingDrained r q s = true →
    ∃ u, exec (.resultRingDrained r q head) s = .next u ∧ u.equeue (queueKey r .pat q) = { s.equeue (queueKey r .pat q) with resHead := head.toNat / 16 * 16 } ∧ (∀ k : Nat, k ≠ queueKey r .pat q → u.equeue k = s.equeue k) ∧ u = { s with eng := { s.eng with queues := u.eng.queues } }) ∧
  (∀ (r : Fin 4) (q : Fin 64) (head : BitVec 32) (s : State), Cond.resultRingDrainedGoesOn r q head s = true →
    ∃ u, exec (.resultRingDrained r q head) s = .next u ∧ (∀ j ∈ (s.engine (engKey r .pat)).scans, Cond.ringed s u j j.held ∧ u.engine (engKey r .pat) = { s.engine (engKey r .pat) with scans := [{ j with held := [], stalled := false, written := j.written + j.held.length }] } ∧ (u.equeue j.q).resHead = head.toNat / 16 * 16) ∧ (∀ k : Nat, k ≠ queueKey r .pat q → u.equeue k = s.equeue k) ∧ Cond.restEng s u)

/-- Requests and upkeep of the DRAM controllers, each under what its line says; a line that names a read or a write of a subchannel speaks of the request
its order picks. DRAM_REQUEST: an address at or beyond the installed DRAM gets a bus error; a read that no queued write reaches joins its channel as
the last and takes it out of self-refresh; a write joins its channel as the last and cancels the write-backs that wait at its bytes, those of other
bytes staying; a read of the burst of one queued write comes at once with that write's bytes in place of memory's, and joins no queue; with no request
eligible a subchannel issues nothing; an issued write that reads clean stores its own bytes and no others: a poisoned one marks its burst, a whole
clean one clears the mark; it is counted and leaves the queue; an issued read that is clean gives its burst with its mark, is counted, leaves the
queue, and in class 0 raises the longest time where it took longer; payload not marked before that cannot be corrected comes with the mark, which
memory takes too, every byte as it was, counted; control traffic of the controller's own requester that cannot be corrected ends in a bus error,
counted, with memory as it was; an activate of a row that its bank's table holds raises its count, which returns to 0 at the threshold, and no other
table changes; a row the table does not hold joins it with count 1 while it has room; in a full table it replaces the entry of the lowest count, the
lowest-numbered of equals, with its count plus 1; a write-back performed is counted as a write, with every byte and mark as it was; a write of the
controller that was held at its source takes the entry that falls free; a journal record that cannot be read is asked for again in its other copy;
with both copies in error the package faults. REQUEST_AGED: a request of another class than 0 that has waited its time is aged, counted; any other
changes nothing. PANIC_ENTER: a port whose level passes its bound is in panic from now; otherwise nothing changes. PANIC_LEAVE: the only port in panic
leaves it at its bound, and every channel counts the time; otherwise nothing changes. ROW_TABLE_WINDOW_END: at the end of the 32 ms window every table
is empty and the windows go on without a gap; before it nothing changes. DQS_TRACKING: a channel awake whose interval has passed is tracked now;
otherwise nothing changes. DRAM_RETRAIN: a step of a channel awake with no class-0 request, whose temperature has moved or whose retraining runs; the
last step: trained at the present temperature, counted; otherwise nothing changes. SELF_REFRESH_ENTRY: an empty channel that has waited its time
enters self-refresh, counted; otherwise nothing changes. DRAM_REFRESH: of a bank no class-0 request waits for: none of its refreshes is postponed any
more; of a bank one waits for: one more is postponed within the limit, and at it none. -/
def Obligations.DramControllers : Prop :=
  (∀ (a : BitVec 38) (w : Option (List Byte)) (p : Bool) (cls : Fin 5) (port : Option (Fin 5)) (use_ : DramUse) (t : Fin 6) (n : BitVec 12) (s : State), Cond.dramRequestBeyond a s = true →
    exec (.dramRequest (.arrive a w p cls port use_ t n)) s = .next ({ s with dram := { s.dram with nextId := s.dram.nextId + 1 }, out := s.out ++ [.dram s.dram.nextId none false] })) ∧
  (∀ (a : BitVec 38) (w : Option (List Byte)) (p : Bool) (cls : Fin 5) (port : Option (Fin 5)) (use_ : DramUse) (t : Fin 6) (n : BitVec 12) (s : State), Cond.dramRequestJoins a w p cls port use_ t n s = true →
    ∃ u, exec (.dramRequest (.arrive a w p cls port use_ t n)) s = .next u ∧ u.dchan (s.placeOf a.toNat).chan = { (s.dchan (s.placeOf a.toNat).chan) with selfRefresh := false, lastReq := s.pkg.timebase, reqs := (s.dchan (s.placeOf a.toNat).chan).reqs ++ [⟨s.dram.nextId, s.pkg.timebase, a.toNat, w, p, cls.val, port.map fun (k : Fin 5) => k.val, use_, t.val, n.toNat, false, false, none⟩] } ∧ (∀ k : Nat, k ≠ (s.placeOf a.toNat).chan → u.dchan k = s.dchan k) ∧ u = { s with dram := { s.dram with chans := u.dram.chans, nextId := s.dram.nextId + 1 } }) ∧
  (∀ (a : BitVec 38) (w : Option (List Byte)) (p : Bool) (cls : Fin 5) (port : Option (Fin 5)) (use_ : DramUse) (t : Fin 6) (n : BitVec 12) (s : State), Cond.dramRequestJoinsWrite a w p cls port use_ t n s = true →
    ∃ u, exec (.dramRequest (.arrive a w p cls port use_ t n)) s = .next u ∧ (∀ k : Nat, k < 8 → (u.dchan k).reqs = (s.dchan k).reqs.filter (fun (q : DramReq) => !(q.back && q.touches a.toNat (⟨s.dram.nextId, s.pkg.timebase, a.toNat, w, p, cls.val, port.map fun (k : Fin 5) => k.val, use_, t.val, n.toNat, false, false, none⟩ : DramReq).data.length)) ++ (if k = (s.placeOf a.toNat).chan then [⟨s.dram.nextId, s.pkg.timebase, a.toNat, w, p, cls.val, port.map fun (k : Fin 5) => k.val, use_, t.val, n.toNat, false, false, none⟩] else []) ∧ (u.dchan k).held = (s.dchan k).held.filter (fun (q : DramReq) => !(q.back && q.touches a.toNat (⟨s.dram.nextId, s.pkg.timebase, a.toNat, w, p, cls.val, port.map fun (k : Fin 5) => k.val, use_, t.val, n.toNat, false, false, none⟩ : DramReq).data.length)) ∧ (u.dchan k).selfRefresh = (if k = (s.placeOf a.toNat).chan then false else (s.dchan k).selfRefresh)) ∧ u = { s with dram := { s.dram with chans := u.dram.chans, nextId := s.dram.nextId + 1 } }) ∧
  (∀ (a : BitVec 38) (w : Option (List Byte)) (p : Bool) (cls : Fin 5) (port : Option (Fin 5)) (use_ : DramUse) (t : Fin 6) (n : BitVec 12) (s : State), Cond.dramRequestForwards a w s = true →
    ∃ u, exec (.dramRequest (.arrive a w p cls port use_ t n)) s = .next u ∧ (∀ q ∈ ((s.dchan (s.placeOf a.toNat).chan).reqs.find? fun (q : DramReq) => q.write.isSome && q.addr / 64 == a.toNat / 64), u.out = s.out ++ [.dram s.dram.nextId (some ((List.range 64).map fun i => if q.addr ≤ a.toNat / 64 * 64 + i then (q.data[a.toNat / 64 * 64 + i - q.addr]?).getD (s.mem.byte (a.toNat / 64 * 64 + i)) else s.mem.byte (a.toNat / 64 * 64 + i))) false]) ∧ (∀ k : Nat, (u.dchan k).reqs = (s.dchan k).reqs) ∧ u = { s with dram := { s.dram with chans := u.dram.chans, nextId := s.dram.nextId + 1 }, out := u.out }) ∧
  (∀ (c : Fin 8) (sub : Fin 2) (busy : List (Fin 128)) (act : Bool) (e : Ecc) (s : State), Cond.dramRequestNoneEligible c sub busy s = true →
    exec (.dramRequest (.issue c sub busy act e)) s = .next (s)) ∧
  (∀ (c : Fin 8) (sub : Fin 2) (busy : List (Fin 128)) (act : Bool) (e : Ecc) (s : State), Cond.dramRequestWrites c sub busy e s = true →
    ∃ u, exec (.dramRequest (.issue c sub busy act e)) s = .next u ∧ (∀ r ∈ (s.nextReq c.val sub.val (busy.map fun (b : Fin 128) => b.val)), Cond.stores s u r.addr r.data ∧ (r.poison = true → u.mem.poisoned (r.addr / 64 * 64) 64 = true) ∧ (r.poison = false → r.data.length = 64 → u.mem.poisoned (r.addr / 64 * 64) 1 = false) ∧ u.dchan c.val = { s.dchan c.val with reqs := (s.dchan c.val).reqs.filter (fun (q : DramReq) => q.id != r.id), panicRun := (s.dchan c.val).panicRun.setIfInBounds sub.val (if s.ownLevel r = 1 then ((s.dchan c.val).panicRun[sub.val]?).getD 0 + 1 else 0), lastReq := s.pkg.timebase } ∧ (∀ k : Nat, k ≠ c.val → u.dchan k = s.dchan k)) ∧ u.val (0xC100 + c.val) 2 = (s.bump (0xC100 + c.val) 2).val (0xC100 + c.val) 2 ∧ u = { s with dram := { s.dram with chans := u.dram.chans, rows := u.dram.rows }, dict := u.dict, mem := u.mem } ∧ (act = false → u.dram.rows = s.dram.rows)) ∧
  (∀ (c : Fin 8) (sub : Fin 2) (busy : List (Fin 128)) (act : Bool) (e : Ecc) (s : State), Cond.dramRequestReads c sub busy e s = true →
    ∃ u, exec (.dramRequest (.issue c sub busy act e)) s = .next u ∧ (∀ r ∈ (s.nextReq c.val sub.val (busy.map fun (b : Fin 128) => b.val)), u.out = s.out ++ [.dram r.id (some (s.mem.read (r.addr / 64 * 64) 64)) (s.mem.poisoned (r.addr / 64 * 64) 64)] ∧ u.val (0xC100 + c.val) 8 = (if r.cls = 0 then Nat.max (s.val (0xC100 + c.val) 8) (s.since r.at_) else s.val (0xC100 + c.val) 8) ∧ u.dchan c.val = { s.dchan c.val with reqs := (s.dchan c.val).reqs.filter (fun (q : DramReq) => q.id != r.id), panicRun := (s.dchan c.val).panicRun.setIfInBounds sub.val (if s.ownLevel r = 1 then ((s.dchan c.val).panicRun[sub.val]?).getD 0 + 1 else 0), lastReq := s.pkg.timebase } ∧ (∀ k : Nat, k ≠ c.val → u.dchan k = s.dchan k)) ∧ u.val (0xC100 + c.val) 1 = (s.bump (0xC100 + c.val) 1).val (0xC100 + c.val) 1 ∧ u = { s with dram := { s.dram with chans := u.dram.chans, rows := u.dram.rows }, dict := u.dict, out := u.out } ∧ (act = false → u.dram.rows = s.dram.rows)) ∧
  (∀ (c : Fin 8) (sub : Fin 2) (busy : List (Fin 128)) (act : Bool) (e : Ecc) (s : State), Cond.dramRequestPoisons c sub busy e s = true →
    ∃ u, exec (.dramRequest (.issue c sub busy act e)) s = .next u ∧ (∀ r ∈ (s.nextReq c.val sub.val (busy.map fun (b : Fin 128) => b.val)), (Cond.sent s u).contains (.dram r.id (some (s.mem.read (r.addr / 64 * 64) 64)) true) = true ∧ u.mem.poisoned (r.addr / 64 * 64) 64 = true) ∧ u.mem.cells = s.mem.cells ∧ u.mem.fog = s.mem.fog ∧ u.val (0x9100 + c.val) 2 = (s.bump (0x9100 + c.val) 2).val (0x9100 + c.val) 2 ∧ u = { s with dram := u.dram, dict := u.dict, ev := u.ev, out := u.out, twin := u.twin, mem := u.mem, integ := u.integ, free := u.free }) ∧
  (∀ (c : Fin 8) (sub : Fin 2) (busy : List (Fin 128)) (act : Bool) (e : Ecc) (s : State), Cond.dramRequestBusError c sub busy e s = true →
    ∃ u, exec (.dramRequest (.issue c sub busy act e)) s = .next u ∧ (∀ r ∈ (s.nextReq c.val sub.val (busy.map fun (b : Fin 128) => b.val)), (Cond.sent s u).contains (.dram r.id none false) = true) ∧ u.mem = s.mem ∧ u.val 0x9080 5 = (s.bump 0x9080 5).val 0x9080 5 ∧ u = { s with dram := u.dram, dict := u.dict, ev := u.ev, out := u.out, twin := u.twin, integ := u.integ, free := u.free }) ∧
  (∀ (c : Fin 8) (sub : Fin 2) (busy : List (Fin 128)) (act : Bool) (e : Ecc) (s : State), Cond.dramRequestRowHeld c sub busy act e s = true →
    ∃ u, exec (.dramRequest (.issue c sub busy act e)) s = .next u ∧ (∀ r ∈ (s.nextReq c.val sub.val (busy.map fun (b : Fin 128) => b.val)), (Tab.get u.dram.rows [] ((s.placeOf r.addr).chan * 128 + (s.placeOf r.addr).bankNo)) = updateIf (fun (x : Nat × Nat) => x.1 == (s.placeOf r.addr).row) (fun x => (x.1, if s.val 0xC000 5 ≤ x.2 + 1 then 0 else x.2 + 1)) (Tab.get s.dram.rows [] ((s.placeOf r.addr).chan * 128 + (s.placeOf r.addr).bankNo)) ∧ (∀ k : Nat, k ≠ ((s.placeOf r.addr).chan * 128 + (s.placeOf r.addr).bankNo) → Tab.get u.dram.rows [] k = Tab.get s.dram.rows [] k))) ∧
  (∀ (c : Fin 8) (sub : Fin 2) (busy : List (Fin 128)) (act : Bool) (e : Ecc) (s : State), Cond.dramRequestRowFree c sub busy act e s = true →
    ∃ u, exec (.dramRequest (.issue c sub busy act e)) s = .next u ∧ (∀ r ∈ (s.nextReq c.val sub.val (busy.map fun (b : Fin 128) => b.val)), (Tab.get u.dram.rows [] ((s.placeOf r.addr).chan * 128 + (s.placeOf r.addr).bankNo)) = (Tab.get s.dram.rows [] ((s.placeOf r.addr).chan * 128 + (s.placeOf r.addr).bankNo)) ++ [((s.placeOf r.addr).row, 1)] ∧ (∀ k : Nat, k ≠ ((s.placeOf r.addr).chan * 128 + (s.placeOf r.addr).bankNo) → Tab.get u.dram.rows [] k = Tab.get s.dram.rows [] k) ∧ u.val (0xC100 + (s.placeOf r.addr).chan) 5 = s.val (0xC100 + (s.placeOf r.addr).chan) 5)) ∧
  (∀ (c : Fin 8) (sub : Fin 2) (busy : List (Fin 128)) (act : Bool) (e : Ecc) (s : State), Cond.dramRequestRowReplaces c sub busy act e s = true →
    ∃ u, exec (.dramRequest (.issue c sub busy act e)) s = .next u ∧ (∀ r ∈ (s.nextReq c.val sub.val (busy.map fun (b : Fin 128) => b.val)), ∀ i ∈ List.range 16, (∀ j ∈ List.range 16, (((Tab.get s.dram.rows [] ((s.placeOf r.addr).chan * 128 + (s.placeOf r.addr).bankNo))[i]?).getD (0, 0)).2 ≤ (((Tab.get s.dram.rows [] ((s.placeOf r.addr).chan * 128 + (s.placeOf r.addr).bankNo))[j]?).getD (0, 0)).2) → (∀ j ∈ List.range i, (((Tab.get s.dram.rows [] ((s.placeOf r.addr).chan * 128 + (s.placeOf r.addr).bankNo))[i]?).getD (0, 0)).2 < (((Tab.get s.dram.rows [] ((s.placeOf r.addr).chan * 128 + (s.placeOf r.addr).bankNo))[j]?).getD (0, 0)).2) → (Tab.get u.dram.rows [] ((s.placeOf r.addr).chan * 128 + (s.placeOf r.addr).bankNo)) = (Tab.get s.dram.rows [] ((s.placeOf r.addr).chan * 128 + (s.placeOf r.addr).bankNo)).set i ((s.placeOf r.addr).row, if s.val 0xC000 5 ≤ (((Tab.get s.dram.rows [] ((s.placeOf r.addr).chan * 128 + (s.placeOf r.addr).bankNo))[i]?).getD (0, 0)).2 + 1 then 0 else (((Tab.get s.dram.rows [] ((s.placeOf r.addr).chan * 128 + (s.placeOf r.addr).bankNo))[i]?).getD (0, 0)).2 + 1) ∧ (u.val (0xC100 + (s.placeOf r.addr).chan) 5 = if s.val 0xC000 5 ≤ (((Tab.get s.dram.rows [] ((s.placeOf r.addr).chan * 128 + (s.placeOf r.addr).bankNo))[i]?).getD (0, 0)).2 + 1 then (s.bump (0xC100 + (s.placeOf r.addr).chan) 5).val (0xC100 + (s.placeOf r.addr).chan) 5 else s.val (0xC100 + (s.placeOf r.addr).chan) 5))) ∧
  (∀ (c : Fin 8) (sub : Fin 2) (busy : List (Fin 128)) (act : Bool) (e : Ecc) (s : State), Cond.dramRequestWritesBack c sub busy e s = true →
    ∃ u, exec (.dramRequest (.issue c sub busy act e)) s = .next u ∧ (∀ r ∈ (s.nextReq c.val sub.val (busy.map fun (b : Fin 128) => b.val)), u.dchan c.val = { s.dchan c.val with reqs := (s.dchan c.val).reqs.filter (fun (q : DramReq) => q.id != r.id), panicRun := (s.dchan c.val).panicRun.setIfInBounds sub.val (if s.ownLevel r = 1 then ((s.dchan c.val).panicRun[sub.val]?).getD 0 + 1 else 0), lastReq := s.pkg.timebase } ∧ (∀ k : Nat, k ≠ c.val → u.dchan k = s.dchan k)) ∧ u.val (0xC100 + c.val) 2 = (s.bump (0xC100 + c.val) 2).val (0xC100 + c.val) 2 ∧ u = { s with dram := { s.dram with chans := u.dram.chans, rows := u.dram.rows }, dict := u.dict }) ∧
  (∀ (c : Fin 8) (sub : Fin 2) (busy : List (Fin 128)) (act : Bool) (e : Ecc) (s : State), Cond.dramRequestTakesHeld c sub busy e s = true →
    ∃ u, exec (.dramRequest (.issue c sub busy act e)) s = .next u ∧ (∀ r ∈ (s.nextReq c.val sub.val (busy.map fun (b : Fin 128) => b.val)), (u.dchan c.val).reqs = (s.dchan c.val).reqs.filter (fun (q : DramReq) => q.id != r.id) ++ (s.dchan c.val).held ∧ (u.dchan c.val).held = (s.dchan c.val).held.filter (fun (q : DramReq) => (s.placeOf q.addr).chan != c.val)) ∧ u.mem = s.mem) ∧
  (∀ (c : Fin 8) (sub : Fin 2) (busy : List (Fin 128)) (act : Bool) (e : Ecc) (s : State), Cond.dramRequestOtherCopy c sub busy e s = true →
    ∃ u, exec (.dramRequest (.issue c sub busy act e)) s = .next u ∧ (∀ r ∈ (s.nextReq c.val sub.val (busy.map fun (b : Fin 128) => b.val)), match r.use_ with | .journal o => ((u.dchan (s.placeOf o.toNat).chan).reqs ++ (u.dchan (s.placeOf o.toNat).chan).held).contains { r with addr := o.toNat, bad := some r.addr } = true | _ => True) ∧ u.mem = s.mem ∧ u.val 0x9080 5 = (s.bump 0x9080 5).val 0x9080 5 ∧ u = { s with dram := u.dram, dict := u.dict, ev := u.ev, out := u.out, twin := u.twin, integ := u.integ, free := u.free }) ∧
  (∀ (c : Fin 8) (sub : Fin 2) (busy : List (Fin 128)) (act : Bool) (e : Ecc) (s : State), Cond.dramRequestBothCopies c sub busy e s = true →
    ∃ u, exec (.dramRequest (.issue c sub busy act e)) s = .next u ∧ u.serving = false) ∧
  (∀ (c : Fin 8) (id : BitVec 32) (s : State), Cond.requestAged c id s = true →
    ∃ u, exec (.requestAged c id) s = .next u ∧ u.dram = { s.dram with chans := s.dram.chans.set c.val { s.dchan c.val with reqs := updateIf (fun (q : DramReq) => q.id == id.toNat) (fun (q : DramReq) => { q with aged := true }) (s.dchan c.val).reqs } } ∧ u.val (0xC100 + c.val) 4 = (s.bump (0xC100 + c.val) 4).val (0xC100 + c.val) 4 ∧ u = { s with dram := u.dram, dict := u.dict }) ∧
  (∀ (c : Fin 8) (id : BitVec 32) (s : State), Cond.requestAgedNot c id s = true →
    exec (.requestAged c id) s = .next (s)) ∧
  (∀ (port : Fin 5) (level : BitVec 16) (s : State), Cond.panicEnter port level s = true →
    exec (.panicEnter port level) s = .next ({ s with dram := { s.dram with panic := s.dram.panic.set port.val (some s.pkg.timebase) } })) ∧
  (∀ (port : Fin 5) (level : BitVec 16) (s : State), Cond.panicEnterNot port level s = true →
    exec (.panicEnter port level) s = .next (s)) ∧
  (∀ (port : Fin 5) (level : BitVec 16) (s : State), Cond.panicLeave port level s = true →
    ∃ u, exec (.panicLeave port level) s = .next u ∧ (∀ c ∈ List.range 8, u.val (0xC100 + c) 3 = (s.fbump 0 (0xC100 + c) 3 (s.since (((s.dram.panic[port.val]?).getD none).getD 0))).val (0xC100 + c) 3) ∧ u = { s with dram := { s.dram with panic := s.dram.panic.set port.val none }, dict := u.dict }) ∧
  (∀ (port : Fin 5) (level : BitVec 16) (s : State), Cond.panicLeaveNot port level s = true →
    exec (.panicLeave port level) s = .next (s)) ∧
  (∀ (s : State), Cond.rowTableWindowEnd s = true →
    exec .rowTableWindowEnd s = .next ({ s with dram := { s.dram with rows := [], windowAt := s.dram.windowAt + BitVec.ofNat 64 (s.since s.dram.windowAt - s.since s.dram.windowAt % usTicks 32000) } })) ∧
  (∀ (s : State), Cond.rowTableWindowEndNot s = true →
    exec .rowTableWindowEnd s = .next (s)) ∧
  (∀ (c : Fin 8) (s : State), Cond.dqsTracking c s = true →
    exec (.dqsTracking c) s = .next ({ s with dram := { s.dram with chans := s.dram.chans.set c.val { s.dchan c.val with tracked := s.pkg.timebase } } })) ∧
  (∀ (c : Fin 8) (s : State), Cond.dqsTrackingNot c s = true →
    exec (.dqsTracking c) s = .next (s)) ∧
  (∀ (c : Fin 8) (last : Bool) (s : State), Cond.dramRetrainStep c last s = true →
    exec (.dramRetrain c last) s = .next ({ s with dram := { s.dram with chans := s.dram.chans.set c.val { s.dchan c.val with retrainLeft := 1 } } })) ∧
  (∀ (c : Fin 8) (last : Bool) (s : State), Cond.dramRetrainEnds c last s = true →
    ∃ u, exec (.dramRetrain c last) s = .next u ∧ u.dram = { s.dram with chans := s.dram.chans.set c.val { s.dchan c.val with retrainLeft := 0, trainedTemp := s.hubTemp } } ∧ u.val (0xC100 + c.val) 6 = (s.bump (0xC100 + c.val) 6).val (0xC100 + c.val) 6 ∧ u = { s with dram := u.dram, dict := u.dict }) ∧
  (∀ (c : Fin 8) (last : Bool) (s : State), Cond.dramRetrainNot c s = true →
    exec (.dramRetrain c last) s = .next (s)) ∧
  (∀ (c : Fin 8) (s : State), Cond.selfRefreshEntry c s = true →
    ∃ u, exec (.selfRefreshEntry c) s = .next u ∧ u.dram = { s.dram with chans := s.dram.chans.set c.val { s.dchan c.val with selfRefresh := true } } ∧ u.val (0xC100 + c.val) 7 = (s.bump (0xC100 + c.val) 7).val (0xC100 + c.val) 7 ∧ u = { s with dram := u.dram, dict := u.dict }) ∧
  (∀ (c : Fin 8) (s : State), Cond.selfRefreshEntryNot c s = true →
    exec (.selfRefreshEntry c) s = .next (s)) ∧
  (∀ (c : Fin 8) (bank : Fin 128) (s : State), Cond.dramRefresh c bank s = true →
    exec (.dramRefresh c bank) s = .next ({ s with dram := { s.dram with chans := s.dram.chans.set c.val { s.dchan c.val with postponed := Tab.set (s.dchan c.val).postponed 0 bank.val 0 } } })) ∧
  (∀ (c : Fin 8) (bank : Fin 128) (s : State), Cond.dramRefreshWaits c bank s = true →
    ∃ u, exec (.dramRefresh c bank) s = .next u ∧ Tab.get (u.dchan c.val).postponed 0 bank.val = (if Tab.get (s.dchan c.val).postponed 0 bank.val < Config.refreshPostpone then Tab.get (s.dchan c.val).postponed 0 bank.val + 1 else 0) ∧ u = { s with dram := { s.dram with chans := s.dram.chans.set c.val { s.dchan c.val with postponed := (u.dchan c.val).postponed } } })

/-- Allocation, refills and reference counts of the buffer pools with no error in their memory but where a line says so; no other buffer, pool or cache
changes. ALLOC: a supervisor core gets the first handle of a pool's hub cache, with count 1 and the PF as its owner, which for a pool other than 0 is
counted; of a pool not ready, or with none free: null; with an empty cache and handles in the ring: waits for a refill; of a tenant pool whose cache
cannot be read: the pool is faulted and null comes; of another core at the hub: nothing; through a tenant's port within its quota: the first handle of
the function's pool, owned by it and counted; at its quota: null, counted for the function and at the port; without a pool that is ready: null,
counted at the port; through the port of a region core: the first handle of its region's cache; with that cache empty: sixteen handles come from the
hub's, and the first of them is issued. HUB_CACHE_REFILL: of a cache below 128, while 256 handles were never issued and no core waits: they join it in
order; after that the first 256 of the ring do; of a full cache, an empty ring or a pool not ready: nothing. REGION_CACHE_RECALL: with pool 0 low
while regions hold handles: every region's cache is empty and as many handles are free as before; otherwise nothing. INC: of a buffer the requester
may count, below 255: one more; of another, or at 255: nothing but the pool's error count and its event; at the hub by another core: nothing. DEC:
above 1: one less; of the last of a tenant pool, its cache below 448: the buffer is free under the next generation, its handle the next issued, its
owner's use one less; of the last of pool 0 by a region core, its cache below 32: its handle is the next of the region's; of a buffer the requester
may not count, or at 0: nothing but the error count and its event; at the hub by another core: nothing. QUERY: of a valid handle: count, owner and
generation can be read; of another: 0 is read; by another core: nothing. -/
def Obligations.BufferPools : Prop :=
  (∀ (n : Fin 132) (p : Fin 64) (s : State), Cond.bufferAllocHub n p s = true →
    ∃ u, exec (.bufferAlloc n (.hub p) false) s = .next u ∧ (∀ h ∈ (s.pool p.val).cache.head?, (Cond.sent s u).contains (.value n.val h) = true ∧ u.pool p.val = { (s.pool p.val) with cache := (s.pool p.val).cache.tail } ∧ u.buf (handlePool h) (handleIndex h) = { s.buf (handlePool h) (handleIndex h) with count := 1, owner := 0 } ∧ (∀ k : Nat, k ≠ handlePool h * 2 ^ 21 + handleIndex h → Tab.get u.bpm.bufs Buf.init k = Tab.get s.bpm.bufs Buf.init k)) ∧ (∀ k : Nat, k ≠ p.val → u.pool k = s.pool k) ∧ u.fval 0 0x4020 1 = (if p.val = 0 then s.fval 0 0x4020 1 else (s.fbump 0 0x4020 1 1).fval 0 0x4020 1) ∧ u = { s with bpm := { s.bpm with pools := u.bpm.pools, bufs := u.bpm.bufs }, dict := u.dict, ev := u.ev, out := u.out, twin := u.twin }) ∧
  (∀ (n : Fin 132) (p : Fin 64) (lost : Bool) (s : State), Cond.bufferAllocHubNull n p s = true →
    exec (.bufferAlloc n (.hub p) lost) s = .next ({ s with out := s.out ++ [.value n.val 0] })) ∧
  (∀ (n : Fin 132) (p : Fin 64) (lost : Bool) (s : State), Cond.bufferAllocHubWaits n p s = true →
    exec (.bufferAlloc n (.hub p) lost) s = .next ({ s with bpm := { s.bpm with waiting := s.bpm.waiting ++ [⟨p.val, n.val, false⟩] } })) ∧
  (∀ (n : Fin 132) (p : Fin 64) (s : State), Cond.bufferAllocLost n p s = true →
    ∃ u, exec (.bufferAlloc n (.hub p) true) s = .next u ∧ u.out.getLast? = some (.value n.val 0) ∧ u.pool p.val = { (s.pool p.val) with state := 2 } ∧ (∀ k : Nat, k ≠ p.val → u.pool k = s.pool k) ∧ u.bpm.bufs = s.bpm.bufs ∧ u.val 0x9080 5 = (s.bump 0x9080 5).val 0x9080 5 ∧ u = { s with bpm := { s.bpm with pools := u.bpm.pools }, integ := u.integ, free := u.free, dict := u.dict, ev := u.ev, out := u.out, twin := u.twin }) ∧
  (∀ (n : Fin 132) (p : Fin 64) (lost : Bool) (s : State), Cond.bufferAllocNotReached n s = true →
    exec (.bufferAlloc n (.hub p) lost) s = .next (s)) ∧
  (∀ (n : Fin 132) (s : State), Cond.bufferAllocTenant n s = true →
    ∃ u, exec (.bufferAlloc n .port false) s = .next u ∧ (∀ h ∈ (s.pool (s.bufPort n.val).pool).cache.head?, (Cond.sent s u).contains (.value n.val h) = true ∧ u.pool (s.bufPort n.val).pool = { s.pool (s.bufPort n.val).pool with cache := (s.pool (s.bufPort n.val).pool).cache.tail } ∧ u.buf (handlePool h) (handleIndex h) = { s.buf (handlePool h) (handleIndex h) with count := 1, owner := (s.bufPort n.val).fn } ∧ (∀ k : Nat, k ≠ handlePool h * 2 ^ 21 + handleIndex h → Tab.get u.bpm.bufs Buf.init k = Tab.get s.bpm.bufs Buf.init k)) ∧ u.fval (s.bufPort n.val).fn 0x4020 1 = (s.fbump (s.bufPort n.val).fn 0x4020 1 1).fval (s.bufPort n.val).fn 0x4020 1 ∧ (∀ k : Nat, k ≠ (s.bufPort n.val).pool → u.pool k = s.pool k) ∧ u = { s with bpm := { s.bpm with pools := u.bpm.pools, bufs := u.bpm.bufs }, dict := u.dict, ev := u.ev, out := u.out, twin := u.twin }) ∧
  (∀ (n : Fin 132) (s : State), Cond.bufferAllocQuota n s = true →
    ∃ u, exec (.bufferAlloc n .port false) s = .next u ∧ u.out = s.out ++ [.value n.val 0] ∧ u.fval (s.bufPort n.val).fn 0x4020 7 = (s.fbump (s.bufPort n.val).fn 0x4020 7 1).fval (s.bufPort n.val).fn 0x4020 7 ∧ (u.bufPort n.val = { s.bufPort n.val with nulls := (s.bufPort n.val).nulls + 1 }) ∧ (∀ k : Nat, k ≠ n.val → u.bufPort k = s.bufPort k) ∧ u = { s with bpm := { s.bpm with ports := u.bpm.ports }, dict := u.dict, out := u.out }) ∧
  (∀ (n : Fin 132) (s : State), Cond.bufferAllocNoPool n s = true →
    ∃ u, exec (.bufferAlloc n .port false) s = .next u ∧ u.out = s.out ++ [.value n.val 0] ∧ (u.bufPort n.val = { s.bufPort n.val with nulls := (s.bufPort n.val).nulls + 1 }) ∧ (∀ k : Nat, k ≠ n.val → u.bufPort k = s.bufPort k) ∧ u = { s with bpm := { s.bpm with ports := u.bpm.ports }, out := u.out }) ∧
  (∀ (n : Fin 132) (s : State), Cond.bufferAllocRegion n s = true →
    ∃ u, exec (.bufferAlloc n .port false) s = .next u ∧ (∀ h ∈ (s.regionCache (coreRegion n.val)).head?, (Cond.sent s u).contains (.value n.val h) = true ∧ u.regionCache (coreRegion n.val) = (s.regionCache (coreRegion n.val)).tail ∧ u.buf (handlePool h) (handleIndex h) = { s.buf (handlePool h) (handleIndex h) with count := 1, owner := 0 } ∧ (∀ k : Nat, k ≠ handlePool h * 2 ^ 21 + handleIndex h → Tab.get u.bpm.bufs Buf.init k = Tab.get s.bpm.bufs Buf.init k)) ∧ (∀ k : Nat, k ≠ coreRegion n.val → u.regionCache k = s.regionCache k) ∧ u = { s with bpm := { s.bpm with caches := u.bpm.caches, bufs := u.bpm.bufs }, dict := u.dict, ev := u.ev, out := u.out, twin := u.twin }) ∧
  (∀ (n : Fin 132) (s : State), Cond.bufferAllocRegionRefills n s = true →
    ∃ u, exec (.bufferAlloc n .port false) s = .next u ∧ (∀ h ∈ (s.pool 0).cache.head?, (Cond.sent s u).contains (.value n.val h) = true ∧ u.regionCache (coreRegion n.val) = ((s.pool 0).cache.take 16).tail ∧ u.pool 0 = { s.pool 0 with cache := (s.pool 0).cache.drop 16 } ∧ u.buf (handlePool h) (handleIndex h) = { s.buf (handlePool h) (handleIndex h) with count := 1, owner := 0 } ∧ (∀ k : Nat, k ≠ handlePool h * 2 ^ 21 + handleIndex h → Tab.get u.bpm.bufs Buf.init k = Tab.get s.bpm.bufs Buf.init k)) ∧ u = { s with bpm := { s.bpm with pools := u.bpm.pools, caches := u.bpm.caches, bufs := u.bpm.bufs }, dict := u.dict, ev := u.ev, out := u.out, twin := u.twin }) ∧
  (∀ (p : Fin 64) (s : State), Cond.hubCacheRefillFresh p s = true →
    ∃ u, exec (.hubCacheRefill p) s = .next u ∧ u.pool p.val = { (s.pool p.val) with fresh := (s.pool p.val).fresh + 256, cache := (s.pool p.val).cache ++ (List.range 256).map (fun i => handleOf p.val ((s.pool p.val).fresh + i) 0) } ∧ (∀ k : Nat, k ≠ p.val → u.pool k = s.pool k) ∧ u = { s with bpm := { s.bpm with pools := u.bpm.pools } }) ∧
  (∀ (p : Fin 64) (s : State), Cond.hubCacheRefillRing p s = true →
    ∃ u, exec (.hubCacheRefill p) s = .next u ∧ u.pool p.val = { (s.pool p.val) with ring := (s.pool p.val).ring.drop 256, cache := (s.pool p.val).cache ++ (s.pool p.val).ring.take 256 } ∧ (∀ k : Nat, k ≠ p.val → u.pool k = s.pool k) ∧ u = { s with bpm := { s.bpm with pools := u.bpm.pools } }) ∧
  (∀ (p : Fin 64) (s : State), Cond.hubCacheRefillNot p s = true →
    exec (.hubCacheRefill p) s = .next (s)) ∧
  (∀ (s : State), Cond.regionCacheRecall s = true →
    ∃ u, exec .regionCacheRecall s = .next u ∧ (∀ k : Nat, u.regionCache k = []) ∧ u.poolFree 0 = s.poolFree 0 ∧ (∀ k : Nat, k ≠ 0 → u.pool k = s.pool k) ∧ u = { s with bpm := { s.bpm with pools := u.bpm.pools, caches := u.bpm.caches } }) ∧
  (∀ (s : State), Cond.regionCacheRecallNot s = true →
    exec .regionCacheRecall s = .next (s)) ∧
  (∀ (n : Fin 132) (hub : Bool) (h : BitVec 32) (s : State), Cond.bufferInc n hub h s = true →
    ∃ u, exec (.bufferInc n hub h) s = .next u ∧ u.buf (handlePool h.toNat) (handleIndex h.toNat) = { (s.buf (handlePool h.toNat) (handleIndex h.toNat)) with count := (s.buf (handlePool h.toNat) (handleIndex h.toNat)).count + 1 } ∧ (∀ k : Nat, k ≠ (handlePool h.toNat) * 2 ^ 21 + (handleIndex h.toNat) → Tab.get u.bpm.bufs Buf.init k = Tab.get s.bpm.bufs Buf.init k) ∧ u = { s with bpm := { s.bpm with bufs := u.bpm.bufs } }) ∧
  (∀ (n : Fin 132) (hub : Bool) (h : BitVec 32) (s : State), Cond.bufferIncBad n hub h s = true →
    ∃ u, exec (.bufferInc n hub h) s = .next u ∧ u.val (0xD010 + (handlePool h.toNat)) 7 = (s.bump (0xD010 + (handlePool h.toNat)) 7).val (0xD010 + (handlePool h.toNat)) 7 ∧ u.bpm = s.bpm ∧ u = { s with dict := u.dict, ev := u.ev, out := u.out, twin := u.twin }) ∧
  (∀ (n : Fin 132) (hub : Bool) (h : BitVec 32) (s : State), Cond.bufferIncNotReached n hub s = true →
    exec (.bufferInc n hub h) s = .next (s)) ∧
  (∀ (n : Fin 132) (hub : Bool) (h : BitVec 32) (s : State), Cond.bufferDec n hub h s = true →
    ∃ u, exec (.bufferDec n hub h) s = .next u ∧ u.buf (handlePool h.toNat) (handleIndex h.toNat) = { (s.buf (handlePool h.toNat) (handleIndex h.toNat)) with count := (s.buf (handlePool h.toNat) (handleIndex h.toNat)).count - 1 } ∧ (∀ k : Nat, k ≠ (handlePool h.toNat) * 2 ^ 21 + (handleIndex h.toNat) → Tab.get u.bpm.bufs Buf.init k = Tab.get s.bpm.bufs Buf.init k) ∧ u = { s with bpm := { s.bpm with bufs := u.bpm.bufs } }) ∧
  (∀ (n : Fin 132) (hub : Bool) (h : BitVec 32) (s : State), Cond.bufferDecFrees n hub h s = true →
    ∃ u, exec (.bufferDec n hub h) s = .next u ∧ u.buf (handlePool h.toNat) (handleIndex h.toNat) = { (s.buf (handlePool h.toNat) (handleIndex h.toNat)) with count := 0, gen := ((s.buf (handlePool h.toNat) (handleIndex h.toNat)).gen + 1) % 32 } ∧ (∀ k : Nat, k ≠ (handlePool h.toNat) * 2 ^ 21 + (handleIndex h.toNat) → Tab.get u.bpm.bufs Buf.init k = Tab.get s.bpm.bufs Buf.init k) ∧ u.pool (handlePool h.toNat) = { s.pool (handlePool h.toNat) with cache := handleOf (handlePool h.toNat) (handleIndex h.toNat) (((s.buf (handlePool h.toNat) (handleIndex h.toNat)).gen + 1) % 32) :: (s.pool (handlePool h.toNat)).cache } ∧ (∀ k : Nat, k ≠ (handlePool h.toNat) → u.pool k = s.pool k) ∧ u.fval (s.buf (handlePool h.toNat) (handleIndex h.toNat)).owner 0x4020 1 = s.fval (s.buf (handlePool h.toNat) (handleIndex h.toNat)).owner 0x4020 1 - 1 ∧ u = { s with bpm := { s.bpm with pools := u.bpm.pools, bufs := u.bpm.bufs }, dict := u.dict, ev := u.ev, out := u.out, twin := u.twin }) ∧
  (∀ (n : Fin 132) (hub : Bool) (h : BitVec 32) (s : State), Cond.bufferDecRegionFrees n hub h s = true →
    ∃ u, exec (.bufferDec n hub h) s = .next u ∧ u.buf 0 (handleIndex h.toNat) = { (s.buf (handlePool h.toNat) (handleIndex h.toNat)) with count := 0, gen := ((s.buf (handlePool h.toNat) (handleIndex h.toNat)).gen + 1) % 32 } ∧ u.regionCache (coreRegion n.val) = handleOf 0 (handleIndex h.toNat) (((s.buf (handlePool h.toNat) (handleIndex h.toNat)).gen + 1) % 32) :: s.regionCache (coreRegion n.val) ∧ (∀ k : Nat, k ≠ coreRegion n.val → u.regionCache k = s.regionCache k) ∧ u = { s with bpm := { s.bpm with caches := u.bpm.caches, bufs := u.bpm.bufs }, dict := u.dict, ev := u.ev, out := u.out, twin := u.twin }) ∧
  (∀ (n : Fin 132) (hub : Bool) (h : BitVec 32) (s : State), Cond.bufferDecBad n hub h s = true →
    ∃ u, exec (.bufferDec n hub h) s = .next u ∧ u.val (0xD010 + (handlePool h.toNat)) 7 = (s.bump (0xD010 + (handlePool h.toNat)) 7).val (0xD010 + (handlePool h.toNat)) 7 ∧ u.bpm = s.bpm ∧ u = { s with dict := u.dict, ev := u.ev, out := u.out, twin := u.twin }) ∧
  (∀ (n : Fin 132) (hub : Bool) (h : BitVec 32) (s : State), Cond.bufferDecNotReached n hub s = true →
    exec (.bufferDec n hub h) s = .next (s)) ∧
  (∀ (n : Fin 132) (h : BitVec 32) (s : State), Cond.bufferQuery n h s = true →
    ∃ u, exec (.bufferQuery n h) s = .next u ∧ u.queryResult = (s.buf (handlePool h.toNat) (handleIndex h.toNat)).count + (s.buf (handlePool h.toNat) (handleIndex h.toNat)).owner * 2 ^ 8 + (s.buf (handlePool h.toNat) (handleIndex h.toNat)).gen * 2 ^ 16 + 2 ^ 31 ∧ u = { s with bpm := { s.bpm with query := h.toNat } }) ∧
  (∀ (n : Fin 132) (h : BitVec 32) (s : State), Cond.bufferQueryBad n h s = true →
    ∃ u, exec (.bufferQuery n h) s = .next u ∧ u.queryResult = 0 ∧ u = { s with bpm := { s.bpm with query := h.toNat } }) ∧
  (∀ (n : Fin 132) (h : BitVec 32) (s : State), Cond.bufferQueryNotReached n s = true →
    exec (.bufferQuery n h) s = .next (s))

/-- Claims, completions, PENDING, hold-offs and register writes, each under what its line says, changing nothing else. CLAIM, CLAIM_SELF: with nothing
claimable the spurious identifier 0xFFF is read, counted; the claimable source of the highest priority, the lowest-numbered of equals, is read with
its priority and active, a pulse source no longer latched, counted; by a core that does not reach the controller: nothing. COMPLETE, COMPLETE_SELF: of
an active source of the target that is pending no more: it is active no more and no other changes; of one still pending, enabled and under no
hold-off: it is claimable again; that names no active source of the target: counted and ignored; by a core that does not reach the controller:
nothing. PENDING_WRITE: with no source of the group routed to the host's window: the pulse latches are as written, the level sources as they were, no
other group and nothing else of the controller changes. HOLDOFF_EXPIRY: of a timer that does not run or is not over: nothing; with nothing enabled
that waits and is pending: the timer stops; with something: it is claimable, and the timer starts again. REGISTER_WRITE: without power, or an access
the block does not accept: nothing; of the pools' ENABLE: bit 0 is held; of the vault's slot select: the low 12 bits are held; of the ternary control:
enable and refresh are held; of a group's hold-off: 16 bits are held; of the target of an active source: reads back and takes effect later; of the
target of a source neither active nor pending: takes effect at once, no other source's; of a group's enables with none of it pending: held, no other
group's; of the pools' QUERY: 32 bits are held; of a core's port select: the low 6 bits are held. -/
def Obligations.EventsAndRegisters : Prop :=
  (∀ (n : Fin 132) (t : Fin 137) (s : State), Cond.eventClaimSpurious n t s = true →
    ∃ u, exec (.eventClaim n t) s = .next u ∧ u.out = s.out ++ [.value n.val 0xFFF] ∧ u.val 0xD190 2 = (s.bump 0xD190 2).val 0xD190 2 ∧ u = { s with dict := u.dict, out := u.out }) ∧
  (∀ (n : Fin 132) (t : Fin 137) (s : State), Cond.eventClaimTakes n t s = true →
    ∃ u, exec (.eventClaim n t) s = .next u ∧ (∀ src ∈ (s.ev.best t.val), (Cond.sent s u).contains (.value n.val (src + 4096 * bits (s.ev.targetReg src) 8 4)) = true ∧ src ∈ s.ev.claimables t.val ∧ (∀ q ∈ s.ev.claimables t.val, bits (s.ev.targetReg q) 8 4 < bits (s.ev.targetReg src) 8 4 ∨ (bits (s.ev.targetReg q) 8 4 = bits (s.ev.targetReg src) 8 4 ∧ src ≤ q)) ∧ srcBit u.ev.active src = true ∧ (isLevel src = false → srcBit u.ev.latch src = false) ∧ (∀ k ∈ List.range 2048, k ≠ src → srcBit u.ev.active k = srcBit s.ev.active k ∧ srcBit u.ev.latch k = srcBit s.ev.latch k)) ∧ u.val 0xD190 1 = (s.bump 0xD190 1).val 0xD190 1 ∧ u = { s with ev := { s.ev with active := u.ev.active, latch := u.ev.latch, hostLine := u.ev.hostLine }, dict := u.dict, out := u.out }) ∧
  (∀ (n : Fin 132) (t : Fin 137) (s : State), Cond.eventClaimNotReached n s = true →
    exec (.eventClaim n t) s = .next (s)) ∧
  (∀ (n : Fin 132) (s : State), Cond.eventClaimSelfSpurious n s = true →
    ∃ u, exec (.eventClaimSelf n) s = .next u ∧ u.out = s.out ++ [.value n.val 0xFFF] ∧ u.val 0xD190 2 = (s.bump 0xD190 2).val 0xD190 2 ∧ u = { s with dict := u.dict, out := u.out }) ∧
  (∀ (n : Fin 132) (s : State), Cond.eventClaimSelfTakes n s = true →
    ∃ u, exec (.eventClaimSelf n) s = .next u ∧ (∀ src ∈ (s.ev.best n.val), (Cond.sent s u).contains (.value n.val (src + 4096 * bits (s.ev.targetReg src) 8 4)) = true ∧ src ∈ s.ev.claimables n.val ∧ (∀ q ∈ s.ev.claimables n.val, bits (s.ev.targetReg q) 8 4 < bits (s.ev.targetReg src) 8 4 ∨ (bits (s.ev.targetReg q) 8 4 = bits (s.ev.targetReg src) 8 4 ∧ src ≤ q)) ∧ srcBit u.ev.active src = true ∧ (isLevel src = false → srcBit u.ev.latch src = false) ∧ (∀ k ∈ List.range 2048, k ≠ src → srcBit u.ev.active k = srcBit s.ev.active k ∧ srcBit u.ev.latch k = srcBit s.ev.latch k)) ∧ u.val 0xD190 1 = (s.bump 0xD190 1).val 0xD190 1 ∧ u = { s with ev := { s.ev with active := u.ev.active, latch := u.ev.latch, hostLine := u.ev.hostLine }, dict := u.dict, out := u.out }) ∧
  (∀ (n : Fin 132) (s : State), Cond.eventClaimSelfNotReached n s = true →
    exec (.eventClaimSelf n) s = .next (s)) ∧
  (∀ (n : Fin 132) (t : Fin 137) (src : BitVec 12) (s : State), Cond.eventComplete n t src s = true →
    ∃ u, exec (.eventComplete n t src) s = .next u ∧ srcBit u.ev.active src.toNat = false ∧ (∀ k ∈ List.range 2048, k ≠ src.toNat → srcBit u.ev.active k = srcBit s.ev.active k) ∧ u = { s with ev := { s.ev with active := u.ev.active } }) ∧
  (∀ (n : Fin 132) (t : Fin 137) (src : BitVec 12) (s : State), Cond.eventCompleteAgain n t src s = true →
    ∃ u, exec (.eventComplete n t src) s = .next u ∧ srcBit u.ev.active src.toNat = false ∧ u.ev.claimable src.toNat = true ∧ u.ev.latch = s.ev.latch ∧ u = { s with ev := { s.ev with active := u.ev.active, hostLine := u.ev.hostLine }, out := u.out }) ∧
  (∀ (n : Fin 132) (t : Fin 137) (src : BitVec 12) (s : State), Cond.eventCompleteBad n t src s = true →
    ∃ u, exec (.eventComplete n t src) s = .next u ∧ u.val 0xD190 3 = (s.bump 0xD190 3).val 0xD190 3 ∧ u = { s with dict := u.dict }) ∧
  (∀ (n : Fin 132) (t : Fin 137) (src : BitVec 12) (s : State), Cond.eventCompleteNotReached n s = true →
    exec (.eventComplete n t src) s = .next (s)) ∧
  (∀ (n : Fin 132) (src : BitVec 12) (s : State), Cond.eventCompleteSelf n src s = true →
    ∃ u, exec (.eventCompleteSelf n src) s = .next u ∧ srcBit u.ev.active src.toNat = false ∧ (∀ k ∈ List.range 2048, k ≠ src.toNat → srcBit u.ev.active k = srcBit s.ev.active k) ∧ u = { s with ev := { s.ev with active := u.ev.active } }) ∧
  (∀ (n : Fin 132) (src : BitVec 12) (s : State), Cond.eventCompleteSelfAgain n src s = true →
    ∃ u, exec (.eventCompleteSelf n src) s = .next u ∧ srcBit u.ev.active src.toNat = false ∧ u.ev.claimable src.toNat = true ∧ u.ev.latch = s.ev.latch ∧ u = { s with ev := { s.ev with active := u.ev.active, hostLine := u.ev.hostLine }, out := u.out }) ∧
  (∀ (n : Fin 132) (src : BitVec 12) (s : State), Cond.eventCompleteSelfBad n src s = true →
    ∃ u, exec (.eventCompleteSelf n src) s = .next u ∧ u.val 0xD190 3 = (s.bump 0xD190 3).val 0xD190 3 ∧ u = { s with dict := u.dict }) ∧
  (∀ (n : Fin 132) (src : BitVec 12) (s : State), Cond.eventCompleteSelfNotReached n s = true →
    exec (.eventCompleteSelf n src) s = .next (s)) ∧
  (∀ (g : Fin 64) (v : BitVec 32) (s : State), Cond.pendingWrite g s = true →
    ∃ u, exec (.pendingWrite g v) s = .next u ∧ u.readPending g.val = (v.toNat &&& (2 ^ 32 - 1 - (levelMask g.val))) ||| (s.readPending g.val &&& (levelMask g.val)) ∧ (∀ k ∈ List.range 64, k ≠ g.val → groupReg u.ev.latch k = groupReg s.ev.latch k) ∧ u.ev.active = s.ev.active ∧ u.ev.enable = s.ev.enable ∧ u.ev.level = s.ev.level ∧ u = { s with ev := u.ev, dict := u.dict, out := u.out }) ∧
  (∀ (g : Fin 64) (s : State), Cond.holdoffExpiryNot g s = true →
    exec (.holdoffExpiry g) s = .next (s)) ∧
  (∀ (g : Fin 64) (s : State), Cond.holdoffExpiryStops g s = true →
    ∃ u, exec (.holdoffExpiry g) s = .next u ∧ (u.ev.timer[g.val]?).getD none = none ∧ groupReg u.ev.waiting g.val = 0 ∧ (∀ k ∈ List.range 64, k ≠ g.val → groupReg u.ev.waiting k = groupReg s.ev.waiting k) ∧ u = { s with ev := { s.ev with timer := s.ev.timer.set g.val none, waiting := u.ev.waiting } }) ∧
  (∀ (g : Fin 64) (s : State), Cond.holdoffExpiryRestarts g s = true →
    ∃ u, exec (.holdoffExpiry g) s = .next u ∧ u.ev.timer = s.ev.timer.set g.val (some s.pkg.timebase) ∧ groupReg u.ev.waiting g.val = 0 ∧ (∀ b ∈ List.range 32, bit (groupReg s.ev.waiting g.val &&& s.readPending g.val &&& groupReg s.ev.enable g.val) b = true → srcBit s.ev.active (evSrc g.val b) = false → u.ev.claimable (evSrc g.val b) = true) ∧ (∀ k ∈ List.range 64, k ≠ g.val → groupReg u.ev.waiting k = groupReg s.ev.waiting k) ∧ u = { s with ev := { s.ev with timer := u.ev.timer, waiting := u.ev.waiting, hostLine := u.ev.hostLine }, out := u.out }) ∧
  (∀ (n : Fin 132) (a : Addr) (wide : Bool) (v : Word) (s : State), Cond.registerWriteNot n a wide s = true →
    ∃ u, exec (.registerWrite n a wide v) s = .next u ∧ (∀ k : Nat, u.core k = s.core k) ∧ u = { s with cores := u.cores }) ∧
  (∀ (n : Fin 132) (v : Word) (s : State), Cond.registerWritePoolEnable n s = true →
    ∃ u, exec (.registerWrite n (BitVec.ofNat 48 (0x180000100000)) false v) s = .next u ∧ u.bpm = { s.bpm with enable := v.getLsbD 0 } ∧ (∀ k : Nat, u.core k = s.core k) ∧ u = { s with cores := u.cores, bpm := u.bpm }) ∧
  (∀ (n : Fin 132) (v : Word) (s : State), Cond.registerWriteSlotSelect n s = true →
    ∃ u, exec (.registerWrite n (BitVec.ofNat 48 (0x180000400008)) false v) s = .next u ∧ u.vault = { s.vault with slotSelect := v.toNat % 4096 } ∧ (∀ k : Nat, u.core k = s.core k) ∧ u = { s with cores := u.cores, vault := u.vault }) ∧
  (∀ (n : Fin 132) (v : Word) (s : State), Cond.registerWriteTernaryControl n s = true →
    ∃ u, exec (.registerWrite n (BitVec.ofNat 48 (0x180000300000)) false v) s = .next u ∧ u.tern = { s.tern with enable := v.getLsbD 0, refreshEn := v.getLsbD 1 } ∧ (∀ k : Nat, u.core k = s.core k) ∧ u = { s with cores := u.cores, tern := u.tern }) ∧
  (∀ (n : Fin 132) (v : Word) (g : Fin 64) (s : State), Cond.registerWriteHoldoff n g s = true →
    ∃ u, exec (.registerWrite n (BitVec.ofNat 48 (0x180000202400 + 4 * g.val)) false v) s = .next u ∧ u.ev = { s.ev with holdoff := s.ev.holdoff.set g.val (BitVec.ofNat 16 (v.toNat % 2 ^ 32)) } ∧ (∀ k : Nat, u.core k = s.core k) ∧ u = { s with cores := u.cores, ev := u.ev }) ∧
  (∀ (n : Fin 132) (v : Word) (k : Fin 2048) (s : State), Cond.registerWriteTargetWaits n k s = true →
    ∃ u, exec (.registerWrite n (BitVec.ofNat 48 (0x180000200000 + 4 * k.val)) false v) s = .next u ∧ u.readTarget k.val = v.toNat % 2 ^ 19 ∧ u.ev.targetReg k.val = s.ev.targetReg k.val ∧ (∀ k : Nat, u.core k = s.core k) ∧ u = { s with cores := u.cores, ev := { s.ev with nextTarget := u.ev.nextTarget } }) ∧
  (∀ (n : Fin 132) (v : Word) (k : Fin 2048) (s : State), Cond.registerWriteTarget n k s = true →
    ∃ u, exec (.registerWrite n (BitVec.ofNat 48 (0x180000200000 + 4 * k.val)) false v) s = .next u ∧ u.readTarget k.val = v.toNat % 2 ^ 19 ∧ u.ev.targetReg k.val = v.toNat % 2 ^ 19 ∧ (∀ j ∈ List.range 2048, j ≠ k.val → u.ev.targetReg j = s.ev.targetReg j) ∧ (∀ k : Nat, u.core k = s.core k) ∧ u = { s with cores := u.cores, ev := { s.ev with target := u.ev.target, hostLine := u.ev.hostLine }, out := u.out }) ∧
  (∀ (n : Fin 132) (v : Word) (g : Fin 64) (s : State), Cond.registerWriteEnable n g s = true →
    ∃ u, exec (.registerWrite n (BitVec.ofNat 48 (0x180000202000 + 4 * g.val)) false v) s = .next u ∧ groupReg u.ev.enable g.val = v.toNat % 2 ^ 32 ∧ (∀ j ∈ List.range 64, j ≠ g.val → groupReg u.ev.enable j = groupReg s.ev.enable j) ∧ (∀ k : Nat, u.core k = s.core k) ∧ u = { s with cores := u.cores, ev := { s.ev with enable := u.ev.enable, hostLine := u.ev.hostLine }, out := u.out }) ∧
  (∀ (n : Fin 132) (v : Word) (s : State), Cond.registerWriteQuery n s = true →
    ∃ u, exec (.registerWrite n (BitVec.ofNat 48 (0x180000100000 + 0x1108)) false v) s = .next u ∧ u.bpm = { s.bpm with query := v.toNat % 2 ^ 32 } ∧ (∀ k : Nat, u.core k = s.core k) ∧ u = { s with cores := u.cores, bpm := u.bpm }) ∧
  (∀ (n : Fin 132) (v : Word) (r : Fin 4) (s : State), Cond.registerWritePortSelect n r s = true →
    ∃ u, exec (.registerWrite n (BitVec.ofNat 48 (0x18000106F010 + 0x100000 * r.val)) false v) s = .next u ∧ u.bufPort n.val = { s.bufPort n.val with select := v.toNat % 64 } ∧ (∀ k : Nat, k ≠ n.val → u.bufPort k = s.bufPort k) ∧ (∀ k : Nat, u.core k = s.core k) ∧ u = { s with cores := u.cores, bpm := { s.bpm with ports := u.bpm.ports } })

/-- A core that TASK_DISPATCH gives a task starts with D0 = TASK_INDEX, D1 = TASK_COUNT, D2 = FUNCTION, A0 = PARAM, A1 = PARAM + 32, A7 = 0x1F0000008000, every other D, A and AC register zero, at ENTRY; the command answers a next state whatever the state. -/
def Obligations.DispatchRegisters : Prop :=
  ∀ (r : Fin 4) (ecc : Ecc) (lost : Bool) (s : State), ∃ u, exec (.taskDispatch r ecc lost) s = .next u ∧
    ∀ (n : Nat) (t : Task), (s.core n).task = none → (u.core n).task = some t →
      (u.core n).pc = BitVec.ofNat 48 t.entry ∧
      (∀ i : Fin 16, (u.core n).dv i =
        if i = 0 then BitVec.ofNat 64 t.index else if i = 1 then BitVec.ofNat 64 t.count else if i = 2 then BitVec.ofNat 64 t.fn else 0) ∧
      (∀ i : Fin 8, (u.core n).av i =
        if i = 0 then BitVec.ofNat 48 t.param else if i = 1 then BitVec.ofNat 48 (t.param + 32) else if i = 7 then 0x1F0000008000 else 0) ∧
      (∀ i : Fin 4, (u.core n).ac[i] = 0)

/-- A device address lies in the channel, subchannel, bank group, bank, rank and row that its channel address gives; no two addresses share all of these and their burst and byte; an address at or beyond the installed capacity gives a bus error; the manual's example lies where it says. -/
def Obligations.AddressMapping : Prop :=
  (∀ (s : State) (a : Nat),
    let c := a / 2 ^ 14 * 2 ^ 11 + a % 2 ^ 11
    let b := if s.ddrWidth = 4 then 14 else 13
    let row := if s.ddrRanks = 2 then c / 2 ^ (b + 6) else c / 2 ^ (b + 5)
    s.placeOf a = ⟨a / 2 ^ 11 % 8, c / 2 ^ 6 % 2, (c / 2 ^ b % 8) ^^^ (row % 8), c / 2 ^ (b + 3) % 4,
      if s.ddrRanks = 2 then c / 2 ^ (b + 5) % 2 else 0, row⟩) ∧
  (∀ (s : State) (a a' : Nat),
    let b := if s.ddrWidth = 4 then 14 else 13
    let c (a : Nat) := a / 2 ^ 14 * 2 ^ 11 + a % 2 ^ 11
    s.placeOf a = s.placeOf a' → c a % 2 ^ 6 = c a' % 2 ^ 6 → c a / 2 ^ 7 % 2 ^ (b - 7) = c a' / 2 ^ 7 % 2 ^ (b - 7) → a = a') ∧
  (∀ (a : BitVec 38) (w : Option (List Byte)) (p : Bool) (cls : Fin 5) (port : Option (Fin 5)) (use_ : DramUse) (t : Fin 6) (n : BitVec 12)
      (s : State), s.dram.trained = true → s.dramSize ≤ a.toNat →
    ∃ u, exec (.dramRequest (.arrive a w p cls port use_ t n)) s = .next u ∧ u.out = s.out ++ [.dram s.dram.nextId none false] ∧ u.mem = s.mem ∧
      u.dram.chans = s.dram.chans) ∧
  (∀ s : State, s.ddrWidth = 8 → s.ddrRanks = 1 → s.placeOf 0x12345678 = ⟨2, 1, 5, 2, 0, 145⟩)

/-- Entries of 0xF000 to 0xFFFF through a header that its transport takes, whatever the session. HEADER_WRITE: to an entry of the range is answered
FACTORY_LOCKED and stages nothing. HEADER_READ: of one below tier 3 is answered with an abort code and no value. DICTIONARY_WRITE: to an entry of the
range completes with status 7h/0Fh and stages nothing. DICTIONARY_READ: of one below tier 3 completes with an abort code and sends no data. -/
def Obligations.FactoryEntries : Prop :=
  (∀ (o : Sender) (h : HdrIn) (value : List Byte) (s : State), Cond.headerWriteFactory o h value s = true →
    ∃ u, exec (.headerWrite o h value) s = .next u ∧ Cond.answered o h 2 s u aFactoryLocked h.offset.toNat [] = true ∧ u.dict.stages = s.dict.stages ∧ u.dict.store = s.dict.store ∧ u.dict.queue = s.dict.queue ∧ Cond.keepsRest s u = true) ∧
  (∀ (o : Sender) (h : HdrIn) (value : List Byte) (s : State), Cond.headerReadFactory o h value s = true →
    ∃ u, exec (.headerRead o h value) s = .next u ∧ (Cond.answered o h 1 s u (if (Cond.session o h).tier = 0 then aNoObject else aTier) h.offset.toNat [] = true) ∧ u.dict.stages = s.dict.stages ∧ u.dict.store = s.dict.store ∧ Cond.keepsRest s u = true) ∧
  (∀ (q : Sqe) (c : DictCdw) (data : List Byte) (w : Walk) (s : State), Cond.dictionaryWriteFactory q c w s = true →
    ∃ u, exec (.dictionaryWrite q c data w) s = .next u ∧ Cond.completed s u q (sc 7 0x0F) 0 = true ∧ u.dict.stages = s.dict.stages ∧ u.dict.store = s.dict.store ∧ u.dict.queue = s.dict.queue ∧ Cond.keepsRest s u = true) ∧
  (∀ (q : Sqe) (c : DictCdw) (w : Walk) (s : State), Cond.dictionaryReadFactory q c w s = true →
    ∃ u, exec (.dictionaryRead q c w) s = .next u ∧ Cond.completed s u q (sc 7 (if q.fn.toNat = 0 then aTier else aNoObject)) 0 = true ∧ ((Cond.sent s u).all fun e => match e with | .data _ _ _ _ _ _ _ _ => false | _ => true) = true ∧ Cond.keepsRest s u = true)

/-- No command ends in a fault or a refusal: on every state it answers a next state, with the commands that wait as they were; and a step on an empty queue changes nothing. -/
def Obligations.EveryCommandRuns : Prop :=
  (∀ (c : Instr) (s : State), ∃ u, exec c s = .next u ∧ u.pending = s.pending) ∧ (∀ s : State, s.pending = [] → step s = .next s)

/-- From every state whose memory is in its canonical form and whose waiting commands are well formed, a step leads only to states of which the same holds. -/
def Obligations.StateStaysInOrder : Prop :=
  ∀ (s s' : State), s.safe = true → step s = .next s' → s'.safe = true

/-- After reset memory is in its canonical form and no command waits. -/
def Obligations.ResetInOrder : Prop :=
  State.reset.safe = true ∧ State.reset.pending = []

/-- A byte of memory reads what the last write over it stored and every other byte as before; a poisoned store marks every granule it touches, a clean one clears those it covers whole and leaves every other mark; a range cleared reads zero without marks, and no other byte or mark changes. -/
def Obligations.MemoryReadsWhatIsWritten : Prop :=
  (∀ (m : Memory) (a : Nat) (l : List Byte) (x : Nat), (m.write a l).byte x = if a ≤ x ∧ x < a + l.length then (l[x - a]?).getD 0 else m.byte x) ∧
  (∀ (m : Memory) (a n : Nat) (p : Bool) (x : Nat), (m.markStore a n p).byte x = m.byte x) ∧
  (∀ (m : Memory) (a n : Nat) (g : Nat), g ∈ granules a n → Tab.get (m.markStore a n true).poison false g = true) ∧
  (∀ (m : Memory) (a n : Nat) (g : Nat), g ∈ granules a n → a ≤ g → g + granuleAt a ≤ a + n → Tab.get (m.markStore a n false).poison false g = false) ∧
  (∀ (m : Memory) (a n : Nat) (p : Bool) (g : Nat), g ∉ granules a n → Tab.get (m.markStore a n p).poison false g = Tab.get m.poison false g) ∧
  (∀ (m : Memory) (a n x : Nat), (m.clear a n).byte x = if a ≤ x ∧ x < a + n then 0 else m.byte x)

/-- The 32 bytes of a journal record with a map entry, a deallocation, a column of a furrow, a confirmed row, a furrow state, a bad block or a checkpoint give the record back, with every field at every value its bits admit; and a map entry's 64 bits give the entry back. -/
def Obligations.JournalRecordsReadBack : Prop :=
  (∀ e : MapEntry, e.state < 2 ^ 2 → e.len < 2 ^ 6 → e.off < 2 ^ 6 → e.gen < 2 ^ 8 → e.ppn < 2 ^ 40 → MapEntry.ofBits e.bits = e) ∧
  (∀ (seq : Nat) (last move : Bool) (a b c : Nat) (e : MapEntry) (k : FurrowState) (t : Word) (x : Bool),
    a < 2 ^ 32 → b < 2 ^ 64 → c < 2 ^ 64 → e.state < 2 ^ 2 → e.len < 2 ^ 6 → e.off < 2 ^ 6 → e.gen < 2 ^ 8 → e.ppn < 2 ^ 40 →
    ∀ y ∈ [JBody.unitMap a b e, .dealloc a b c, .furrowOpen a (b % 2 ^ 4) (b / 2 ^ 4 % 2 ^ 14) (b / 2 ^ 18 % 2 ^ 8) x c, .rowConfirmed a b c, .furrowState a k t,
        .blockBad a b c, .checkpoint x b c, .readOnly x],
      (JRec.mk seq last move y).bytes.length = 32 ∧ JRec.ofBytes seq (JRec.mk seq last move y).bytes = some (JRec.mk seq last move y))
end

