-- ==== Sys2Proof/Laws/Tab.lean ====
section
/-! SUPPORT. What the sparse tables do: read after write, and that every write keeps the canonical form. -/
namespace Sys2Proof.Machine

theorem Tab.find_erase_same {α : Type} (t : Tab α) (k : Nat) : Tab.find (Tab.erase t k) k = none := by
  induction t with
  | nil => rfl
  | cons p t ih =>
    obtain ⟨k', v⟩ := p
    by_cases h : k' = k <;> simp [Tab.erase, Tab.find, h, ih]

theorem Tab.find_erase_other {α : Type} (t : Tab α) {k k' : Nat} (h : k' ≠ k) :
    Tab.find (Tab.erase t k) k' = Tab.find t k' := by
  induction t with
  | nil => rfl
  | cons p t ih =>
    obtain ⟨q, v⟩ := p
    by_cases h1 : q = k
    · subst h1
      simp [Tab.erase, Tab.find, ih, h.symm]
    · by_cases h2 : q = k'
      · subst h2; simp [Tab.erase, Tab.find, h]
      · simp [Tab.erase, Tab.find, h1, h2, ih]

theorem Tab.find_insert_same {α : Type} (t : Tab α) (k : Nat) (x : α) (h : Tab.find t k = none) :
    Tab.find (Tab.insert t k x) k = some x := by
  induction t with
  | nil => simp [Tab.insert, Tab.find]
  | cons p t ih =>
    obtain ⟨q, v⟩ := p
    simp only [Tab.find] at h
    by_cases h1 : q = k
    · simp [h1] at h
    · simp [h1] at h
      by_cases h2 : k < q <;> simp [Tab.insert, Tab.find, h1, h2, ih h]

theorem Tab.find_insert_other {α : Type} (t : Tab α) {k k' : Nat} (x : α) (h : k' ≠ k) :
    Tab.find (Tab.insert t k x) k' = Tab.find t k' := by
  induction t with
  | nil => simp [Tab.insert, Tab.find, h.symm]
  | cons p t ih =>
    obtain ⟨q, v⟩ := p
    by_cases h2 : k < q
    · simp [Tab.insert, Tab.find, h2, h.symm]
    · by_cases h1 : q = k'
      · subst h1; simp [Tab.insert, Tab.find, h2]
      · simp [Tab.insert, Tab.find, h2, h1, ih]

@[simp] theorem Tab.find_put_same {α : Type} (t : Tab α) (k : Nat) (x : α) :
    Tab.find (Tab.put t k x) k = some x :=
  Tab.find_insert_same _ _ _ (Tab.find_erase_same t k)

theorem Tab.find_put_other {α : Type} (t : Tab α) {k k' : Nat} (x : α) (h : k' ≠ k) :
    Tab.find (Tab.put t k x) k' = Tab.find t k' := by
  rw [Tab.put, Tab.find_insert_other _ _ h, Tab.find_erase_other _ h]

@[simp] theorem Tab.get_put_same {α : Type} (t : Tab α) (d : α) (k : Nat) (x : α) :
    Tab.get (Tab.put t k x) d k = x := by simp [Tab.get]

theorem Tab.get_put_other {α : Type} (t : Tab α) (d : α) {k k' : Nat} (x : α) (h : k' ≠ k) :
    Tab.get (Tab.put t k x) d k' = Tab.get t d k' := by simp [Tab.get, Tab.find_put_other _ _ h]

@[simp] theorem Tab.get_set_same {α : Type} [DecidableEq α] (t : Tab α) (d : α) (k : Nat) (x : α) :
    Tab.get (Tab.set t d k x) d k = x := by
  by_cases h : x = d <;> simp [Tab.set, h, Tab.get, Tab.find_erase_same]

theorem Tab.get_set_other {α : Type} [DecidableEq α] (t : Tab α) (d : α) {k k' : Nat} (x : α)
    (h : k' ≠ k) : Tab.get (Tab.set t d k x) d k' = Tab.get t d k' := by
  by_cases hx : x = d
  · simp [Tab.set, hx, Tab.get, Tab.find_erase_other _ h]
  · simp [Tab.set, hx, Tab.get, Tab.find_put_other _ _ h]

theorem Tab.get_set {α : Type} [DecidableEq α] (t : Tab α) (d : α) (k k' : Nat) (x : α) :
    Tab.get (Tab.set t d k x) d k' = if k' = k then x else Tab.get t d k' := by
  by_cases h : k' = k
  · subst h; simp
  · simp [h, Tab.get_set_other _ _ _ h]

theorem Tab.sortedFrom_mono {α : Type} {a b : Nat} (t : Tab α) (h : a ≤ b)
    (hs : Tab.sortedFrom b t = true) : Tab.sortedFrom a t = true := by
  cases t with
  | nil => rfl
  | cons p t =>
    obtain ⟨q, v⟩ := p
    simp only [Tab.sortedFrom, Bool.and_eq_true, decide_eq_true_eq] at *
    exact ⟨by omega, hs.2⟩

theorem Tab.sortedFrom_erase {α : Type} (t : Tab α) (k : Nat) :
    ∀ lo, Tab.sortedFrom lo t = true → Tab.sortedFrom lo (Tab.erase t k) = true := by
  induction t with
  | nil => intro lo h; exact h
  | cons p t ih =>
    obtain ⟨q, v⟩ := p
    intro lo h
    simp only [Tab.sortedFrom, Bool.and_eq_true, decide_eq_true_eq] at h
    by_cases h1 : q = k
    · simp only [Tab.erase, h1, if_true]
      exact ih lo (Tab.sortedFrom_mono t (by omega) h.2)
    · simp only [Tab.erase, h1, if_false, Tab.sortedFrom, Bool.and_eq_true, decide_eq_true_eq]
      exact ⟨h.1, ih _ h.2⟩

theorem Tab.sortedFrom_insert {α : Type} (t : Tab α) (k : Nat) (x : α) :
    ∀ lo, lo ≤ k → Tab.find t k = none → Tab.sortedFrom lo t = true →
      Tab.sortedFrom lo (Tab.insert t k x) = true := by
  induction t with
  | nil => intro lo h _ _; simp [Tab.insert, Tab.sortedFrom, h]
  | cons p t ih =>
    obtain ⟨q, v⟩ := p
    intro lo hlo hf h
    simp only [Tab.sortedFrom, Bool.and_eq_true, decide_eq_true_eq] at h
    simp only [Tab.find] at hf
    by_cases h1 : q = k
    · simp [h1] at hf
    · simp [h1] at hf
      by_cases h2 : k < q
      · simp only [Tab.insert, h2, if_true, Tab.sortedFrom, Bool.and_eq_true, decide_eq_true_eq]
        exact ⟨hlo, by omega, h.2⟩
      · simp only [Tab.insert, h2, if_false, Tab.sortedFrom, Bool.and_eq_true, decide_eq_true_eq]
        exact ⟨h.1, ih _ (by omega) hf h.2⟩

theorem Tab.all_erase {α : Type} (P : Nat × α → Bool) (t : Tab α) (k : Nat) (h : t.all P = true) :
    (Tab.erase t k).all P = true := by
  induction t with
  | nil => exact h
  | cons p t ih =>
    obtain ⟨q, v⟩ := p
    simp only [List.all_cons, Bool.and_eq_true] at h
    by_cases h1 : q = k
    · simp only [Tab.erase, h1, if_true]; exact ih h.2
    · simp only [Tab.erase, h1, if_false, List.all_cons, Bool.and_eq_true]; exact ⟨h.1, ih h.2⟩

theorem Tab.all_insert {α : Type} (P : Nat × α → Bool) (t : Tab α) (k : Nat) (x : α)
    (hx : P (k, x) = true) (h : t.all P = true) : (Tab.insert t k x).all P = true := by
  induction t with
  | nil => simp [Tab.insert, hx]
  | cons p t ih =>
    obtain ⟨q, v⟩ := p
    simp only [List.all_cons, Bool.and_eq_true] at h
    by_cases h1 : k < q
    · simp [Tab.insert, h1, hx, h.1, h.2]
    · simp only [Tab.insert, h1, if_false, List.all_cons, Bool.and_eq_true]
      exact ⟨h.1, ih h.2⟩

/-- A canonical write keeps the canonical form. -/
theorem Tab.canon_set {α : Type} [DecidableEq α] (t : Tab α) (d : α) (k : Nat) (x : α)
    (h : Tab.canon d t = true) : Tab.canon d (Tab.set t d k x) = true := by
  simp only [Tab.canon, Bool.and_eq_true] at *
  by_cases hx : x = d
  · simp only [Tab.set, hx, if_true]
    exact ⟨Tab.sortedFrom_erase _ _ _ h.1, Tab.all_erase _ _ _ h.2⟩
  · simp only [Tab.set, hx, if_false, Tab.put]
    refine ⟨Tab.sortedFrom_insert _ _ _ _ (Nat.zero_le _) (Tab.find_erase_same _ _)
      (Tab.sortedFrom_erase _ _ _ h.1), Tab.all_insert _ _ _ _ ?_ (Tab.all_erase _ _ _ h.2)⟩
    simp [hx]

end Sys2Proof.Machine
end

