-- ==== Sys2Proof/Laws/Memory.lean ====
section
/-! SUPPORT. What the memory operations do to one byte, and that each of them keeps the canonical form. -/
namespace Sys2Proof.Machine

theorem Memory.wf_iff (m : Memory) :
    m.wf = true ↔ Tab.sortedFrom 0 m.cells = true ∧ (∀ p ∈ m.cells, p.2 ≠ m.base p.1) ∧ Tab.canon false m.poison = true := by
  simp [Memory.wf, and_assoc]

theorem Tab.sortedFrom_keep {α : Type} (p : Nat → α → Bool) (t : Tab α) :
    ∀ lo, Tab.sortedFrom lo t = true → Tab.sortedFrom lo (Tab.keep p t) = true := by
  induction t with
  | nil => intro lo h; exact h
  | cons e t ih =>
    obtain ⟨q, v⟩ := e
    intro lo h
    simp only [Tab.sortedFrom, Bool.and_eq_true, decide_eq_true_eq] at h
    by_cases hp : p q v = true
    · simp only [Tab.keep, List.filter_cons, hp, if_true, Tab.sortedFrom, Bool.and_eq_true, decide_eq_true_eq]
      exact ⟨h.1, ih _ h.2⟩
    · simp only [Tab.keep, List.filter_cons, hp]
      exact ih lo (Tab.sortedFrom_mono t (by omega) h.2)

theorem Tab.canon_keep {α : Type} [DecidableEq α] (d : α) (p : Nat → α → Bool) (t : Tab α) (h : Tab.canon d t = true) :
    Tab.canon d (Tab.keep p t) = true := by
  simp only [Tab.canon, Bool.and_eq_true, List.all_eq_true] at *
  exact ⟨Tab.sortedFrom_keep p t 0 h.1, fun e he => h.2 e (List.mem_filter.1 he).1⟩

theorem Tab.mem_erase {α : Type} (t : Tab α) (k : Nat) (p : Nat × α) (h : p ∈ Tab.erase t k) : p ∈ t := by
  induction t with
  | nil => exact h
  | cons e t ih =>
    obtain ⟨q, v⟩ := e
    by_cases hq : q = k
    · simp only [Tab.erase, hq, if_true] at h; exact List.mem_cons_of_mem _ (ih h)
    · simp only [Tab.erase, hq, if_false, List.mem_cons] at h
      rcases h with h | h
      · exact h ▸ List.mem_cons_self
      · exact List.mem_cons_of_mem _ (ih h)

theorem Tab.mem_insert {α : Type} (t : Tab α) (k : Nat) (x : α) (p : Nat × α) (h : p ∈ Tab.insert t k x) :
    p = (k, x) ∨ p ∈ t := by
  induction t with
  | nil => simpa [Tab.insert] using h
  | cons e t ih =>
    obtain ⟨q, v⟩ := e
    by_cases hq : k < q
    · simp only [Tab.insert, hq, if_true, List.mem_cons] at h
      rcases h with h | h | h
      · exact .inl h
      · exact .inr (h ▸ List.mem_cons_self)
      · exact .inr (List.mem_cons_of_mem _ h)
    · simp only [Tab.insert, hq, if_false, List.mem_cons] at h
      rcases h with h | h
      · exact .inr (h ▸ List.mem_cons_self)
      · exact (ih h).imp id (List.mem_cons_of_mem _)

/-- What a table lists after a canonical write: the new pair where it is not the default, or a pair listed before. -/
theorem Tab.mem_set {α : Type} [DecidableEq α] (t : Tab α) (d : α) (k : Nat) (x : α) (p : Nat × α)
    (h : p ∈ Tab.set t d k x) : (p = (k, x) ∧ x ≠ d) ∨ p ∈ t := by
  by_cases hx : x = d
  · simp only [Tab.set, hx, if_true] at h
    exact .inr (Tab.mem_erase _ _ _ h)
  · simp only [Tab.set, hx, if_false, Tab.put] at h
    exact (Tab.mem_insert _ _ _ _ h).imp (fun e => ⟨e, hx⟩) (Tab.mem_erase _ _ _)

theorem Tab.sortedFrom_set {α : Type} [DecidableEq α] (t : Tab α) (d : α) (k : Nat) (x : α)
    (h : Tab.sortedFrom 0 t = true) : Tab.sortedFrom 0 (Tab.set t d k x) = true := by
  by_cases hx : x = d
  · simp only [Tab.set, hx, if_true]; exact Tab.sortedFrom_erase _ _ _ h
  · simp only [Tab.set, hx, if_false, Tab.put]
    exact Tab.sortedFrom_insert _ _ _ _ (Nat.zero_le _) (Tab.find_erase_same _ _) (Tab.sortedFrom_erase _ _ _ h)

theorem Memory.wf_setByte (m : Memory) (a : Nat) (b : Byte) (h : m.wf = true) : (m.setByte a b).wf = true := by
  rw [Memory.wf_iff] at *
  refine ⟨Tab.sortedFrom_set _ _ _ _ h.1, fun p hp => ?_, h.2.2⟩
  rcases Tab.mem_set _ _ _ _ _ hp with ⟨rfl, hd⟩ | hm
  · exact hd
  · exact h.2.1 p hm

@[simp] theorem Memory.byte_setByte (m : Memory) (a k : Nat) (b : Byte) :
    (m.setByte a b).byte k = if k = a then b else m.byte k := by
  by_cases h : k = a
  · subst h; simp [Memory.byte, Memory.setByte, Memory.base]
  · simp only [h, if_false]
    have hf : Tab.find (Tab.set m.cells (m.base a) a b) k = Tab.find m.cells k := by
      by_cases hb : b = m.base a
      · simp [Tab.set, hb, Tab.find_erase_other _ h]
      · simp [Tab.set, hb, Tab.find_put_other _ _ h]
    show (Tab.find (Tab.set m.cells (m.base a) a b) k).getD (m.base k) = (Tab.find m.cells k).getD (m.base k)
    rw [hf]

theorem Memory.wf_write (bs : List Byte) : ∀ (m : Memory) (a : Nat), m.wf = true → (m.write a bs).wf = true := by
  induction bs with
  | nil => intro m a h; exact h
  | cons b r ih => intro m a h; exact ih _ _ (Memory.wf_setByte m a b h)

/-- A store changes the bytes it covers and no other. -/
theorem Memory.byte_write (bs : List Byte) : ∀ (m : Memory) (a k : Nat),
    (m.write a bs).byte k = if a ≤ k then ((bs[k - a]?).getD (m.byte k)) else m.byte k := by
  induction bs with
  | nil => intro m a k; simp [Memory.write]
  | cons b r ih =>
    intro m a k
    rw [Memory.write, ih, Memory.byte_setByte]
    by_cases h1 : k = a
    · subst h1; simp [show ¬ k + 1 ≤ k by omega]
    · by_cases h2 : a ≤ k
      · obtain ⟨j, rfl⟩ : ∃ j, k = a + 1 + j := ⟨k - a - 1, by omega⟩
        simp [show a + 1 + j ≠ a by omega, show a ≤ a + 1 + j by omega, show a + 1 + j - a = j + 1 by omega]
      · simp [h1, h2, show ¬ a + 1 ≤ k by omega]

theorem Memory.wf_mark (m : Memory) (g : Nat) (p : Bool) (h : m.wf = true) : (m.mark g p).wf = true := by
  rw [Memory.wf_iff] at *
  exact ⟨h.1, h.2.1, Tab.canon_set _ _ _ _ h.2.2⟩

@[simp] theorem Memory.byte_mark (m : Memory) (g k : Nat) (p : Bool) : (m.mark g p).byte k = m.byte k := rfl

theorem Memory.markStore_induct (P : Memory → Prop) (m : Memory) (a n : Nat) (p : Bool) (h0 : P m)
    (hs : ∀ m g p, P m → P (m.mark g p)) : P (m.markStore a n p) := by
  unfold Memory.markStore
  generalize granules a n = l
  induction l generalizing m with
  | nil => exact h0
  | cons g l ih =>
    refine ih _ ?_
    dsimp only
    split
    · exact hs _ _ _ h0
    · split
      · exact hs _ _ _ h0
      · exact h0

theorem Memory.wf_markStore (m : Memory) (a n : Nat) (p : Bool) (h : m.wf = true) : (m.markStore a n p).wf = true :=
  Memory.markStore_induct (fun m => m.wf = true) m a n p h fun m g p h => Memory.wf_mark m g p h

@[simp] theorem Memory.byte_markStore (m : Memory) (a n k : Nat) (p : Bool) : (m.markStore a n p).byte k = m.byte k :=
  Memory.markStore_induct (fun x => x.byte k = m.byte k) m a n p rfl fun _ _ _ h => h

theorem Fog.holds_iff (f : Fog) (k : Nat) : f.holds k = true ↔ f.base ≤ k ∧ k < f.base + f.len := by
  unfold Fog.holds
  rw [Bool.and_eq_true, decide_eq_true_iff, decide_eq_true_iff]

theorem Fog.not_holds_iff (f : Fog) (k : Nat) : f.holds k = false ↔ ¬ (f.base ≤ k ∧ k < f.base + f.len) := by
  rw [← Fog.holds_iff, Bool.not_eq_true]

/-- Outside a span, the parts an undefined range leaves hold the addresses the range held. -/
theorem Fog.minus_holds (f : Fog) (a n k : Nat) (hk : ¬ (a ≤ k ∧ k < a + n)) :
    ((f.minus a n).find? fun x => x.holds k).map (fun x => x.seed) = if f.holds k then some f.seed else none := by
  unfold Fog.minus
  dsimp only
  split
  · by_cases h : f.holds k = true <;> simp [h]
  · have e : ∀ x : Fog, decide (decide (0 < x.len) = true ∧ x.holds k = true) = x.holds k := by
      intro x
      cases h : x.holds k with
      | false => exact decide_eq_false fun g => Bool.noConfusion g.2
      | true =>
        have := (Fog.holds_iff x k).1 h
        exact decide_eq_true ⟨decide_eq_true (by omega), rfl⟩
    rw [List.find?_filter]
    simp only [e]
    cases h : f.holds k with
    | false =>
      have h0 := (Fog.not_holds_iff f k).1 h
      have h1 : (Fog.mk f.base (min f.len (a - f.base)) f.seed).holds k = false := by
        rw [Fog.not_holds_iff]; dsimp only; omega
      have h2 : (Fog.mk (max f.base (a + n)) (f.base + f.len - max f.base (a + n)) f.seed).holds k = false := by
        rw [Fog.not_holds_iff]; dsimp only; omega
      rw [List.find?_cons, h1, List.find?_cons, h2]; rfl
    | true =>
      have h0 := (Fog.holds_iff f k).1 h
      by_cases ha : k < a
      · have h1 : (Fog.mk f.base (min f.len (a - f.base)) f.seed).holds k = true := by
          rw [Fog.holds_iff]; dsimp only; omega
        rw [List.find?_cons, h1]; rfl
      · have h1 : (Fog.mk f.base (min f.len (a - f.base)) f.seed).holds k = false := by
          rw [Fog.not_holds_iff]; dsimp only; omega
        have h2 : (Fog.mk (max f.base (a + n)) (f.base + f.len - max f.base (a + n)) f.seed).holds k = true := by
          rw [Fog.holds_iff]; dsimp only; omega
        rw [List.find?_cons, h1, List.find?_cons, h2]; rfl

theorem Memory.base_clear (m : Memory) (a n k : Nat) (hk : ¬ (a ≤ k ∧ k < a + n)) : (m.clear a n).base k = m.base k := by
  have key : ∀ l : List Fog, ((l.flatMap fun f => f.minus a n).find? fun f => f.holds k).map (fun x => x.seed)
      = (l.find? fun f => f.holds k).map (fun x => x.seed) := by
    intro l
    induction l with
    | nil => rfl
    | cons f l ih =>
      have h := Fog.minus_holds f a n k hk
      rw [List.flatMap_cons, List.find?_append, List.find?_cons]
      cases hf : (f.minus a n).find? fun x => x.holds k with
      | none =>
        rw [hf] at h
        by_cases hh : f.holds k = true
        · simp [hh] at h
        · simpa [hh] using ih
      | some x =>
        rw [hf] at h
        by_cases hh : f.holds k = true
        · simpa [hh] using h
        · simp [hh] at h
  have := key m.fog
  unfold Memory.base Memory.clear
  revert this
  dsimp only
  cases (m.fog.flatMap fun f => f.minus a n).find? fun f => f.holds k <;>
    cases m.fog.find? fun f => f.holds k <;> simp_all

theorem Memory.wf_clear (m : Memory) (a n : Nat) (h : m.wf = true) : (m.clear a n).wf = true := by
  rw [Memory.wf_iff] at *
  refine ⟨Tab.sortedFrom_keep (fun k _ => !(decide (a ≤ k) && decide (k < a + n))) m.cells 0 h.1, fun p hp => ?_,
    Tab.canon_keep false (fun k _ => !(decide (a ≤ k) && decide (k < a + n))) m.poison h.2.2⟩
  obtain ⟨hm, ho⟩ := List.mem_filter.1 hp
  have ho : ¬ (a ≤ p.1 ∧ p.1 < a + n) := by
    rw [Bool.not_eq_true', Bool.and_eq_false_iff, decide_eq_false_iff_not, decide_eq_false_iff_not] at ho; omega
  rw [Memory.base_clear m a n p.1 ho]
  exact h.2.1 p hm

theorem Memory.wf_blur (m : Memory) (a n seed : Nat) (h : m.wf = true) : (m.blur a n seed).wf = true := by
  have hc := Memory.wf_clear m a n h
  rw [Memory.wf_iff] at *
  refine ⟨hc.1, fun p hp => ?_, hc.2.2⟩
  have ho : ¬ (a ≤ p.1 ∧ p.1 < a + n) := by
    have ho := (List.mem_filter.1 hp).2
    rw [Bool.not_eq_true', Bool.and_eq_false_iff, decide_eq_false_iff_not, decide_eq_false_iff_not] at ho; omega
  have hb : (m.blur a n seed).base p.1 = (m.clear a n).base p.1 := by
    have hh : (Fog.mk a n seed).holds p.1 = false := by
      simp only [Fog.holds, Bool.and_eq_false_iff, decide_eq_false_iff_not]; omega
    simp only [Memory.base, Memory.blur, List.find?_append, List.find?_cons, hh, List.find?_nil, Option.or_none]
  rw [hb]
  exact hc.2.1 p hp

theorem Tab.find_keep {α : Type} (p : Nat → α → Bool) (t : Tab α) (k : Nat) (hp : ∀ v, p k v = true) :
    Tab.find (Tab.keep p t) k = Tab.find t k := by
  induction t with
  | nil => rfl
  | cons e t ih =>
    obtain ⟨q, v⟩ := e
    simp only [Tab.keep] at ih
    by_cases hq : q = k
    · subst hq; simp [Tab.keep, hp, Tab.find]
    · by_cases hk : p q v = true <;> simp [Tab.keep, Tab.find, hq, hk, ih]

theorem Tab.find_keep_out {α : Type} (p : Nat → α → Bool) (t : Tab α) (k : Nat) (hp : ∀ v, p k v = false) :
    Tab.find (Tab.keep p t) k = none := by
  induction t with
  | nil => rfl
  | cons e t ih =>
    obtain ⟨q, v⟩ := e
    simp only [Tab.keep] at ih
    by_cases hq : q = k
    · subst hq; simp [Tab.keep, hp, ih]
    · by_cases hk : p q v = true <;> simp [Tab.keep, Tab.find, hq, hk, ih]

/-- Bytes outside a cleared range read as before. -/
theorem Memory.byte_clear_other (m : Memory) (a n k : Nat) (hk : ¬ (a ≤ k ∧ k < a + n)) : (m.clear a n).byte k = m.byte k := by
  unfold Memory.byte
  rw [Memory.base_clear m a n k hk]
  unfold Tab.get
  rw [show (m.clear a n).cells = Tab.outside m.cells a n from rfl, Tab.outside, Tab.find_keep]
  intro v
  simp only [Bool.not_eq_true', Bool.and_eq_false_iff, decide_eq_false_iff_not]
  omega

theorem State.reset_memory_wf : State.reset.mem.wf = true := rfl

theorem State.store_memory_wf (s : State) (a : Nat) (bs : List Byte) (p : Bool) (h : s.mem.wf = true) :
    (s.store a bs p).mem.wf = true := Memory.wf_markStore _ _ _ _ (Memory.wf_write bs _ _ h)

theorem State.clearMem_memory_wf (s : State) (a n : Nat) (h : s.mem.wf = true) : (s.clearMem a n).mem.wf = true :=
  Memory.wf_clear _ _ _ h

theorem State.blurMem_memory_wf (s : State) (a n : Nat) (h : s.mem.wf = true) : (s.blurMem a n).mem.wf = true :=
  Memory.wf_blur _ _ _ _ h

end Sys2Proof.Machine
end

