-- ==== Sys2Proof/Laws/Ops.lean ====
section
/-! SUPPORT. All that the shared operations can do, once each: what they change is named, and the rest is as it was. -/
namespace Sys2Proof.Machine

/-! ### What goes out, dictionary values -/

/-- Sending changes the list of what was sent, and nothing else. -/
theorem State.emit_shape (s : State) (e : Emit) : ∃ o, s.emit e = { s with out := o } := by
  unfold State.emit
  split
  · exact ⟨s.out, rfl⟩
  · exact ⟨_, rfl⟩

/-- A message signalled is sent, or pends. -/
theorem State.signalAt_shape (s : State) (fn vector vi : Nat) (vc1 : Bool) :
    ∃ o p, s.signalAt fn vector vi vc1 = { s with out := o, nvme.msixPend := p } := by
  unfold State.signalAt
  split
  · obtain ⟨o, h⟩ := State.emit_shape s (.msix fn vector vc1)
    exact ⟨o, s.nvme.msixPend, h⟩
  · split
    · exact ⟨s.out, s.nvme.msixPend, rfl⟩
    · exact ⟨s.out, _, rfl⟩

/-- Counting changes the dictionary's values, and nothing else. -/
theorem State.fbump_shape (s : State) (fn idx sub n : Nat) : ∃ v, s.fbump fn idx sub n = { s with dict.vals := v } := ⟨_, rfl⟩

theorem State.bump_shape (s : State) (idx sub : Nat) : ∃ v, s.bump idx sub = { s with dict.vals := v } := ⟨_, rfl⟩

theorem State.setVal_shape (s : State) (idx sub v : Nat) : ∃ t, s.setVal idx sub v = { s with dict.vals := t } := ⟨_, rfl⟩

/-- An entry that was given a value holds it; the record of SUBNQN follows the subsystem's serial number instead (R108). -/
@[simp] theorem State.fval_setFval (s : State) (fn idx sub v : Nat) (hq : idx ≠ 0x3020) :
    (s.setFval fn idx sub v).fval fn idx sub = v := by
  by_cases h : v = entryDefault fn idx sub <;> simp [State.fval, State.setFval, Tab.set, h, hq, Tab.find_erase_same]

/-- Every other entry holds what it held. -/
theorem State.fval_setFval_other (s : State) (fn idx sub v fn' idx' sub' : Nat) (hq : idx' ≠ 0x3020)
    (h : ekey fn' idx' sub' ≠ ekey fn idx sub) : (s.setFval fn idx sub v).fval fn' idx' sub' = s.fval fn' idx' sub' := by
  by_cases hv : v = entryDefault fn idx sub <;>
    simp [State.fval, State.setFval, Tab.set, hv, hq, Tab.find_erase_other _ h, Tab.find_put_other _ _ h]

/-- Functions, indexes and subindexes within their widths have keys of their own. -/
theorem ekey_inj {fn idx sub fn' idx' sub' : Nat} (hi : idx < 2 ^ 16) (hs : sub < 2 ^ 8) (hi' : idx' < 2 ^ 16) (hs' : sub' < 2 ^ 8)
    (h : ekey fn idx sub = ekey fn' idx' sub') : fn = fn' ∧ idx = idx' ∧ sub = sub' := by
  unfold ekey at h; omega

/-! ### The Strait -/

/-- Sending what waits changes the Strait's state and what was sent, and nothing else. -/
theorem State.pumpN_shape : ∀ (n : Nat) (s : State), ∃ t o, State.pumpN n s = { s with twin := t, out := o }
  | 0, s => ⟨s.twin, s.out, rfl⟩
  | n + 1, s => by
    unfold State.pumpN
    dsimp only
    split
    · exact ⟨s.twin, s.out, rfl⟩
    · split
      · exact ⟨s.twin, s.out, rfl⟩
      · rename_i f _
        obtain ⟨t, o, h⟩ := State.pumpN_shape n (({ s with
          twin.waiting := s.twin.waiting.erase f
          twin.replay := s.twin.replay ++ [(s.twin.txSeq, f)]
          twin.txSeq := s.twin.txSeq + 1
          twin.credits := s.twin.credits.setIfInBounds f.cls (s.twin.credit f.cls - 1) }).sendFrame (s.twin.txSeq, f))
        exact ⟨t, o, h⟩

theorem State.strait_shape (s : State) (cls type : Nat) (b : List Byte) : ∃ t o, s.strait cls type b = { s with twin := t, out := o } := by
  obtain ⟨t, o, h⟩ := State.pumpN_shape _ { s with twin.waiting := s.twin.waiting ++ [TxFrame.mk cls type b false] }
  exact ⟨t, o, h⟩

theorem State.straitUrgent_shape (s : State) (cls type : Nat) (b : List Byte) :
    ∃ t o, s.straitUrgent cls type b = { s with twin := t, out := o } := by
  obtain ⟨t, o, h⟩ := State.pumpN_shape _ { s with twin.waiting := s.twin.waiting ++ [TxFrame.mk cls type b true] }
  exact ⟨t, o, h⟩

/-! ### The event controller -/

/-- What an event can reach: the event controller, what was sent, the pending messages, the Strait and the dictionary's counters. -/
def State.Evented (s t : State) : Prop :=
  ∃ e o p w v, t = { s with ev := e, out := o, nvme.msixPend := p, twin := w, dict.vals := v }

theorem State.Evented.refl (s : State) : s.Evented s := ⟨s.ev, s.out, s.nvme.msixPend, s.twin, s.dict.vals, rfl⟩

theorem State.Evented.trans {s t u : State} (h : s.Evented t) (k : t.Evented u) : s.Evented u := by
  obtain ⟨e, o, p, w, v, rfl⟩ := h
  obtain ⟨e', o', p', w', v', rfl⟩ := k
  exact ⟨e', o', p', w', v', rfl⟩

theorem State.Evented.ofEv (s : State) (e : Events) : s.Evented { s with ev := e } := ⟨e, s.out, s.nvme.msixPend, s.twin, s.dict.vals, rfl⟩

theorem State.Evented.ofBump (s : State) (idx sub : Nat) : s.Evented (s.bump idx sub) :=
  ⟨s.ev, s.out, s.nvme.msixPend, s.twin, _, rfl⟩

theorem State.Evented.ofSignal (s : State) (fn vector vi : Nat) (vc1 : Bool) : s.Evented (s.signalAt fn vector vi vc1) := by
  obtain ⟨o, p, h⟩ := State.signalAt_shape s fn vector vi vc1
  exact ⟨s.ev, o, p, s.twin, s.dict.vals, h⟩

theorem State.Evented.foldl {α : Type} (f : State → α → State) (hf : ∀ (s : State) (a : α), s.Evented (f s a)) :
    ∀ (l : List α) (s : State), s.Evented (l.foldl f s)
  | [], s => .refl s
  | a :: l, s => (hf s a).trans (State.Evented.foldl f hf l (f s a))

theorem State.refreshLines_shape (s : State) : s.Evented s.refreshLines := by
  refine State.Evented.foldl _ (fun s n => ?_) _ s
  dsimp only
  split
  · exact (State.Evented.ofEv s _).trans (.ofSignal _ _ _ _ _)
  · exact .ofEv s _

/-- A notification. -/
theorem State.notify_shape (s : State) (src : Nat) : s.Evented (s.notify src) := by
  unfold State.notify
  dsimp only
  split
  · refine (State.Evented.ofEv s { s.ev with latch := setSrc s.ev.latch src false }).trans ?_
    generalize ({ s with ev := { s.ev with latch := setSrc s.ev.latch src false } } : State) = s'
    split
    iterate 3
      · obtain ⟨t, o, h⟩ := State.strait_shape s' 0 0x0B _
        exact ⟨s'.ev, o, s'.nvme.msixPend, t, s'.dict.vals, h⟩
    · exact .ofBump _ _ _
  · exact State.refreshLines_shape s

theorem State.arm_shape (s : State) (src : Nat) : s.Evented (s.arm src) := by
  unfold State.arm
  dsimp only
  split
  · exact .refl s
  · split
    · exact State.notify_shape s src
    · split
      · exact (State.Evented.ofEv s _).trans (State.notify_shape _ src)
      · exact (State.Evented.ofEv s _).trans (.ofBump _ _ _)

/-- An event. -/
theorem State.fire_shape (s : State) (src : Nat) : s.Evented (s.fire src) := by
  unfold State.fire
  split
  · exact .refl s
  · exact (State.Evented.ofEv s _).trans (State.arm_shape _ src)

theorem State.setLevel_shape (s : State) (src : Nat) (on : Bool) : s.Evented (s.setLevel src on) := by
  unfold State.setLevel
  dsimp only
  split
  · exact (State.Evented.ofEv s _).trans (State.arm_shape _ src)
  · split
    · exact (State.Evented.ofEv s { s.ev with level := setSrc s.ev.level src on, waiting := setSrc s.ev.waiting src false }).trans
        (State.refreshLines_shape _)
    · exact .ofEv s _

/-! ### Errors -/

/-- What an error can reach: the records and buckets, and what an event can. -/
def State.Recorded (s t : State) : Prop := ∃ i, ({ s with integ := i } : State).Evented t

theorem State.Evented.recorded {s t : State} (h : s.Evented t) : s.Recorded t := ⟨s.integ, h⟩

theorem State.Recorded.ofInteg (s : State) (i : Integ) : s.Recorded { s with integ := i } := ⟨i, .refl _⟩

theorem State.Recorded.trans {s t u : State} (h : s.Recorded t) (k : t.Recorded u) : s.Recorded u := by
  obtain ⟨i, e, o, p, w, v, rfl⟩ := h
  obtain ⟨i', e', o', p', w', v', rfl⟩ := k
  exact ⟨i', e', o', p', w', v', rfl⟩

/-- An error record. -/
theorem State.record_shape (s : State) (kind cls inst : Nat) (q : Requester) (addr extra : Nat) :
    s.Recorded (s.record kind cls inst q addr extra) := by
  unfold State.record
  split
  · exact .ofInteg s _
  · exact ((State.Evented.ofBump s _ _).trans (State.fire_shape _ _)).recorded

theorem State.payloadError_shape (s : State) (cls inst : Nat) (q : Requester) (addr : Nat) :
    s.Recorded (s.payloadError cls inst q addr) :=
  ((State.Evented.ofBump s _ _).recorded.trans (State.record_shape _ _ _ _ _ _ _)).trans (State.fire_shape _ _).recorded

theorem State.busError_shape (s : State) (cls inst : Nat) (q : Requester) (addr : Nat) :
    s.Recorded (s.busError cls inst q addr) :=
  ((State.Evented.ofBump s _ _).recorded.trans (State.record_shape _ _ _ _ _ _ _)).trans (State.fire_shape _ _).recorded

theorem State.controlError_shape (s : State) (cls inst : Nat) (q : Requester) (addr : Nat) :
    s.Recorded (s.controlError cls inst q addr) :=
  (State.Evented.ofBump s _ _).recorded.trans (State.busError_shape _ _ _ _ _)

theorem State.consumed_shape (s : State) (q : Requester) (addr extra : Nat) : s.Recorded (s.consumed q addr extra) :=
  ((State.Evented.ofBump s _ _).recorded.trans (State.record_shape _ _ _ _ _ _ _)).trans (State.fire_shape _ _).recorded

theorem State.exported_shape (s : State) (q : Requester) (addr : Nat) : s.Recorded (s.exported q addr) :=
  (State.Evented.ofBump s _ _).recorded.trans (State.record_shape _ _ _ _ _ _ _)

theorem State.corrected_shape (s : State) (cls inst : Nat) (q : Requester) (addr : Nat) :
    s.Recorded (s.corrected cls inst q addr) := by
  refine (State.Evented.ofBump s (0x9100 + inst) 1).recorded.trans ?_
  unfold State.corrected
  dsimp only
  split
  · exact State.record_shape _ _ _ _ _ _ _
  · split
    · exact ((State.Recorded.ofInteg _ _).trans
        ((State.Evented.ofBump _ _ _).recorded.trans (State.record_shape _ _ _ _ _ _ _))).trans (State.fire_shape _ _).recorded
    · exact .ofInteg _ _

/-- An uncorrectable error in payload also marks its granule; every byte reads as before. -/
theorem State.uncorrectableAt_shape (s : State) (cls inst : Nat) (q : Requester) (place addr : Nat) :
    ({ s with mem := s.mem.mark (place / granuleAt place * granuleAt place) true } : State).Recorded
      (s.uncorrectableAt cls inst q place addr) := State.payloadError_shape _ _ _ _ _

/-! ### A command's end -/

/-- A command that is done answers its effect, with the queue as it was. -/
@[simp] theorem State.done_eq (s t : State) : s.done t = .next { t with pending := s.pending } := rfl

end Sys2Proof.Machine
end

