-- ==== Sys2Proof/Laws/State.lean ====
section
/-! SUPPORT. What the named updates of the state leave alone, one lemma for each field and update, so that no proof has to unfold
a record update; and what each update writes. -/
namespace Sys2Proof.Machine

@[simp] theorem State.setPool_writes_bpm_pools (s : State) (p : Nat) (x : Pool) : (s.setPool p x).bpm.pools = Tab.set s.bpm.pools Pool.init p x := rfl
@[simp] theorem State.setPool_pkg (s : State) (p : Nat) (x : Pool) : (s.setPool p x).pkg = s.pkg := rfl
@[simp] theorem State.setPool_dict (s : State) (p : Nat) (x : Pool) : (s.setPool p x).dict = s.dict := rfl
@[simp] theorem State.setPool_ev (s : State) (p : Nat) (x : Pool) : (s.setPool p x).ev = s.ev := rfl
@[simp] theorem State.setPool_flash (s : State) (p : Nat) (x : Pool) : (s.setPool p x).flash = s.flash := rfl
@[simp] theorem State.setPool_media (s : State) (p : Nat) (x : Pool) : (s.setPool p x).media = s.media := rfl
@[simp] theorem State.setPool_cs (s : State) (p : Nat) (x : Pool) : (s.setPool p x).cs = s.cs := rfl
@[simp] theorem State.setPool_sets (s : State) (p : Nat) (x : Pool) : (s.setPool p x).sets = s.sets := rfl
@[simp] theorem State.setPool_nvme (s : State) (p : Nat) (x : Pool) : (s.setPool p x).nvme = s.nvme := rfl
@[simp] theorem State.setPool_hold (s : State) (p : Nat) (x : Pool) : (s.setPool p x).hold = s.hold := rfl
@[simp] theorem State.setPool_twin (s : State) (p : Nat) (x : Pool) : (s.setPool p x).twin = s.twin := rfl
@[simp] theorem State.setPool_integ (s : State) (p : Nat) (x : Pool) : (s.setPool p x).integ = s.integ := rfl
@[simp] theorem State.setPool_cores (s : State) (p : Nat) (x : Pool) : (s.setPool p x).cores = s.cores := rfl
@[simp] theorem State.setPool_sched (s : State) (p : Nat) (x : Pool) : (s.setPool p x).sched = s.sched := rfl
@[simp] theorem State.setPool_eng (s : State) (p : Nat) (x : Pool) : (s.setPool p x).eng = s.eng := rfl
@[simp] theorem State.setPool_vault (s : State) (p : Nat) (x : Pool) : (s.setPool p x).vault = s.vault := rfl
@[simp] theorem State.setPool_tern (s : State) (p : Nat) (x : Pool) : (s.setPool p x).tern = s.tern := rfl
@[simp] theorem State.setPool_dram (s : State) (p : Nat) (x : Pool) : (s.setPool p x).dram = s.dram := rfl
@[simp] theorem State.setPool_mem (s : State) (p : Nat) (x : Pool) : (s.setPool p x).mem = s.mem := rfl
@[simp] theorem State.setPool_out (s : State) (p : Nat) (x : Pool) : (s.setPool p x).out = s.out := rfl
@[simp] theorem State.setPool_free (s : State) (p : Nat) (x : Pool) : (s.setPool p x).free = s.free := rfl
@[simp] theorem State.setPool_pending (s : State) (p : Nat) (x : Pool) : (s.setPool p x).pending = s.pending := rfl

@[simp] theorem State.setBuf_writes_bpm_bufs (s : State) (p i : Nat) (b : Buf) : (s.setBuf p i b).bpm.bufs = Tab.set s.bpm.bufs Buf.init (p * 2 ^ 21 + i) b := rfl
@[simp] theorem State.setBuf_pkg (s : State) (p i : Nat) (b : Buf) : (s.setBuf p i b).pkg = s.pkg := rfl
@[simp] theorem State.setBuf_dict (s : State) (p i : Nat) (b : Buf) : (s.setBuf p i b).dict = s.dict := rfl
@[simp] theorem State.setBuf_ev (s : State) (p i : Nat) (b : Buf) : (s.setBuf p i b).ev = s.ev := rfl
@[simp] theorem State.setBuf_flash (s : State) (p i : Nat) (b : Buf) : (s.setBuf p i b).flash = s.flash := rfl
@[simp] theorem State.setBuf_media (s : State) (p i : Nat) (b : Buf) : (s.setBuf p i b).media = s.media := rfl
@[simp] theorem State.setBuf_cs (s : State) (p i : Nat) (b : Buf) : (s.setBuf p i b).cs = s.cs := rfl
@[simp] theorem State.setBuf_sets (s : State) (p i : Nat) (b : Buf) : (s.setBuf p i b).sets = s.sets := rfl
@[simp] theorem State.setBuf_nvme (s : State) (p i : Nat) (b : Buf) : (s.setBuf p i b).nvme = s.nvme := rfl
@[simp] theorem State.setBuf_hold (s : State) (p i : Nat) (b : Buf) : (s.setBuf p i b).hold = s.hold := rfl
@[simp] theorem State.setBuf_twin (s : State) (p i : Nat) (b : Buf) : (s.setBuf p i b).twin = s.twin := rfl
@[simp] theorem State.setBuf_integ (s : State) (p i : Nat) (b : Buf) : (s.setBuf p i b).integ = s.integ := rfl
@[simp] theorem State.setBuf_cores (s : State) (p i : Nat) (b : Buf) : (s.setBuf p i b).cores = s.cores := rfl
@[simp] theorem State.setBuf_sched (s : State) (p i : Nat) (b : Buf) : (s.setBuf p i b).sched = s.sched := rfl
@[simp] theorem State.setBuf_eng (s : State) (p i : Nat) (b : Buf) : (s.setBuf p i b).eng = s.eng := rfl
@[simp] theorem State.setBuf_vault (s : State) (p i : Nat) (b : Buf) : (s.setBuf p i b).vault = s.vault := rfl
@[simp] theorem State.setBuf_tern (s : State) (p i : Nat) (b : Buf) : (s.setBuf p i b).tern = s.tern := rfl
@[simp] theorem State.setBuf_dram (s : State) (p i : Nat) (b : Buf) : (s.setBuf p i b).dram = s.dram := rfl
@[simp] theorem State.setBuf_mem (s : State) (p i : Nat) (b : Buf) : (s.setBuf p i b).mem = s.mem := rfl
@[simp] theorem State.setBuf_out (s : State) (p i : Nat) (b : Buf) : (s.setBuf p i b).out = s.out := rfl
@[simp] theorem State.setBuf_free (s : State) (p i : Nat) (b : Buf) : (s.setBuf p i b).free = s.free := rfl
@[simp] theorem State.setBuf_pending (s : State) (p i : Nat) (b : Buf) : (s.setBuf p i b).pending = s.pending := rfl

@[simp] theorem State.setRegionCache_writes_bpm_caches (s : State) (r : Nat) (l : List Nat) : (s.setRegionCache r l).bpm.caches = s.bpm.caches.setIfInBounds r l := rfl
@[simp] theorem State.setRegionCache_pkg (s : State) (r : Nat) (l : List Nat) : (s.setRegionCache r l).pkg = s.pkg := rfl
@[simp] theorem State.setRegionCache_dict (s : State) (r : Nat) (l : List Nat) : (s.setRegionCache r l).dict = s.dict := rfl
@[simp] theorem State.setRegionCache_ev (s : State) (r : Nat) (l : List Nat) : (s.setRegionCache r l).ev = s.ev := rfl
@[simp] theorem State.setRegionCache_flash (s : State) (r : Nat) (l : List Nat) : (s.setRegionCache r l).flash = s.flash := rfl
@[simp] theorem State.setRegionCache_media (s : State) (r : Nat) (l : List Nat) : (s.setRegionCache r l).media = s.media := rfl
@[simp] theorem State.setRegionCache_cs (s : State) (r : Nat) (l : List Nat) : (s.setRegionCache r l).cs = s.cs := rfl
@[simp] theorem State.setRegionCache_sets (s : State) (r : Nat) (l : List Nat) : (s.setRegionCache r l).sets = s.sets := rfl
@[simp] theorem State.setRegionCache_nvme (s : State) (r : Nat) (l : List Nat) : (s.setRegionCache r l).nvme = s.nvme := rfl
@[simp] theorem State.setRegionCache_hold (s : State) (r : Nat) (l : List Nat) : (s.setRegionCache r l).hold = s.hold := rfl
@[simp] theorem State.setRegionCache_twin (s : State) (r : Nat) (l : List Nat) : (s.setRegionCache r l).twin = s.twin := rfl
@[simp] theorem State.setRegionCache_integ (s : State) (r : Nat) (l : List Nat) : (s.setRegionCache r l).integ = s.integ := rfl
@[simp] theorem State.setRegionCache_cores (s : State) (r : Nat) (l : List Nat) : (s.setRegionCache r l).cores = s.cores := rfl
@[simp] theorem State.setRegionCache_sched (s : State) (r : Nat) (l : List Nat) : (s.setRegionCache r l).sched = s.sched := rfl
@[simp] theorem State.setRegionCache_eng (s : State) (r : Nat) (l : List Nat) : (s.setRegionCache r l).eng = s.eng := rfl
@[simp] theorem State.setRegionCache_vault (s : State) (r : Nat) (l : List Nat) : (s.setRegionCache r l).vault = s.vault := rfl
@[simp] theorem State.setRegionCache_tern (s : State) (r : Nat) (l : List Nat) : (s.setRegionCache r l).tern = s.tern := rfl
@[simp] theorem State.setRegionCache_dram (s : State) (r : Nat) (l : List Nat) : (s.setRegionCache r l).dram = s.dram := rfl
@[simp] theorem State.setRegionCache_mem (s : State) (r : Nat) (l : List Nat) : (s.setRegionCache r l).mem = s.mem := rfl
@[simp] theorem State.setRegionCache_out (s : State) (r : Nat) (l : List Nat) : (s.setRegionCache r l).out = s.out := rfl
@[simp] theorem State.setRegionCache_free (s : State) (r : Nat) (l : List Nat) : (s.setRegionCache r l).free = s.free := rfl
@[simp] theorem State.setRegionCache_pending (s : State) (r : Nat) (l : List Nat) : (s.setRegionCache r l).pending = s.pending := rfl

@[simp] theorem State.setKeySlot_writes_vault_slots (s : State) (k : Nat) (x : KeySlot) : (s.setKeySlot k x).vault.slots = Tab.set s.vault.slots KeySlot.init k x := rfl
@[simp] theorem State.setKeySlot_pkg (s : State) (k : Nat) (x : KeySlot) : (s.setKeySlot k x).pkg = s.pkg := rfl
@[simp] theorem State.setKeySlot_dict (s : State) (k : Nat) (x : KeySlot) : (s.setKeySlot k x).dict = s.dict := rfl
@[simp] theorem State.setKeySlot_ev (s : State) (k : Nat) (x : KeySlot) : (s.setKeySlot k x).ev = s.ev := rfl
@[simp] theorem State.setKeySlot_flash (s : State) (k : Nat) (x : KeySlot) : (s.setKeySlot k x).flash = s.flash := rfl
@[simp] theorem State.setKeySlot_media (s : State) (k : Nat) (x : KeySlot) : (s.setKeySlot k x).media = s.media := rfl
@[simp] theorem State.setKeySlot_cs (s : State) (k : Nat) (x : KeySlot) : (s.setKeySlot k x).cs = s.cs := rfl
@[simp] theorem State.setKeySlot_sets (s : State) (k : Nat) (x : KeySlot) : (s.setKeySlot k x).sets = s.sets := rfl
@[simp] theorem State.setKeySlot_nvme (s : State) (k : Nat) (x : KeySlot) : (s.setKeySlot k x).nvme = s.nvme := rfl
@[simp] theorem State.setKeySlot_hold (s : State) (k : Nat) (x : KeySlot) : (s.setKeySlot k x).hold = s.hold := rfl
@[simp] theorem State.setKeySlot_twin (s : State) (k : Nat) (x : KeySlot) : (s.setKeySlot k x).twin = s.twin := rfl
@[simp] theorem State.setKeySlot_integ (s : State) (k : Nat) (x : KeySlot) : (s.setKeySlot k x).integ = s.integ := rfl
@[simp] theorem State.setKeySlot_cores (s : State) (k : Nat) (x : KeySlot) : (s.setKeySlot k x).cores = s.cores := rfl
@[simp] theorem State.setKeySlot_sched (s : State) (k : Nat) (x : KeySlot) : (s.setKeySlot k x).sched = s.sched := rfl
@[simp] theorem State.setKeySlot_eng (s : State) (k : Nat) (x : KeySlot) : (s.setKeySlot k x).eng = s.eng := rfl
@[simp] theorem State.setKeySlot_tern (s : State) (k : Nat) (x : KeySlot) : (s.setKeySlot k x).tern = s.tern := rfl
@[simp] theorem State.setKeySlot_dram (s : State) (k : Nat) (x : KeySlot) : (s.setKeySlot k x).dram = s.dram := rfl
@[simp] theorem State.setKeySlot_bpm (s : State) (k : Nat) (x : KeySlot) : (s.setKeySlot k x).bpm = s.bpm := rfl
@[simp] theorem State.setKeySlot_mem (s : State) (k : Nat) (x : KeySlot) : (s.setKeySlot k x).mem = s.mem := rfl
@[simp] theorem State.setKeySlot_out (s : State) (k : Nat) (x : KeySlot) : (s.setKeySlot k x).out = s.out := rfl
@[simp] theorem State.setKeySlot_free (s : State) (k : Nat) (x : KeySlot) : (s.setKeySlot k x).free = s.free := rfl
@[simp] theorem State.setKeySlot_pending (s : State) (k : Nat) (x : KeySlot) : (s.setKeySlot k x).pending = s.pending := rfl

@[simp] theorem State.setCore_writes_cores (s : State) (n : Nat) (c : Core) : (s.setCore n c).cores = Tab.put s.cores n c := rfl
@[simp] theorem State.setCore_pkg (s : State) (n : Nat) (c : Core) : (s.setCore n c).pkg = s.pkg := rfl
@[simp] theorem State.setCore_dict (s : State) (n : Nat) (c : Core) : (s.setCore n c).dict = s.dict := rfl
@[simp] theorem State.setCore_ev (s : State) (n : Nat) (c : Core) : (s.setCore n c).ev = s.ev := rfl
@[simp] theorem State.setCore_flash (s : State) (n : Nat) (c : Core) : (s.setCore n c).flash = s.flash := rfl
@[simp] theorem State.setCore_media (s : State) (n : Nat) (c : Core) : (s.setCore n c).media = s.media := rfl
@[simp] theorem State.setCore_cs (s : State) (n : Nat) (c : Core) : (s.setCore n c).cs = s.cs := rfl
@[simp] theorem State.setCore_sets (s : State) (n : Nat) (c : Core) : (s.setCore n c).sets = s.sets := rfl
@[simp] theorem State.setCore_nvme (s : State) (n : Nat) (c : Core) : (s.setCore n c).nvme = s.nvme := rfl
@[simp] theorem State.setCore_hold (s : State) (n : Nat) (c : Core) : (s.setCore n c).hold = s.hold := rfl
@[simp] theorem State.setCore_twin (s : State) (n : Nat) (c : Core) : (s.setCore n c).twin = s.twin := rfl
@[simp] theorem State.setCore_integ (s : State) (n : Nat) (c : Core) : (s.setCore n c).integ = s.integ := rfl
@[simp] theorem State.setCore_sched (s : State) (n : Nat) (c : Core) : (s.setCore n c).sched = s.sched := rfl
@[simp] theorem State.setCore_eng (s : State) (n : Nat) (c : Core) : (s.setCore n c).eng = s.eng := rfl
@[simp] theorem State.setCore_vault (s : State) (n : Nat) (c : Core) : (s.setCore n c).vault = s.vault := rfl
@[simp] theorem State.setCore_tern (s : State) (n : Nat) (c : Core) : (s.setCore n c).tern = s.tern := rfl
@[simp] theorem State.setCore_dram (s : State) (n : Nat) (c : Core) : (s.setCore n c).dram = s.dram := rfl
@[simp] theorem State.setCore_bpm (s : State) (n : Nat) (c : Core) : (s.setCore n c).bpm = s.bpm := rfl
@[simp] theorem State.setCore_mem (s : State) (n : Nat) (c : Core) : (s.setCore n c).mem = s.mem := rfl
@[simp] theorem State.setCore_out (s : State) (n : Nat) (c : Core) : (s.setCore n c).out = s.out := rfl
@[simp] theorem State.setCore_free (s : State) (n : Nat) (c : Core) : (s.setCore n c).free = s.free := rfl
@[simp] theorem State.setCore_pending (s : State) (n : Nat) (c : Core) : (s.setCore n c).pending = s.pending := rfl

@[simp] theorem State.setDchan_writes_dram_chans (s : State) (c : Nat) (x : DramChan) : (s.setDchan c x).dram.chans = s.dram.chans.setIfInBounds c x := rfl
@[simp] theorem State.setDchan_pkg (s : State) (c : Nat) (x : DramChan) : (s.setDchan c x).pkg = s.pkg := rfl
@[simp] theorem State.setDchan_dict (s : State) (c : Nat) (x : DramChan) : (s.setDchan c x).dict = s.dict := rfl
@[simp] theorem State.setDchan_ev (s : State) (c : Nat) (x : DramChan) : (s.setDchan c x).ev = s.ev := rfl
@[simp] theorem State.setDchan_flash (s : State) (c : Nat) (x : DramChan) : (s.setDchan c x).flash = s.flash := rfl
@[simp] theorem State.setDchan_media (s : State) (c : Nat) (x : DramChan) : (s.setDchan c x).media = s.media := rfl
@[simp] theorem State.setDchan_cs (s : State) (c : Nat) (x : DramChan) : (s.setDchan c x).cs = s.cs := rfl
@[simp] theorem State.setDchan_sets (s : State) (c : Nat) (x : DramChan) : (s.setDchan c x).sets = s.sets := rfl
@[simp] theorem State.setDchan_nvme (s : State) (c : Nat) (x : DramChan) : (s.setDchan c x).nvme = s.nvme := rfl
@[simp] theorem State.setDchan_hold (s : State) (c : Nat) (x : DramChan) : (s.setDchan c x).hold = s.hold := rfl
@[simp] theorem State.setDchan_twin (s : State) (c : Nat) (x : DramChan) : (s.setDchan c x).twin = s.twin := rfl
@[simp] theorem State.setDchan_integ (s : State) (c : Nat) (x : DramChan) : (s.setDchan c x).integ = s.integ := rfl
@[simp] theorem State.setDchan_cores (s : State) (c : Nat) (x : DramChan) : (s.setDchan c x).cores = s.cores := rfl
@[simp] theorem State.setDchan_sched (s : State) (c : Nat) (x : DramChan) : (s.setDchan c x).sched = s.sched := rfl
@[simp] theorem State.setDchan_eng (s : State) (c : Nat) (x : DramChan) : (s.setDchan c x).eng = s.eng := rfl
@[simp] theorem State.setDchan_vault (s : State) (c : Nat) (x : DramChan) : (s.setDchan c x).vault = s.vault := rfl
@[simp] theorem State.setDchan_tern (s : State) (c : Nat) (x : DramChan) : (s.setDchan c x).tern = s.tern := rfl
@[simp] theorem State.setDchan_bpm (s : State) (c : Nat) (x : DramChan) : (s.setDchan c x).bpm = s.bpm := rfl
@[simp] theorem State.setDchan_mem (s : State) (c : Nat) (x : DramChan) : (s.setDchan c x).mem = s.mem := rfl
@[simp] theorem State.setDchan_out (s : State) (c : Nat) (x : DramChan) : (s.setDchan c x).out = s.out := rfl
@[simp] theorem State.setDchan_free (s : State) (c : Nat) (x : DramChan) : (s.setDchan c x).free = s.free := rfl
@[simp] theorem State.setDchan_pending (s : State) (c : Nat) (x : DramChan) : (s.setDchan c x).pending = s.pending := rfl

@[simp] theorem State.setEngine_writes_eng_engines (s : State) (ek : Nat) (e : Engine) : (s.setEngine ek e).eng.engines = Tab.put s.eng.engines ek e := rfl
@[simp] theorem State.setEngine_pkg (s : State) (ek : Nat) (e : Engine) : (s.setEngine ek e).pkg = s.pkg := rfl
@[simp] theorem State.setEngine_dict (s : State) (ek : Nat) (e : Engine) : (s.setEngine ek e).dict = s.dict := rfl
@[simp] theorem State.setEngine_ev (s : State) (ek : Nat) (e : Engine) : (s.setEngine ek e).ev = s.ev := rfl
@[simp] theorem State.setEngine_flash (s : State) (ek : Nat) (e : Engine) : (s.setEngine ek e).flash = s.flash := rfl
@[simp] theorem State.setEngine_media (s : State) (ek : Nat) (e : Engine) : (s.setEngine ek e).media = s.media := rfl
@[simp] theorem State.setEngine_cs (s : State) (ek : Nat) (e : Engine) : (s.setEngine ek e).cs = s.cs := rfl
@[simp] theorem State.setEngine_sets (s : State) (ek : Nat) (e : Engine) : (s.setEngine ek e).sets = s.sets := rfl
@[simp] theorem State.setEngine_nvme (s : State) (ek : Nat) (e : Engine) : (s.setEngine ek e).nvme = s.nvme := rfl
@[simp] theorem State.setEngine_hold (s : State) (ek : Nat) (e : Engine) : (s.setEngine ek e).hold = s.hold := rfl
@[simp] theorem State.setEngine_twin (s : State) (ek : Nat) (e : Engine) : (s.setEngine ek e).twin = s.twin := rfl
@[simp] theorem State.setEngine_integ (s : State) (ek : Nat) (e : Engine) : (s.setEngine ek e).integ = s.integ := rfl
@[simp] theorem State.setEngine_cores (s : State) (ek : Nat) (e : Engine) : (s.setEngine ek e).cores = s.cores := rfl
@[simp] theorem State.setEngine_sched (s : State) (ek : Nat) (e : Engine) : (s.setEngine ek e).sched = s.sched := rfl
@[simp] theorem State.setEngine_vault (s : State) (ek : Nat) (e : Engine) : (s.setEngine ek e).vault = s.vault := rfl
@[simp] theorem State.setEngine_tern (s : State) (ek : Nat) (e : Engine) : (s.setEngine ek e).tern = s.tern := rfl
@[simp] theorem State.setEngine_dram (s : State) (ek : Nat) (e : Engine) : (s.setEngine ek e).dram = s.dram := rfl
@[simp] theorem State.setEngine_bpm (s : State) (ek : Nat) (e : Engine) : (s.setEngine ek e).bpm = s.bpm := rfl
@[simp] theorem State.setEngine_mem (s : State) (ek : Nat) (e : Engine) : (s.setEngine ek e).mem = s.mem := rfl
@[simp] theorem State.setEngine_out (s : State) (ek : Nat) (e : Engine) : (s.setEngine ek e).out = s.out := rfl
@[simp] theorem State.setEngine_free (s : State) (ek : Nat) (e : Engine) : (s.setEngine ek e).free = s.free := rfl
@[simp] theorem State.setEngine_pending (s : State) (ek : Nat) (e : Engine) : (s.setEngine ek e).pending = s.pending := rfl

@[simp] theorem State.setQueue_writes_eng_queues (s : State) (qk : Nat) (q : EQueue) : (s.setQueue qk q).eng.queues = Tab.put s.eng.queues qk q := rfl
@[simp] theorem State.setQueue_pkg (s : State) (qk : Nat) (q : EQueue) : (s.setQueue qk q).pkg = s.pkg := rfl
@[simp] theorem State.setQueue_dict (s : State) (qk : Nat) (q : EQueue) : (s.setQueue qk q).dict = s.dict := rfl
@[simp] theorem State.setQueue_ev (s : State) (qk : Nat) (q : EQueue) : (s.setQueue qk q).ev = s.ev := rfl
@[simp] theorem State.setQueue_flash (s : State) (qk : Nat) (q : EQueue) : (s.setQueue qk q).flash = s.flash := rfl
@[simp] theorem State.setQueue_media (s : State) (qk : Nat) (q : EQueue) : (s.setQueue qk q).media = s.media := rfl
@[simp] theorem State.setQueue_cs (s : State) (qk : Nat) (q : EQueue) : (s.setQueue qk q).cs = s.cs := rfl
@[simp] theorem State.setQueue_sets (s : State) (qk : Nat) (q : EQueue) : (s.setQueue qk q).sets = s.sets := rfl
@[simp] theorem State.setQueue_nvme (s : State) (qk : Nat) (q : EQueue) : (s.setQueue qk q).nvme = s.nvme := rfl
@[simp] theorem State.setQueue_hold (s : State) (qk : Nat) (q : EQueue) : (s.setQueue qk q).hold = s.hold := rfl
@[simp] theorem State.setQueue_twin (s : State) (qk : Nat) (q : EQueue) : (s.setQueue qk q).twin = s.twin := rfl
@[simp] theorem State.setQueue_integ (s : State) (qk : Nat) (q : EQueue) : (s.setQueue qk q).integ = s.integ := rfl
@[simp] theorem State.setQueue_cores (s : State) (qk : Nat) (q : EQueue) : (s.setQueue qk q).cores = s.cores := rfl
@[simp] theorem State.setQueue_sched (s : State) (qk : Nat) (q : EQueue) : (s.setQueue qk q).sched = s.sched := rfl
@[simp] theorem State.setQueue_vault (s : State) (qk : Nat) (q : EQueue) : (s.setQueue qk q).vault = s.vault := rfl
@[simp] theorem State.setQueue_tern (s : State) (qk : Nat) (q : EQueue) : (s.setQueue qk q).tern = s.tern := rfl
@[simp] theorem State.setQueue_dram (s : State) (qk : Nat) (q : EQueue) : (s.setQueue qk q).dram = s.dram := rfl
@[simp] theorem State.setQueue_bpm (s : State) (qk : Nat) (q : EQueue) : (s.setQueue qk q).bpm = s.bpm := rfl
@[simp] theorem State.setQueue_mem (s : State) (qk : Nat) (q : EQueue) : (s.setQueue qk q).mem = s.mem := rfl
@[simp] theorem State.setQueue_out (s : State) (qk : Nat) (q : EQueue) : (s.setQueue qk q).out = s.out := rfl
@[simp] theorem State.setQueue_free (s : State) (qk : Nat) (q : EQueue) : (s.setQueue qk q).free = s.free := rfl
@[simp] theorem State.setQueue_pending (s : State) (qk : Nat) (q : EQueue) : (s.setQueue qk q).pending = s.pending := rfl

@[simp] theorem State.setActive_writes_ev_active (s : State) (src : Nat) (b : Bool) : (s.setActive src b).ev.active = setSrc s.ev.active src b := rfl
@[simp] theorem State.setActive_pkg (s : State) (src : Nat) (b : Bool) : (s.setActive src b).pkg = s.pkg := rfl
@[simp] theorem State.setActive_dict (s : State) (src : Nat) (b : Bool) : (s.setActive src b).dict = s.dict := rfl
@[simp] theorem State.setActive_flash (s : State) (src : Nat) (b : Bool) : (s.setActive src b).flash = s.flash := rfl
@[simp] theorem State.setActive_media (s : State) (src : Nat) (b : Bool) : (s.setActive src b).media = s.media := rfl
@[simp] theorem State.setActive_cs (s : State) (src : Nat) (b : Bool) : (s.setActive src b).cs = s.cs := rfl
@[simp] theorem State.setActive_sets (s : State) (src : Nat) (b : Bool) : (s.setActive src b).sets = s.sets := rfl
@[simp] theorem State.setActive_nvme (s : State) (src : Nat) (b : Bool) : (s.setActive src b).nvme = s.nvme := rfl
@[simp] theorem State.setActive_hold (s : State) (src : Nat) (b : Bool) : (s.setActive src b).hold = s.hold := rfl
@[simp] theorem State.setActive_twin (s : State) (src : Nat) (b : Bool) : (s.setActive src b).twin = s.twin := rfl
@[simp] theorem State.setActive_integ (s : State) (src : Nat) (b : Bool) : (s.setActive src b).integ = s.integ := rfl
@[simp] theorem State.setActive_cores (s : State) (src : Nat) (b : Bool) : (s.setActive src b).cores = s.cores := rfl
@[simp] theorem State.setActive_sched (s : State) (src : Nat) (b : Bool) : (s.setActive src b).sched = s.sched := rfl
@[simp] theorem State.setActive_eng (s : State) (src : Nat) (b : Bool) : (s.setActive src b).eng = s.eng := rfl
@[simp] theorem State.setActive_vault (s : State) (src : Nat) (b : Bool) : (s.setActive src b).vault = s.vault := rfl
@[simp] theorem State.setActive_tern (s : State) (src : Nat) (b : Bool) : (s.setActive src b).tern = s.tern := rfl
@[simp] theorem State.setActive_dram (s : State) (src : Nat) (b : Bool) : (s.setActive src b).dram = s.dram := rfl
@[simp] theorem State.setActive_bpm (s : State) (src : Nat) (b : Bool) : (s.setActive src b).bpm = s.bpm := rfl
@[simp] theorem State.setActive_mem (s : State) (src : Nat) (b : Bool) : (s.setActive src b).mem = s.mem := rfl
@[simp] theorem State.setActive_out (s : State) (src : Nat) (b : Bool) : (s.setActive src b).out = s.out := rfl
@[simp] theorem State.setActive_free (s : State) (src : Nat) (b : Bool) : (s.setActive src b).free = s.free := rfl
@[simp] theorem State.setActive_pending (s : State) (src : Nat) (b : Bool) : (s.setActive src b).pending = s.pending := rfl

@[simp] theorem State.onCmd_writes_nvme_cmds (s : State) (order : Nat) (f : HostCmd → HostCmd) : (s.onCmd order f).nvme.cmds = updateIf (fun c => c.order == order) f s.nvme.cmds := rfl
@[simp] theorem State.onCmd_pkg (s : State) (order : Nat) (f : HostCmd → HostCmd) : (s.onCmd order f).pkg = s.pkg := rfl
@[simp] theorem State.onCmd_dict (s : State) (order : Nat) (f : HostCmd → HostCmd) : (s.onCmd order f).dict = s.dict := rfl
@[simp] theorem State.onCmd_ev (s : State) (order : Nat) (f : HostCmd → HostCmd) : (s.onCmd order f).ev = s.ev := rfl
@[simp] theorem State.onCmd_flash (s : State) (order : Nat) (f : HostCmd → HostCmd) : (s.onCmd order f).flash = s.flash := rfl
@[simp] theorem State.onCmd_media (s : State) (order : Nat) (f : HostCmd → HostCmd) : (s.onCmd order f).media = s.media := rfl
@[simp] theorem State.onCmd_cs (s : State) (order : Nat) (f : HostCmd → HostCmd) : (s.onCmd order f).cs = s.cs := rfl
@[simp] theorem State.onCmd_sets (s : State) (order : Nat) (f : HostCmd → HostCmd) : (s.onCmd order f).sets = s.sets := rfl
@[simp] theorem State.onCmd_hold (s : State) (order : Nat) (f : HostCmd → HostCmd) : (s.onCmd order f).hold = s.hold := rfl
@[simp] theorem State.onCmd_twin (s : State) (order : Nat) (f : HostCmd → HostCmd) : (s.onCmd order f).twin = s.twin := rfl
@[simp] theorem State.onCmd_integ (s : State) (order : Nat) (f : HostCmd → HostCmd) : (s.onCmd order f).integ = s.integ := rfl
@[simp] theorem State.onCmd_cores (s : State) (order : Nat) (f : HostCmd → HostCmd) : (s.onCmd order f).cores = s.cores := rfl
@[simp] theorem State.onCmd_sched (s : State) (order : Nat) (f : HostCmd → HostCmd) : (s.onCmd order f).sched = s.sched := rfl
@[simp] theorem State.onCmd_eng (s : State) (order : Nat) (f : HostCmd → HostCmd) : (s.onCmd order f).eng = s.eng := rfl
@[simp] theorem State.onCmd_vault (s : State) (order : Nat) (f : HostCmd → HostCmd) : (s.onCmd order f).vault = s.vault := rfl
@[simp] theorem State.onCmd_tern (s : State) (order : Nat) (f : HostCmd → HostCmd) : (s.onCmd order f).tern = s.tern := rfl
@[simp] theorem State.onCmd_dram (s : State) (order : Nat) (f : HostCmd → HostCmd) : (s.onCmd order f).dram = s.dram := rfl
@[simp] theorem State.onCmd_bpm (s : State) (order : Nat) (f : HostCmd → HostCmd) : (s.onCmd order f).bpm = s.bpm := rfl
@[simp] theorem State.onCmd_mem (s : State) (order : Nat) (f : HostCmd → HostCmd) : (s.onCmd order f).mem = s.mem := rfl
@[simp] theorem State.onCmd_out (s : State) (order : Nat) (f : HostCmd → HostCmd) : (s.onCmd order f).out = s.out := rfl
@[simp] theorem State.onCmd_free (s : State) (order : Nat) (f : HostCmd → HostCmd) : (s.onCmd order f).free = s.free := rfl
@[simp] theorem State.onCmd_pending (s : State) (order : Nat) (f : HostCmd → HostCmd) : (s.onCmd order f).pending = s.pending := rfl

@[simp] theorem State.setCtrl_writes_nvme_ctrls (s : State) (fn : Nat) (c : Ctrl) : (s.setCtrl fn c).nvme.ctrls = Tab.set s.nvme.ctrls (Ctrl.base fn) fn c := rfl
@[simp] theorem State.setCtrl_pkg (s : State) (fn : Nat) (c : Ctrl) : (s.setCtrl fn c).pkg = s.pkg := rfl
@[simp] theorem State.setCtrl_dict (s : State) (fn : Nat) (c : Ctrl) : (s.setCtrl fn c).dict = s.dict := rfl
@[simp] theorem State.setCtrl_ev (s : State) (fn : Nat) (c : Ctrl) : (s.setCtrl fn c).ev = s.ev := rfl
@[simp] theorem State.setCtrl_flash (s : State) (fn : Nat) (c : Ctrl) : (s.setCtrl fn c).flash = s.flash := rfl
@[simp] theorem State.setCtrl_media (s : State) (fn : Nat) (c : Ctrl) : (s.setCtrl fn c).media = s.media := rfl
@[simp] theorem State.setCtrl_cs (s : State) (fn : Nat) (c : Ctrl) : (s.setCtrl fn c).cs = s.cs := rfl
@[simp] theorem State.setCtrl_sets (s : State) (fn : Nat) (c : Ctrl) : (s.setCtrl fn c).sets = s.sets := rfl
@[simp] theorem State.setCtrl_hold (s : State) (fn : Nat) (c : Ctrl) : (s.setCtrl fn c).hold = s.hold := rfl
@[simp] theorem State.setCtrl_twin (s : State) (fn : Nat) (c : Ctrl) : (s.setCtrl fn c).twin = s.twin := rfl
@[simp] theorem State.setCtrl_integ (s : State) (fn : Nat) (c : Ctrl) : (s.setCtrl fn c).integ = s.integ := rfl
@[simp] theorem State.setCtrl_cores (s : State) (fn : Nat) (c : Ctrl) : (s.setCtrl fn c).cores = s.cores := rfl
@[simp] theorem State.setCtrl_sched (s : State) (fn : Nat) (c : Ctrl) : (s.setCtrl fn c).sched = s.sched := rfl
@[simp] theorem State.setCtrl_eng (s : State) (fn : Nat) (c : Ctrl) : (s.setCtrl fn c).eng = s.eng := rfl
@[simp] theorem State.setCtrl_vault (s : State) (fn : Nat) (c : Ctrl) : (s.setCtrl fn c).vault = s.vault := rfl
@[simp] theorem State.setCtrl_tern (s : State) (fn : Nat) (c : Ctrl) : (s.setCtrl fn c).tern = s.tern := rfl
@[simp] theorem State.setCtrl_dram (s : State) (fn : Nat) (c : Ctrl) : (s.setCtrl fn c).dram = s.dram := rfl
@[simp] theorem State.setCtrl_bpm (s : State) (fn : Nat) (c : Ctrl) : (s.setCtrl fn c).bpm = s.bpm := rfl
@[simp] theorem State.setCtrl_mem (s : State) (fn : Nat) (c : Ctrl) : (s.setCtrl fn c).mem = s.mem := rfl
@[simp] theorem State.setCtrl_out (s : State) (fn : Nat) (c : Ctrl) : (s.setCtrl fn c).out = s.out := rfl
@[simp] theorem State.setCtrl_free (s : State) (fn : Nat) (c : Ctrl) : (s.setCtrl fn c).free = s.free := rfl
@[simp] theorem State.setCtrl_pending (s : State) (fn : Nat) (c : Ctrl) : (s.setCtrl fn c).pending = s.pending := rfl

@[simp] theorem State.putSq_writes_nvme_sqs (s : State) (fn q : Nat) (x : Sq) : (s.putSq fn q x).nvme.sqs = Tab.put s.nvme.sqs (qkey fn q) x := rfl
@[simp] theorem State.putSq_pkg (s : State) (fn q : Nat) (x : Sq) : (s.putSq fn q x).pkg = s.pkg := rfl
@[simp] theorem State.putSq_dict (s : State) (fn q : Nat) (x : Sq) : (s.putSq fn q x).dict = s.dict := rfl
@[simp] theorem State.putSq_ev (s : State) (fn q : Nat) (x : Sq) : (s.putSq fn q x).ev = s.ev := rfl
@[simp] theorem State.putSq_flash (s : State) (fn q : Nat) (x : Sq) : (s.putSq fn q x).flash = s.flash := rfl
@[simp] theorem State.putSq_media (s : State) (fn q : Nat) (x : Sq) : (s.putSq fn q x).media = s.media := rfl
@[simp] theorem State.putSq_cs (s : State) (fn q : Nat) (x : Sq) : (s.putSq fn q x).cs = s.cs := rfl
@[simp] theorem State.putSq_sets (s : State) (fn q : Nat) (x : Sq) : (s.putSq fn q x).sets = s.sets := rfl
@[simp] theorem State.putSq_hold (s : State) (fn q : Nat) (x : Sq) : (s.putSq fn q x).hold = s.hold := rfl
@[simp] theorem State.putSq_twin (s : State) (fn q : Nat) (x : Sq) : (s.putSq fn q x).twin = s.twin := rfl
@[simp] theorem State.putSq_integ (s : State) (fn q : Nat) (x : Sq) : (s.putSq fn q x).integ = s.integ := rfl
@[simp] theorem State.putSq_cores (s : State) (fn q : Nat) (x : Sq) : (s.putSq fn q x).cores = s.cores := rfl
@[simp] theorem State.putSq_sched (s : State) (fn q : Nat) (x : Sq) : (s.putSq fn q x).sched = s.sched := rfl
@[simp] theorem State.putSq_eng (s : State) (fn q : Nat) (x : Sq) : (s.putSq fn q x).eng = s.eng := rfl
@[simp] theorem State.putSq_vault (s : State) (fn q : Nat) (x : Sq) : (s.putSq fn q x).vault = s.vault := rfl
@[simp] theorem State.putSq_tern (s : State) (fn q : Nat) (x : Sq) : (s.putSq fn q x).tern = s.tern := rfl
@[simp] theorem State.putSq_dram (s : State) (fn q : Nat) (x : Sq) : (s.putSq fn q x).dram = s.dram := rfl
@[simp] theorem State.putSq_bpm (s : State) (fn q : Nat) (x : Sq) : (s.putSq fn q x).bpm = s.bpm := rfl
@[simp] theorem State.putSq_mem (s : State) (fn q : Nat) (x : Sq) : (s.putSq fn q x).mem = s.mem := rfl
@[simp] theorem State.putSq_out (s : State) (fn q : Nat) (x : Sq) : (s.putSq fn q x).out = s.out := rfl
@[simp] theorem State.putSq_free (s : State) (fn q : Nat) (x : Sq) : (s.putSq fn q x).free = s.free := rfl
@[simp] theorem State.putSq_pending (s : State) (fn q : Nat) (x : Sq) : (s.putSq fn q x).pending = s.pending := rfl

@[simp] theorem State.putCq_writes_nvme_cqs (s : State) (fn q : Nat) (x : Cq) : (s.putCq fn q x).nvme.cqs = Tab.put s.nvme.cqs (qkey fn q) x := rfl
@[simp] theorem State.putCq_pkg (s : State) (fn q : Nat) (x : Cq) : (s.putCq fn q x).pkg = s.pkg := rfl
@[simp] theorem State.putCq_dict (s : State) (fn q : Nat) (x : Cq) : (s.putCq fn q x).dict = s.dict := rfl
@[simp] theorem State.putCq_ev (s : State) (fn q : Nat) (x : Cq) : (s.putCq fn q x).ev = s.ev := rfl
@[simp] theorem State.putCq_flash (s : State) (fn q : Nat) (x : Cq) : (s.putCq fn q x).flash = s.flash := rfl
@[simp] theorem State.putCq_media (s : State) (fn q : Nat) (x : Cq) : (s.putCq fn q x).media = s.media := rfl
@[simp] theorem State.putCq_cs (s : State) (fn q : Nat) (x : Cq) : (s.putCq fn q x).cs = s.cs := rfl
@[simp] theorem State.putCq_sets (s : State) (fn q : Nat) (x : Cq) : (s.putCq fn q x).sets = s.sets := rfl
@[simp] theorem State.putCq_hold (s : State) (fn q : Nat) (x : Cq) : (s.putCq fn q x).hold = s.hold := rfl
@[simp] theorem State.putCq_twin (s : State) (fn q : Nat) (x : Cq) : (s.putCq fn q x).twin = s.twin := rfl
@[simp] theorem State.putCq_integ (s : State) (fn q : Nat) (x : Cq) : (s.putCq fn q x).integ = s.integ := rfl
@[simp] theorem State.putCq_cores (s : State) (fn q : Nat) (x : Cq) : (s.putCq fn q x).cores = s.cores := rfl
@[simp] theorem State.putCq_sched (s : State) (fn q : Nat) (x : Cq) : (s.putCq fn q x).sched = s.sched := rfl
@[simp] theorem State.putCq_eng (s : State) (fn q : Nat) (x : Cq) : (s.putCq fn q x).eng = s.eng := rfl
@[simp] theorem State.putCq_vault (s : State) (fn q : Nat) (x : Cq) : (s.putCq fn q x).vault = s.vault := rfl
@[simp] theorem State.putCq_tern (s : State) (fn q : Nat) (x : Cq) : (s.putCq fn q x).tern = s.tern := rfl
@[simp] theorem State.putCq_dram (s : State) (fn q : Nat) (x : Cq) : (s.putCq fn q x).dram = s.dram := rfl
@[simp] theorem State.putCq_bpm (s : State) (fn q : Nat) (x : Cq) : (s.putCq fn q x).bpm = s.bpm := rfl
@[simp] theorem State.putCq_mem (s : State) (fn q : Nat) (x : Cq) : (s.putCq fn q x).mem = s.mem := rfl
@[simp] theorem State.putCq_out (s : State) (fn q : Nat) (x : Cq) : (s.putCq fn q x).out = s.out := rfl
@[simp] theorem State.putCq_free (s : State) (fn q : Nat) (x : Cq) : (s.putCq fn q x).free = s.free := rfl
@[simp] theorem State.putCq_pending (s : State) (fn q : Nat) (x : Cq) : (s.putCq fn q x).pending = s.pending := rfl

@[simp] theorem State.onSet_writes_sets (s : State) (i : Fin 2) (f : XSet → XSet) : (s.onSet i f).sets = s.sets.set i (f s.sets[i]) := rfl
@[simp] theorem State.onSet_pkg (s : State) (i : Fin 2) (f : XSet → XSet) : (s.onSet i f).pkg = s.pkg := rfl
@[simp] theorem State.onSet_dict (s : State) (i : Fin 2) (f : XSet → XSet) : (s.onSet i f).dict = s.dict := rfl
@[simp] theorem State.onSet_ev (s : State) (i : Fin 2) (f : XSet → XSet) : (s.onSet i f).ev = s.ev := rfl
@[simp] theorem State.onSet_flash (s : State) (i : Fin 2) (f : XSet → XSet) : (s.onSet i f).flash = s.flash := rfl
@[simp] theorem State.onSet_media (s : State) (i : Fin 2) (f : XSet → XSet) : (s.onSet i f).media = s.media := rfl
@[simp] theorem State.onSet_cs (s : State) (i : Fin 2) (f : XSet → XSet) : (s.onSet i f).cs = s.cs := rfl
@[simp] theorem State.onSet_nvme (s : State) (i : Fin 2) (f : XSet → XSet) : (s.onSet i f).nvme = s.nvme := rfl
@[simp] theorem State.onSet_hold (s : State) (i : Fin 2) (f : XSet → XSet) : (s.onSet i f).hold = s.hold := rfl
@[simp] theorem State.onSet_twin (s : State) (i : Fin 2) (f : XSet → XSet) : (s.onSet i f).twin = s.twin := rfl
@[simp] theorem State.onSet_integ (s : State) (i : Fin 2) (f : XSet → XSet) : (s.onSet i f).integ = s.integ := rfl
@[simp] theorem State.onSet_cores (s : State) (i : Fin 2) (f : XSet → XSet) : (s.onSet i f).cores = s.cores := rfl
@[simp] theorem State.onSet_sched (s : State) (i : Fin 2) (f : XSet → XSet) : (s.onSet i f).sched = s.sched := rfl
@[simp] theorem State.onSet_eng (s : State) (i : Fin 2) (f : XSet → XSet) : (s.onSet i f).eng = s.eng := rfl
@[simp] theorem State.onSet_vault (s : State) (i : Fin 2) (f : XSet → XSet) : (s.onSet i f).vault = s.vault := rfl
@[simp] theorem State.onSet_tern (s : State) (i : Fin 2) (f : XSet → XSet) : (s.onSet i f).tern = s.tern := rfl
@[simp] theorem State.onSet_dram (s : State) (i : Fin 2) (f : XSet → XSet) : (s.onSet i f).dram = s.dram := rfl
@[simp] theorem State.onSet_bpm (s : State) (i : Fin 2) (f : XSet → XSet) : (s.onSet i f).bpm = s.bpm := rfl
@[simp] theorem State.onSet_mem (s : State) (i : Fin 2) (f : XSet → XSet) : (s.onSet i f).mem = s.mem := rfl
@[simp] theorem State.onSet_out (s : State) (i : Fin 2) (f : XSet → XSet) : (s.onSet i f).out = s.out := rfl
@[simp] theorem State.onSet_free (s : State) (i : Fin 2) (f : XSet → XSet) : (s.onSet i f).free = s.free := rfl
@[simp] theorem State.onSet_pending (s : State) (i : Fin 2) (f : XSet → XSet) : (s.onSet i f).pending = s.pending := rfl

@[simp] theorem State.setTern_writes_tern_entries (s : State) (i : Nat) (e : Tern) : (s.setTern i e).tern.entries = Tab.set s.tern.entries Tern.init i e := rfl
@[simp] theorem State.setTern_pkg (s : State) (i : Nat) (e : Tern) : (s.setTern i e).pkg = s.pkg := rfl
@[simp] theorem State.setTern_dict (s : State) (i : Nat) (e : Tern) : (s.setTern i e).dict = s.dict := rfl
@[simp] theorem State.setTern_ev (s : State) (i : Nat) (e : Tern) : (s.setTern i e).ev = s.ev := rfl
@[simp] theorem State.setTern_flash (s : State) (i : Nat) (e : Tern) : (s.setTern i e).flash = s.flash := rfl
@[simp] theorem State.setTern_media (s : State) (i : Nat) (e : Tern) : (s.setTern i e).media = s.media := rfl
@[simp] theorem State.setTern_cs (s : State) (i : Nat) (e : Tern) : (s.setTern i e).cs = s.cs := rfl
@[simp] theorem State.setTern_sets (s : State) (i : Nat) (e : Tern) : (s.setTern i e).sets = s.sets := rfl
@[simp] theorem State.setTern_nvme (s : State) (i : Nat) (e : Tern) : (s.setTern i e).nvme = s.nvme := rfl
@[simp] theorem State.setTern_hold (s : State) (i : Nat) (e : Tern) : (s.setTern i e).hold = s.hold := rfl
@[simp] theorem State.setTern_twin (s : State) (i : Nat) (e : Tern) : (s.setTern i e).twin = s.twin := rfl
@[simp] theorem State.setTern_integ (s : State) (i : Nat) (e : Tern) : (s.setTern i e).integ = s.integ := rfl
@[simp] theorem State.setTern_cores (s : State) (i : Nat) (e : Tern) : (s.setTern i e).cores = s.cores := rfl
@[simp] theorem State.setTern_sched (s : State) (i : Nat) (e : Tern) : (s.setTern i e).sched = s.sched := rfl
@[simp] theorem State.setTern_eng (s : State) (i : Nat) (e : Tern) : (s.setTern i e).eng = s.eng := rfl
@[simp] theorem State.setTern_vault (s : State) (i : Nat) (e : Tern) : (s.setTern i e).vault = s.vault := rfl
@[simp] theorem State.setTern_dram (s : State) (i : Nat) (e : Tern) : (s.setTern i e).dram = s.dram := rfl
@[simp] theorem State.setTern_bpm (s : State) (i : Nat) (e : Tern) : (s.setTern i e).bpm = s.bpm := rfl
@[simp] theorem State.setTern_mem (s : State) (i : Nat) (e : Tern) : (s.setTern i e).mem = s.mem := rfl
@[simp] theorem State.setTern_out (s : State) (i : Nat) (e : Tern) : (s.setTern i e).out = s.out := rfl
@[simp] theorem State.setTern_free (s : State) (i : Nat) (e : Tern) : (s.setTern i e).free = s.free := rfl
@[simp] theorem State.setTern_pending (s : State) (i : Nat) (e : Tern) : (s.setTern i e).pending = s.pending := rfl

@[simp] theorem State.setPort_writes_media_ports (s : State) (c : Nat) (p : Port) : (s.setPort c p).media.ports = Tab.set s.media.ports Port.init c p := rfl
@[simp] theorem State.setPort_pkg (s : State) (c : Nat) (p : Port) : (s.setPort c p).pkg = s.pkg := rfl
@[simp] theorem State.setPort_dict (s : State) (c : Nat) (p : Port) : (s.setPort c p).dict = s.dict := rfl
@[simp] theorem State.setPort_ev (s : State) (c : Nat) (p : Port) : (s.setPort c p).ev = s.ev := rfl
@[simp] theorem State.setPort_flash (s : State) (c : Nat) (p : Port) : (s.setPort c p).flash = s.flash := rfl
@[simp] theorem State.setPort_cs (s : State) (c : Nat) (p : Port) : (s.setPort c p).cs = s.cs := rfl
@[simp] theorem State.setPort_sets (s : State) (c : Nat) (p : Port) : (s.setPort c p).sets = s.sets := rfl
@[simp] theorem State.setPort_nvme (s : State) (c : Nat) (p : Port) : (s.setPort c p).nvme = s.nvme := rfl
@[simp] theorem State.setPort_hold (s : State) (c : Nat) (p : Port) : (s.setPort c p).hold = s.hold := rfl
@[simp] theorem State.setPort_twin (s : State) (c : Nat) (p : Port) : (s.setPort c p).twin = s.twin := rfl
@[simp] theorem State.setPort_integ (s : State) (c : Nat) (p : Port) : (s.setPort c p).integ = s.integ := rfl
@[simp] theorem State.setPort_cores (s : State) (c : Nat) (p : Port) : (s.setPort c p).cores = s.cores := rfl
@[simp] theorem State.setPort_sched (s : State) (c : Nat) (p : Port) : (s.setPort c p).sched = s.sched := rfl
@[simp] theorem State.setPort_eng (s : State) (c : Nat) (p : Port) : (s.setPort c p).eng = s.eng := rfl
@[simp] theorem State.setPort_vault (s : State) (c : Nat) (p : Port) : (s.setPort c p).vault = s.vault := rfl
@[simp] theorem State.setPort_tern (s : State) (c : Nat) (p : Port) : (s.setPort c p).tern = s.tern := rfl
@[simp] theorem State.setPort_dram (s : State) (c : Nat) (p : Port) : (s.setPort c p).dram = s.dram := rfl
@[simp] theorem State.setPort_bpm (s : State) (c : Nat) (p : Port) : (s.setPort c p).bpm = s.bpm := rfl
@[simp] theorem State.setPort_mem (s : State) (c : Nat) (p : Port) : (s.setPort c p).mem = s.mem := rfl
@[simp] theorem State.setPort_out (s : State) (c : Nat) (p : Port) : (s.setPort c p).out = s.out := rfl
@[simp] theorem State.setPort_free (s : State) (c : Nat) (p : Port) : (s.setPort c p).free = s.free := rfl
@[simp] theorem State.setPort_pending (s : State) (c : Nat) (p : Port) : (s.setPort c p).pending = s.pending := rfl

@[simp] theorem State.setLun_writes_media_luns (s : State) (c l : Nat) (u : Lun) : (s.setLun c l u).media.luns = Tab.set s.media.luns Lun.init (32 * c + l) u := rfl
@[simp] theorem State.setLun_pkg (s : State) (c l : Nat) (u : Lun) : (s.setLun c l u).pkg = s.pkg := rfl
@[simp] theorem State.setLun_dict (s : State) (c l : Nat) (u : Lun) : (s.setLun c l u).dict = s.dict := rfl
@[simp] theorem State.setLun_ev (s : State) (c l : Nat) (u : Lun) : (s.setLun c l u).ev = s.ev := rfl
@[simp] theorem State.setLun_flash (s : State) (c l : Nat) (u : Lun) : (s.setLun c l u).flash = s.flash := rfl
@[simp] theorem State.setLun_cs (s : State) (c l : Nat) (u : Lun) : (s.setLun c l u).cs = s.cs := rfl
@[simp] theorem State.setLun_sets (s : State) (c l : Nat) (u : Lun) : (s.setLun c l u).sets = s.sets := rfl
@[simp] theorem State.setLun_nvme (s : State) (c l : Nat) (u : Lun) : (s.setLun c l u).nvme = s.nvme := rfl
@[simp] theorem State.setLun_hold (s : State) (c l : Nat) (u : Lun) : (s.setLun c l u).hold = s.hold := rfl
@[simp] theorem State.setLun_twin (s : State) (c l : Nat) (u : Lun) : (s.setLun c l u).twin = s.twin := rfl
@[simp] theorem State.setLun_integ (s : State) (c l : Nat) (u : Lun) : (s.setLun c l u).integ = s.integ := rfl
@[simp] theorem State.setLun_cores (s : State) (c l : Nat) (u : Lun) : (s.setLun c l u).cores = s.cores := rfl
@[simp] theorem State.setLun_sched (s : State) (c l : Nat) (u : Lun) : (s.setLun c l u).sched = s.sched := rfl
@[simp] theorem State.setLun_eng (s : State) (c l : Nat) (u : Lun) : (s.setLun c l u).eng = s.eng := rfl
@[simp] theorem State.setLun_vault (s : State) (c l : Nat) (u : Lun) : (s.setLun c l u).vault = s.vault := rfl
@[simp] theorem State.setLun_tern (s : State) (c l : Nat) (u : Lun) : (s.setLun c l u).tern = s.tern := rfl
@[simp] theorem State.setLun_dram (s : State) (c l : Nat) (u : Lun) : (s.setLun c l u).dram = s.dram := rfl
@[simp] theorem State.setLun_bpm (s : State) (c l : Nat) (u : Lun) : (s.setLun c l u).bpm = s.bpm := rfl
@[simp] theorem State.setLun_mem (s : State) (c l : Nat) (u : Lun) : (s.setLun c l u).mem = s.mem := rfl
@[simp] theorem State.setLun_out (s : State) (c l : Nat) (u : Lun) : (s.setLun c l u).out = s.out := rfl
@[simp] theorem State.setLun_free (s : State) (c l : Nat) (u : Lun) : (s.setLun c l u).free = s.free := rfl
@[simp] theorem State.setLun_pending (s : State) (c l : Nat) (u : Lun) : (s.setLun c l u).pending = s.pending := rfl

@[simp] theorem State.setFval_writes_dict_vals (s : State) (fn idx sub v : Nat) : (s.setFval fn idx sub v).dict.vals = Tab.set s.dict.vals (entryDefault fn idx sub) (ekey fn idx sub) v := rfl
@[simp] theorem State.setFval_pkg (s : State) (fn idx sub v : Nat) : (s.setFval fn idx sub v).pkg = s.pkg := rfl
@[simp] theorem State.setFval_ev (s : State) (fn idx sub v : Nat) : (s.setFval fn idx sub v).ev = s.ev := rfl
@[simp] theorem State.setFval_flash (s : State) (fn idx sub v : Nat) : (s.setFval fn idx sub v).flash = s.flash := rfl
@[simp] theorem State.setFval_media (s : State) (fn idx sub v : Nat) : (s.setFval fn idx sub v).media = s.media := rfl
@[simp] theorem State.setFval_cs (s : State) (fn idx sub v : Nat) : (s.setFval fn idx sub v).cs = s.cs := rfl
@[simp] theorem State.setFval_sets (s : State) (fn idx sub v : Nat) : (s.setFval fn idx sub v).sets = s.sets := rfl
@[simp] theorem State.setFval_nvme (s : State) (fn idx sub v : Nat) : (s.setFval fn idx sub v).nvme = s.nvme := rfl
@[simp] theorem State.setFval_hold (s : State) (fn idx sub v : Nat) : (s.setFval fn idx sub v).hold = s.hold := rfl
@[simp] theorem State.setFval_twin (s : State) (fn idx sub v : Nat) : (s.setFval fn idx sub v).twin = s.twin := rfl
@[simp] theorem State.setFval_integ (s : State) (fn idx sub v : Nat) : (s.setFval fn idx sub v).integ = s.integ := rfl
@[simp] theorem State.setFval_cores (s : State) (fn idx sub v : Nat) : (s.setFval fn idx sub v).cores = s.cores := rfl
@[simp] theorem State.setFval_sched (s : State) (fn idx sub v : Nat) : (s.setFval fn idx sub v).sched = s.sched := rfl
@[simp] theorem State.setFval_eng (s : State) (fn idx sub v : Nat) : (s.setFval fn idx sub v).eng = s.eng := rfl
@[simp] theorem State.setFval_vault (s : State) (fn idx sub v : Nat) : (s.setFval fn idx sub v).vault = s.vault := rfl
@[simp] theorem State.setFval_tern (s : State) (fn idx sub v : Nat) : (s.setFval fn idx sub v).tern = s.tern := rfl
@[simp] theorem State.setFval_dram (s : State) (fn idx sub v : Nat) : (s.setFval fn idx sub v).dram = s.dram := rfl
@[simp] theorem State.setFval_bpm (s : State) (fn idx sub v : Nat) : (s.setFval fn idx sub v).bpm = s.bpm := rfl
@[simp] theorem State.setFval_mem (s : State) (fn idx sub v : Nat) : (s.setFval fn idx sub v).mem = s.mem := rfl
@[simp] theorem State.setFval_out (s : State) (fn idx sub v : Nat) : (s.setFval fn idx sub v).out = s.out := rfl
@[simp] theorem State.setFval_free (s : State) (fn idx sub v : Nat) : (s.setFval fn idx sub v).free = s.free := rfl
@[simp] theorem State.setFval_pending (s : State) (fn idx sub v : Nat) : (s.setFval fn idx sub v).pending = s.pending := rfl

@[simp] theorem State.clearMem_writes_mem (s : State) (a n : Nat) : (s.clearMem a n).mem = s.mem.clear a n := rfl
@[simp] theorem State.clearMem_pkg (s : State) (a n : Nat) : (s.clearMem a n).pkg = s.pkg := rfl
@[simp] theorem State.clearMem_dict (s : State) (a n : Nat) : (s.clearMem a n).dict = s.dict := rfl
@[simp] theorem State.clearMem_ev (s : State) (a n : Nat) : (s.clearMem a n).ev = s.ev := rfl
@[simp] theorem State.clearMem_flash (s : State) (a n : Nat) : (s.clearMem a n).flash = s.flash := rfl
@[simp] theorem State.clearMem_media (s : State) (a n : Nat) : (s.clearMem a n).media = s.media := rfl
@[simp] theorem State.clearMem_cs (s : State) (a n : Nat) : (s.clearMem a n).cs = s.cs := rfl
@[simp] theorem State.clearMem_sets (s : State) (a n : Nat) : (s.clearMem a n).sets = s.sets := rfl
@[simp] theorem State.clearMem_nvme (s : State) (a n : Nat) : (s.clearMem a n).nvme = s.nvme := rfl
@[simp] theorem State.clearMem_hold (s : State) (a n : Nat) : (s.clearMem a n).hold = s.hold := rfl
@[simp] theorem State.clearMem_twin (s : State) (a n : Nat) : (s.clearMem a n).twin = s.twin := rfl
@[simp] theorem State.clearMem_integ (s : State) (a n : Nat) : (s.clearMem a n).integ = s.integ := rfl
@[simp] theorem State.clearMem_cores (s : State) (a n : Nat) : (s.clearMem a n).cores = s.cores := rfl
@[simp] theorem State.clearMem_sched (s : State) (a n : Nat) : (s.clearMem a n).sched = s.sched := rfl
@[simp] theorem State.clearMem_eng (s : State) (a n : Nat) : (s.clearMem a n).eng = s.eng := rfl
@[simp] theorem State.clearMem_vault (s : State) (a n : Nat) : (s.clearMem a n).vault = s.vault := rfl
@[simp] theorem State.clearMem_tern (s : State) (a n : Nat) : (s.clearMem a n).tern = s.tern := rfl
@[simp] theorem State.clearMem_dram (s : State) (a n : Nat) : (s.clearMem a n).dram = s.dram := rfl
@[simp] theorem State.clearMem_bpm (s : State) (a n : Nat) : (s.clearMem a n).bpm = s.bpm := rfl
@[simp] theorem State.clearMem_out (s : State) (a n : Nat) : (s.clearMem a n).out = s.out := rfl
@[simp] theorem State.clearMem_free (s : State) (a n : Nat) : (s.clearMem a n).free = s.free := rfl
@[simp] theorem State.clearMem_pending (s : State) (a n : Nat) : (s.clearMem a n).pending = s.pending := rfl

@[simp] theorem State.blurMem_writes_mem (s : State) (a n : Nat) : (s.blurMem a n).mem = s.mem.blur a n s.free := rfl
@[simp] theorem State.blurMem_writes_free (s : State) (a n : Nat) : (s.blurMem a n).free = s.free + 1 := rfl
@[simp] theorem State.blurMem_pkg (s : State) (a n : Nat) : (s.blurMem a n).pkg = s.pkg := rfl
@[simp] theorem State.blurMem_dict (s : State) (a n : Nat) : (s.blurMem a n).dict = s.dict := rfl
@[simp] theorem State.blurMem_ev (s : State) (a n : Nat) : (s.blurMem a n).ev = s.ev := rfl
@[simp] theorem State.blurMem_flash (s : State) (a n : Nat) : (s.blurMem a n).flash = s.flash := rfl
@[simp] theorem State.blurMem_media (s : State) (a n : Nat) : (s.blurMem a n).media = s.media := rfl
@[simp] theorem State.blurMem_cs (s : State) (a n : Nat) : (s.blurMem a n).cs = s.cs := rfl
@[simp] theorem State.blurMem_sets (s : State) (a n : Nat) : (s.blurMem a n).sets = s.sets := rfl
@[simp] theorem State.blurMem_nvme (s : State) (a n : Nat) : (s.blurMem a n).nvme = s.nvme := rfl
@[simp] theorem State.blurMem_hold (s : State) (a n : Nat) : (s.blurMem a n).hold = s.hold := rfl
@[simp] theorem State.blurMem_twin (s : State) (a n : Nat) : (s.blurMem a n).twin = s.twin := rfl
@[simp] theorem State.blurMem_integ (s : State) (a n : Nat) : (s.blurMem a n).integ = s.integ := rfl
@[simp] theorem State.blurMem_cores (s : State) (a n : Nat) : (s.blurMem a n).cores = s.cores := rfl
@[simp] theorem State.blurMem_sched (s : State) (a n : Nat) : (s.blurMem a n).sched = s.sched := rfl
@[simp] theorem State.blurMem_eng (s : State) (a n : Nat) : (s.blurMem a n).eng = s.eng := rfl
@[simp] theorem State.blurMem_vault (s : State) (a n : Nat) : (s.blurMem a n).vault = s.vault := rfl
@[simp] theorem State.blurMem_tern (s : State) (a n : Nat) : (s.blurMem a n).tern = s.tern := rfl
@[simp] theorem State.blurMem_dram (s : State) (a n : Nat) : (s.blurMem a n).dram = s.dram := rfl
@[simp] theorem State.blurMem_bpm (s : State) (a n : Nat) : (s.blurMem a n).bpm = s.bpm := rfl
@[simp] theorem State.blurMem_out (s : State) (a n : Nat) : (s.blurMem a n).out = s.out := rfl
@[simp] theorem State.blurMem_pending (s : State) (a n : Nat) : (s.blurMem a n).pending = s.pending := rfl

@[simp] theorem State.store_writes_mem (s : State) (a : Nat) (bs : List Byte) (p : Bool) : (s.store a bs p).mem = (s.mem.write a bs).markStore a bs.length p := rfl
@[simp] theorem State.store_writes_dram (s : State) (a : Nat) (bs : List Byte) (p : Bool) : (s.store a bs p).dram = s.dram.stored a bs.length := rfl
@[simp] theorem State.store_pkg (s : State) (a : Nat) (bs : List Byte) (p : Bool) : (s.store a bs p).pkg = s.pkg := rfl
@[simp] theorem State.store_dict (s : State) (a : Nat) (bs : List Byte) (p : Bool) : (s.store a bs p).dict = s.dict := rfl
@[simp] theorem State.store_ev (s : State) (a : Nat) (bs : List Byte) (p : Bool) : (s.store a bs p).ev = s.ev := rfl
@[simp] theorem State.store_flash (s : State) (a : Nat) (bs : List Byte) (p : Bool) : (s.store a bs p).flash = s.flash := rfl
@[simp] theorem State.store_media (s : State) (a : Nat) (bs : List Byte) (p : Bool) : (s.store a bs p).media = s.media := rfl
@[simp] theorem State.store_cs (s : State) (a : Nat) (bs : List Byte) (p : Bool) : (s.store a bs p).cs = s.cs := rfl
@[simp] theorem State.store_sets (s : State) (a : Nat) (bs : List Byte) (p : Bool) : (s.store a bs p).sets = s.sets := rfl
@[simp] theorem State.store_nvme (s : State) (a : Nat) (bs : List Byte) (p : Bool) : (s.store a bs p).nvme = s.nvme := rfl
@[simp] theorem State.store_hold (s : State) (a : Nat) (bs : List Byte) (p : Bool) : (s.store a bs p).hold = s.hold := rfl
@[simp] theorem State.store_twin (s : State) (a : Nat) (bs : List Byte) (p : Bool) : (s.store a bs p).twin = s.twin := rfl
@[simp] theorem State.store_integ (s : State) (a : Nat) (bs : List Byte) (p : Bool) : (s.store a bs p).integ = s.integ := rfl
@[simp] theorem State.store_cores (s : State) (a : Nat) (bs : List Byte) (p : Bool) : (s.store a bs p).cores = s.cores := rfl
@[simp] theorem State.store_sched (s : State) (a : Nat) (bs : List Byte) (p : Bool) : (s.store a bs p).sched = s.sched := rfl
@[simp] theorem State.store_eng (s : State) (a : Nat) (bs : List Byte) (p : Bool) : (s.store a bs p).eng = s.eng := rfl
@[simp] theorem State.store_vault (s : State) (a : Nat) (bs : List Byte) (p : Bool) : (s.store a bs p).vault = s.vault := rfl
@[simp] theorem State.store_tern (s : State) (a : Nat) (bs : List Byte) (p : Bool) : (s.store a bs p).tern = s.tern := rfl
@[simp] theorem State.store_bpm (s : State) (a : Nat) (bs : List Byte) (p : Bool) : (s.store a bs p).bpm = s.bpm := rfl
@[simp] theorem State.store_out (s : State) (a : Nat) (bs : List Byte) (p : Bool) : (s.store a bs p).out = s.out := rfl
@[simp] theorem State.store_free (s : State) (a : Nat) (bs : List Byte) (p : Bool) : (s.store a bs p).free = s.free := rfl
@[simp] theorem State.store_pending (s : State) (a : Nat) (bs : List Byte) (p : Bool) : (s.store a bs p).pending = s.pending := rfl

@[simp] theorem State.setDieLink_writes_pkg_links (s : State) (m : Fin 4) (k : DieLink) : (s.setDieLink m k).pkg.links = s.pkg.links.set m k := rfl
@[simp] theorem State.setDieLink_dict (s : State) (m : Fin 4) (k : DieLink) : (s.setDieLink m k).dict = s.dict := rfl
@[simp] theorem State.setDieLink_ev (s : State) (m : Fin 4) (k : DieLink) : (s.setDieLink m k).ev = s.ev := rfl
@[simp] theorem State.setDieLink_flash (s : State) (m : Fin 4) (k : DieLink) : (s.setDieLink m k).flash = s.flash := rfl
@[simp] theorem State.setDieLink_media (s : State) (m : Fin 4) (k : DieLink) : (s.setDieLink m k).media = s.media := rfl
@[simp] theorem State.setDieLink_cs (s : State) (m : Fin 4) (k : DieLink) : (s.setDieLink m k).cs = s.cs := rfl
@[simp] theorem State.setDieLink_sets (s : State) (m : Fin 4) (k : DieLink) : (s.setDieLink m k).sets = s.sets := rfl
@[simp] theorem State.setDieLink_nvme (s : State) (m : Fin 4) (k : DieLink) : (s.setDieLink m k).nvme = s.nvme := rfl
@[simp] theorem State.setDieLink_hold (s : State) (m : Fin 4) (k : DieLink) : (s.setDieLink m k).hold = s.hold := rfl
@[simp] theorem State.setDieLink_twin (s : State) (m : Fin 4) (k : DieLink) : (s.setDieLink m k).twin = s.twin := rfl
@[simp] theorem State.setDieLink_integ (s : State) (m : Fin 4) (k : DieLink) : (s.setDieLink m k).integ = s.integ := rfl
@[simp] theorem State.setDieLink_cores (s : State) (m : Fin 4) (k : DieLink) : (s.setDieLink m k).cores = s.cores := rfl
@[simp] theorem State.setDieLink_sched (s : State) (m : Fin 4) (k : DieLink) : (s.setDieLink m k).sched = s.sched := rfl
@[simp] theorem State.setDieLink_eng (s : State) (m : Fin 4) (k : DieLink) : (s.setDieLink m k).eng = s.eng := rfl
@[simp] theorem State.setDieLink_vault (s : State) (m : Fin 4) (k : DieLink) : (s.setDieLink m k).vault = s.vault := rfl
@[simp] theorem State.setDieLink_tern (s : State) (m : Fin 4) (k : DieLink) : (s.setDieLink m k).tern = s.tern := rfl
@[simp] theorem State.setDieLink_dram (s : State) (m : Fin 4) (k : DieLink) : (s.setDieLink m k).dram = s.dram := rfl
@[simp] theorem State.setDieLink_bpm (s : State) (m : Fin 4) (k : DieLink) : (s.setDieLink m k).bpm = s.bpm := rfl
@[simp] theorem State.setDieLink_mem (s : State) (m : Fin 4) (k : DieLink) : (s.setDieLink m k).mem = s.mem := rfl
@[simp] theorem State.setDieLink_out (s : State) (m : Fin 4) (k : DieLink) : (s.setDieLink m k).out = s.out := rfl
@[simp] theorem State.setDieLink_free (s : State) (m : Fin 4) (k : DieLink) : (s.setDieLink m k).free = s.free := rfl
@[simp] theorem State.setDieLink_pending (s : State) (m : Fin 4) (k : DieLink) : (s.setDieLink m k).pending = s.pending := rfl

@[simp] theorem State.setSlot_writes_sched_slots (s : State) (k : Nat) (x : Slot) : (s.setSlot k x).sched.slots = Tab.put s.sched.slots k x := rfl
@[simp] theorem State.setSlot_pkg (s : State) (k : Nat) (x : Slot) : (s.setSlot k x).pkg = s.pkg := rfl
@[simp] theorem State.setSlot_dict (s : State) (k : Nat) (x : Slot) : (s.setSlot k x).dict = s.dict := rfl
@[simp] theorem State.setSlot_ev (s : State) (k : Nat) (x : Slot) : (s.setSlot k x).ev = s.ev := rfl
@[simp] theorem State.setSlot_flash (s : State) (k : Nat) (x : Slot) : (s.setSlot k x).flash = s.flash := rfl
@[simp] theorem State.setSlot_media (s : State) (k : Nat) (x : Slot) : (s.setSlot k x).media = s.media := rfl
@[simp] theorem State.setSlot_cs (s : State) (k : Nat) (x : Slot) : (s.setSlot k x).cs = s.cs := rfl
@[simp] theorem State.setSlot_sets (s : State) (k : Nat) (x : Slot) : (s.setSlot k x).sets = s.sets := rfl
@[simp] theorem State.setSlot_nvme (s : State) (k : Nat) (x : Slot) : (s.setSlot k x).nvme = s.nvme := rfl
@[simp] theorem State.setSlot_hold (s : State) (k : Nat) (x : Slot) : (s.setSlot k x).hold = s.hold := rfl
@[simp] theorem State.setSlot_twin (s : State) (k : Nat) (x : Slot) : (s.setSlot k x).twin = s.twin := rfl
@[simp] theorem State.setSlot_integ (s : State) (k : Nat) (x : Slot) : (s.setSlot k x).integ = s.integ := rfl
@[simp] theorem State.setSlot_cores (s : State) (k : Nat) (x : Slot) : (s.setSlot k x).cores = s.cores := rfl
@[simp] theorem State.setSlot_eng (s : State) (k : Nat) (x : Slot) : (s.setSlot k x).eng = s.eng := rfl
@[simp] theorem State.setSlot_vault (s : State) (k : Nat) (x : Slot) : (s.setSlot k x).vault = s.vault := rfl
@[simp] theorem State.setSlot_tern (s : State) (k : Nat) (x : Slot) : (s.setSlot k x).tern = s.tern := rfl
@[simp] theorem State.setSlot_dram (s : State) (k : Nat) (x : Slot) : (s.setSlot k x).dram = s.dram := rfl
@[simp] theorem State.setSlot_bpm (s : State) (k : Nat) (x : Slot) : (s.setSlot k x).bpm = s.bpm := rfl
@[simp] theorem State.setSlot_mem (s : State) (k : Nat) (x : Slot) : (s.setSlot k x).mem = s.mem := rfl
@[simp] theorem State.setSlot_out (s : State) (k : Nat) (x : Slot) : (s.setSlot k x).out = s.out := rfl
@[simp] theorem State.setSlot_free (s : State) (k : Nat) (x : Slot) : (s.setSlot k x).free = s.free := rfl
@[simp] theorem State.setSlot_pending (s : State) (k : Nat) (x : Slot) : (s.setSlot k x).pending = s.pending := rfl

@[simp] theorem State.setReady_writes_sched_ready (s : State) (r : Nat) (l : List Task) : (s.setReady r l).sched.ready = s.sched.ready.setIfInBounds r l := rfl
@[simp] theorem State.setReady_pkg (s : State) (r : Nat) (l : List Task) : (s.setReady r l).pkg = s.pkg := rfl
@[simp] theorem State.setReady_dict (s : State) (r : Nat) (l : List Task) : (s.setReady r l).dict = s.dict := rfl
@[simp] theorem State.setReady_ev (s : State) (r : Nat) (l : List Task) : (s.setReady r l).ev = s.ev := rfl
@[simp] theorem State.setReady_flash (s : State) (r : Nat) (l : List Task) : (s.setReady r l).flash = s.flash := rfl
@[simp] theorem State.setReady_media (s : State) (r : Nat) (l : List Task) : (s.setReady r l).media = s.media := rfl
@[simp] theorem State.setReady_cs (s : State) (r : Nat) (l : List Task) : (s.setReady r l).cs = s.cs := rfl
@[simp] theorem State.setReady_sets (s : State) (r : Nat) (l : List Task) : (s.setReady r l).sets = s.sets := rfl
@[simp] theorem State.setReady_nvme (s : State) (r : Nat) (l : List Task) : (s.setReady r l).nvme = s.nvme := rfl
@[simp] theorem State.setReady_hold (s : State) (r : Nat) (l : List Task) : (s.setReady r l).hold = s.hold := rfl
@[simp] theorem State.setReady_twin (s : State) (r : Nat) (l : List Task) : (s.setReady r l).twin = s.twin := rfl
@[simp] theorem State.setReady_integ (s : State) (r : Nat) (l : List Task) : (s.setReady r l).integ = s.integ := rfl
@[simp] theorem State.setReady_cores (s : State) (r : Nat) (l : List Task) : (s.setReady r l).cores = s.cores := rfl
@[simp] theorem State.setReady_eng (s : State) (r : Nat) (l : List Task) : (s.setReady r l).eng = s.eng := rfl
@[simp] theorem State.setReady_vault (s : State) (r : Nat) (l : List Task) : (s.setReady r l).vault = s.vault := rfl
@[simp] theorem State.setReady_tern (s : State) (r : Nat) (l : List Task) : (s.setReady r l).tern = s.tern := rfl
@[simp] theorem State.setReady_dram (s : State) (r : Nat) (l : List Task) : (s.setReady r l).dram = s.dram := rfl
@[simp] theorem State.setReady_bpm (s : State) (r : Nat) (l : List Task) : (s.setReady r l).bpm = s.bpm := rfl
@[simp] theorem State.setReady_mem (s : State) (r : Nat) (l : List Task) : (s.setReady r l).mem = s.mem := rfl
@[simp] theorem State.setReady_out (s : State) (r : Nat) (l : List Task) : (s.setReady r l).out = s.out := rfl
@[simp] theorem State.setReady_free (s : State) (r : Nat) (l : List Task) : (s.setReady r l).free = s.free := rfl
@[simp] theorem State.setReady_pending (s : State) (r : Nat) (l : List Task) : (s.setReady r l).pending = s.pending := rfl

end Sys2Proof.Machine
end

