-- ==== Sys2Proof/Tests/Slice0.lean ====
section
/-! SUPPORT. The model's own tests. -/
namespace Sys2Proof.Tests
open Sys2Proof.Machine

set_option Elab.async false

/-- A package that runs, started up whole, alone. -/
def run : State := { State.reset with
  pkg := { Pkg.init with
    phase := .running, perst := false, ticking := true, timebase := 100000000000
    boot := ⟨true, true, true, true, true, true, false, true, 0⟩, links := Vector.replicate 4 ⟨.up, 0, 0⟩ }
  cs := CodeStore.init false
  dram := { Dram.init with trained := true }
  dict := { Dict.init with vals := [(ekey 0 0xC010 2, 274877906944)] } }

/-- A code store all of whose power-fail record slots hold something. -/
def noPf : CodeStore :=
  { CodeStore.init false with array := (List.range 64).map fun i => ((CodeStore.init false).pfBase i, 1) }


/-- A state whose physical function's controller is enabled and ready, with one entry in its admin queue and room for its completion. -/
def ready0 (s : State) : State :=
  ((s.setCtrl 0 { s.ctrl 0 with enabled := true, ready := true }).putSq 0 0 ⟨32, 0, 1, 0, 0, 0, none⟩).putCq 0 0 ⟨32, 0, true, 0, 0, true⟩

/-- A state whose physical function has MSI-X on and its first eight vectors unmasked. -/
def msixOn (s : State) : State := (List.range 8).foldl (fun (t : State) v => t.setMsixDw 0 (4 * v + 3) 0) (s.setCfg 0 0x14 (2 ^ 31 + s.cfg 0 0x14 % 2 ^ 30))

/-- Two 10BASE-T1S peers that hold nonces, one of them long ago. -/
def peered : State := { run with
  dict := { run.dict with
    vals := [(ekey 0 0x4F20 2, 5), (ekey 0 0x4F20 3, 1), (ekey 0 0xC010 2, 274877906944)]
    peers := [⟨2, 0, 0, 100000000000, some ([1], 100000000000), none⟩, ⟨3, 0, 0, 0, some ([1], 0), none⟩] } }

/-- The answer the first of them owes. -/
def peeredAnswer : List Byte := hmac256 (leBytes 32 5) ([1] ++ beBytes 6 2 ++ leBytes 8 0)

/-- A Strait session that is up. -/
def linked : State := { run with twin := { Twin.init with lanes := 4, session := true } }

/-- A stage of the firmware's with one value, and its commit first in the queue. -/
def staged1 : State := { run with
  dict := { run.dict with
    stages := [⟨.firmware, [⟨ekey 0 0x3040 4, 2, 99⟩], none⟩], queue := [⟨.firmware, .none⟩] } }

/-- A submission queue 1 with one entry and its completion queue 1, of a physical function's controller that is enabled and ready. -/
def ioReady (s : State) : State :=
  ((s.setCtrl 0 { s.ctrl 0 with enabled := true, ready := true }).putSq 0 1 ⟨32, 0, 1, 1, 2, 0, none⟩).putCq 0 1 ⟨32, 0, true, 0, 0, true⟩

/-- A state with one namespace of 64 logical blocks, attached to controller 1, in a set that is served. -/
def withNs (s : State) : State :=
  { s with
    nvme.namespaces := [⟨1, 64, 0, 0, 1, [1], 1, 0, [], none, 0, false, 0, 5, false, false⟩]
    nvme.nextKeyGen := 2
    sets := #v[{ s.xset 0 with live := true, furrows := [{ Furrow.opened 0 false with state := .full }] }, s.xset 1]
    hold.ceiling := 1073741824 }

/-- A state with one command that waits for admission. -/
def waiting1 : State :=
  { run with nvme.cmds := [{ run.newCmd 0 1 7 1 1 .other ⟨false, false, false, false, 0, 0, 0⟩ with silent := true }] }

/-- A state whose first namespace has controller 1 registered. -/
def withReg (s : State) : State :=
  s.onNs 1 fun n => { n with registrants := [⟨1, 0, 77⟩] }

/-- A state whose first namespace controller 1 holds. -/
def heldReg (s : State) : State :=
  s.onNs 1 fun n => { n with registrants := [⟨1, 0, 77⟩], holder := some 1, resvType := 1 }

/-- A state with the device namespaces of this Isle beside an NVM one. -/
def withDev (s : State) : State :=
  let t := withNs s
  { t with
    nvme.namespaces := t.nvme.namespaces ++ [⟨1021, 0, 0, 0, 1, [1], 0, 0, [], none, 0, false, 0, 0, false, false⟩, ⟨1023, 0, 0, 0, 1, [1], 0, 0, [], none, 0, false, 0, 0, false, false⟩]
    sched.programArea := 64
    pkg.slmSize := 1073741824 }

/-- A state whose SLM window holds some bytes. -/
def withSlm (s : State) : State := s.store (s.slmAt 0 8) [9, 8, 7] false

/-- A firmware task. -/
def task0 : Task :=
  { id := 4, tag := 0, exec := false, index := 0, count := 1, program := 1, gen := 0, fn := 0, priority := 3, target := false, rsmode := false
    entry := 4096, decHandler := none, wins := [], param := 8192, stamp := 0, order := 1 }

/-- An Execute Program with its first task to come. -/
def exec0 : Exec := ⟨5, 0, 1, 0, 2, 0, 3, 4, 0, [0, 0, 0, 0], 0, 0, 0, 0, none, false, false⟩

/-- A state in which region 1 has one task ready and its core 33 alone can take tasks. -/
def readied (s : State) : State :=
  { s with
    sched.ready := s.sched.ready.set 1 [task0]
    cores := [(33, { Core.cleared with halted := false })] }

/-- The same with a task running on that core. -/
def busied (s : State) : State := s.setCore 33 { Core.cleared with halted := false, task := some { task0 with id := 9 } }

/-- The digest of an image of no bytes. -/
def noDigest : List Byte := [
  56, 176, 96, 167, 81, 172, 150, 56, 76, 217, 50, 126, 177, 177, 227, 106, 33, 253, 183, 17, 20, 190, 7, 67, 76, 12, 199, 191, 99, 246, 225,
  218, 39, 78, 222, 191, 231, 111, 101, 251, 213, 26, 210, 241, 72, 152, 185, 91]

/-- A code store with one marker, that slot 1 holds a valid image of no bytes. -/
def marked : CodeStore :=
  let b : List Byte := [49, 75, 82, 77, 2, 1, 0, 0, 1] ++ List.replicate 11 0 ++ noDigest
  let cells := ((List.range 68).zip b).map fun p => (134152192 + p.1, p.2)
  { CodeStore.init false with array := cells ++ [(134152316, 234), (134152317, 175), (134152318, 98), (134152319, 152)], markerOff := 1 }

/-- A package whose media port 0 has its rings in its region's staging memory and owns its channel. -/
def ported : State :=
  { run with media.ports := [(0, { Port.init with enable := true, claim := .owned, trained := true, descBase := 0x100000000000, cplBase := 0x100000002000 })] }

/-- A descriptor of a LUN's block 3. -/
def descOf (o : MOpcode) : MDesc := ⟨o, 1, 0, false, 1, 0, 7, 3, 0, 0, 1, 1, 0x100000010000, 0x100000020000, 0⟩

/-- The same port with an operation fetched for its LUN 0. -/
def fetched (d : MDesc) : State := ported.setLun 0 0 { Lun.init with ops := [freshOp 5 0 d (.ring 2)] }

/-- The same with the operation as far as given. -/
def ongoing (d : MDesc) (st : LunState) (f : MOp → MOp) : State :=
  ported.setLun 0 0 { Lun.init with state := st, ops := [f { freshOp 5 0 d (.ring 2) with started := true, startAt := 99999999000 }] }

/-- The same with an erase under way. -/
def erasing (st : LunState) (n : Nat) (ops : List MOp) : State :=
  ported.setLun 0 0 { Lun.init with
    state := st, ops := ops
    erase := some ⟨{ freshOp 5 0 (descOf .erase) (.ring 2) with started := true, startAt := 99999999000 }, n, 99999990000, 0, [], false⟩ }

/-- A package whose code-store controller has its rings in the hub's table memory. -/
def stored : State :=
  { run with cs := { CodeStore.init false with enable := true, descBase := 0x110000C00000, cplBase := 0x110000C01000 } }

/-- A code-store descriptor for an offset of the second sector of bank 0. -/
def csOp (o : CsOpcode) (n : Nat) : CsOp := ⟨o, 7, false, false, false, 0x40000, 0x110000D00000, n, 3, false, 0, false⟩

/-- The same controller with a descriptor fetched. -/
def csFetched (o : CsOp) : State := { stored with cs.ops := [o] }

/-- The same with an operation that runs in bank 0. -/
def csRunning (o : CsOp) : State := stored.setBank 0 ⟨some { o with started := true, startAt := 99999999000 }, none, 0, 99999999000, 0, false, none⟩

/-- A package whose set 0 is live and holds one furrow of group 0. -/
def tilled (f : Furrow → Furrow) (x : XSet → XSet) : State :=
  { ported with sets := #v[x { run.xset 0 with
      live := true
      furrows := [f { Furrow.opened 0 false with cols := (List.range 16).map fun c => ⟨c, 2 * c, 0, 3, 1, 0, false⟩ }] }, run.xset 1] }

/-- A dirty unit, committed. -/
def dirty0 : DirtyUnit := ⟨1, 0, 1, 0, 1, [], false, 1, 1, 9, none, true, true, 1, false, false, 0, false, none, false⟩

/-- Its place in a row. -/
def placed0 : Placed := ⟨1, 0, 1, ⟨2, 4, 0, 1, 8192⟩, none, ⟨1, 0, 1, [], false, false, 4, [], [], []⟩, false⟩

/-- A copy of that unit, read from elsewhere. -/
def moved0 : Placed := { placed0 with movedFrom := some ⟨2, 4, 8, 1, 5⟩ }

/-- A package whose set 0 has room: small dies on sixteen channels that it owns. -/
def roomy : State :=
  { run with
    media.ports := (List.range 16).map fun k => (2 * k, { Port.init with claim := .owned, trained := true })
    sets := #v[{ run.xset 0 with live := true }, run.xset 1]
    dict.force := [(ekey 0 0x5000 3, 1), (ekey 0 0x5000 4, 1), (ekey 0 0x5000 5, 1), (ekey 0 0x5000 6, 16), (ekey 0 0x6000 5, 0)] }

/-- A write that waits for a reservation, and for its data. -/
def waitingWrite : State :=
  { run with
    hold.ceiling := 1073741824
    nvme.cmds := [{ run.newCmd 0 1 7 1 1 (.write ⟨1, 0, 4⟩ []) ⟨false, false, false, false, 0, 0, 0⟩ with admitted := true, waitDirty := true, need := 5 }] }

/-- A hold-up measurement under way. -/
def measuring (m : Series) : State := { run with hold.series := some m, hold.huTest := m.asserted }

/-- A frame's link fields that acknowledge nothing. -/
def link0 : Link := ⟨0, 0, 0⟩

/-- A Strait session with one frame of its own sent and not acknowledged. -/
def sentOne : State := { linked with twin := { linked.twin with credits := #v[64, 8, 2048, 512, 2048, 32], txSeq := 6, replay := [(5, ⟨0, 1, [], false⟩)] } }

/-- A package of twin topology with a session. -/
def paired : State :=
  { linked with pkg.straps := ⟨false, true, false⟩, twin := { linked.twin with credits := #v[64, 8, 2048, 512, 2048, 32], aliveI := true, pair := .inStep } }

/-- The same, with a held slot. -/
def holding : State := { paired with twin.held := [⟨4, 1, 0, 1, 9, 1, 1, 0, [], none, [], false, false⟩] }

/-- The same, with a command forwarded to the twin. -/
def forwarding : State := { ioReady paired with nvme.fwdOut := [⟨8, 0, 1, 7, 1, 1, false, 1, [], false, false, [1, 2, 3, 4], 0, .ok, 0, false, false⟩] }

/-- The same, with a command of the twin in this Isle's front end. -/
def serving1 : State :=
  { paired with
    nvme.cmds := [{ paired.newCmd 257 0 0 1 1 (.device (.load 256 0 [])) ⟨false, false, false, false, 0, 0, 0⟩ with fwdTag := some 8, need := 64 }] }

/-- A package whose core 33 runs at supervisor level with its code in the hub's table memory. -/
def cored : State := { run with
  cores := [(33, { Core.cleared with
    pc := 0x110000C00000, a := #v[0x110000D00000, 0x110000D00040, 0, 0, 0, 0, 0, 0], d := #v[7, 3, 0x12C, 0x99, 0, 0, 0, 0, 0, 0, 0, 0, 0, 0, 0, 0] })] }

/-- An instruction of that core, fetched clean. -/
def at33 : Issue := ⟨33, .clean⟩

/-- The same core with other registers. -/
def coreWith (f : Core → Core) : State := cored.onCore 33 f

/-- The same core with its exceptions on and a table of handlers. -/
def trapper (f : Core → Core) : State :=
  let s := coreWith fun c => f { c with exl := false, vbar := 0x110000E00000 }
  { s with mem := { s.mem with cells := (List.range 14).flatMap fun k =>
      [(0x110000E00001 + 8 * k, BitVec.ofNat 8 (16 * (k + 1))), (0x110000E00002 + 8 * k, 0xC0), (0x110000E00004 + 8 * k, 0x00), (0x110000E00005 + 8 * k, 0x11)].filter fun p => p.2 != 0 } }

/-- An event of source 5 pending for core 33. -/
def pendingEv : Events := { Events.init with target := [(5, 33)], latch := Events.init.latch.set 0 32, enable := Events.init.enable.set 0 32 }

/-- The words of a descriptor: first byte and value of each field. -/
def rawOf (l : List (Nat × Nat)) : Nat := sumOf (fun p => p.2 * 2 ^ (8 * p.1)) l

/-- A package in which an engine of region 0 is enabled and its queue 0 holds one fetched descriptor. -/
def engined (k : EngKind) (raw : List (Nat × Nat)) (f : EQueue → EQueue) : State :=
  (run.setEngine (engKey 0 k) { Engine.init with enable := true }).setQueue (queueKey 0 k 0)
    (f { EQueue.init with assigned := true, descBase := 0x110000E00000, cplBase := 0x110000E01000, queue := [⟨0, rawOf raw, false, QSetup.init⟩] })

/-- A key of zeros in a vault slot. -/
def keyed (s : State) (slot type usage : Nat) : State := s.setKeySlot slot ⟨true, type, usage, 0, 1, List.replicate (keyBytes type) 0⟩

/-- The same for a match queue, the table enabled. -/
def matched (raw : List (Nat × Nat)) (f : EQueue → EQueue) : State := { engined .pat raw f with tern.enable := true }

/-- The same with two entries in the table. -/
def tabled (raw : List (Nat × Nat)) (f : EQueue → EQueue) : State :=
  { matched raw f with tern.entries := [(4, ⟨1, 1, 0, true, true, false, 9, 0⟩), (6, ⟨1, 3, 0, true, true, false, 2 ^ 33 + 5, 0⟩)] }

/-- An image whose automaton section holds one set of two states: every byte reports pattern 7. -/
def automaton : List Byte :=
  leBytes 64 (2 ^ 48) ++ leBytes 16 (3 + 2 ^ 32 * 80 + 2 ^ 64 * 400) ++ [81, 65, 85, 84, 1, 0, 1, 0] ++ List.replicate 56 0 ++
    leBytes 32 (128 + 2 ^ 32 * 272 + 2 ^ 64 * 2 + 2 ^ 80 * 1 + 2 ^ 96 * 2 + 2 ^ 112 * 1 + 2 ^ 128 * 1 + 2 ^ 160 * 1) ++ List.replicate 32 0 ++
    List.replicate 256 0 ++ [0, 0, 1, 0, 7, 0, 0, 0, 0, 0, 1, 0, 0, 0, 1, 0]

/-- A SCAN of three bytes with that image in slot 0. -/
def scanRaw : List (Nat × Nat) := [(0, 0x40), (4, 3), (8, 0x110000D00000), (16, 0x100), (21, 3)]

/-- A result ring of 4,096 bytes. -/
def ringSet : QSetup := { QSetup.init with resBase := 0x11000080000C }

/-- The package that holds it. -/
def scanner : State :=
  let s := matched scanRaw fun q => { q with setup := ringSet, queue := q.queue.map fun (d : EDesc) => { d with setup := ringSet } }
  { s with sched.slots := [(0, ⟨.loaded, 0, 3, automaton, 0, none⟩)] }

/-- The same with the scan in lane 0. -/
def scanJob0 : ScanJob := ⟨192, 0, ⟨0, rawOf scanRaw, false, ringSet⟩, 99999999000, 0, ⟨1, 0, 0, 0⟩, [], 0, false, false, false, false⟩

/-- The same with such a scan. -/
def scanWith (f : ScanJob → ScanJob) : State := scanner.setEngine 3 { Engine.init with enable := true, scans := [f scanJob0] }

/-- A SCAN of no bytes that is not the last of its message. -/
def d0scan : EDesc := ⟨0, rawOf [(0, 0x40), (8, 0x110000D00000), (16, 0x100), (21, 1)], false, ringSet⟩

/-- A package whose channel 2 holds some requests, and whose bank of 0x12345678 has a row table. -/
def queued (l : List DramReq) (t : List (Nat × Nat) := []) : State :=
  { run with
    dict.vals := [(ekey 0 0xC010 1, 8), (ekey 0 0xC010 2, 274877906944)]
    dram := { run.dram with
      chans := run.dram.chans.set 2 { DramChan.init with reqs := l }
      rows := if t = [] then [] else [(2 * 128 + 64 + 5 * 4 + 2, t)]
      nextId := 9 } }

/-- A package whose pool 5 is built, with some handles in its hub cache. -/
def pooled (f : Pool → Pool) : State :=
  { run with bpm.pools := [(5, f ⟨0x2000000, 1000, 1, 3, [], [handleOf 5 2 0, handleOf 5 1 0]⟩)] }

/-- The same with core 3's port bound to function 2 and pool 5, with a quota. -/
def ported5 (q : Nat) : State :=
  { pooled fun (x : Pool) => x with
    bpm.ports := [(3, ⟨true, 2, 5, 0, 0⟩)]
    dict.vals := [(ekey 0 0xC010 2, 274877906944), (ekey 2 0x4010 2, q)] }

/-- The same with buffer 7 of pool 5 counted for an owner. -/
def lent (count owner : Nat) : State := { ported5 10 with bpm.bufs := [(5 * 2 ^ 21 + 7, ⟨count, owner, 1⟩)] }

theorem test_reset_queue : State.reset.pending = [] := rfl

/-- States that meet the conditions of PowerAndResets. -/
theorem test_hyp_PowerAndResets :
    Cond.powerOn ({State.reset with pkg.phase := .off}) = true ∧
    Cond.powerCollapse (State.reset) = true ∧
    Cond.perstDeassert (State.reset) = true ∧
    Cond.perstAssert ({State.reset with pkg.phase := .running, pkg.perst := false, pkg.ticking := true}) = true ∧
    Cond.hotReset ({State.reset with pkg.phase := .running, pkg.perst := false, pkg.ticking := true}) = true ∧
    Cond.pwrFail ({State.reset with pkg.phase := .running, pkg.perst := false, pkg.ticking := true, pkg.boot := ⟨true, true, true, true, true, true, false, true, 0⟩}) = true ∧
    Cond.powerReturn ({State.reset with pkg.phase := .heldPowerFail, pkg.perst := false, pkg.ticking := true, pkg.pwrFail := true}) = true ∧
    Cond.thermalTrip ({State.reset with pkg.phase := .running, pkg.perst := false, pkg.ticking := true, pkg.dieTemp := #v[1250, 0, 0, 0]}) = true ∧
    Cond.thermalHoldRelease ({State.reset with pkg.phase := .heldThermal, pkg.perst := false, pkg.ticking := true, pkg.perstCycled := true}) = true ∧
    Cond.flushSown ({State.reset with pkg.phase := .running, pkg.perst := false, pkg.ticking := true, hold.flush := some ⟨.powerFail, 0, 0, 0, false, false, false, 0, 0, 0⟩}) = true ∧
    Cond.flushEnd ({State.reset with pkg.phase := .running, pkg.perst := false, pkg.ticking := true, hold.flush := some ⟨.powerFail, 0, 0, 0, false, false, true, 0, 0, 0⟩}) = true := by
  decide +kernel

/-- States that meet the conditions of PackageFaults. -/
theorem test_hyp_PackageFaults :
    Cond.hubWatchdogExpiry ({State.reset with pkg.phase := .running, pkg.perst := false, pkg.ticking := true}) = true ∧
    Cond.refclkLossDetected ({State.reset with pkg.phase := .running, pkg.perst := false, pkg.ticking := true}) = true ∧
    Cond.tempoCountExpiry ({State.reset with pkg.phase := .running, pkg.perst := false, pkg.ticking := true, pkg.links := Vector.replicate 4 ⟨.up, 0, 0⟩}) = true := by
  decide +kernel

/-- States that meet the conditions of StartUpSteps. -/
theorem test_hyp_StartUpSteps :
    Cond.configRequest (0) ({run with pkg.boot.configReady := false}) = true ∧
    Cond.configRequestRead (0) (run) = true ∧
    Cond.configRequestWriteEarly (0) ({run with pkg.boot.configReady := false}) = true ∧
    Cond.configRequestWrite (run) = true ∧
    Cond.configRequestBarRead (0) (true) (0x10000) (run) = true ∧
    Cond.configRequestBarWrite (0) (true) (0x10000) (run) = true ∧
    Cond.persistentEntriesLoaded ({State.reset with pkg.phase := .running, pkg.perst := false, pkg.ticking := true}) = true ∧
    Cond.dieLinksTrained ({State.reset with pkg.phase := .running, pkg.perst := false, pkg.ticking := true}) = true ∧
    Cond.ddrTrainingDone (4116) ({run with pkg.boot := ⟨true, false, false, false, false, false, false, false, 0⟩}) = true ∧
    Cond.twinWaitTimeout ({run with pkg.straps := ⟨false, true, false⟩, pkg.boot := ⟨true, true, true, true, false, false, false, false, 0⟩}) = true ∧
    Cond.liveMapLoaded ({run with pkg.boot := ⟨true, true, true, true, true, false, false, false, 0⟩, media.ports := (List.range 32).map fun c => (c, { Port.init with claim := .owned })}) = true ∧
    Cond.cstsRdySet (0) (run.setCtrl 0 { run.ctrl 0 with enabled := true }) = true ∧
    Cond.pfSlotErase ({run with cs := noPf}) = true := by
  decide +kernel

/-- States that meet the conditions of PackageClocksAndLinks. -/
theorem test_hyp_PackageClocksAndLinks :
    Cond.timebaseTick (run) = true ∧
    Cond.tempoSample (run) = true ∧
    Cond.dieTempUpdate (run) = true ∧
    Cond.flitReplay (run) = true ∧
    Cond.dieLinkLoss (2) (run) = true ∧
    Cond.dieLinkRetrained (2) ({run with pkg.links := Vector.replicate 4 ⟨.down, 0, 0⟩}) = true ∧
    Cond.dieLinkDownTimeout (2) ({run with pkg.links := Vector.replicate 4 ⟨.down, 0, 0⟩}) = true ∧
    Cond.regionWatchdogExpiry (run) = true ∧
    Cond.regionOnline (3) ({run with pkg.regions := Vector.replicate 4 .admitting}) = true ∧
    Cond.pcieLinkTrainingDone (run) = true := by
  decide +kernel

/-- States that meet the conditions of DictionaryOverNvme. -/
theorem test_hyp_DictionaryOverNvme :
    Cond.dictionaryRead (⟨0, 0, 7⟩) (⟨0x3040+2*65536, 0, 0, 8, 0⟩) (.ok) ((ready0 run)) = true ∧
    Cond.dictionaryReadSegment (⟨0, 0, 7⟩) (⟨0x9090+1*65536, 2, 0, 8, 0⟩) (.ok) ((ready0 run)) = true ∧
    Cond.dictionaryWrite (⟨0, 0, 7⟩) (⟨0x3040+2*65536, 0, 0, 4, 0⟩) ([1, 2]) (.ok) ((ready0 run)) = true ∧
    Cond.dictionaryWriteNow (⟨0, 0, 7⟩) (⟨0x3040+2*65536, 1, 0, 4, 0⟩) ([1, 2]) (.ok) ((ready0 run)) = true ∧
    Cond.dictionaryCommit (⟨0, 0, 7⟩) (1) ((ready0 run)) = true ∧
    Cond.dictionaryDiscard (⟨0, 0, 7⟩) ((ready0 run)) = true := by
  decide +kernel

/-- States that meet the conditions of DictionaryOverHeaders. -/
theorem test_hyp_DictionaryOverHeaders :
    Cond.headerRead ((.port (.mctp 9 false 0))) (⟨1, 5, 0x3040, 2, 0, 0, 8, 0, 0⟩) ([]) (run) = true ∧
    Cond.headerWrite ((.port (.mctp 9 false 0))) (⟨1, 5, 0x3040, 2, 0, 0, 4, 0, 0⟩) ([1, 2, 0, 0]) (run) = true ∧
    Cond.headerCommit ((.port (.mctp 9 false 0))) (⟨1, 5, 0, 0, 0, 0, 1, 0, 0⟩) ([1]) (run) = true ∧
    Cond.headerDiscard ((.port (.mctp 9 false 0))) (⟨1, 5, 0, 0, 0, 0, 1, 0, 0⟩) ([2]) (run) = true := by
  decide +kernel

/-- States that meet the conditions of SupervisorChallenge. -/
theorem test_hyp_SupervisorChallenge :
    Cond.getEpoch (⟨1, 5, 0x5000, 0x0A, 0, 0, 1, 0, 0⟩) ([0]) (run) = true ∧
    Cond.getEpochMctp (9) (false) (0) (⟨1, 5, 0, 0, 0, 0, 1, 0, 0⟩) ([0]) (run) = true ∧
    Cond.challenge (1) (2) (1) (run.authTag run.busKey (t1sFrame 1 2 1 (HdrIn.bytes ⟨1, 5, 0x5000, 10, 0, 0, 1, 0, 0⟩ 5 [0]))) (⟨1, 5, 0x5000, 10, 0, 0, 1, 0, 0⟩) ([0]) (run) = true ∧
    Cond.answer (1) (2) (1) (peered.authTag peered.busKey (t1sFrame 1 2 1 (HdrIn.bytes ⟨1, 5, 0x5000, 0x0A, 0, 0, 32, 0, 0⟩ 6 peeredAnswer))) (⟨1, 5, 0x5000, 0x0A, 0, 0, 32, 0, 0⟩) (peeredAnswer) (peered) = true ∧
    Cond.nonceExpiry (3) (peered) = true ∧
    Cond.challengeLockoutExpiry (3) (run.setAuth 3 ⟨0, some 0⟩) = true := by
  decide +kernel

/-- States that meet the conditions of CommitsAndSessions. -/
theorem test_hyp_CommitsAndSessions :
    Cond.sync (5) ({linked with dict.current := some ⟨.strait, .none, [], 5, none, .awaitTwin, true, true, none⟩}) = true ∧
    Cond.syncRequest (⟨0, 0x5000, 10, [7, 0]⟩) ({linked with pkg.straps := ⟨true, true, false⟩}) = true ∧
    Cond.syncPort (9) (false) (0) (⟨1, 5, 0, 0, 0, 0, 1, 0, 0⟩) ([0]) (run) = true ∧
    Cond.reservedOpFrame (run) = true ∧
    Cond.commitProcess (true) (staged1) = true ∧
    Cond.commitSharedApplied ({run with dict.current := some ⟨.strait, .none, [], 0, none, .awaitTwin, true, true, some 0⟩}) = true ∧
    Cond.commitMarkerWritten (true) ({run with dict.queue := [], dict.current := some ⟨.firmware, .none, [⟨ekey 0 0x5000 12, 2, 99⟩], 0, none, .awaitMarker, false, true, none⟩}) = true ∧
    Cond.domainTransferTimeout (0) ({run with dict.transfers := [⟨.firmware, 0, false, [], 0, 0⟩]}) = true ∧
    Cond.peerIdleTimeout (3) (peered) = true ∧
    Cond.i3cBusReset ({run with dict.mctp := [⟨3, []⟩], dict.stages := [⟨.mctp 3, [], none⟩]}) = true ∧
    Cond.mctpEndpointRemoved ({run with dict.mctp := [⟨3, []⟩, ⟨4, []⟩], dict.stages := [⟨.mctp 3, [], none⟩]}) = true := by
  decide +kernel

/-- States that meet the conditions of DoorbellsAndQueues. -/
theorem test_hyp_DoorbellsAndQueues :
    Cond.sqTailDoorbell (0) (1) (5) (ioReady run) = true ∧
    Cond.cqHeadDoorbell (0) (1) (0) (ioReady run) = true ∧
    Cond.controllerEnable (0) (0x460001) (run) = true ∧
    Cond.controllerReset (0) (ioReady run) = true ∧
    Cond.controllerResetDone (0) (run.setCtrl 0 { run.ctrl 0 with resetting := true, ready := true }) = true ∧
    Cond.createIoCq (⟨0, 0, 7⟩) (2) (15) (1) (true) (ready0 run) = true ∧
    Cond.createIoSq (⟨0, 0, 7⟩) (2) (15) (1) (2) (true) (ready0 (ioReady run)) = true ∧
    Cond.deleteIoSq (⟨0, 0, 7⟩) (1) (ready0 (ioReady run)) = true ∧
    Cond.deleteIoCq (⟨0, 0, 7⟩) (1) (ready0 ((ioReady run).putSq 0 1 ⟨8, 0, 0, 3, 2, 0, none⟩)) = true := by
  decide +kernel

/-- States that meet the conditions of FrontEndErrorsAndBudgets. -/
theorem test_hyp_FrontEndErrorsAndBudgets :
    Cond.poisonedTlpReceived (⟨0, 0, 7⟩) (.data) (ready0 run) = true ∧
    Cond.poisonedTlpReceivedList (⟨0, 0, 7⟩) (.list) (run) = true ∧
    Cond.hostReadFailed (⟨0, 0, 7⟩) (.entry) (.timeout) (ready0 run) = true ∧
    Cond.hostReadFailedSram (⟨0, 0, 7⟩) (.entry) (.sram) (ready0 run) = true ∧
    Cond.rangeLockAdmit (waiting1) = true ∧
    Cond.fetchEngineResume (1) ({run with nvme.stalledEngines := 6}) = true ∧
    Cond.stripeModeChange (run) = true ∧
    Cond.aggregationTimeExpiry (0) (msixOn (run.setCtrl 0 { run.ctrl 0 with coalesced := [(1, 2), (3, 1)] })) = true ∧
    Cond.invalidCommandOpcode (⟨0, 0, 7⟩) (ready0 run) = true := by
  decide +kernel

/-- States that meet the conditions of AdminReportsAndFeatures. -/
theorem test_hyp_AdminReportsAndFeatures :
    Cond.getLogPage (⟨0, 0, 7⟩) (4) (0) (0) (3) (false) (.ok) (ready0 run) = true ∧
    Cond.identify (⟨0, 0, 7⟩) (0x1C) (0) (0) (0) (.ok) (ready0 run) = true ∧
    Cond.abort (⟨0, 0, 7⟩) (ready0 run) = true ∧
    Cond.setFeatures (⟨0, 0, 7⟩) (8) (0x0203) (true) (ready0 run) = true ∧
    Cond.setFeaturesOther (⟨0, 0, 7⟩) (0x0F) (250) (false) (.ok) (ready0 run) = true ∧
    Cond.setFeaturesNs (⟨0, 0, 7⟩) (0x83) (1) (false) (.ok) (withNs (ready0 run)) = true ∧
    Cond.getFeatures (⟨0, 0, 7⟩) (4) (0) (0) (ready0 run) = true ∧
    Cond.asynchronousEventRequest (⟨0, 0, 7⟩) (ready0 run) = true ∧
    Cond.keepAlive (⟨0, 0, 7⟩) (ready0 run) = true ∧
    Cond.keepAliveExpiry (0) (run.setCtrl 0 { run.ctrl 0 with enabled := true, keepAliveMs := 100 }) = true := by
  decide +kernel

/-- States that meet the conditions of NamespacesAndFirmware. -/
theorem test_hyp_NamespacesAndFirmware :
    Cond.namespaceCreate (⟨0, 0, 7⟩) (0) (0) (1) (0) (0) (false) (true) (.ok) (ready0 run) = true ∧
    Cond.namespaceDelete (⟨0, 0, 7⟩) (1) (withNs (ready0 run)) = true ∧
    Cond.namespaceAttach (⟨0, 0, 7⟩) (1) ([2]) (.ok) (withNs (ready0 run)) = true ∧
    Cond.namespaceDetach (⟨0, 0, 7⟩) (1) ([1]) (.ok) (withNs (ready0 run)) = true ∧
    Cond.formatNvm (⟨0, 0, 7⟩) (1) (1) (1) (1) (false) (withNs (ready0 run)) = true ∧
    Cond.firmwareImageDownload (⟨0, 0, 7⟩) (1024) (1023) (.ok) (ready0 run) = true ∧
    Cond.firmwareCommitWrite (⟨0, 0, 7⟩) (1) (ready0 {run with cs := { run.cs with image := [(0, 1)], imageLen := 4096 }}) = true ∧
    Cond.firmwareCommitWriteSelect (⟨0, 0, 7⟩) (1) (ready0 {run with cs := { run.cs with image := [(0, 1)], imageLen := 4096 }}) = true ∧
    Cond.firmwareCommitSelect (⟨0, 0, 7⟩) (1) (2) (false) (ready0 {run with cs := marked}) = true ∧
    Cond.firmwareCommitSelectBad (⟨0, 0, 7⟩) (3) (ready0 {run with cs := marked}) = true := by
  decide +kernel

/-- States that meet the conditions of SelfTestsAndFunctions. -/
theorem test_hyp_SelfTestsAndFunctions :
    Cond.deviceSelfTestShort (⟨0, 0, 7⟩) (ready0 run) = true ∧
    Cond.deviceSelfTestExtended (⟨0, 0, 7⟩) (ready0 run) = true ∧
    Cond.deviceSelfTestAbort (⟨0, 0, 7⟩) (15) (ready0 {run with nvme.selfTest := some ⟨true, 0, 3, 0⟩}) = true ∧
    Cond.deviceSelfTestAbortBad (⟨0, 0, 7⟩) (4) (ready0 {run with nvme.selfTest := some ⟨true, 0, 3, 0⟩}) = true ∧
    Cond.selftestStepStart (none) ({run with nvme.selfTest := some ⟨true, 0, 3, 0⟩}) = true ∧
    Cond.selftestStepStartDeferred (none) ({run with nvme.selfTest := some ⟨true, 0, 3, 0⟩, nvme.fwdOut := [⟨8, 0, 1, 7, 1, 1, false, 1, [], false, false, [], 0, .ok, 0, false, false⟩]}) = true ∧
    Cond.selftestTimeout ({run with nvme.selfTest := some ⟨false, 0, 3, 0⟩}) = true ∧
    Cond.primaryFlexibleAllocation (⟨0, 0, 7⟩) (ready0 run) = true ∧
    Cond.secondaryControllerAssign (⟨0, 0, 7⟩) (3) (5) (false) (false) (ready0 {run with nvme.vfEnable := true, nvme.numVfs := 2}) = true ∧
    Cond.secondaryControllerOnline (⟨0, 0, 7⟩) (3) (ready0 ({run with nvme.vfEnable := true, nvme.numVfs := 2}.setCtrl 2 { Ctrl.init with vq := 1, vi := 1 })) = true ∧
    Cond.secondaryControllerOffline (⟨0, 0, 7⟩) (3) (ready0 ({run with nvme.vfEnable := true, nvme.numVfs := 2}.setCtrl 2 { Ctrl.init with vq := 1, vi := 1, online := true })) = true ∧
    Cond.secondaryControllerOfflineEnabled (⟨0, 0, 7⟩) (3) (ready0 ({run with nvme.vfEnable := true, nvme.numVfs := 2}.setCtrl 2 { Ctrl.init with vq := 1, vi := 1, online := true, enabled := true })) = true := by
  decide +kernel

/-- States that meet the conditions of SpdmAndSecurity. -/
theorem test_hyp_SpdmAndSecurity :
    Cond.spdmGetVersion ({run.setVal 0x3020 5 1 with nvme.spdm := .algorithms}) = true ∧
    Cond.spdmGetVersionOff (run.setVal 0x3020 5 0) = true ∧
    Cond.spdmGetCapabilities ({run.setVal 0x3020 5 1 with nvme.spdm := .algorithms}) = true ∧
    Cond.spdmGetCapabilitiesEarly ({{run.setVal 0x3020 5 1 with nvme.spdm := .algorithms} with nvme.spdm := .none}) = true ∧
    Cond.spdmNegotiate ({run.setVal 0x3020 5 1 with nvme.spdm := .algorithms}) = true ∧
    Cond.spdmGetDigests ({run.setVal 0x3020 5 1 with nvme.spdm := .algorithms}) = true ∧
    Cond.spdmGetCertificate ({run.setVal 0x3020 5 1 with nvme.spdm := .algorithms}) = true ∧
    Cond.spdmChallenge ({run.setVal 0x3020 5 1 with nvme.spdm := .algorithms}) = true ∧
    Cond.spdmGetMeasurements (0) ({run.setVal 0x3020 5 1 with nvme.spdm := .algorithms}) = true ∧
    Cond.spdmGetMeasurementsBlock (2) ({run.setVal 0x3020 5 1 with nvme.spdm := .algorithms}) = true ∧
    Cond.spdmGetMeasurementsBad (7) ({run.setVal 0x3020 5 1 with nvme.spdm := .algorithms}) = true ∧
    Cond.securitySend (⟨0, 0, 7⟩) (0xE8) (4) (.getVersion) (.ok) (ready0 ({run.setVal 0x3020 5 1 with nvme.spdm := .algorithms})) = true ∧
    Cond.securitySendBad (⟨0, 0, 7⟩) (1) (ready0 ({run.setVal 0x3020 5 1 with nvme.spdm := .algorithms})) = true ∧
    Cond.securityReceive (⟨0, 0, 7⟩) (0xE8) (2) (.ok) (ready0 {run with nvme.spdmOut := [1, 2, 3]}) = true ∧
    Cond.sanitizeCryptoErase (⟨0, 0, 7⟩) (ready0 run) = true ∧
    Cond.sanitizeBlockErase (⟨0, 0, 7⟩) (2) (ready0 run) = true ∧
    Cond.sanitizeBlockEraseBad (⟨0, 0, 7⟩) (3) (ready0 run) = true ∧
    Cond.sanitizeDone ({run with nvme.sanitize := some ⟨true, true, false⟩}) = true := by
  decide +kernel

/-- States that meet the conditions of NvmReadsAndWrites. -/
theorem test_hyp_NvmReadsAndWrites :
    Cond.nvmFlush (⟨0, 1, 7⟩) (0xFFFFFFFF) (ioReady run) = true ∧
    Cond.nvmRead (⟨0, 1, 7⟩) (1) (2) (3) (⟨false, false, false, false, 0, 0, 0⟩) (.ok) (withNs (ioReady run)) = true ∧
    Cond.nvmReadFlash (⟨0, 1, 7⟩) (1) (2) (3) (⟨false, false, false, false, 0, 0, 0⟩) (.ok) ({withNs (ioReady run) with sets := #v[{ (withNs (ioReady run)).xset 0 with map := [(unitKey 1 0, ⟨1, 64, 0, 1, 8192⟩)] }, run.xset 1]}) = true ∧
    Cond.nvmVerify (⟨0, 1, 7⟩) (1) (2) (3) (⟨false, false, false, false, 0, 0, 0⟩) (withNs (ioReady run)) = true ∧
    Cond.nvmCompare (⟨0, 1, 7⟩) (1) (2) (3) ([⟨[1], []⟩]) (⟨false, false, false, false, 0, 0, 0⟩) (.ok) (withNs (ioReady run)) = true ∧
    Cond.nvmWrite (⟨0, 1, 7⟩) (1) (3) (7) ([⟨[1], []⟩, ⟨[2, 3], []⟩]) (⟨false, false, false, false, 0, 0, 0⟩) (.ok) (withNs (ioReady run)) = true ∧
    Cond.writeZeroes (⟨0, 1, 7⟩) (1) (2) (10) (⟨false, false, false, false, 0, 0, 0⟩) (withNs (ioReady run)) = true ∧
    Cond.datasetManagement (⟨0, 1, 7⟩) (1) ([(4, 8), (21, 12)]) (true) (.ok) (withNs (ioReady run)) = true ∧
    Cond.nvmCopy (⟨0, 1, 7⟩) (1) (9) ([⟨0, 3, 0, 0, 0⟩, ⟨8, 0, 0, 0, 0⟩]) (⟨false, false, false, false⟩) (⟨false, false, false, false, 0, 0, 0⟩) (.ok) (withNs (ioReady run)) = true := by
  decide +kernel

/-- States that meet the conditions of Reservations. -/
theorem test_hyp_Reservations :
    Cond.reservationRegister (⟨0, 1, 7⟩) (1) (0) (.ok) (withNs (ioReady run)) = true ∧
    Cond.reservationRegisterBad (⟨0, 1, 7⟩) (1) (3) (.ok) (withNs (ioReady run)) = true ∧
    Cond.reservationAcquire (⟨0, 1, 7⟩) (1) (0) (false) (1) (77) (.ok) (withReg (withNs (ioReady run))) = true ∧
    Cond.reservationAcquireConflict (⟨0, 1, 7⟩) (1) (false) (78) (.ok) (withReg (withNs (ioReady run))) = true ∧
    Cond.reservationRelease (⟨0, 1, 7⟩) (1) (0) (false) (1) (77) (.ok) (heldReg (withNs (ioReady run))) = true ∧
    Cond.reservationReport (⟨0, 1, 7⟩) (1) (31) (true) (.ok) (withNs (ioReady run)) = true ∧
    Cond.reservationReportShort (⟨0, 1, 7⟩) (1) (31) (false) (.ok) (withNs (ioReady run)) = true := by
  decide +kernel

/-- States that meet the conditions of ProgramSlots. -/
theorem test_hyp_ProgramSlots :
    Cond.loadProgram (⟨0, 1, 7⟩) (1021) (0x100) (0) ([1, 2, 3, 4]) (.ok) (withDev (ioReady run)) = true ∧
    Cond.loadProgramWhole (⟨0, 1, 7⟩) (1021) (0x100) (0) ([1, 2, 3, 4, 5, 6, 7, 8, 12, 0, 0, 0]) (.ok) (withDev (ioReady run)) = true ∧
    Cond.loadProgramIndex (⟨0, 1, 7⟩) (1021) (3) (0) ([1, 2, 3, 4]) (.ok) (withDev (ioReady run)) = true ∧
    Cond.programUnload (⟨0, 1, 7⟩) (1021) (0x100) (.ok) (withDev (ioReady run) |>.setSlot 0 { Slot.init with state := .loaded }) = true ∧
    Cond.slotUnloaded (3) (run.setSlot 3 { Slot.init with state := .unloading, gen := 9 }) = true ∧
    Cond.slotUnloadedNamed (3) (run) = true ∧
    Cond.loadingTimeout (3) (run.setSlot 3 { Slot.init with state := .loading, gen := 9 }) = true ∧
    Cond.programActivate (⟨0, 1, 7⟩) (1021) (0x100) (.ok) ((withDev (ioReady run)).setSlot 0 { Slot.init with state := .loaded }) = true ∧
    Cond.programDeactivate (⟨0, 1, 7⟩) (1021) (0x100) (.ok) ((withDev (ioReady run)).setSlot 0 { Slot.init with state := .active }) = true ∧
    Cond.programDeactivateFixed (⟨0, 1, 7⟩) (1021) (3) (.ok) (withDev (ioReady run)) = true := by
  decide +kernel

/-- States that meet the conditions of SlmAndPrograms. -/
theorem test_hyp_SlmAndPrograms :
    Cond.memoryRangeSetManagement (⟨0, 1, 7⟩) (1021) ([(0, 64)]) (.ok) (withDev (ioReady run)) = true ∧
    Cond.memoryRangeSetManagementDelete (⟨0, 1, 7⟩) (1021) (1) (.ok) ({withDev (ioReady run) with sched.sets := [⟨1, 0, []⟩]}) = true ∧
    Cond.executeProgram (⟨0, 1, 7⟩) (1021) (1) (0) ([1, 0, 0, 0, 1, 0, 0, 0] ++ List.replicate 32 0) (.ok) (withDev (ioReady run)) = true ∧
    Cond.executeProgramHeader (⟨0, 1, 7⟩) (1021) (1) (0) ([2, 0, 0, 0, 1, 0, 0, 0] ++ List.replicate 32 0) (.ok) (withDev (ioReady run)) = true ∧
    Cond.slmRead (⟨0, 1, 7⟩) (1023) (8) (16) (.ok) (withDev (ioReady run)) = true ∧
    Cond.slmReadBad (⟨0, 1, 7⟩) (1023) (6) (16) (.ok) (withDev (ioReady run)) = true ∧
    Cond.slmWrite (⟨0, 1, 7⟩) (1023) (8) ([1, 2, 3, 4]) (.ok) (withDev (ioReady run)) = true ∧
    Cond.slmCopy (⟨0, 1, 7⟩) (1023) (0) (1) ([(0, 0), (5, 1)]) (.ok) (withDev (ioReady run)) = true := by
  decide +kernel

/-- States that meet the conditions of TaskScheduling. -/
theorem test_hyp_TaskScheduling :
    Cond.taskEnqueue (2) (task0) (run) = true ∧
    Cond.taskEnqueueExec (5) ({run with sched.execs := [exec0]}) = true ∧
    Cond.taskEnqueueStalled (2) (task0) ({run with sched.stalled := [⟨2, task0, 0⟩]}) = true ∧
    Cond.enqueueResume (1) (false) ({run with sched.stalled := [⟨1, task0, 0⟩]}) = true ∧
    Cond.taskDispatch (1) (.clean) (false) (readied run) = true ∧
    Cond.taskDispatchLost (1) (.clean) (true) (readied run) = true ∧
    Cond.prefetchFill (1) (.clean) (false) (busied (readied run)) = true := by
  decide +kernel

/-- States that meet the conditions of TenantFunctions. -/
theorem test_hyp_TenantFunctions :
    Cond.numvfsWrite (4) (run) = true ∧
    Cond.numvfsWriteIgnored (256) (run) = true ∧
    Cond.vfEnable ({run with nvme.numVfs := 3}) = true ∧
    Cond.vfEnableNone (run) = true ∧
    Cond.vfDisable ({run with nvme.numVfs := 2, nvme.vfEnable := true}) = true ∧
    Cond.functionLevelReset (1) ({ioReady run with nvme.numVfs := 2, nvme.vfEnable := true}) = true ∧
    Cond.functionLevelResetPf (0) ({ioReady run with nvme.numVfs := 2, nvme.vfEnable := true}) = true ∧
    Cond.flrReadsDrained (1) (2) ({run with nvme.numVfs := 2, nvme.vfEnable := true}.setCtrl 1 { Ctrl.init with flr := some 0, vq := 3 }) = true ∧
    Cond.flrReadsDrainedWaits (1) (2) ({run with nvme.numVfs := 2, nvme.vfEnable := true}.setCtrl 1 { Ctrl.init with flr := some 99999999000 }) = true ∧
    Cond.lateCompletion (0) (run.setCtrl 0 { run.ctrl 0 with lateExpected := 3 }) = true ∧
    Cond.tenantScrubDone (0) (run.setCtrl 0 { run.ctrl 0 with scrub := 1 }) = true := by
  decide +kernel

/-- States that meet the conditions of MediaRings. -/
theorem test_hyp_MediaRings :
    Cond.portEnable (0) (ported) = true ∧
    Cond.portEnableRefused (0) (ported.setPort 0 { ported.port 0 with descBase := 64 }) = true ∧
    Cond.ringReset (0) (fetched (descOf .read)) = true ∧
    Cond.ringResetDone (0) (ported.setPort 0 { ported.port 0 with resetBusy := true, descHead := 254, resetEnd := 1 }) = true ∧
    Cond.descTailDoorbell (0) (ported) = true ∧
    Cond.descTailDoorbellIgnored (0) (ported.setPort 0 { ported.port 0 with resetBusy := true }) = true ∧
    Cond.mediaDescFetch (0) (false) ((ported.setPort 0 { ported.port 0 with descTail := 1 }).store 0x100000000000 [0x40, 0, 0, 0, 7] false) = true ∧
    Cond.mediaDescFetchBadDesc (0) (false) ((ported.setPort 0 { ported.port 0 with descTail := 1 }).store 0x100000000000 [0x41, 0, 0, 0, 7] false) = true ∧
    Cond.mediaDescFetchBusError (0) (true) (ported.setPort 0 { ported.port 0 with descTail := 1 }) = true ∧
    Cond.channelClaimLunWait (0) (0) (true) (ported.setLun 0 0 { Lun.init with unobserved := true }) = true ∧
    Cond.channelClaimLunWaitLate (0) (0) (false) (ported.setLun 0 0 { (erasing .erasing 0 []).lun 0 0 with unobserved := true }) = true ∧
    Cond.channelTrainingDone (0) (0) ({ported with flash.initialized := true}.setPort 0 { ported.port 0 with trained := false, retraining := true }) = true ∧
    Cond.channelTrainingDoneTable (0) (0) ({ported with flash.initialized := true}.setPort 0 { ported.port 0 with trained := false }) = true ∧
    Cond.channelTrainingDoneFirst (0) (0) ({ported with flash.initialized := false}.setPort 0 { ported.port 0 with trained := false }) = true ∧
    Cond.channelRetrain (0) (ported.setPort 0 { ported.port 0 with trainedTemp := 1000 }) = true ∧
    Cond.badBlockTableRewrite (0) (ported) = true := by
  decide +kernel

/-- States that meet the conditions of MediaOperations. -/
theorem test_hyp_MediaOperations :
    Cond.mediaRead (0) (0) (fetched (descOf .read)) = true ∧
    Cond.mediaReadCont (0) (0) (fetched (descOf .readCont)) = true ∧
    Cond.mediaReadSuspends (0) (0) (erasing .erasing 0 [freshOp 6 0 { descOf .read with cls := 0 } (.ring 3)]) = true ∧
    Cond.mediaProgram (0) (0) (.clean) (fetched (descOf .program)) = true ∧
    Cond.mediaProgramRejected (0) (0) (.clean) ((fetched (descOf .program)).setWp (blockKey 0 0 0 3) ⟨.full, 0⟩) = true ∧
    Cond.mediaErase (0) (0) (.clean) (fetched (descOf .erase)) = true ∧
    Cond.mediaEraseRejected (0) (0) (.clean) ((fetched (descOf .erase)).setWp (blockKey 0 0 0 3) ⟨.bad, 0⟩) = true ∧
    Cond.mediaGetFeatures (0) (0) (some 5) (fetched (descOf .getFeatures)) = true ∧
    Cond.mediaGetFeaturesWaits (0) (0) (none) (fetched (descOf .getFeatures)) = true ∧
    Cond.mediaSetFeatures (0) (0) (true) (fetched { descOf .setFeatures with param := 5 }) = true ∧
    Cond.mediaSetFeaturesWaits (0) (0) (false) (fetched { descOf .setFeatures with param := 5 }) = true ∧
    Cond.mediaReadStatus (0) (0) (fetched (descOf .readStatus)) = true ∧
    Cond.mediaResetLun (0) (0) (fetched (descOf .resetLun)) = true ∧
    Cond.mediaRaw (0) (0) (false) ({fetched (descOf .raw) with dict := {run.dict with vals := [(ekey 0 0x5020 4, 1), (ekey 0 0xC010 2, 274877906944)]}}.store 0x100000010000 [1, 0x90, 0, 0, 2, 0, 0, 0] false) = true ∧
    Cond.mediaRawDataIn (0) (0) (false) ({fetched (descOf .raw) with dict := {run.dict with vals := [(ekey 0 0x5020 4, 1), (ekey 0 0xC010 2, 274877906944)]}}.store 0x100000010000 [4, 2, 0, 0] false) = true ∧
    Cond.mediaRawDenied (0) (0) ((fetched (descOf .raw)).store 0x100000010000 [4, 2, 0, 0] false) = true := by
  decide +kernel

/-- States that meet the conditions of MediaEnds. -/
theorem test_hyp_MediaEnds :
    Cond.senseEnd (0) (0) (ongoing (descOf .read) .reading id) = true ∧
    Cond.channelTransferEnd (0) ({ongoing (descOf .read) .reading (fun o => { o with sensed := true }) with media.ports := [(0, { ported.port 0 with transfers := [5] })]}) = true ∧
    Cond.channelTransferEndProgram (0) ({ongoing { descOf .program with planes := 1 } .programming id with media.ports := [(0, { ported.port 0 with transfers := [5] })]}) = true ∧
    Cond.codewordDecoded (0) (0) (.erased) (ongoing { descOf .read with cwMask := 3 } .idle (fun o => { o with sensed := true, transferred := true, left := [(0, 0), (1, 0)] })) = true ∧
    Cond.codewordDecodedClean (0) (0) (.decoded 3) ({ongoing { descOf .read with cwMask := 3 } .idle (fun o => { o with sensed := true, transferred := true, left := [(0, 0), (1, 0)] }) with flash.pages := [(ppnOf 0 0 0 3 0, .raw [⟨[1, 2], [], false⟩])]}) = true ∧
    Cond.codewordDecodedLast (0) (0) (.decoded 3) ({ongoing { descOf .read with cwMask := 1 } .reading (fun o => { o with sensed := true, transferred := true, left := [(0, 0)] }) with flash.pages := [(ppnOf 0 0 0 3 0, .raw [⟨[1, 2], [], false⟩])]}) = true ∧
    Cond.programEnd (0) (0) (true) (ongoing (descOf .program) .programming (fun o => { o with transferred := true })) = true ∧
    Cond.programEndFails (0) (0) (false) (ongoing (descOf .program) .programming (fun o => { o with transferred := true })) = true ∧
    Cond.eraseEnd (0) (0) (true) (erasing .erasing 2 []) = true ∧
    Cond.eraseEndFails (0) (0) (false) (erasing .erasing 2 []) = true ∧
    Cond.eraseSuspended (0) (0) (erasing .suspending 0 [freshOp 6 0 { descOf .read with cls := 0 } (.ring 3)]) = true ∧
    Cond.mediaOpTimeout (0) (0) (ongoing (descOf .read) .reading (fun o => { o with startAt := 0 })) = true ∧
    Cond.lunRecoveryEnd (0) (0) (true) (ongoing (descOf .read) .reading id |>.setLun 0 0 { (ongoing (descOf .read) .reading id).lun 0 0 with recovering := some 5 }) = true ∧
    Cond.lunRecoveryEndFaults (0) (0) (false) (ongoing (descOf .read) .reading id |>.setLun 0 0 { (ongoing (descOf .read) .reading id).lun 0 0 with recovering := some 5 }) = true := by
  decide +kernel

/-- States that meet the conditions of CodeStoreQueue. -/
theorem test_hyp_CodeStoreQueue :
    Cond.csEnable ({stored with cs.enable := false}) = true ∧
    Cond.csEnableRefused ({stored with cs.descBase := 32}) = true ∧
    Cond.csQueueReset ({csFetched (csOp .erase 0) with cs.descHead := 4, cs.descTail := 6}) = true ∧
    Cond.csQueueResetWaits (csRunning (csOp .erase 0)) = true ∧
    Cond.csQueueResetAgain ({stored with cs.resetBusy := true}) = true ∧
    Cond.csDescTailDoorbellIgnored ({stored with cs.resetBusy := true}) = true ∧
    Cond.csDescTailDoorbellNothing (0) (stored) = true ∧
    Cond.csDescTailDoorbell (1) (false) (stored.store 0x110000C00000 [0x20, 0, 7, 0, 0, 0, 4] false) = true ∧
    Cond.csDescTailDoorbellFaulted (1) (false) ({stored with cs.faulted := true}) = true ∧
    Cond.csRead (0) (.clean) (csFetched (csOp .read 32)) = true ∧
    Cond.csReadUncorrectable (0) (.uncorrectable) (csFetched (csOp .read 32)) = true ∧
    Cond.csReadSuspends (0) (.clean) ({(stored.setBank 0 ⟨some { csOp .erase 0 with started := true, startAt := 99999999000, slot := 9 }, none, 0, 99999999000, 0, false, none⟩) with cs.ops := [{ csOp .read 32 with addr := 0x80000 }]}) = true ∧
    Cond.csProgram (0) (false) (csFetched (csOp .program 32)) = true ∧
    Cond.csProgramLocked (0) ({csFetched { csOp .program 32 with addr := 0 } with dict.vals := [(ekey 0 0xE000 2, 1)]}) = true ∧
    Cond.csProgramNotBlank (0) ({csFetched (csOp .program 64) with cs.array := [(0x40020, 0)]}) = true ∧
    Cond.csProgramBusError (0) (true) (csFetched (csOp .program 32)) = true ∧
    Cond.csErase (0) (csFetched (csOp .erase 0)) = true ∧
    Cond.csEraseLocked (0) ({csFetched { csOp .erase 32 with addr := 0 } with dict.vals := [(ekey 0 0xE000 2, 1)]}) = true ∧
    Cond.csBlankCheck (0) (csFetched (csOp .blankCheck 32)) = true ∧
    Cond.csBlankCheckNotBlank (0) ({csFetched (csOp .blankCheck 64) with cs.array := [(0x40020, 0)]}) = true ∧
    Cond.csProgramEnd (0) (true) (csRunning (csOp .program 32)) = true ∧
    Cond.csProgramEndFails (0) (false) (csRunning (csOp .program 32)) = true ∧
    Cond.csEraseEnd (0) (true) (csRunning (csOp .erase 0)) = true ∧
    Cond.csEraseEndFails (0) (false) (csRunning (csOp .erase 0)) = true ∧
    Cond.csOpTimeout (0) (stored.setBank 0 ⟨some { csOp .program 32 with started := true }, none, 0, 0, 0, false, none⟩) = true ∧
    Cond.csBankTimeout (0) ((csFetched (csOp .erase 0)).setBank 0 ⟨none, none, 0, 0, 0, false, some 0⟩) = true ∧
    Cond.xipFetchHit (64) (true) ({stored with cs.cache := [0]}) = true ∧
    Cond.xipFetchMiss (64) (true) (.clean) (stored) = true ∧
    Cond.xipFetch ({stored with cs.faulted := true}) = true := by
  decide +kernel

/-- States that meet the conditions of SowingAndJournal. -/
theorem test_hyp_SowingAndJournal :
    Cond.sowRow (0) (0) ({tilled (fun f => f) (fun x => x) with hold.dirty := [dirty0], hold.ceiling := 1073741824}) = true ∧
    Cond.rowConfirmed (0) (0) ({tilled (fun f => f) (fun x => { x with rows := [⟨0, 0, [placed0], [0], [], [0], []⟩] }) with hold.dirty := [{ dirty0 with sowing := true }]}) = true ∧
    Cond.rowProgramFailed (0) (0) (tilled (fun f => f) (fun x => { x with rows := [⟨0, 0, [], [0], [1], [0, 1], []⟩] })) = true ∧
    Cond.endMarkerWrite (0) (0) (tilled (fun f => f) (fun x => x)) = true ∧
    Cond.journalPageProgrammed (0) (tilled (fun f => f) (fun x => { x with dram := [⟨4, true, false, .readOnly true⟩, ⟨5, false, false, .readOnly true⟩] })) = true ∧
    Cond.checkpointStart (0) (tilled (fun f => f) (fun x => { x with sinceCheckpoint := 10 ^ 12 })) = true ∧
    Cond.checkpointComplete (0) (tilled (fun f => f) (fun x => { x with running := some (3, 7, [], []), flashLog := [⟨4, true, false, .readOnly true⟩, ⟨8, true, false, .readOnly true⟩] })) = true ∧
    Cond.mapSegmentReload (0) (549755813888) (tilled (fun f => f) (fun x => { x with badSegments := [549755813888], map := [(unitKey 1 0, ⟨2, 4, 0, 3, 99⟩)], flashLog := [⟨1, true, false, .unitMap 1 0 ⟨2, 4, 0, 1, 77⟩⟩] })) = true := by
  decide +kernel

/-- States that meet the conditions of GleaningAndWear. -/
theorem test_hyp_GleaningAndWear :
    Cond.dieParityRebuildBegins (1) (0) (tilled (fun f => { f with state := .gleaning }) (fun x => { x with map := [(unitKey 1 0, ⟨2, 4, 0, 3, ppnOf 0 0 0 3 0⟩)], gleans := [⟨0, 1, 0, ⟨2, 4, 0, 3, ppnOf 0 0 0 3 0⟩, 1, [ppnOf 0 0 0 3 0]⟩] })) = true ∧
    Cond.dieParityRebuildLost (1) (0) (false) (tilled (fun f => { f with state := .gleaning }) (fun x => { x with map := [(unitKey 1 0, ⟨2, 4, 0, 3, ppnOf 0 0 0 3 0⟩)], gleans := [⟨0, 1, 0, ⟨2, 4, 0, 3, ppnOf 0 0 0 3 0⟩, 1, [ppnOf 0 0 0 3 0]⟩], mending := [⟨1, 0, ppnOf 0 0 0 3 0, 15, 0, 0, 14⟩], furrows := x.furrows.map fun f => { f with cols := f.cols.take 1 } })) = true ∧
    Cond.dieParityRebuild (1) (0) (true) (tilled (fun f => { f with state := .gleaning }) (fun x => { x with map := [(unitKey 1 0, ⟨2, 4, 0, 3, ppnOf 0 0 0 3 0⟩)], gleans := [⟨0, 1, 0, ⟨2, 4, 0, 3, ppnOf 0 0 0 3 0⟩, 1, [ppnOf 0 0 0 3 0]⟩], mending := [⟨1, 0, ppnOf 0 0 0 3 0, 15, 0, 14, 14⟩] })) = true ∧
    Cond.gleanStart (0) ({tilled (fun f => { f with state := .full }) (fun x => { x with map := [(unitKey 1 0, ⟨2, 4, 0, 3, ppnOf 0 0 0 3 0⟩)] }) with hold.ceiling := 2 ^ 50}) = true ∧
    Cond.gleanMapUpdate (0) (tilled (fun f => f) (fun x => { x with moved := [moved0], map := [(unitKey 1 0, ⟨2, 4, 8, 1, 5⟩)] })) = true ∧
    Cond.gleanMapUpdateStale (0) (tilled (fun f => f) (fun x => { x with moved := [moved0], map := [(unitKey 1 0, ⟨2, 4, 8, 2, 5⟩)] })) = true ∧
    Cond.furrowErase (0) (0) (tilled (fun f => { f with state := .reclaimable }) (fun x => x)) = true ∧
    Cond.furrowEraseDone (0) (0) (tilled (fun f => { f with state := .erasing }) (fun x => x)) = true ∧
    Cond.patrolRead (0) (0) (0) (3) (0) ({ported with flash.pages := [(ppnOf 0 0 0 3 0, .raw [])]}) = true ∧
    Cond.patrolReadWaits (0) (0) (0) (3) (0) ({ (ported.setLun 0 0 { Lun.init with ops := [freshOp 1 0 (descOf .read) (.ring 3), freshOp 2 0 (descOf .read) (.ring 4)] }) with flash.pages := [(ppnOf 0 0 0 3 0, .raw [])]}) = true ∧
    Cond.patrolReadBlank (0) (0) (0) (3) (0) (ported) = true ∧
    Cond.staticSwap (0) ({tilled (fun f => { f with state := .full }) (fun x => { x with map := [(unitKey 1 0, ⟨2, 4, 0, 3, ppnOf 0 0 0 3 0⟩)] }) with flash.erases := [(blockKey 0 0 0 3, 3000)], dict.force := [(ekey 0 0x5000 6, 16), (ekey 0 0x6000 5, 0)]}) = true ∧
    Cond.lunRetired (0) (0) ((tilled (fun f => { f with state := .full }) (fun x => x)).setLun 0 0 { Lun.init with faultTimes := [99999999999, 99999999998, 99999999997] }) = true := by
  decide +kernel

/-- States that meet the conditions of HoldUp. -/
theorem test_hyp_HoldUp :
    Cond.dirtyReservationGranted (waitingWrite) = true ∧
    Cond.ceilingRaiseEffective ({roomy with hold.raise := some 67108864}) = true ∧
    Cond.huMeasurementStart (1048000) (measuring ⟨0, false, 0, 0⟩) = true ∧
    Cond.huMeasurementStartPostponed (0) (measuring ⟨0, false, 59, 0⟩) = true ∧
    Cond.huMeasurementStartGivenUp (0) (measuring ⟨0, false, 60, 0⟩) = true ∧
    Cond.huTestEnd (1040000) (measuring ⟨1048000, true, 0, 0⟩) = true ∧
    Cond.huTestEndInvalid (1047000) (measuring ⟨1048000, true, 0, 1⟩) = true ∧
    Cond.huTestEndThirdInvalid (1047000) (measuring ⟨1048000, true, 0, 2⟩) = true ∧
    Cond.huPeriodExpiry ({run with hold.valid := true, pkg.timebase := 10 ^ 16}) = true ∧
    Cond.huSeriesRetry ({run with hold.needRetry := true}) = true ∧
    Cond.huSharedTimeout ({run with pkg.straps := ⟨true, true, false⟩, dict.vals := [(ekey 0 0x7010 8, 1)], pkg.timebase := 10 ^ 16}) = true := by
  decide +kernel

/-- States that meet the conditions of StraitLink. -/
theorem test_hyp_StraitLink :
    Cond.straitLinkUp (8) (5) ({run with pkg.straps := ⟨false, true, false⟩}) = true ∧
    Cond.straitLinkUpDown (8) (3) ({run with pkg.straps := ⟨false, true, false⟩}) = true ∧
    Cond.straitFrameError (linked) = true ∧
    Cond.straitNak (⟨4, 0, 0⟩) (sentOne) = true ∧
    Cond.straitAckSend ({sentOne with twin.unackedRx := true, twin.nak := true}) = true ∧
    Cond.straitNop (sentOne) = true ∧
    Cond.hello (true) (true) (false) (9) (paired) = true ∧
    Cond.helloRefused (false) (true) (false) (paired) = true ∧
    Cond.helloAck ({paired with twin.pair := .alone, twin.adopt := true}) = true ∧
    Cond.echo (paired) = true ∧
    Cond.eventFwd (3) (paired) = true ∧
    Cond.unknownFrame (paired) = true ∧
    Cond.heartbeatSend (paired) = true ∧
    Cond.heartbeat (2) (paired) = true ∧
    Cond.straitLockLoss (sentOne) = true := by
  decide +kernel

/-- States that meet the conditions of MirrorAndShipping. -/
theorem test_hyp_MirrorAndShipping :
    Cond.mirrorSize (false) (holding) = true ∧
    Cond.mirrorSizeConfirmed (true) ({paired with twin.pair := .resync}) = true ∧
    Cond.mirrorFlushed (holding) = true ∧
    Cond.huResult ({linked with pkg.straps := ⟨true, true, false⟩, dict.vals := [(ekey 0 0x7010 8, 1)]}) = true ∧
    Cond.resvState (withNs linked) = true ∧
    Cond.mirrorDesc (holding) = true ∧
    Cond.mirrorData (4) (3) (holding) = true ∧
    Cond.mirrorDataWhole (4) (71) ({paired with twin.held := [⟨4, 1, 0, 1, 9, 1, 1, 0, [], none, (List.range 71).map (fun k => (k, [])), false, false⟩]}) = true ∧
    Cond.mirrorAck ([4]) ({paired with hold.dirty := [{ dirty0 with slot := some 4, acked := false, committed := false }]}) = true ∧
    Cond.mirrorFree (holding) = true ∧
    Cond.mirrorDiscard ({holding with nvme.fwdOut := forwarding.nvme.fwdOut.map fun f => { f with write := true, pieces := [1] }}) = true ∧
    Cond.journalRecords (1) (5) ([JRec.bytes ⟨5, true, false, .rowConfirmed 7 0 255⟩]) ({paired with sets := #v[{ run.xset 0 with live := true }, { run.xset 1 with furrows := [Furrow.opened 7 false] }]}) = true ∧
    Cond.journalAck (paired) = true ∧
    Cond.resyncFrom (0) (5) ({paired with sets := #v[{ run.xset 0 with live := true, seq := 6, dram := [⟨6, true, false, .readOnly true⟩] }, run.xset 1]}) = true ∧
    Cond.segment (1) ([5]) (paired) = true ∧
    Cond.pairInStep ({paired with twin.pair := .resync, twin.mirrorOn := true, sets := #v[{ run.xset 0 with live := true }, { run.xset 1 with current := true }]}) = true := by
  decide +kernel

/-- States that meet the conditions of ForwardingAndProxy. -/
theorem test_hyp_ForwardingAndProxy :
    Cond.fwdCmdNoNamespace (1) (paired) = true ∧
    Cond.fwdCmd (1) (1) (.write 0 3) (withNs paired) = true ∧
    Cond.fwdPull (8) (2) (forwarding) = true ∧
    Cond.fwdDataToHost (8) (forwarding) = true ∧
    Cond.fwdDataWaits (8) (0) ([5, 6]) (serving1) = true ∧
    Cond.fwdCpl (8) (0) (forwarding) = true ∧
    Cond.fwdStop ([8]) (forwarding) = true ∧
    Cond.fwdStopAck ([(8, 0)]) ({forwarding with nvme.fwdOut := forwarding.nvme.fwdOut.map fun f => { f with stopping := true }}) = true ∧
    Cond.mediaReq (0) (0x40) ({paired with media.ports := [(0, { Port.init with claim := .owned, trained := true, byTwin := true })]}) = true ∧
    Cond.mediaReqRaw (0xF0) (paired) = true ∧
    Cond.mediaData (0) (false) ({paired with twin.mediaOut := [⟨3, 0, freshOp 0 0 (descOf .read) (.row 0 0 0), [], [], [], 0⟩]}) = true ∧
    Cond.mediaCpl (3) (0) ({paired with twin.mediaOut := [⟨3, 0, freshOp 0 0 (descOf .erase) (.furrowErase 9 0), [], [], [], 0⟩]}) = true := by
  decide +kernel

/-- States that meet the conditions of TakeoverAndChannels. -/
theorem test_hyp_TakeoverAndChannels :
    Cond.regionHandover (0) (6) (paired) = true ∧
    Cond.regionReclaim (0) (2) ({paired with media.ports := [(1, { Port.init with claim := .waiting 0, byTwin := true })]}) = true ∧
    Cond.regionReclaimOwned (0) (2) ({paired with media.ports := [(1, { Port.init with claim := .owned, byTwin := true })]}) = true ∧
    Cond.setReleased (1) ({paired with twin.pair := .failback, twin.failback := some ⟨1, false, false⟩}) = true ∧
    Cond.straitSilence ({paired with pkg.phase := .flushing .powerFail, hold.flush := some ⟨.powerFail, 0, 0, 0, false, false, false, 0, 0, 0⟩}) = true ∧
    Cond.straitSilenceSplits (paired) = true ∧
    Cond.twinFailAsserted (paired) = true ∧
    Cond.twinAliveFall (paired) = true ∧
    Cond.takeoverComplete ({paired with twin.pair := .takeover, twin.takeover := some ⟨2, 0, false, [], [], false⟩, sets := #v[run.xset 0, { run.xset 1 with live := true }]}) = true ∧
    Cond.failbackCompleteHolder ({paired with twin.pair := .failback, twin.failback := some ⟨2, true, true⟩}) = true ∧
    Cond.failbackCompleteReturning ({paired with dict.force := roomy.dict.force, twin.pair := .failback, twin.failback := some ⟨1, false, true⟩, media.ports := (List.range 32).map fun c => (c, { Port.init with claim := .owned, trained := true })}) = true ∧
    Cond.channelClaimMet (0) ({run with media.ports := [(0, { Port.init with claim := .waiting 0 })]}) = true ∧
    Cond.simultaneousClaimKept (0) ({run with media.ports := [(0, { Port.init with claim := .waiting 0 })]}) = true ∧
    Cond.simultaneousClaimWithdrawn (0) ({run with pkg.straps := ⟨true, true, false⟩, media.ports := [(0, { Port.init with claim := .waiting 0 })]}) = true ∧
    Cond.ownershipConflict (0) (ported) = true ∧
    Cond.claimTimeout (0) ({run with media.ports := [(0, { Port.init with claim := .waiting 0 })]}) = true := by
  decide +kernel

/-- States that meet the conditions of IntegrityBackground. -/
theorem test_hyp_IntegrityBackground :
    Cond.leakIntervalExpiry ({run with integ.buckets := [(0, 1), (2, 5), (9, 4)]}) = true ∧
    Cond.dramScrubReadClean (128) (.clean) (run) = true ∧
    Cond.dramScrubReadCorrected (128) (.corrected) (run) = true ∧
    Cond.dramScrubReadMarked (128) (.uncorrectable) (run) = true ∧
    Cond.ternaryRefreshClean (9) (.clean) ({run with tern.refreshEn := true}) = true ∧
    Cond.ternaryRefreshCorrected (9) (.corrected) ({run with tern.refreshEn := true}) = true ∧
    Cond.ternaryRefreshLost (9) (.uncorrectable) ({run with tern := { run.tern with refreshEn := true, entries := [(9, ⟨1, 0, 0, false, true, false, 5, 0⟩)] }}) = true := by
  decide +kernel

/-- States that meet the conditions of BasizInteger. -/
theorem test_hyp_BasizInteger :
    Cond.mov (at33) (0) (cored) = true ∧
    Cond.add (at33) (0) (1) (cored) = true ∧
    Cond.sub (at33) (0) (1) (cored) = true ∧
    Cond.and (at33) (0) (1) (cored) = true ∧
    Cond.or (at33) (0) (1) (cored) = true ∧
    Cond.xor (at33) (0) (1) (cored) = true ∧
    Cond.andn (at33) (0) (1) (cored) = true ∧
    Cond.shl (at33) (0) (1) (cored) = true ∧
    Cond.shr (at33) (0) (1) (cored) = true ∧
    Cond.sar (at33) (0) (1) (cored) = true ∧
    Cond.rol (at33) (0) (1) (cored) = true ∧
    Cond.mul (at33) (0) (1) (cored) = true ∧
    Cond.divu (at33) (0) (1) (cored) = true ∧
    Cond.div (at33) (0) (1) (cored) = true ∧
    Cond.remu (at33) (0) (1) (cored) = true ∧
    Cond.rem (at33) (0) (1) (cored) = true ∧
    Cond.minu (at33) (0) (1) (cored) = true ∧
    Cond.maxu (at33) (0) (1) (cored) = true ∧
    Cond.min (at33) (0) (1) (cored) = true ∧
    Cond.max (at33) (0) (1) (cored) = true ∧
    Cond.slt (at33) (0) (1) (cored) = true ∧
    Cond.sltu (at33) (0) (1) (cored) = true ∧
    Cond.seq (at33) (0) (1) (cored) = true ∧
    Cond.clz (at33) (0) (cored) = true ∧
    Cond.ctz (at33) (0) (cored) = true ∧
    Cond.popc (at33) (0) (cored) = true ∧
    Cond.bswap (at33) (0) (cored) = true ∧
    Cond.cmovnz (at33) (8) (0) (1) (cored) = true := by
  decide +kernel

/-- States that meet the conditions of BasizPairsImmediatesAddresses. -/
theorem test_hyp_BasizPairsImmediatesAddresses :
    Cond.addc (at33) (8) (0) (1) (cored) = true ∧
    Cond.subb (at33) (8) (0) (1) (cored) = true ∧
    Cond.mulw (at33) (8) (0) (1) (cored) = true ∧
    Cond.mulwu (at33) (8) (0) (1) (cored) = true ∧
    Cond.addcc (at33) (8) (0) (1) (cored) = true ∧
    Cond.subbc (at33) (8) (0) (1) (cored) = true ∧
    Cond.addi (at33) (0) (⟨5, false⟩) (cored) = true ∧
    Cond.andi (at33) (0) (⟨5, false⟩) (cored) = true ∧
    Cond.ori (at33) (0) (⟨5, false⟩) (cored) = true ∧
    Cond.xori (at33) (0) (⟨5, false⟩) (cored) = true ∧
    Cond.shi (at33) (0) (cored) = true ∧
    Cond.inshi (at33) (2) (cored) = true ∧
    Cond.movi (at33) (⟨-5, true⟩) (cored) = true ∧
    Cond.mova (at33) (0) (cored) = true ∧
    Cond.movd (at33) (0) (cored) = true ∧
    Cond.aadd (at33) (0) (1) (cored) = true ∧
    Cond.asub (at33) (0) (1) (cored) = true ∧
    Cond.adiff (at33) (0) (1) (cored) = true ∧
    Cond.lea (at33) (0) (⟨-64, false⟩) (cored) = true ∧
    Cond.mfcr (at33) (0x31) (false) (cored) = true ∧
    Cond.mtcr (at33) (2) (0x08) (false) (cored) = true := by
  decide +kernel

/-- States that meet the conditions of BasizDecimal. -/
theorem test_hyp_BasizDecimal :
    Cond.dadd (at33) (8) (0) (1) ((coreWith fun (c : Core) => { c with d := #v[0x9999999999999999, 0x12, 0, 0, 0, 0, 0, 0, 0, 0, 0, 0, 0, 0, 0, 0] })) = true ∧
    Cond.daddPoisoned (at33) (8) (0) (1) ((coreWith fun (c : Core) => { c with dp := c.dp.set 0 true })) = true ∧
    Cond.dsub (at33) (8) (0) (1) ((coreWith fun (c : Core) => { c with d := #v[0x9999999999999999, 0x12, 0, 0, 0, 0, 0, 0, 0, 0, 0, 0, 0, 0, 0, 0] })) = true ∧
    Cond.dsubPoisoned (at33) (8) (0) (1) ((coreWith fun (c : Core) => { c with dp := c.dp.set 0 true })) = true ∧
    Cond.dadj (at33) (0) (1) ((coreWith fun (c : Core) => { c with d := #v[0x9999999999999999, 0x12, 0, 0, 0, 0, 0, 0, 0, 0, 0, 0, 0, 0, 0, 0] })) = true ∧
    Cond.pack (at33) (0) (1) ((coreWith fun (c : Core) => { c with d := #v[0x3132333435363738, 0xF9F8F7F6F5F4F3F2, 0, 0, 0, 0, 0, 0, 0, 0, 0, 0, 0, 0, 0, 0] })) = true ∧
    Cond.packPoisoned (at33) (0) (1) ((coreWith fun (c : Core) => { c with dp := c.dp.set 0 true })) = true ∧
    Cond.unpk (at33) (8) (0) ((coreWith fun (c : Core) => { c with d := #v[0x9999999999999999, 0x12, 0, 0, 0, 0, 0, 0, 0, 0, 0, 0, 0, 0, 0, 0] })) = true ∧
    Cond.unpkPoisoned (at33) (8) (0) ((coreWith fun (c : Core) => { c with dp := c.dp.set 0 true })) = true ∧
    Cond.unpkf (at33) (8) (0) ((coreWith fun (c : Core) => { c with d := #v[0x9999999999999999, 0x12, 0, 0, 0, 0, 0, 0, 0, 0, 0, 0, 0, 0, 0, 0] })) = true ∧
    Cond.unpkfPoisoned (at33) (8) (0) ((coreWith fun (c : Core) => { c with dp := c.dp.set 0 true })) = true ∧
    Cond.dsgnGet (at33) (0) ((coreWith fun (c : Core) => { c with d := #v[0x123456789012345D, 0x12, 0, 0, 0, 0, 0, 0, 0, 0, 0, 0, 0, 0, 0, 0] })) = true ∧
    Cond.dsgnGetPoisoned (at33) (0) ((coreWith fun (c : Core) => { c with dp := c.dp.set 0 true })) = true ∧
    Cond.dsgnStrip (at33) (0) ((coreWith fun (c : Core) => { c with d := #v[0x123456789012345D, 0x12, 0, 0, 0, 0, 0, 0, 0, 0, 0, 0, 0, 0, 0, 0] })) = true ∧
    Cond.dsgnStripPoisoned (at33) (0) ((coreWith fun (c : Core) => { c with dp := c.dp.set 0 true })) = true ∧
    Cond.dsgnApply (at33) (0) (1) ((coreWith fun (c : Core) => { c with d := #v[0x123, 0x13, 0, 0, 0, 0, 0, 0, 0, 0, 0, 0, 0, 0, 0, 0] })) = true ∧
    Cond.dsgnApplyPoisoned (at33) (0) (1) ((coreWith fun (c : Core) => { c with dp := c.dp.set 0 true })) = true ∧
    Cond.dsgnNorm (at33) (0) ((coreWith fun (c : Core) => { c with d := #v[0x123456789012345B, 0x12, 0, 0, 0, 0, 0, 0, 0, 0, 0, 0, 0, 0, 0, 0] })) = true ∧
    Cond.dsgnNormPoisoned (at33) (0) ((coreWith fun (c : Core) => { c with dp := c.dp.set 0 true })) = true ∧
    Cond.dcvt (at33) (0) ((coreWith fun (c : Core) => { c with d := #v[0x123456789012345D, 0x12, 0, 0, 0, 0, 0, 0, 0, 0, 0, 0, 0, 0, 0, 0] })) = true ∧
    Cond.dcvtPoisoned (at33) (0) ((coreWith fun (c : Core) => { c with dp := c.dp.set 0 true })) = true ∧
    Cond.dcvtu (at33) (0) ((coreWith fun (c : Core) => { c with d := #v[0x9999999999999999, 0x12, 0, 0, 0, 0, 0, 0, 0, 0, 0, 0, 0, 0, 0, 0] })) = true ∧
    Cond.dcvtuPoisoned (at33) (0) ((coreWith fun (c : Core) => { c with dp := c.dp.set 0 true })) = true := by
  decide +kernel

/-- States that meet the conditions of BasizAccumulators. -/
theorem test_hyp_BasizAccumulators :
    Cond.mtac (at33) (1) (0) (cored) = true ∧
    Cond.mtacs (at33) (1) (0) (cored) = true ∧
    Cond.mtacz (at33) (1) (0) (cored) = true ∧
    Cond.mtacd (at33) (1) (0) ((coreWith fun (c : Core) => { c with d := #v[0x12C, 0x99, 0, 0, 0, 0, 0, 0, 0, 0, 0, 0, 0, 0, 0, 0], ac := #v[0x5D, 0x7777C, 0, 0] })) = true ∧
    Cond.mtacdPoisoned (at33) (1) (0) ((coreWith fun (c : Core) => { c with dp := c.dp.set 0 true })) = true ∧
    Cond.dacc (at33) (1) (0) ((coreWith fun (c : Core) => { c with d := #v[0x12C, 0x99, 0, 0, 0, 0, 0, 0, 0, 0, 0, 0, 0, 0, 0, 0], ac := #v[0x5D, 0x7777C, 0, 0] })) = true ∧
    Cond.daccPoisoned (at33) (1) (0) ((coreWith fun (c : Core) => { c with dp := c.dp.set 0 true })) = true ∧
    Cond.mfac (at33) (8) (1) (cored) = true ∧
    Cond.mfacs (at33) (8) (1) (cored) = true ∧
    Cond.mfacu (at33) (8) (1) (cored) = true ∧
    Cond.mfacd (at33) (8) (1) ((coreWith fun (c : Core) => { c with d := #v[0x12C, 0x99, 0, 0, 0, 0, 0, 0, 0, 0, 0, 0, 0, 0, 0, 0], ac := #v[0x5D, 0x7777C, 0, 0] })) = true ∧
    Cond.mfacdPoisoned (at33) (8) (1) ((coreWith fun (c : Core) => { c with acp := c.acp.set 1 true })) = true ∧
    Cond.mfacHeld (at33) (8) (1) ((coreWith fun (c : Core) => { c with macx := some ⟨1, 1, false, 0, 0, 3⟩ })) = true := by
  decide +kernel

/-- States that meet the conditions of BasizBranches. -/
theorem test_hyp_BasizBranches :
    Cond.beq (at33) (0) (1) (⟨-3, false⟩) (cored) = true ∧
    Cond.bne (at33) (0) (1) (⟨-3, false⟩) (cored) = true ∧
    Cond.blt (at33) (0) (1) (⟨-3, false⟩) (cored) = true ∧
    Cond.bge (at33) (0) (1) (⟨-3, false⟩) (cored) = true ∧
    Cond.bltu (at33) (0) (1) (⟨-3, false⟩) (cored) = true ∧
    Cond.bgeu (at33) (0) (1) (⟨-3, false⟩) (cored) = true ∧
    Cond.bz (at33) (0) (⟨-3, false⟩) (cored) = true ∧
    Cond.bnz (at33) (0) (⟨-3, false⟩) (cored) = true ∧
    Cond.baeq (at33) (0) (1) (⟨-3, false⟩) (cored) = true ∧
    Cond.bane (at33) (0) (1) (⟨-3, false⟩) (cored) = true ∧
    Cond.baltu (at33) (0) (1) (⟨-3, false⟩) (cored) = true ∧
    Cond.bdv (at33) (0) (⟨-3, false⟩) (cored) = true ∧
    Cond.jmp (at33) (⟨100000, false⟩) (cored) = true ∧
    Cond.call (at33) (⟨9, false⟩) (cored) = true ∧
    Cond.jr (at33) (0) (cored) = true ∧
    Cond.callr (at33) (0) ((coreWith fun (c : Core) => { c with sup := false, task := some task0, wins := c.wins.set 0 ⟨0x110000C00000, 0x110000C0003F, 0x84⟩, rstacks := c.rstacks.set 0 (List.replicate 16 4) })) = true ∧
    Cond.ret (at33) ((coreWith fun (c : Core) => { c with rstacks := c.rstacks.set 1 [0x50, 0x60] })) = true ∧
    Cond.rpush (at33) (0) (cored) = true ∧
    Cond.rpop (at33) ((coreWith fun (c : Core) => { c with rstacks := c.rstacks.set 1 [0x50, 0x60] })) = true := by
  decide +kernel

/-- States that meet the conditions of BasizSystem. -/
theorem test_hyp_BasizSystem :
    Cond.nop (at33) (cored) = true ∧
    Cond.pchk (at33) (0) (cored) = true ∧
    Cond.fence (at33) ((coreWith fun (c : Core) => { c with stores := [⟨0x100001800010, [1, 2, 3, 4], false⟩] })) = true ∧
    Cond.coreSync (at33) ((coreWith fun (c : Core) => { c with stores := [⟨0x100001800010, [1, 2, 3, 4], false⟩], nextWins := c.nextWins.set 2 ⟨64, 127, 0x81⟩, winsPending := true })) = true ∧
    Cond.coreSyncWaits (at33) ((coreWith fun (c : Core) => { c with macx := some ⟨1, 1, false, 0, 0, 3⟩ })) = true ∧
    Cond.svc (at33) ((trapper fun c => c)) = true ∧
    Cond.svcTask (at33) ((trapper fun (c : Core) => { c with sup := false, task := some task0, wins := c.wins.set 0 ⟨0x110000C00000, 0x110000C0003F, 0x84⟩ })) = true ∧
    Cond.brk (at33) ((trapper fun c => c)) = true ∧
    Cond.eret (at33) ((coreWith fun (c : Core) => { c with epc := 0x110000C00100, estatus := 2 })) = true ∧
    Cond.waitev (at33) (cored) = true ∧
    Cond.iinv (at33) (cored) = true ∧
    Cond.tend (at33) (0) ((coreWith fun (c : Core) => { c with stores := [⟨0x100001800010, [1, 2, 3, 4], false⟩], task := some task0 })) = true ∧
    Cond.tendProgram (at33) (0) ({coreWith (fun (c : Core) => { c with task := some { task0 with exec := true, program := 20, tag := 5, index := 1 } }) with sched.execs := [{ exec0 with first := some (2, 8) }]}) = true ∧
    Cond.tendFixed (at33) (0) ({coreWith (fun (c : Core) => { c with wins := c.wins.set 4 ⟨0x2000000, 0x2000FFF, 0x83⟩, task := some { task0 with exec := true, program := 4, tag := 5, index := 1 } }) with sched.execs := [{ exec0 with first := some (2, 8) }]}) = true := by
  decide +kernel

/-- States that meet the conditions of BasizExceptions. -/
theorem test_hyp_BasizExceptions :
    Cond.illegalInstruction (at33) (0xFFFFFFFF) (0) ((trapper fun c => c)) = true ∧
    Cond.illegalInstructionTask (at33) (0xFFFFFFFF) (0) ((trapper fun (c : Core) => { c with sup := false, task := some task0, wins := c.wins.set 0 ⟨0x110000C00000, 0x110000C0003F, 0x84⟩ })) = true ∧
    Cond.svcDouble (at33) ((coreWith fun (c : Core) => { c with exl := true })) = true ∧
    Cond.mfcrUnlisted (at33) (0x60) (false) ((trapper fun c => c)) = true ∧
    Cond.addcNoPair (at33) (15) (0) (1) ((trapper fun c => c)) = true ∧
    Cond.beqPoisoned (at33) (0) (1) (⟨-3, false⟩) ((trapper fun (c : Core) => { c with dp := c.dp.set 0 true })) = true ∧
    Cond.callOverflow (at33) (⟨9, false⟩) ((trapper fun (c : Core) => { c with rstacks := c.rstacks.set 1 (List.replicate 16 4) })) = true ∧
    Cond.retUnderflow (at33) ((trapper fun c => c)) = true ∧
    Cond.daddNoDigit (at33) (8) (0) (1) ((trapper fun (c : Core) => { c with d := c.d.set 0 0xA10 })) = true ∧
    Cond.daccOverflow (at33) (1) (0) ((trapper fun (c : Core) => { c with d := c.d.set 0 0x1C, ac := c.ac.set 1 0x9999999999999999999999999999999C })) = true ∧
    Cond.eventException (33) ({trapper (fun (c : Core) => { c with eventEn := true }) with ev := pendingEv}) = true ∧
    Cond.taskStop (33) ((trapper fun (c : Core) => { c with sup := false, task := some task0, stop := true })) = true ∧
    Cond.coreRestart (33) ((trapper fun (c : Core) => { c with halted := true })) = true := by
  decide +kernel

/-- States that meet the conditions of BasizMemory. -/
theorem test_hyp_BasizMemory :
    Cond.ld8u (at33) (0) (⟨8, false⟩) (.clean) ({cored with mem.cells := [(0x110000D00008, 0x81), (0x110000D00009, 0x92), (0x110000D0000F, 0xF3)]}) = true ∧
    Cond.ld8s (at33) (0) (⟨8, false⟩) (.clean) ({cored with mem.cells := [(0x110000D00008, 0x81), (0x110000D00009, 0x92), (0x110000D0000F, 0xF3)]}) = true ∧
    Cond.ld16u (at33) (0) (⟨8, false⟩) (.clean) ({cored with mem.cells := [(0x110000D00008, 0x81), (0x110000D00009, 0x92), (0x110000D0000F, 0xF3)]}) = true ∧
    Cond.ld16s (at33) (0) (⟨8, false⟩) (.clean) ({cored with mem.cells := [(0x110000D00008, 0x81), (0x110000D00009, 0x92), (0x110000D0000F, 0xF3)]}) = true ∧
    Cond.ld32u (at33) (0) (⟨8, false⟩) (.clean) ({cored with mem.cells := [(0x110000D00008, 0x81), (0x110000D00009, 0x92), (0x110000D0000F, 0xF3)]}) = true ∧
    Cond.ld32s (at33) (0) (⟨8, false⟩) (.clean) ({cored with mem.cells := [(0x110000D00008, 0x81), (0x110000D00009, 0x92), (0x110000D0000F, 0xF3)]}) = true ∧
    Cond.ld64 (at33) (0) (⟨8, false⟩) (.clean) ({cored with mem.cells := [(0x110000D00008, 0x81), (0x110000D00009, 0x92), (0x110000D0000F, 0xF3)]}) = true ∧
    Cond.ldp (at33) (3) (0) (⟨8, false⟩) (.clean) ({cored with mem.cells := [(0x110000D00008, 0x81), (0x110000D00009, 0x92), (0x110000D0000F, 0xF3)]}) = true ∧
    Cond.lda (at33) (0) (⟨8, false⟩) (.clean) ({cored with mem.cells := [(0x110000D00008, 0x81), (0x110000D00009, 0x92), (0x110000D0000F, 0xF3)]}) = true ∧
    Cond.st8 (at33) (2) (0) (⟨-4, false⟩) (.clean) (cored) = true ∧
    Cond.st16 (at33) (2) (0) (⟨-4, false⟩) (.clean) (cored) = true ∧
    Cond.st32 (at33) (2) (0) (⟨-4, false⟩) (.clean) (cored) = true ∧
    Cond.st64 (at33) (2) (0) (⟨-4, false⟩) (.clean) (cored) = true ∧
    Cond.st64Own (at33) (2) (0) (⟨64, false⟩) (.clean) ((coreWith fun (c : Core) => { c with a := c.a.set 0 0x100001800000, stores := [⟨0x100001800040, [9], false⟩] })) = true ∧
    Cond.stp (at33) (2) (0) (⟨-16, false⟩) (.clean) (cored) = true ∧
    Cond.sta (at33) (1) (0) (⟨40000, false⟩) (.clean) (cored) = true ∧
    Cond.postIncrementLoad (at33) (.load .s16 2) (0) (⟨2, false⟩) (.clean) ({cored with mem.cells := [(0x110000D00008, 0x81), (0x110000D00009, 0x92), (0x110000D0000F, 0xF3)]}) = true ∧
    Cond.postIncrementStore (at33) (.store .b32 2) (0) (⟨4, false⟩) (.clean) (cored) = true ∧
    Cond.ld32uMmio (at33) (0) (⟨0, false⟩) ({ (coreWith fun (c : Core) => { c with a := c.a.set 0 0x180000200000 }) with sched.reservedUnits := 2 }) = true ∧
    Cond.ld64Mmio (at33) (0) (⟨0, false⟩) ({ (coreWith fun (c : Core) => { c with a := c.a.set 0 0x180000200000 }) with sched.reservedUnits := 2 }) = true ∧
    Cond.st32Mmio (at33) (1) (0) (⟨0, false⟩) ({ (coreWith fun (c : Core) => { c with a := c.a.set 0 0x180000200000 }) with sched.reservedUnits := 2 }) = true ∧
    Cond.ld32uOwes (at33) (2) (⟨-64, false⟩) (cored) = true ∧
    Cond.ld64Corrected (at33) (0) (⟨8, false⟩) (.corrected) ({cored with mem.cells := [(0x110000D00008, 0x81), (0x110000D00009, 0x92), (0x110000D0000F, 0xF3)]}) = true ∧
    Cond.ld64Marked (at33) (0) (⟨8, false⟩) (.uncorrectable) ({ (coreWith fun (c : Core) => { c with wins := c.wins.set 0 ⟨0x110000D00000, 0x110000D0FFFF, 0x83⟩ }) with mem.cells := [(0x110000D00008, 0x81), (0x110000D00009, 0x92), (0x110000D0000F, 0xF3)]}) = true ∧
    Cond.movOwed (at33) (0) ((trapper fun (c : Core) => { c with owed := c.owed.set 0 (some 64) })) = true ∧
    Cond.st64Window (at33) (1) (0) (⟨0, false⟩) ((trapper fun (c : Core) => { c with sup := false, task := some task0, wins := c.wins.set 0 ⟨0x110000C00000, 0x110000C0003F, 0x84⟩ })) = true ∧
    Cond.st32Bus (at33) (1) (2) (⟨-64, false⟩) ((trapper fun c => c)) = true ∧
    Cond.st8Unread (at33) (1) (0) (⟨0, false⟩) (.uncorrectable) ((trapper fun (c : Core) => { c with a := c.a.set 0 0x110000D00000 })) = true ∧
    Cond.cas (at33) (4) (0) (1) (.clean) ((coreWith fun (c : Core) => { c with a := c.a.set 0 0x100001800040, d := c.d.set 4 9, stores := [⟨0x100001800040, [9, 0, 0, 0, 0, 0, 0, 0], false⟩] })) = true ∧
    Cond.casDenied (at33) (4) (0) (1) ((trapper fun (c : Core) => { c with a := c.a.set 0 0x110000D00001 })) = true := by
  decide +kernel

/-- States that meet the conditions of BasizMac. -/
theorem test_hyp_BasizMac :
    Cond.macx (at33) (2) (0) (1) (some 4) ((coreWith fun (c : Core) => { c with a := (c.a.set 0 0x100001800000).set 1 0x100001800400 })) = true ∧
    Cond.macxStep (4) (.clean) (.clean) ({coreWith (fun (c : Core) => { c with macx := some ⟨1, 2, false, 0x100001800000, 0x100001810000, 3⟩ }) with mem.cells := [(0x100001800000, 2), (0x100001810000, 0xFF), (0x100001810001, 0xFF)]}) = true := by
  decide +kernel

/-- States that meet the conditions of EngineQueues. -/
theorem test_hyp_EngineQueues :
    Cond.engineEnable (1) (.digest) (run) = true ∧
    Cond.engineDescDoorbell (0) (.cipher) (0) (1) (false) ({engined .cipher [] (fun (q : EQueue) => { q with queue := [] }) with mem.cells := [(0x110000E00000, 1)]}) = true ∧
    Cond.contextRingReset (0) (0) (engined .comp [(0, 2)] (fun (q : EQueue) => { q with ctx.state := .idle })) = true ∧
    Cond.queueRingReset (0) (.digest) (0) (engined .digest [(0, 1)] (fun (q : EQueue) => { q with message := some (Message.opened 0 false) })) = true ∧
    Cond.compBoundaryEnds (0) (0) (1) (((engined .comp [(0, 2), (2, 5)] fun (q : EQueue) => q).setEngine (engKey 0 .comp) { Engine.init with enable := true, jobs := [⟨0, 0, ⟨0, rawOf [(0, 2), (2, 5)], false, QSetup.init⟩, 99999999000, [[⟨0x110000D00000, [1, 2, 3], false⟩]], { Ending.of 0 with dws := [5, 6, 7, 1, 0, 0] }, false, false, none⟩] })) = true ∧
    Cond.compBoundaryGoes (0) (0) (1) (((engined .comp [(0, 2), (2, 5)] fun (q : EQueue) => q).setEngine (engKey 0 .comp) { Engine.init with enable := true, jobs := [⟨0, 0, ⟨0, rawOf [(0, 2), (2, 5)], false, QSetup.init⟩, 99999999000, [[⟨0x110000D00000, [1, 2, 3], false⟩], [⟨0x110000D00003, [4], false⟩]], { Ending.of 0 with dws := [5, 6, 7, 1, 0, 0] }, false, false, none⟩] })) = true ∧
    Cond.cipherBoundaryEnds (0) (false) (0) (1) (((engined .cipher [(0, 2), (2, 5)] fun (q : EQueue) => q).setEngine (engKey 0 .cipher) { Engine.init with enable := true, jobs := [⟨64, 0, ⟨0, rawOf [(0, 2), (2, 5)], false, QSetup.init⟩, 99999999000, [[⟨0x110000D00000, [1, 2, 3], false⟩]], { Ending.of 0 with dws := [5, 6, 7, 1, 0, 0] }, false, false, none⟩] })) = true ∧
    Cond.cipherBoundaryGoes (0) (false) (0) (1) (((engined .cipher [(0, 2), (2, 5)] fun (q : EQueue) => q).setEngine (engKey 0 .cipher) { Engine.init with enable := true, jobs := [⟨64, 0, ⟨0, rawOf [(0, 2), (2, 5)], false, QSetup.init⟩, 99999999000, [[⟨0x110000D00000, [1, 2, 3], false⟩], [⟨0x110000D00003, [4], false⟩]], { Ending.of 0 with dws := [5, 6, 7, 1, 0, 0] }, false, false, none⟩] })) = true := by
  decide +kernel

/-- States that meet the conditions of Compression. -/
theorem test_hyp_Compression :
    Cond.compOpen (0) (0) (engined .comp [(0, 1), (40, 1), (42, 1), (43, 5), (48, 2 ^ 64 - 1)] (fun (q : EQueue) => { q with queue := q.queue.map fun (d : EDesc) => { d with setup.histLimit := 0x100000 } })) = true ∧
    Cond.compClose (0) (0) (engined .comp [(0, 4)] (fun (q : EQueue) => { q with ctx.state := .idle })) = true ∧
    Cond.compDataStorage (0) (0) (engined .comp [(0, 2), (4, 3), (8, 0x110000D00000), (16, 0x110000D10000), (24, 64)] (fun (q : EQueue) => { q with ctx := { CompCtx.init with state := .idle } })) = true ∧
    Cond.compData (0) (0) (engined .comp [(0, 2), (4, 3), (8, 0x110000D00000), (16, 0x110000D10000), (24, 64)] (fun (q : EQueue) => { q with ctx := { CompCtx.init with state := .idle, params := 1 } })) = true ∧
    Cond.compResume (0) (0) (engined .comp [(0, 3), (4, 3), (8, 0x110000D00000), (16, 0x110000D10000), (24, 64)] (fun (q : EQueue) => { q with ctx := { CompCtx.init with state := .outFull, params := 1 } })) = true ∧
    Cond.compDataClosed (0) (0) (engined .comp [(0, 2), (4, 3), (8, 0x110000D00000), (16, 0x110000D10000), (24, 64)] (fun (q : EQueue) => q)) = true := by
  decide +kernel

/-- States that meet the conditions of CipherAndDigest. -/
theorem test_hyp_CipherAndDigest :
    Cond.xtsEnc (0) (keyed (engined .cipher [(0, 0x01), (1, 0xC0), (4, 16), (8, 0x110000D00000), (16, 0x110000D10000), (24, 0x1000)] (fun (q : EQueue) => q)) 0 3 1) = true ∧
    Cond.xtsDec (0) (keyed (engined .cipher [(0, 0x02), (1, 0xC0), (4, 16), (8, 0x110000D00000), (16, 0x110000D10000), (24, 0x1000)] (fun (q : EQueue) => q)) 0 3 1) = true ∧
    Cond.gcmEnc (0) (keyed (engined .cipher [(0, 0x10), (1, 0xC0), (4, 16), (8, 0x110000D00000), (16, 0x110000D10000), (24, 0x1000), (40, 0x110000D20000), (60, 16)] (fun (q : EQueue) => q)) 0 1 6) = true ∧
    Cond.gcmDec (0) (keyed (engined .cipher [(0, 0x11), (1, 0xC0), (4, 16), (8, 0x110000D00000), (16, 0x110000D10000), (24, 0x1000), (40, 0x110000D20000), (60, 16)] (fun (q : EQueue) => q)) 0 1 6) = true ∧
    Cond.kwWrap (0) (keyed (engined .cipher [(0, 0x20), (1, 0xC0), (4, 24), (8, 0x110000D00000), (16, 0x110000D10000), (24, 0x1000)] (fun (q : EQueue) => q)) 0 1 8) = true ∧
    Cond.kwUnwrap (0) (keyed (engined .cipher [(0, 0x21), (1, 0xC0), (4, 24), (8, 0x110000D00000), (16, 0x110000D10000), (24, 0x1000)] (fun (q : EQueue) => q)) 0 1 8) = true ∧
    Cond.keyImport (0) (engined .cipher [(0, 0x30), (1, 0xC0), (4, 129), (8, 0x110000D00000)] (fun (q : EQueue) => q)) = true ∧
    Cond.keyUnwrapLoad (0) (keyed (engined .cipher [(0, 0x31), (1, 0xC0), (4, 32), (8, 0x110000D00000), (24, 0x1000)] (fun (q : EQueue) => q)) 0 1 16) = true ∧
    Cond.keyGenerate (0) (engined .cipher [(0, 0x32), (1, 0xC0), (52, 3), (53, 1)] (fun (q : EQueue) => q)) = true ∧
    Cond.keyExport (0) (keyed (keyed (engined .cipher [(0, 0x33), (1, 0xC0), (16, 0x110000D00000), (24, 0x1000), (48, 0x1001)] (fun (q : EQueue) => q)) 0 1 16) 1 2 33) = true ∧
    Cond.keyUnload (0) (keyed (engined .cipher [(0, 0x34), (1, 0xC0), (24, 0x1005)] (fun (q : EQueue) => q)) 5 1 16) = true ∧
    Cond.digestHash (0) (engined .digest [(0, 0x01), (1, 0xC0), (4, 3), (8, 0x110000D00000), (16, 0x110000D10000), (48, 0)] (fun (q : EQueue) => q)) = true ∧
    Cond.digestHashCompare (0) (engined .digest [(0, 0x01), (1, 0xC0), (4, 3), (8, 0x110000D00000), (40, 0x110000D10000), (48, 3), (49, 2)] (fun (q : EQueue) => q)) = true ∧
    Cond.ctxExport (0) (engined .digest [(0, 0x10), (16, 0x110000D10000)] (fun (q : EQueue) => { q with message := some (Message.opened 4 false) })) = true ∧
    Cond.ctxImport (0) (engined .digest [(0, 0x11), (4, 256), (8, 0x110000D00000)] (fun (q : EQueue) => q)) = true := by
  decide +kernel

/-- States that meet the conditions of TernaryTable. -/
theorem test_hyp_TernaryTable :
    Cond.ternSearchHit (.clean) (tabled [(0, 1), (5, 3), (8, 1)] (fun (q : EQueue) => q)) = true ∧
    Cond.ternSearchMiss (.clean) (tabled [(0, 1), (5, 3), (8, 2)] (fun (q : EQueue) => q)) = true ∧
    Cond.ternNext (.clean) (tabled [(0, 2), (5, 2)] (fun (q : EQueue) => { q with cursor := some ⟨1, 0, 0, 262144, 2, some 4⟩ })) = true ∧
    Cond.ternSearchBatch (.clean) ({tabled [(0, 3), (8, 1), (16, 0x110000D00000), (24, 0x110000D10000)] (fun (q : EQueue) => q) with mem.cells := [(0x110000D00000, 1)]}) = true ∧
    Cond.ternSearchBatchFirst (.clean) (tabled [(0, 3), (8, 2), (16, 0x110000D00000), (24, 0x110000D10000)] (fun (q : EQueue) => q)) = true ∧
    Cond.ternWrite (0) (0) (tabled [(0, 0x10), (4, 4), (8, 5), (28, 7), (48, 1), (49, 2), (56, 77)] (fun (q : EQueue) => q)) = true ∧
    Cond.ternInvalidate (0) (0) (5) (tabled [(0, 0x11), (4, 3), (8, 2)] (fun (q : EQueue) => q)) = true ∧
    Cond.moveBlock (0) (0) (5) (tabled [(0, 0x12), (4, 4), (8, 3)] (fun (q : EQueue) => q)) = true ∧
    Cond.ternRead (0) (0) (tabled [(0, 0x13), (4, 6), (16, 0x110000D10000)] (fun (q : EQueue) => q)) = true := by
  decide +kernel

/-- States that meet the conditions of PatternScans. -/
theorem test_hyp_PatternScans :
    Cond.scanStart (0) (scanner) = true ∧
    Cond.patternSetLoaded (0) (0) ((scanWith fun (j : ScanJob) => { j with waitSet := true })) = true ∧
    Cond.scanBoundaryGoes (0) (0) ((scanWith fun (j : ScanJob) => { j with done := 4095, desc := ⟨0, rawOf [(0, 0x40), (4, 4099), (8, 0x110000D00000), (16, 0x100), (21, 3)], false, ringSet⟩ })) = true ∧
    Cond.scanBoundaryEnds (0) (0) ({(scanWith fun (j : ScanJob) => { j with desc := d0scan }) with eng.queues := [(192, { EQueue.init with assigned := true, descBase := 0x110000E00000, cplBase := 0x110000E01000, queue := [d0scan] })]}) = true ∧
    Cond.resultRingDrained (0) (0) (scanner) = true ∧
    Cond.resultRingDrainedGoesOn (0) (0) (64) ((scanWith fun (j : ScanJob) => { j with stalled := true, held := [scanRecord 7 0 0 0] })) = true := by
  decide +kernel

/-- States that meet the conditions of DramControllers. -/
theorem test_hyp_DramControllers :
    Cond.dramRequestBeyond (0x12345678) ({run with dict.vals := [(ekey 0 0xC010 2, 4096)]}) = true ∧
    Cond.dramRequestJoins (0x12345678) (none) (false) (0) (none) (.payload) (0) (0) (run) = true ∧
    Cond.dramRequestJoinsWrite (0x12345678) (some [1, 2]) (false) (0) (none) (.payload) (0) (0) ((queued [{ id := 4, at_ := 99999000000, addr := 0x12345678, write := some [], poison := false, cls := 0, port := none, use_ := .payload, reqType := 0, reqNum := 7, aged := false, back := true, bad := none }, { id := 5, at_ := 99999000000, addr := 0x12345670, write := none, poison := false, cls := 0, port := none, use_ := .payload, reqType := 0, reqNum := 7, aged := false, back := false, bad := none }])) = true ∧
    Cond.dramRequestForwards (0x12345678) (none) ((queued [{ id := 4, at_ := 99999000000, addr := 0x12345678, write := some [5, 6], poison := false, cls := 0, port := none, use_ := .payload, reqType := 0, reqNum := 7, aged := false, back := false, bad := none }])) = true ∧
    Cond.dramRequestNoneEligible (2) (1) ([]) (run) = true ∧
    Cond.dramRequestWrites (2) (1) ([]) (.clean) ((queued [{ id := 4, at_ := 99999000000, addr := 0x12345678, write := some [5, 6], poison := false, cls := 0, port := none, use_ := .payload, reqType := 0, reqNum := 7, aged := false, back := false, bad := none }])) = true ∧
    Cond.dramRequestReads (2) (1) ([]) (.clean) ((queued [{ id := 4, at_ := 99999000000, addr := 0x12345678, write := none, poison := false, cls := 0, port := none, use_ := .payload, reqType := 0, reqNum := 7, aged := false, back := false, bad := none }])) = true ∧
    Cond.dramRequestPoisons (2) (1) ([]) (.uncorrectable) ((queued [{ id := 4, at_ := 99999000000, addr := 0x12345678, write := none, poison := false, cls := 0, port := none, use_ := .payload, reqType := 0, reqNum := 7, aged := false, back := false, bad := none }])) = true ∧
    Cond.dramRequestBusError (2) (1) ([]) (.uncorrectable) ((queued [{ id := 4, at_ := 99999000000, addr := 0x12345678, write := none, poison := false, cls := 0, port := none, use_ := .own, reqType := 0, reqNum := 7, aged := false, back := false, bad := none }])) = true ∧
    Cond.dramRequestRowHeld (2) (1) ([]) (true) (.clean) ((queued [{ id := 4, at_ := 99999000000, addr := 0x12345678, write := none, poison := false, cls := 0, port := none, use_ := .payload, reqType := 0, reqNum := 7, aged := false, back := false, bad := none }] [(145, 5), (3, 2)])) = true ∧
    Cond.dramRequestRowFree (2) (1) ([]) (true) (.clean) ((queued [{ id := 4, at_ := 99999000000, addr := 0x12345678, write := none, poison := false, cls := 0, port := none, use_ := .payload, reqType := 0, reqNum := 7, aged := false, back := false, bad := none }] [(3, 2)])) = true ∧
    Cond.dramRequestRowReplaces (2) (1) ([]) (true) (.clean) ((queued [{ id := 4, at_ := 99999000000, addr := 0x12345678, write := none, poison := false, cls := 0, port := none, use_ := .payload, reqType := 0, reqNum := 7, aged := false, back := false, bad := none }] ((List.range 16).map fun k => (k, 20 - k)))) = true ∧
    Cond.dramRequestWritesBack (2) (1) ([]) (.clean) ((queued [{ id := 4, at_ := 99999000000, addr := 0x12345678, write := some [], poison := false, cls := 0, port := none, use_ := .payload, reqType := 0, reqNum := 7, aged := false, back := true, bad := none }])) = true ∧
    Cond.dramRequestTakesHeld (2) (1) ([]) (.clean) ({(queued [{ id := 4, at_ := 99999000000, addr := 0x12345678, write := none, poison := false, cls := 0, port := none, use_ := .payload, reqType := 0, reqNum := 7, aged := false, back := false, bad := none }]) with dram.chans := run.dram.chans.set 2 { DramChan.init with reqs := [{ id := 4, at_ := 99999000000, addr := 0x12345678, write := none, poison := false, cls := 0, port := none, use_ := .payload, reqType := 0, reqNum := 7, aged := false, back := false, bad := none }], held := [{ id := 5, at_ := 99999000000, addr := 0x12345678, write := some [], poison := false, cls := 0, port := none, use_ := .payload, reqType := 0, reqNum := 7, aged := false, back := true, bad := none }] }}) = true ∧
    Cond.dramRequestOtherCopy (2) (1) ([]) (.uncorrectable) ((queued [{ id := 4, at_ := 99999000000, addr := 0x12345678, write := none, poison := false, cls := 0, port := none, use_ := .journal 0x12345000, reqType := 0, reqNum := 7, aged := false, back := false, bad := none }])) = true ∧
    Cond.dramRequestBothCopies (2) (1) ([]) (.uncorrectable) ((queued [{ id := 4, at_ := 99999000000, addr := 0x12345678, write := none, poison := false, cls := 0, port := none, use_ := .journal 0x12345000, reqType := 0, reqNum := 7, aged := false, back := false, bad := some 0x12346000 }])) = true ∧
    Cond.requestAged (2) (4) ((queued [{ id := 4, at_ := 1, addr := 0x12345678, write := none, poison := false, cls := 3, port := none, use_ := .payload, reqType := 0, reqNum := 7, aged := false, back := false, bad := none }])) = true ∧
    Cond.requestAgedNot (2) (4) ((queued [{ id := 4, at_ := 1, addr := 0x12345678, write := none, poison := false, cls := 0, port := none, use_ := .payload, reqType := 0, reqNum := 7, aged := false, back := false, bad := none }])) = true ∧
    Cond.panicEnter (4) (90) (run) = true ∧
    Cond.panicEnterNot (0) (25) (run) = true ∧
    Cond.panicLeave (2) (75) ({run with dram.panic := run.dram.panic.set 2 (some 99999999000)}) = true ∧
    Cond.panicLeaveNot (2) (74) ({run with dram.panic := run.dram.panic.set 2 (some 99999999000)}) = true ∧
    Cond.rowTableWindowEnd (run) = true ∧
    Cond.rowTableWindowEndNot ({run with dram.windowAt := run.pkg.timebase}) = true ∧
    Cond.dqsTracking (7) (run) = true ∧
    Cond.dqsTrackingNot (7) ({run with dram.chans := run.dram.chans.set 7 { DramChan.init with selfRefresh := true }}) = true ∧
    Cond.dramRetrainStep (1) (false) ({run with dram.chans := run.dram.chans.set 1 { DramChan.init with retrainLeft := 1 }}) = true ∧
    Cond.dramRetrainEnds (1) (true) ({run with dram.chans := run.dram.chans.set 1 { DramChan.init with retrainLeft := 1 }}) = true ∧
    Cond.dramRetrainNot (2) ((queued [{ id := 4, at_ := 99999000000, addr := 0x12345678, write := none, poison := false, cls := 0, port := none, use_ := .payload, reqType := 0, reqNum := 7, aged := false, back := false, bad := none }])) = true ∧
    Cond.selfRefreshEntry (3) (run) = true ∧
    Cond.selfRefreshEntryNot (2) ((queued [{ id := 4, at_ := 99999000000, addr := 0x12345678, write := none, poison := false, cls := 0, port := none, use_ := .payload, reqType := 0, reqNum := 7, aged := false, back := false, bad := none }])) = true ∧
    Cond.dramRefresh (3) (31) (run) = true ∧
    Cond.dramRefreshWaits (2) (0) ((queued [{ id := 4, at_ := 99999000000, addr := 0x10001000, write := none, poison := false, cls := 0, port := none, use_ := .payload, reqType := 0, reqNum := 7, aged := false, back := false, bad := none }])) = true := by
  decide +kernel

/-- States that meet the conditions of BufferPools. -/
theorem test_hyp_BufferPools :
    Cond.bufferAllocHub (128) (5) ((pooled fun (x : Pool) => x)) = true ∧
    Cond.bufferAllocHubNull (128) (5) (run) = true ∧
    Cond.bufferAllocHubWaits (128) (5) ((pooled fun (x : Pool) => { x with cache := [] })) = true ∧
    Cond.bufferAllocLost (128) (5) ((pooled fun (x : Pool) => x)) = true ∧
    Cond.bufferAllocNotReached (127) (run) = true ∧
    Cond.bufferAllocTenant (3) ((ported5 10)) = true ∧
    Cond.bufferAllocQuota (3) ((ported5 0)) = true ∧
    Cond.bufferAllocNoPool (3) ({run with bpm.ports := [(3, ⟨true, 2, 0, 0, 0⟩)]}) = true ∧
    Cond.bufferAllocRegion (3) ({run with bpm.caches := run.bpm.caches.set 0 ((List.range 9).map fun k => handleOf 0 (k + 1) 0)}) = true ∧
    Cond.bufferAllocRegionRefills (3) ({run with bpm.pools := [(0, ⟨0x1000000, 600000, 1, 17, [], (List.range 16).map fun k => handleOf 0 (k + 1) 0⟩)]}) = true ∧
    Cond.hubCacheRefillFresh (5) ((pooled fun (x : Pool) => x)) = true ∧
    Cond.hubCacheRefillRing (5) ((pooled fun (x : Pool) => { x with fresh := 1001, ring := [handleOf 5 9 2, handleOf 5 8 1] })) = true ∧
    Cond.hubCacheRefillNot (5) (run) = true ∧
    Cond.regionCacheRecall ({run with bpm.pools := [(0, ⟨0x1000000, 20, 1, 21, [], []⟩)], bpm.caches := run.bpm.caches.set 1 [32, 64]}) = true ∧
    Cond.regionCacheRecallNot (run) = true ∧
    Cond.bufferInc (3) (false) (0x140000E1) ((lent 3 2)) = true ∧
    Cond.bufferIncBad (3) (false) (0x140000E1) ((lent 255 2)) = true ∧
    Cond.bufferIncNotReached (3) (true) (run) = true ∧
    Cond.bufferDec (3) (false) (0x140000E1) ((lent 3 2)) = true ∧
    Cond.bufferDecFrees (3) (false) (0x140000E1) ((lent 1 2)) = true ∧
    Cond.bufferDecRegionFrees (33) (false) (0xFF) ({run with bpm.pools := [(0, ⟨0x1000000, 600000, 1, 17, [], []⟩)], bpm.bufs := [(7, ⟨1, 0, 31⟩)]}) = true ∧
    Cond.bufferDecBad (3) (false) (0x140000E1) ((lent 3 9)) = true ∧
    Cond.bufferDecNotReached (3) (true) (run) = true ∧
    Cond.bufferQuery (128) (0x140000E1) ((lent 3 2)) = true ∧
    Cond.bufferQueryBad (128) (5) (run) = true ∧
    Cond.bufferQueryNotReached (3) (run) = true := by
  decide +kernel

/-- States that meet the conditions of EventsAndRegisters. -/
theorem test_hyp_EventsAndRegisters :
    Cond.eventClaimSpurious (128) (33) (run) = true ∧
    Cond.eventClaimTakes (128) (33) ({run with ev := pendingEv}) = true ∧
    Cond.eventClaimNotReached (3) (run) = true ∧
    Cond.eventClaimSelfSpurious (128) (run) = true ∧
    Cond.eventClaimSelfTakes (128) ({run with ev := { pendingEv with target := [(5, 128)] }}) = true ∧
    Cond.eventClaimSelfNotReached (3) (run) = true ∧
    Cond.eventComplete (128) (33) (5) ({run with ev := { pendingEv with active := pendingEv.active.set 0 32, latch := Events.init.latch }}) = true ∧
    Cond.eventCompleteAgain (128) (33) (5) ({run with ev := { pendingEv with active := pendingEv.active.set 0 32, target := [(5, 0x40000 + 33)] }}) = true ∧
    Cond.eventCompleteBad (128) (33) (6) (run) = true ∧
    Cond.eventCompleteNotReached (3) (run) = true ∧
    Cond.eventCompleteSelf (128) (5) ({run with ev := { pendingEv with target := [(5, 128)], active := pendingEv.active.set 0 32, latch := Events.init.latch }}) = true ∧
    Cond.eventCompleteSelfAgain (128) (5) ({run with ev := { pendingEv with active := pendingEv.active.set 0 32, target := [(5, 0x40000 + 128)] }}) = true ∧
    Cond.eventCompleteSelfBad (128) (6) (run) = true ∧
    Cond.eventCompleteSelfNotReached (3) (run) = true ∧
    Cond.pendingWrite (0) ({run with ev := pendingEv}) = true ∧
    Cond.holdoffExpiryNot (3) (run) = true ∧
    Cond.holdoffExpiryStops (3) ({run with ev := { Events.init with timer := Events.init.timer.set 3 (some 99999999000) }}) = true ∧
    Cond.holdoffExpiryRestarts (0) ({run with ev := { pendingEv with waiting := pendingEv.waiting.set 0 32, timer := Events.init.timer.set 0 (some 99999999000) }}) = true ∧
    Cond.registerWriteNot (128) (0x180000100002) (false) (run) = true ∧
    Cond.registerWritePoolEnable (128) (run) = true ∧
    Cond.registerWriteSlotSelect (128) (run) = true ∧
    Cond.registerWriteTernaryControl (128) (run) = true ∧
    Cond.registerWriteHoldoff (128) (63) (run) = true ∧
    Cond.registerWriteTargetWaits (128) (5) ({run with ev := { pendingEv with active := pendingEv.active.set 0 32 }}) = true ∧
    Cond.registerWriteTarget (128) (5) (run) = true ∧
    Cond.registerWriteEnable (128) (5) (run) = true ∧
    Cond.registerWriteQuery (128) (run) = true ∧
    Cond.registerWritePortSelect (33) (1) (coreWith (fun (c : Core) => c)) = true := by
  decide +kernel

/-- A dispatch that gives core 33 its task, with what R437 gives it. -/
theorem test_hyp_DispatchRegisters :
    ((readied run).core 33).task = none ∧
    (∃ u, exec (.taskDispatch 1 .clean false) (readied run) = .next u ∧ (u.core 33).task = some task0 ∧ (u.core 33).av 0 = 8192 ∧ (u.core 33).av 1 = 8224 ∧
      (u.core 33).dv 1 = 1) := by
  refine ⟨by decide +kernel, _, rfl, ?_, ?_, ?_, ?_⟩ <;> decide +kernel

/-- Two addresses that agree in place, byte and burst; a state of installed DRAM smaller than an address; one with x8 devices of one rank. -/
theorem test_hyp_AddressMapping :
    run.placeOf 5 = run.placeOf 5 ∧
    ({ run with dict.vals := [(ekey 0 0xC010 2, 4096)] } : State).dram.trained = true ∧ ({ run with dict.vals := [(ekey 0 0xC010 2, 4096)] } : State).dramSize ≤ 4096 ∧
    (queued [] []).ddrWidth = 8 ∧ ({ run with dict.vals := [(ekey 0 0xC010 1, 0x18)] } : State).ddrRanks = 1 ∧
    ({ run with dict.vals := [(ekey 0 0xC010 1, 0x18)] } : State).ddrWidth = 8 := by
  decide +kernel

/-- States that meet the conditions of FactoryEntries. -/
theorem test_hyp_FactoryEntries :
    Cond.headerWriteFactory ((.port (.mctp 9 false 0))) (⟨1, 5, 0xF000, 2, 0, 0, 4, 0, 0⟩) ([1, 2, 0, 0]) (run) = true ∧
    Cond.headerReadFactory ((.port (.mctp 9 false 0))) (⟨1, 5, 0xFFFF, 2, 0, 0, 4, 0, 0⟩) ([]) (run) = true ∧
    Cond.dictionaryWriteFactory (⟨0, 0, 7⟩) (⟨0xF000+2*65536, 0, 0, 4, 0⟩) (.ok) ((ready0 run)) = true ∧
    Cond.dictionaryReadFactory (⟨0, 0, 7⟩) (⟨0xF000+2*65536, 0, 0, 4, 0⟩) (.ok) ((ready0 run)) = true := by
  decide +kernel

/-- A state with an empty queue. -/
theorem test_hyp_EveryCommandRuns : State.reset.pending = [] := rfl

/-- A state in order that steps. -/
theorem test_hyp_StateStaysInOrder : State.reset.safe = true ∧ step State.reset = .next State.reset := ⟨by decide +kernel, rfl⟩

/-- A granule that a store touches and covers whole, and one it does not touch. -/
theorem test_hyp_MemoryReadsWhatIsWritten : 128 ∈ granules 120 80 ∧ 120 ≤ 128 ∧ 128 + granuleAt 120 ≤ 120 + 80 ∧ 256 ∉ granules 120 80 := by decide +kernel

/-- Fields at the ends of their ranges. -/
theorem test_hyp_JournalRecordsReadBack :
    (2 ^ 32 - 1 < 2 ^ 32 ∧ 2 ^ 64 - 1 < 2 ^ 64) ∧ MapEntry.ofBits (MapEntry.mk 3 63 63 255 (2 ^ 40 - 1)).bits = ⟨3, 63, 63, 255, 2 ^ 40 - 1⟩ := by decide +kernel

/-- The markers of that code store. -/
theorem test_marked : marked.markers = [⟨2, 1, 1, 0, noDigest⟩] := by decide +kernel

/-- Slot 1 is valid, and chosen, where its one marker says so. -/
theorem test_one_marker {c : CodeStore} {d : List Byte} (h : c.markers = [⟨2, 1, 1, 0, d⟩]) :
    c.lastOf 2 1 = some ⟨2, 1, 1, 0, d⟩ ∧ c.slotValid 1 = true ∧ c.nextSlot false = 1 := by
  have h2 : c.lastOf 2 1 = some ⟨2, 1, 1, 0, d⟩ := by rw [CodeStore.lastOf, h]; rfl
  have h1 : c.lastOf 1 1 = none := by rw [CodeStore.lastOf, h]; rfl
  have hv : c.slotValid 1 = true := by rw [CodeStore.slotValid, h2, h1]
  have h3 : latest (c.markers.filter fun m => m.kind == 3) = none := by rw [h]; rfl
  exact ⟨h2, hv, by rw [CodeStore.nextSlot, h3]; simp [hv]⟩

/-- A package whose code store is one given, with its DDR and its links up and no firmware yet. -/
def beforeCopy (c : CodeStore) : State :=
  { run with cs := c, pkg.boot := ⟨true, true, true, false, false, false, false, false, 0⟩ }

/-- The firmware of slot 1 can be copied where its one marker holds the digest of its bytes. -/
theorem test_copied (c : CodeStore) (d : List Byte) (h : c.markers = [⟨2, 1, 1, 0, d⟩])
    (hd : (c.rangeOk (c.slotBase 1) 0 && sha384 (c.bytes (c.slotBase 1) 0) == d) = true) :
    Cond.firmwareCopyDone 1 (beforeCopy c) = true := by
  obtain ⟨h2, hv, hn⟩ := test_one_marker h
  have hc : (beforeCopy c).cs = c := rfl
  have hs : (beforeCopy c).slotPasses 1 1 = true := by
    rw [State.slotPasses, hc, hv, h2]; simpa [show bit 1 0 = true from by decide] using hd
  have hb : (beforeCopy c).pkg.straps.bootBank = false := rfl
  have hq : ((beforeCopy c).serving && (beforeCopy c).pkg.boot.ddrUp && (beforeCopy c).pkg.boot.linksUp && !(beforeCopy c).pkg.boot.firmwareUp) = true := rfl
  rw [Cond.firmwareCopyDone, hb, hc, hn, hq]
  simpa using hs

/-- A state that meets the condition of firmwareCopyDone. -/
theorem test_hyp_firmwareCopyDone : Cond.firmwareCopyDone 1 (beforeCopy marked) = true :=
  test_copied marked noDigest test_marked (by decide +kernel)

/-! Worked examples of the spec, and the test values of the standards it names. -/

/-- 08_translation.md: "Its PPN is `0x53_5057_84D2`, and its map entry is `0x8CC8_0553_5057_84D2`". -/
theorem test_map_entry_example :
    ppnOf 10 (4 * 3 + 1) 2 700 1234 = 0x53505784D2 ∧ MapEntry.bits ⟨2, 12, 50, 5, 0x53505784D2⟩ = 0x8CC80553505784D2 ∧
    MapEntry.ofBits 0x8CC80553505784D2 = ⟨2, 12, 50, 5, 0x53505784D2⟩ := by decide

/-- 17_dram_controller.md: the access to A = `0x0000_1234_5678`. -/
theorem test_dram_place_example : dramPlace 8 1 0x12345678 = ⟨2, 1, 5, 2, 0, 145⟩ := by decide

/-- 12_basiz_processor.md, "Example: decimal accumulation". -/
theorem test_decimal_example :
    signedDec false 15 0x000123456789012C = .ok 123456789012 ∧ signedDec true 15 0x000000000098765D = .ok (-98765) ∧
    packSigned 15 123456690247 = 0x000123456690247C ∧ signedDec false 15 0x0000000000987A5D = .error ⟨false, false, 2⟩ ∧
    packDigits 16 (9999999999999999 + 1) = 0 := ⟨rfl, rfl, rfl, rfl, rfl⟩

/-- 12_basiz_processor.md, "Example: a Q parity fragment". -/
theorem test_q_parity_example :
    gfMul 8 0xCA 0x02 = 0x89 ∧
    macStep 0 false 0 ([0x53] ++ List.replicate 15 0 ++ [0xCA] ++ List.replicate 47 0)
      (List.replicate 16 1 ++ List.replicate 16 2 ++ List.replicate 16 4 ++ List.replicate 16 8) = 0xDA := by decide +kernel

/-- 09_power_loss.md, "Example: sizing a board's ceiling": 99.3 mF and 53.67 J give 5,888 MiB. -/
theorem test_ceiling_example : State.reset.computeCeiling 99300 53670 / 67108864 * 64 = 5888 := by decide +kernel

/-- The catalogue's check values: CRC-32C, the NVMe 64-bit CRC and the T10 16-bit CRC of the nine digits. -/
theorem test_crc_check_values :
    crc32c (textBytes "123456789") = 0xE3069283 ∧ crc64 (textBytes "123456789") = 0xAE8B14860A799888 ∧
    crc16 (textBytes "123456789") = 0xD0DB := by decide +kernel

/-- FIPS 197, appendix C.1. -/
theorem test_aes :
    ofBe (aesEnc (beBytes 16 0x000102030405060708090A0B0C0D0E0F) (beBytes 16 0x00112233445566778899AABBCCDDEEFF)) =
      0x69C4E0D86A7B0430D8CDB78070B4C55A := by decide +kernel

/-- FIPS 180 and FIPS 202: the digests of `abc` and of nothing. -/
theorem test_digests :
    ofBe (sha256 (textBytes "abc")) = 0xBA7816BF8F01CFEA414140DE5DAE2223B00361A396177A9CB410FF61F20015AD ∧
    ofBe (sha384 (textBytes "abc")) =
      0xCB00753F45A35E8BB5A03D699AC65007272C32AB0EDED1631A8B605A43FF5BED8086072BA1E7CC2358BAECA134C825A7 ∧
    ofBe (sha3_256 []) = 0xA7FFC6F8BF1ED76651C14756A061D662F580FF4DE43B49FA82D80A4B80F8434A := by decide +kernel

/-! Ill-formed commands: each breaks one check of WellFormed.lean, with the smallest value the spec's limit forbids, and is refused. -/



theorem test_refused_dictionaryWrite_over_65536_bytes : ∀ l : List Byte, l.length = 65537 →
    Instr.wellFormed (.dictionaryWrite ⟨0, 1, 0⟩ ⟨0x11000, 0, 0, 0, 0⟩ l .ok) = false :=
  fun _ h => decide_eq_false (by rw [h]; decide)

theorem test_refused_headerRead_over_65535_bytes : ∀ l : List Byte, l.length = 65536 →
    Instr.wellFormed (.headerRead (.port (.mctp 8 false 0)) ⟨1, 0, 0x1000, 1, 0, 0, 0, 0, 0⟩ l) = false :=
  fun _ h => decide_eq_false (by rw [h]; decide)

theorem test_refused_headerWrite_over_65535_bytes : ∀ l : List Byte, l.length = 65536 →
    Instr.wellFormed (.headerWrite (.port (.mctp 8 false 0)) ⟨1, 0, 0x1000, 1, 0, 0, 0, 0, 0⟩ l) = false :=
  fun _ h => decide_eq_false (by rw [h]; decide)

theorem test_refused_headerCommit_over_65535_bytes : ∀ l : List Byte, l.length = 65536 →
    Instr.wellFormed (.headerCommit (.port (.mctp 8 false 0)) ⟨1, 0, 0x1000, 1, 0, 0, 0, 0, 0⟩ l) = false :=
  fun _ h => decide_eq_false (by rw [h]; decide)

theorem test_refused_headerDiscard_over_65535_bytes : ∀ l : List Byte, l.length = 65536 →
    Instr.wellFormed (.headerDiscard (.port (.mctp 8 false 0)) ⟨1, 0, 0x1000, 1, 0, 0, 0, 0, 0⟩ l) = false :=
  fun _ h => decide_eq_false (by rw [h]; decide)

theorem test_refused_getEpoch_over_65535_bytes : ∀ l : List Byte, l.length = 65536 →
    Instr.wellFormed (.getEpoch (.mctp 8 false 0) ⟨1, 0, 0x1000, 1, 0, 0, 0, 0, 0⟩ l) = false :=
  fun _ h => decide_eq_false (by rw [h]; decide)

theorem test_refused_challenge_over_65535_bytes : ∀ l : List Byte, l.length = 65536 →
    Instr.wellFormed (.challenge (.mctp 8 false 0) ⟨1, 0, 0x1000, 1, 0, 0, 0, 0, 0⟩ l) = false :=
  fun _ h => decide_eq_false (by rw [h]; decide)

theorem test_refused_answer_over_65535_bytes : ∀ l : List Byte, l.length = 65536 →
    Instr.wellFormed (.answer (.mctp 8 false 0) ⟨1, 0, 0x1000, 1, 0, 0, 0, 0, 0⟩ l) = false :=
  fun _ h => decide_eq_false (by rw [h]; decide)

theorem test_refused_sync_on_a_port_over_65535_bytes : ∀ l : List Byte, l.length = 65536 →
    Instr.wellFormed (.sync (.port (.mctp 8 false 0) ⟨1, 0, 0x1000, 1, 0, 0, 0, 0, 0⟩ l)) = false :=
  fun _ h => decide_eq_false (by rw [h]; decide)

theorem test_refused_namespaceAttach_over_2047_controllers : ∀ l : List (BitVec 16), l.length = 2048 →
    Instr.wellFormed (.namespaceAttach ⟨0, 1, 0⟩ 1 l .ok) = false :=
  fun _ h => decide_eq_false (by rw [h]; decide)

theorem test_refused_namespaceDetach_over_2047_controllers : ∀ l : List (BitVec 16), l.length = 2048 →
    Instr.wellFormed (.namespaceDetach ⟨0, 1, 0⟩ 1 l .ok) = false :=
  fun _ h => decide_eq_false (by rw [h]; decide)

theorem test_refused_loadProgram_over_2_MiB : ∀ l : List Byte, l.length = 2097153 →
    Instr.wellFormed (.loadProgram ⟨0, 1, 0⟩ 1 0 0 l .ok) = false :=
  fun _ h => decide_eq_false (by rw [h]; decide)

theorem test_refused_executeProgram_over_2_MiB : ∀ l : List Byte, l.length = 2097153 →
    Instr.wellFormed (.executeProgram ⟨0, 1, 0⟩ 1 0 0 l .ok) = false :=
  fun _ h => decide_eq_false (by rw [h]; decide)

theorem test_refused_slmWrite_over_2_MiB : ∀ l : List Byte, l.length = 2097153 →
    Instr.wellFormed (.slmWrite ⟨0, 1, 0⟩ 1 0 l .ok) = false :=
  fun _ h => decide_eq_false (by rw [h]; decide)

theorem test_refused_mediaRaw_over_65536_bytes : ∀ l : List Byte, l.length = 65537 →
    Instr.wellFormed (.mediaRaw 0 0 l 0 false) = false :=
  fun _ h => decide_eq_false (by rw [h]; decide)

set_option maxRecDepth 20000 in
theorem test_refused_nvmWrite :
    Instr.wellFormed (.nvmWrite ⟨0, 1, 0⟩ 1 0 0 [⟨[], []⟩, ⟨[], []⟩] ⟨false, false, false, false, 0, 0, 0⟩ .ok) = false ∧
    Instr.wellFormed (.nvmWrite ⟨0, 1, 0⟩ 1 0 0 [⟨[], (List.replicate 17 (0 : Byte))⟩] ⟨false, false, false, false, 0, 0, 0⟩ .ok) = false := by
  decide

set_option maxRecDepth 20000 in
theorem test_refused_nvmRead :
    Instr.wellFormed (.nvmRead ⟨0, 1, 0⟩ 1 0 0 ⟨false, false, false, false, 65536, 0, 0⟩ .ok) = false ∧
    Instr.wellFormed (.nvmRead ⟨0, 1, 0⟩ 1 0 0 ⟨false, false, false, false, 0, 65536, 0⟩ .ok) = false ∧
    Instr.wellFormed (.nvmRead ⟨0, 1, 0⟩ 1 0 0 ⟨false, false, false, false, 0, 0, 281474976710656⟩ .ok) = false := by
  decide

set_option maxRecDepth 20000 in
theorem test_refused_nvmCompare_more_blocks_than_nlb :
    Instr.wellFormed (.nvmCompare ⟨0, 1, 0⟩ 1 0 0 [⟨[], []⟩, ⟨[], []⟩] ⟨false, false, false, false, 0, 0, 0⟩ .ok) = false := by
  decide

set_option maxRecDepth 20000 in
theorem test_refused_writeZeroes_tag_too_wide :
    Instr.wellFormed (.writeZeroes ⟨0, 1, 0⟩ 1 0 0 ⟨false, false, false, false, 65536, 0, 0⟩) = false := by
  decide

set_option maxRecDepth 20000 in
theorem test_refused_nvmVerify_tag_too_wide :
    Instr.wellFormed (.nvmVerify ⟨0, 1, 0⟩ 1 0 0 ⟨false, false, false, false, 65536, 0, 0⟩) = false := by
  decide

set_option maxRecDepth 20000 in
theorem test_refused_datasetManagement :
    Instr.wellFormed (.datasetManagement ⟨0, 1, 0⟩ 1 [] true .ok) = false ∧
    Instr.wellFormed (.datasetManagement ⟨0, 1, 0⟩ 1 (List.replicate 257 (0, 0)) true .ok) = false := by
  decide

set_option maxRecDepth 20000 in
theorem test_refused_nvmCopy :
    Instr.wellFormed (.nvmCopy ⟨0, 1, 0⟩ 1 0 [] ⟨false, false, false, false⟩ ⟨false, false, false, false, 0, 0, 0⟩ .ok) = false ∧
    Instr.wellFormed (.nvmCopy ⟨0, 1, 0⟩ 1 0 (List.replicate 129 ⟨0, 0, 0, 0, 0⟩) ⟨false, false, false, false⟩ ⟨false, false, false, false, 0, 0, 0⟩ .ok) = false := by
  decide

set_option maxRecDepth 20000 in
theorem test_refused_memoryRangeSet_dropped_and_made :
    Instr.wellFormed (.memoryRangeSetManagement ⟨0, 1, 0⟩ 1 (some 0) [(0, 8)] .ok) = false := by
  decide

set_option maxRecDepth 20000 in
theorem test_refused_codeword_over_36864_bits :
    Instr.wellFormed (.codewordDecoded 0 0 (.decoded 36865)) = false := by
  decide

set_option maxRecDepth 20000 in
theorem test_refused_mirrorDesc :
    Instr.wellFormed (.mirrorDesc ⟨0, 0, 0⟩ 0 1 0 0 0 0 1 0 (List.replicate 65 (0 : Byte)) none) = false ∧
    Instr.wellFormed (.mirrorDesc ⟨0, 0, 0⟩ 0 1 0 0 0 0 0 0 [] none) = false ∧
    Instr.wellFormed (.mirrorDesc ⟨0, 0, 0⟩ 0 1 0 0 0 0 33 0 [] none) = false := by
  decide

set_option maxRecDepth 20000 in
theorem test_refused_mirrorData :
    Instr.wellFormed (.mirrorData ⟨0, 0, 0⟩ 0 72 []) = false ∧
    Instr.wellFormed (.mirrorData ⟨0, 0, 0⟩ 0 0 (List.replicate 229 (0 : Byte))) = false := by
  decide

set_option maxRecDepth 20000 in
theorem test_refused_mirrorAck :
    Instr.wellFormed (.mirrorAck ⟨0, 0, 0⟩ []) = false ∧
    Instr.wellFormed (.mirrorAck ⟨0, 0, 0⟩ (List.replicate 59 0)) = false := by
  decide

set_option maxRecDepth 20000 in
theorem test_refused_mirrorFree :
    Instr.wellFormed (.mirrorFree ⟨0, 0, 0⟩ []) = false ∧
    Instr.wellFormed (.mirrorFree ⟨0, 0, 0⟩ (List.replicate 59 0)) = false := by
  decide

set_option maxRecDepth 20000 in
theorem test_refused_mirrorDiscard :
    Instr.wellFormed (.mirrorDiscard ⟨0, 0, 0⟩ []) = false ∧
    Instr.wellFormed (.mirrorDiscard ⟨0, 0, 0⟩ (List.replicate 59 0)) = false := by
  decide

set_option maxRecDepth 20000 in
theorem test_refused_journalRecords :
    Instr.wellFormed (.journalRecords ⟨0, 0, 0⟩ 0 0 []) = false ∧
    Instr.wellFormed (.journalRecords ⟨0, 0, 0⟩ 0 0 (List.replicate 8 (List.replicate 32 (0 : Byte)))) = false ∧
    Instr.wellFormed (.journalRecords ⟨0, 0, 0⟩ 0 0 [(List.replicate 31 (0 : Byte))]) = false := by
  decide

set_option maxRecDepth 20000 in
theorem test_refused_fwdCmd :
    Instr.wellFormed (.fwdCmd ⟨0, 0, 0⟩ 0 0 0 1 (.deallocate []) ⟨false, false, false, false, 0, 0, 0⟩) = false ∧
    Instr.wellFormed (.fwdCmd ⟨0, 0, 0⟩ 0 0 0 1 (.deallocate (List.replicate 257 (0, 0))) ⟨false, false, false, false, 0, 0, 0⟩) = false ∧
    Instr.wellFormed (.fwdCmd ⟨0, 0, 0⟩ 0 0 0 1 (.copy 0 [] ⟨false, false, false, false⟩) ⟨false, false, false, false, 0, 0, 0⟩) = false ∧
    Instr.wellFormed (.fwdCmd ⟨0, 0, 0⟩ 0 0 0 1 (.copy 0 (List.replicate 129 ⟨0, 0, 0, 0, 0⟩) ⟨false, false, false, false⟩) ⟨false, false, false, false, 0, 0, 0⟩) = false ∧
    Instr.wellFormed (.fwdCmd ⟨0, 0, 0⟩ 0 0 0 1 (.read 0 0) ⟨false, false, false, false, 65536, 0, 0⟩) = false ∧
    Instr.wellFormed (.fwdCmd ⟨0, 0, 0⟩ 0 0 0 1 (.device 0 (.makeSet (List.replicate 129 (0, 0)))) ⟨false, false, false, false, 0, 0, 0⟩) = false := by
  decide

set_option maxRecDepth 20000 in
theorem test_refused_fwdStop :
    Instr.wellFormed (.fwdStop ⟨0, 0, 0⟩ []) = false ∧
    Instr.wellFormed (.fwdStop ⟨0, 0, 0⟩ (List.replicate 59 0)) = false := by
  decide

set_option maxRecDepth 20000 in
theorem test_refused_fwdStopAck :
    Instr.wellFormed (.fwdStopAck ⟨0, 0, 0⟩ []) = false ∧
    Instr.wellFormed (.fwdStopAck ⟨0, 0, 0⟩ (List.replicate 39 (0, 0))) = false := by
  decide

set_option maxRecDepth 20000 in
theorem test_refused_takeoverComplete_31_bytes :
    Instr.wellFormed (.takeoverComplete [(List.replicate 31 (0 : Byte))]) = false := by
  decide

set_option maxRecDepth 20000 in
theorem test_refused_task :
    Instr.wellFormed (.taskEnqueue none 0 ⟨4294967296, 0, false, 0, 1, 0, 0, 1, 0, false, false, 0, none, [], 0, 0, 0⟩) = false ∧
    Instr.wellFormed (.taskEnqueue none 0 ⟨0, 4294967296, false, 0, 1, 0, 0, 1, 0, false, false, 0, none, [], 0, 0, 0⟩) = false ∧
    Instr.wellFormed (.taskEnqueue none 0 ⟨0, 0, false, 4294967296, 1, 0, 0, 1, 0, false, false, 0, none, [], 0, 0, 0⟩) = false ∧
    Instr.wellFormed (.taskEnqueue none 0 ⟨0, 0, false, 0, 4294967296, 0, 0, 1, 0, false, false, 0, none, [], 0, 0, 0⟩) = false ∧
    Instr.wellFormed (.taskEnqueue none 0 ⟨0, 0, false, 0, 1, 65536, 0, 1, 0, false, false, 0, none, [], 0, 0, 0⟩) = false ∧
    Instr.wellFormed (.taskEnqueue none 0 ⟨0, 0, false, 0, 1, 0, 65536, 1, 0, false, false, 0, none, [], 0, 0, 0⟩) = false ∧
    Instr.wellFormed (.taskEnqueue none 0 ⟨0, 0, false, 0, 1, 0, 0, 256, 0, false, false, 0, none, [], 0, 0, 0⟩) = false ∧
    Instr.wellFormed (.taskEnqueue none 0 ⟨0, 0, false, 0, 1, 0, 0, 1, 8, false, false, 0, none, [], 0, 0, 0⟩) = false ∧
    Instr.wellFormed (.taskEnqueue none 0 ⟨0, 0, false, 0, 1, 0, 0, 1, 0, false, false, 281474976710656, none, [], 0, 0, 0⟩) = false ∧
    Instr.wellFormed (.taskEnqueue none 0 ⟨0, 0, false, 0, 1, 0, 0, 1, 0, false, false, 0, none, [], 281474976710656, 0, 0⟩) = false ∧
    Instr.wellFormed (.taskEnqueue none 0 ⟨0, 0, false, 0, 1, 0, 0, 1, 0, false, false, 0, none, (List.replicate 17 ⟨0, 0, 0⟩), 0, 0, 0⟩) = false := by
  decide

set_option maxRecDepth 20000 in
theorem test_refused_dram_write_over_its_burst :
    Instr.wellFormed (.dramRequest (.arrive 32 (some (List.replicate 33 (0 : Byte))) false 0 none .payload 0 0)) = false := by
  decide

set_option maxRecDepth 20000 in
theorem test_refused_firmwareImageDownload_over_numd :
    Instr.wellFormed (.firmwareImageDownload ⟨0, 1, 0⟩ 0 0 (List.replicate 5 (0 : Byte)) .ok) = false := by
  decide

set_option maxRecDepth 20000 in
theorem test_refused_echo_over_236_bytes :
    Instr.wellFormed (.echo ⟨0, 0, 0⟩ (List.replicate 237 (0 : Byte))) = false := by
  decide

set_option maxRecDepth 20000 in
theorem test_refused_segment_over_28_entries :
    Instr.wellFormed (.segment ⟨0, 0, 0⟩ 0 0 0 (List.replicate 29 (0 : BitVec 64))) = false := by
  decide

set_option maxRecDepth 20000 in
theorem test_refused_fwdData_over_228_bytes :
    Instr.wellFormed (.fwdData ⟨0, 0, 0⟩ 0 0 (List.replicate 229 (0 : Byte))) = false := by
  decide

set_option maxRecDepth 20000 in
theorem test_refused_mediaData_over_224_bytes :
    Instr.wellFormed (.mediaData ⟨0, 0, 0⟩ 0 0 0 false (List.replicate 225 (0 : Byte))) = false := by
  decide

theorem test_refused_sync_value_over_8192_bytes : ∀ l : List Byte, l.length = 8193 →
    Instr.wellFormed (.sync (.strait ⟨0, 0, 0⟩ false 1 [⟨0, 0x3000, 1, l⟩] [] false 0 none)) = false := by
  intro l h
  show (upTo 8192 l && true) = false
  simp [upTo, h]

theorem test_refused_nvmWrite_block_over_4096_bytes : ∀ l : List Byte, l.length = 4097 →
    Instr.wellFormed (.nvmWrite ⟨0, 1, 0⟩ 1 0 0 [⟨l, []⟩] ⟨false, false, false, false, 0, 0, 0⟩ .ok) = false := by
  intro l h
  show ((true && ((upTo 4096 l && true) && true)) && true) = false
  simp [upTo, h]

theorem test_refused_forwarded_device_data_over_2_MiB : ∀ l : List Byte, l.length = 2097153 →
    (DevOp.load 0 0 l).wf = false ∧ (DevOp.execute 0 0 l).wf = false ∧ (DevOp.memWrite 0 l).wf = false := by
  intro l h
  simp [DevOp.wf, upTo, h]

theorem test_accepted : Instr.wellFormed (.nvmWrite ⟨0, 1, 0⟩ 1 0 0 [⟨[], (List.replicate 16 (0 : Byte))⟩] ⟨false, false, false, false, 0, 0, 0⟩ .ok) = true ∧ Instr.wellFormed .powerOn = true := by
  decide

end Sys2Proof.Tests
end

section
/-! PROOFS. Admin commands (R113, R120 to R128). The layer below says once what taking an admin command does: its queue's head, the
arbitration and an event, which adds to what was sent and leaves every value a report reads; and what its completion does. -/
namespace Sys2Proof.Machine

/-! ### What an event leaves readable -/

/-- The twin's state with nothing moved but what sending frames moves: the link's buffers, sequence numbers and credits. -/
def Twin.SentOn (t w : Twin) : Prop :=
  ∃ a r q c o x n, w = { t with waiting := a, replay := r, txSeq := q, credits := c, owed := o, unackedRx := x, nak := n }

/-- Dictionary values that differ at most in the event controller's two counters, `0xD190.04` and `0xD190.05`. -/
def SameValues (v w : Tab Nat) : Prop :=
  ∀ k, k ≠ ekey 0 0xD190 4 → k ≠ ekey 0 0xD190 5 → Tab.find w k = Tab.find v k

theorem Twin.SentOn.refl (t : Twin) : t.SentOn t := ⟨_, _, _, _, _, _, _, rfl⟩

theorem Twin.SentOn.trans {t w x : Twin} (h : t.SentOn w) (k : w.SentOn x) : t.SentOn x := by
  obtain ⟨_, _, _, _, _, _, _, rfl⟩ := h
  obtain ⟨_, _, _, _, _, _, _, rfl⟩ := k
  exact ⟨_, _, _, _, _, _, _, rfl⟩

theorem SameValues.refl (v : Tab Nat) : SameValues v v := fun _ _ _ => rfl

theorem SameValues.trans {v w x : Tab Nat} (h : SameValues v w) (k : SameValues w x) : SameValues v x :=
  fun n h4 h5 => (k n h4 h5).trans (h n h4 h5)

/-- A canonical write at one of the two counters. -/
theorem SameValues.set (v : Tab Nat) (d k x : Nat) (hk : k = ekey 0 0xD190 4 ∨ k = ekey 0 0xD190 5) :
    SameValues v (Tab.set v d k x) := by
  intro n h4 h5
  have hn : n ≠ k := by rintro rfl; exact hk.elim h4 h5
  by_cases hx : x = d
  · simp [Tab.set, hx, Tab.find_erase_other _ hn]
  · simp [Tab.set, hx, Tab.find_put_other _ _ hn]

/-- What an event does, with what it leaves: what was sent stands before what it adds, the twin's link alone has moved, and no value of
the dictionary has but the event controller's counters. -/
def State.Noticed (s t : State) : Prop :=
  ∃ e o p w v, t = { s with ev := e, out := s.out ++ o, nvme.msixPend := p, twin := w, dict.vals := v } ∧
    s.twin.SentOn w ∧ SameValues s.dict.vals v

theorem State.Noticed.ofEv (s : State) (e : Events) : s.Noticed { s with ev := e } :=
  ⟨e, [], s.nvme.msixPend, s.twin, s.dict.vals, by simp, .refl _, .refl _⟩

theorem State.Noticed.refl (s : State) : s.Noticed s := .ofEv s s.ev

theorem State.Noticed.trans {s t u : State} (h : s.Noticed t) (k : t.Noticed u) : s.Noticed u := by
  obtain ⟨_, o, _, _, _, rfl, hw, hv⟩ := h
  obtain ⟨_, o', _, _, _, rfl, hw', hv'⟩ := k
  exact ⟨_, o ++ o', _, _, _, by rw [← List.append_assoc], hw.trans hw', hv.trans hv'⟩

/-- Counting is a canonical write of one dictionary value. -/
theorem State.bump_sets (s : State) (idx sub : Nat) :
    ∃ d x, s.bump idx sub = { s with dict.vals := Tab.set s.dict.vals d (ekey 0 idx sub) x } := ⟨_, _, rfl⟩

theorem State.Noticed.ofBump (s : State) {sub : Nat} (h : sub = 4 ∨ sub = 5) : s.Noticed (s.bump 0xD190 sub) := by
  obtain ⟨d, x, hb⟩ := State.bump_sets s 0xD190 sub
  refine ⟨s.ev, [], s.nvme.msixPend, s.twin, _, ?_, .refl _, .set s.dict.vals d _ x (h.imp (congrArg _) (congrArg _))⟩
  rw [hb, List.append_nil]

theorem State.emit_appends (s : State) (e : Emit) : ∃ o, s.emit e = { s with out := s.out ++ o } := by
  unfold State.emit
  split
  · exact ⟨[], by simp⟩
  · exact ⟨[e], rfl⟩

/-- While the host can be reached, everything sent goes out. -/
theorem State.emit_of_hostOpen {s : State} (h : s.hostOpen = true) (e : Emit) : s.emit e = { s with out := s.out ++ [e] } := by
  simp [State.emit, h]

theorem State.hostOpen_of_serving {s : State} (h : s.serving = true) : s.hostOpen = true := by
  have hp : s.pkg.phase = .running := by simpa [State.serving] using h
  simp [State.hostOpen, hp]

theorem State.signalAt_appends (s : State) (fn vector vi : Nat) (vc1 : Bool) :
    ∃ o p, s.signalAt fn vector vi vc1 = { s with out := s.out ++ o, nvme.msixPend := p } := by
  unfold State.signalAt
  split
  · obtain ⟨o, h⟩ := State.emit_appends s (.msix fn vector vc1)
    exact ⟨o, s.nvme.msixPend, h⟩
  · split
    · exact ⟨[], s.nvme.msixPend, by rw [List.append_nil]⟩
    · exact ⟨[], _, by rw [List.append_nil]⟩

theorem State.Noticed.ofSignal (s : State) (fn vector vi : Nat) (vc1 : Bool) : s.Noticed (s.signalAt fn vector vi vc1) := by
  obtain ⟨o, p, h⟩ := State.signalAt_appends s fn vector vi vc1
  exact ⟨s.ev, o, p, s.twin, s.dict.vals, h, .refl _, .refl _⟩

theorem State.Noticed.foldl {α : Type} (f : State → α → State) (hf : ∀ (s : State) (a : α), s.Noticed (f s a)) :
    ∀ (l : List α) (s : State), s.Noticed (l.foldl f s)
  | [], s => .refl s
  | a :: l, s => (hf s a).trans (State.Noticed.foldl f hf l (f s a))

theorem State.refreshLines_noticed (s : State) : s.Noticed s.refreshLines := by
  refine State.Noticed.foldl _ (fun s n => ?_) _ s
  dsimp only
  split
  · exact (State.Noticed.ofEv s _).trans (.ofSignal _ _ _ _ _)
  · exact .ofEv s _

theorem State.pumpN_noticed : ∀ (n : Nat) (s : State), s.Noticed (State.pumpN n s)
  | 0, s => .refl s
  | n + 1, s => by
    unfold State.pumpN
    dsimp only
    split
    · exact .refl s
    · split
      · exact .refl s
      · refine State.Noticed.trans ?_ (State.pumpN_noticed n _)
        exact ⟨s.ev, _, s.nvme.msixPend, _, s.dict.vals, rfl, ⟨_, _, _, _, _, _, _, rfl⟩, .refl _⟩

theorem State.strait_noticed (s : State) (cls type : Nat) (b : List Byte) : s.Noticed (s.strait cls type b) := by
  refine State.Noticed.trans ?_ (State.pumpN_noticed _ _)
  exact ⟨s.ev, [], s.nvme.msixPend, _, s.dict.vals, by rw [List.append_nil], ⟨_, _, _, _, _, _, _, rfl⟩, .refl _⟩

theorem State.notify_noticed (s : State) (src : Nat) : s.Noticed (s.notify src) := by
  unfold State.notify
  dsimp only
  split
  · refine (State.Noticed.ofEv s { s.ev with latch := setSrc s.ev.latch src false }).trans ?_
    split
    iterate 3 exact State.strait_noticed _ _ _ _
    · exact .ofBump _ (.inl rfl)
  · exact State.refreshLines_noticed s

theorem State.arm_noticed (s : State) (src : Nat) : s.Noticed (s.arm src) := by
  unfold State.arm
  dsimp only
  split
  · exact .refl s
  · split
    · exact State.notify_noticed s src
    · split
      · exact (State.Noticed.ofEv s _).trans (State.notify_noticed _ src)
      · exact (State.Noticed.ofEv s _).trans (.ofBump _ (.inr rfl))

theorem State.fire_noticed (s : State) (src : Nat) : s.Noticed (s.fire src) := by
  unfold State.fire
  split
  · exact .refl s
  · exact (State.Noticed.ofEv s _).trans (State.arm_noticed _ src)

/-- Entries with different indexes have keys of their own, whatever the function. -/
theorem ekey_ne {fn idx sub fn' idx' sub' : Nat} (hi : idx < 2 ^ 16) (hs : sub < 2 ^ 8) (hi' : idx' < 2 ^ 16) (hs' : sub' < 2 ^ 8)
    (h : idx ≠ idx') : ekey fn idx sub ≠ ekey fn' idx' sub' := fun he => h (ekey_inj hi hs hi' hs' he).2.1

/-- An event leaves every entry's value, those of the event controller's index apart. -/
theorem State.Noticed.fval {s t : State} (h : s.Noticed t) {fn idx sub : Nat} (hi : idx < 2 ^ 16) (hs : sub < 2 ^ 8)
    (hne : idx ≠ 0xD190) : t.fval fn idx sub = s.fval fn idx sub := by
  obtain ⟨_, _, _, _, v, rfl, -, hv⟩ := h
  have hkey : Tab.find v (ekey fn idx sub) = Tab.find s.dict.vals (ekey fn idx sub) :=
    hv _ (ekey_ne hi hs (by decide) (by decide) hne) (ekey_ne hi hs (by decide) (by decide) hne)
  have hserial : Tab.find v (ekey 0 0x3020 2) = Tab.find s.dict.vals (ekey 0 0x3020 2) := hv _ (by decide) (by decide)
  simp only [State.fval, State.subsysSerial, hkey, hserial]

theorem State.Noticed.ctrl {s t : State} (h : s.Noticed t) (fn : Nat) : t.ctrl fn = s.ctrl fn := by
  obtain ⟨_, _, _, _, _, rfl, -⟩ := h
  rfl

/-! ### Taking an admin command -/

/-- A command taken: its queue's head, the arbitration and the front end's last work have moved on, and an event has been raised. -/
def State.Taken (s t : State) : Prop :=
  ∃ q a b, ({ s with nvme.sqs := q, nvme.arbs := a, nvme.busyAt := b } : State).Noticed t

/-- A completion entry of a command on the admin queue can be posted. -/
structure State.CanPost (s : State) (q : Sqe) : Prop where
  admin : q.sq = 0
  serving : s.serving = true
  enabled : (s.ctrl q.fn.toNat).enabled = true
  alive : (s.ctrl q.fn.toNat).cfs = false
  noReset : (s.ctrl q.fn.toNat).flr = none
  room : ∃ k, s.cq? q.fn.toNat 0 = some k ∧ (k.tail + 1) % k.size ≠ k.head

theorem State.CanPost.ofCanFetch {s : State} {q : Sqe} (hq : q.sq = 0) (h : Cond.canFetch s q = true) : s.CanPost q := by
  simp only [Cond.canFetch, Bool.and_eq_true, Option.any_eq_true, hq] at h
  obtain ⟨-, x, -, hr, k, hk, hroom⟩ := h
  simp only [State.sqReady, Bool.and_eq_true, Bool.not_eq_true', Option.isNone_iff_eq_none] at hr
  obtain ⟨⟨⟨⟨⟨⟨⟨⟨⟨hs, he⟩, -⟩, hc⟩, hf⟩, -⟩, -⟩, -⟩, -⟩, -⟩ := hr
  exact ⟨hq, hs, he, hc, hf, k, hk, by simpa using hroom⟩

@[simp] theorem State.ctrl_setCtrl (s : State) (fn : Nat) (c : Ctrl) : (s.setCtrl fn c).ctrl fn = c := by
  simp [State.ctrl]

/-- A controller changed with its enabling, its fatal status and its reset as they were still posts. -/
theorem State.CanPost.setCtrl {s : State} {q : Sqe} (h : s.CanPost q) {c : Ctrl} (he : c.enabled = (s.ctrl q.fn.toNat).enabled)
    (hc : c.cfs = (s.ctrl q.fn.toNat).cfs) (hf : c.flr = (s.ctrl q.fn.toNat).flr) : (s.setCtrl q.fn.toNat c).CanPost q := by
  have hs := s.ctrl_setCtrl q.fn.toNat c
  exact ⟨h.admin, h.serving, by rw [hs, he, h.enabled], by rw [hs, hc, h.alive], by rw [hs, hf, h.noReset], h.room⟩

theorem State.fetch_of_canFetch {s : State} {q : Sqe} (h : Cond.canFetch s q = true) :
    ∃ m a b, s.fetch q = some { s with nvme.sqs := m, nvme.arbs := a, nvme.busyAt := b } := by
  simp only [Cond.canFetch, Bool.and_eq_true, Option.any_eq_true, beq_iff_eq] at h
  obtain ⟨⟨p, hp, hpq⟩, x, hx, -⟩ := h
  simp only [State.fetch, hx, hp, hpq, if_true]
  exact ⟨_, _, _, rfl⟩

/-- An admin command that can be fetched is taken and runs. -/
theorem State.admin_takes {s : State} {q : Sqe} (hq : q.sq = 0) (h : Cond.canFetch s q = true) :
    ∃ t, s.Taken t ∧ t.CanPost q ∧ ∀ f, s.admin q true f = f t := by
  obtain ⟨m, a, b, hf⟩ := State.fetch_of_canFetch h
  have hn := State.fire_noticed { s with nvme.sqs := m, nvme.arbs := a, nvme.busyAt := b } (evSrc 44 0)
  refine ⟨_, ⟨m, a, b, hn⟩, ?_, fun f => by simp [State.admin, State.onFetch, hq, hf]⟩
  obtain ⟨e, o, p, w, v, ht, -⟩ := hn
  obtain ⟨-, hs, he, hc, hr, hk⟩ := State.CanPost.ofCanFetch hq h
  rw [ht]
  exact ⟨hq, hs, he, hc, hr, hk⟩

/-! ### Its completion -/

/-- The completion entry that an admin command with a first dword is answered with. -/
def Sqe.success (q : Sqe) (dw0 : Nat) (phase vc1 : Bool) : Emit :=
  .cqe q.fn.toNat 0 q.sq.toNat q.cid.toNat (0 * 2 + b2n phase) dw0 0 vc1

/-- A completion entry posted to an admin queue with room: it goes out, and with it at most a message. -/
theorem State.postCqe_admin {s : State} {h : HeldCpl} {k : Cq} (h0 : h.sq = 0) (hu : h.urgent = false) (ho : s.hostOpen = true)
    (hc : (s.ctrl h.fn).cfs = false) (hk : s.cq? h.fn 0 = some k) (hroom : (k.tail + 1) % k.size ≠ k.head) : ∃ vc o c p,
    s.postCqe h = { s with
      out := s.out ++ [.cqe h.fn 0 0 h.cid (h.status * 2 + b2n k.phase) h.dw0 h.dw1 vc] ++ o, nvme.cqs := c, nvme.msixPend := p } := by
  simp only [State.postCqe, h0, hu, hk, hc, hroom, State.emit_of_hostOpen ho, if_true, if_false, Bool.false_eq_true, decide_true,
    Bool.or_true, Bool.true_or]
  split
  · exact ⟨_, [], _, _, by rw [List.append_nil]; rfl⟩
  · obtain ⟨o, p, hsig⟩ := State.signalAt_appends _ h.fn k.vector _ (s.onVc1 1)
    exact ⟨_, o, _, p, hsig⟩

/-- A state that has sent something in a command's name: but for that a completion queue and the pending messages alone have moved. -/
def State.posted (x : State) (c : Tab Cq) (p : Tab Bool) (o : List Emit) : State :=
  { x with nvme.cqs := c, nvme.msixPend := p, out := x.out ++ o }

@[simp] theorem State.posted_ctrl (x : State) (c : Tab Cq) (p : Tab Bool) (o : List Emit) (fn : Nat) :
    (x.posted c p o).ctrl fn = x.ctrl fn := rfl

/-- An admin command answered with success: its entry goes out first. -/
theorem State.CanPost.answer {s : State} {q : Sqe} (h : s.CanPost q) (dw0 : Nat) : ∃ c p ph vc o,
    s.answer q 0 dw0 = s.posted c p (q.success dw0 ph vc :: o) := by
  obtain ⟨hq, hs, he, hc, hf, k, hk, hroom⟩ := h
  have h0 : q.sq.toNat = 0 := by rw [hq]; rfl
  simp only [State.answer, State.completion, State.completionOf, State.classOf, Sqe.success, h0, he, hc, hf, if_true,
    Option.isSome_none, Bool.not_true, Bool.or_self, Bool.false_eq_true, if_false]
  obtain ⟨vc, o, c, p, hpost⟩ := State.postCqe_admin
    (h := ⟨q.fn.toNat, 0, q.cid.toNat, 0, dw0, 0, 1 == 0, ((s.sq? q.fn.toNat 0).map (·.bellAt)).getD s.pkg.timebase, []⟩)
    rfl rfl (State.hostOpen_of_serving hs) hc hk hroom
  exact ⟨c, p, k.phase, vc, o, by rw [hpost, List.append_assoc]; rfl⟩

/-! ### What a command taken leaves readable -/

/-- A state that differs from another in the front end, the dictionary, the events, the Strait and the free values drawn, with what was
sent before at the head of what has been sent. -/
def State.Fronted (s x : State) : Prop :=
  ∃ n d e w o f, x = { s with nvme := n, dict := d, ev := e, twin := w, out := s.out ++ o, free := f }

theorem State.Fronted.keepsRest {s x : State} (h : s.Fronted x) : Cond.keepsRest s x = true := by
  obtain ⟨_, _, _, _, _, _, rfl⟩ := h
  simp [Cond.keepsRest]

theorem State.Fronted.setNvme {s x : State} (h : s.Fronted x) (n : Nvme) : s.Fronted { x with nvme := n } := by
  obtain ⟨_, d, e, w, o, f, rfl⟩ := h
  exact ⟨n, d, e, w, o, f, rfl⟩

theorem State.Fronted.setCtrl {s x : State} (h : s.Fronted x) (fn : Nat) (c : Ctrl) : s.Fronted (x.setCtrl fn c) := h.setNvme _

theorem State.Fronted.setFree {s x : State} (h : s.Fronted x) (k : Nat) : s.Fronted { x with free := k } := by
  obtain ⟨n, d, e, w, o, _, rfl⟩ := h
  exact ⟨n, d, e, w, o, k, rfl⟩

section Taken
variable {s t : State} (h : s.Taken t)
include h

theorem State.Taken.fronted : s.Fronted t := by
  obtain ⟨_, _, _, e, o, _, w, _, rfl, -⟩ := h
  exact ⟨_, _, e, w, o, _, rfl⟩

theorem State.Taken.pkg : t.pkg = s.pkg := by obtain ⟨_, _, _, _, _, _, _, _, rfl, -⟩ := h; rfl
theorem State.Taken.cs : t.cs = s.cs := by obtain ⟨_, _, _, _, _, _, _, _, rfl, -⟩ := h; rfl
theorem State.Taken.ctrl (fn : Nat) : t.ctrl fn = s.ctrl fn := by obtain ⟨_, _, _, _, _, _, _, _, rfl, -⟩ := h; rfl
theorem State.Taken.cmds : t.nvme.cmds = s.nvme.cmds := by obtain ⟨_, _, _, _, _, _, _, _, rfl, -⟩ := h; rfl
theorem State.Taken.saved : t.nvme.saved = s.nvme.saved := by obtain ⟨_, _, _, _, _, _, _, _, rfl, -⟩ := h; rfl
theorem State.Taken.changedNs : t.nvme.changedNs = s.nvme.changedNs := by obtain ⟨_, _, _, _, _, _, _, _, rfl, -⟩ := h; rfl
theorem State.Taken.namespaces : t.nvme.namespaces = s.nvme.namespaces := by
  obtain ⟨_, _, _, _, _, _, _, _, rfl, -⟩ := h; rfl
theorem State.Taken.cntlid (fn : Nat) : t.cntlid fn = s.cntlid fn := by obtain ⟨_, _, _, _, _, _, _, _, rfl, -⟩ := h; rfl
theorem State.Taken.namespace? (nsid : Nat) : t.namespace? nsid = s.namespace? nsid := by
  obtain ⟨_, _, _, _, _, _, _, _, rfl, -⟩ := h; rfl
theorem State.Taken.featureSpaces (fn fid nsid : Nat) : t.featureSpaces fn fid nsid = s.featureSpaces fn fid nsid := by
  obtain ⟨_, _, _, _, _, _, _, _, rfl, -⟩ := h; rfl
theorem State.Taken.walkStatus (q : Sqe) (w : Walk) (need : Nat) (write : Bool) :
    t.walkStatus q w need write = s.walkStatus q w need write := by
  simp only [State.walkStatus, h.ctrl]

theorem State.Taken.fval {fn idx sub : Nat} (hi : idx < 2 ^ 16) (hs : sub < 2 ^ 8) (hne : idx ≠ 0xD190) :
    t.fval fn idx sub = s.fval fn idx sub := by
  obtain ⟨_, _, _, hn⟩ := h
  exact hn.fval hi hs hne

/-- A log page reads the same once its command is taken. -/
theorem State.Taken.logPage (fn lid nsid : Nat) (rgo : Bool) : (t.logPage fn lid nsid rgo).1 = (s.logPage fn lid nsid rgo).1 := by
  obtain ⟨_, _, _, _, _, _, _, _, rfl, ⟨_, _, _, _, _, _, _, rfl⟩, -⟩ := h
  unfold State.logPage
  dsimp only
  split
  case h_2 => split <;> rfl
  all_goals rfl

theorem State.Taken.usableBytes : t.usableBytes = s.usableBytes := by
  have hv : t.val 0x6000 2 = s.val 0x6000 2 := h.fval (by decide) (by decide) (by decide)
  unfold State.usableBytes
  rw [hv]
  obtain ⟨_, _, _, _, _, _, _, _, rfl, -⟩ := h
  rfl

theorem State.Taken.identifyController (fn : Nat) : t.identifyController fn = s.identifyController fn := by
  have hv (sub : Nat) (hs : sub < 4) : t.val 0x3020 sub = s.val 0x3020 sub :=
    h.fval (by decide) (by omega) (by decide)
  have hc : t.tnvmcap = s.tnvmcap := by
    unfold State.tnvmcap
    rw [h.usableBytes]
    obtain ⟨_, _, _, _, _, _, _, _, rfl, -⟩ := h
    rfl
  unfold State.identifyController
  rw [hv 1 (by decide), hv 2 (by decide), hv 3 (by decide), hc]
  obtain ⟨_, _, _, _, _, _, _, _, rfl, -⟩ := h
  rfl

theorem State.Taken.identifyPrimary : t.identifyPrimary = s.identifyPrimary := by
  obtain ⟨_, _, _, _, _, _, _, _, rfl, -⟩ := h; rfl

theorem State.Taken.identifySecondary (cntid : Nat) : t.identifySecondary cntid = s.identifySecondary cntid := by
  obtain ⟨_, _, _, _, _, _, _, _, rfl, -⟩ := h; rfl

theorem State.Taken.controllers : t.controllers = s.controllers := by
  obtain ⟨_, _, _, _, _, _, _, _, rfl, ⟨_, _, _, _, _, _, _, rfl⟩, -⟩ := h; rfl

/-- An Identify structure reads the same once its command is taken, and reading it changes nothing. -/
theorem State.Taken.identifyData (fn cns nsid cntid csi : Nat) :
    t.identifyData fn cns nsid cntid csi = (s.identifyData fn cns nsid cntid csi).map (fun p => (p.1, t)) id := by
  unfold State.identifyData
  simp only [h.namespaces, h.namespace?, h.cntlid, h.identifyController, h.controllers, h.identifyPrimary, h.identifySecondary]
  repeat' split
  all_goals rfl

end Taken

/-! ### What an answered command has sent -/

theorem gave_of_mem_sent {s u : State} {q : Sqe} {b : List Byte} {vc1 ro : Bool}
    (h : .data q.fn.toNat q.sq.toNat q.cid.toNat b false false vc1 ro ∈ Cond.sent s u) : Cond.gave s u q b = true :=
  List.any_eq_true.2 ⟨_, h, by simp⟩

theorem completed_of_mem_sent {s u : State} {q : Sqe} {dw0 : Nat} {phase vc1 : Bool} (h : q.success dw0 phase vc1 ∈ Cond.sent s u) :
    Cond.completed s u q 0 dw0 = true := by
  have hp : b2n phase / 2 = 0 := by cases phase <;> rfl
  exact List.any_eq_true.2 ⟨_, h, by simp [Sqe.success, hp]⟩

/-- What a command posts counts as sent since the state it was taken in. -/
theorem State.Fronted.mem_sent_posted {s x : State} (h : s.Fronted x) {e : Emit} {o : List Emit} (he : e ∈ o) (c : Tab Cq)
    (p : Tab Bool) : e ∈ Cond.sent s (x.posted c p o) := by
  obtain ⟨_, _, _, _, _, _, rfl⟩ := h
  simp [Cond.sent, State.posted, he]

theorem State.Fronted.posted {s x : State} (h : s.Fronted x) (c : Tab Cq) (p : Tab Bool) (o : List Emit) :
    s.Fronted (x.posted c p o) := by
  obtain ⟨_, d, e, w, o', f, rfl⟩ := h
  exact ⟨_, d, e, w, o' ++ o, f, by rw [← List.append_assoc]; rfl⟩

/-- An admin command answered with success from a state that its effect has led to. -/
theorem State.Fronted.answer {s x : State} {q : Sqe} (h : s.Fronted x) (hp : x.CanPost q) (dw0 : Nat) :
    ∃ c p o, x.answer q 0 dw0 = x.posted c p o ∧ Cond.completed s (x.posted c p o) q 0 dw0 = true := by
  obtain ⟨c, p, ph, vc, o, ha⟩ := hp.answer dw0
  exact ⟨c, p, _, ha, completed_of_mem_sent (h.mem_sent_posted List.mem_cons_self c p)⟩

/-- What goes out before a completion entry takes no room from it. -/
theorem State.CanPost.posted {x : State} {q : Sqe} (h : x.CanPost q) (p : Tab Bool) (o : List Emit) :
    (x.posted x.nvme.cqs p o).CanPost q := ⟨h.admin, h.serving, h.enabled, h.alive, h.noReset, h.room⟩

theorem State.posted_posted (x : State) (c c' : Tab Cq) (p p' : Tab Bool) (o o' : List Emit) :
    (x.posted c p o).posted c' p' o' = x.posted c' p' (o ++ o') := by
  simp only [State.posted, List.append_assoc]

/-- Data of a command that can be answered sent to the host in one run. -/
theorem State.CanPost.hostData {x : State} {q : Sqe} (h : x.CanPost q) (w : Walk) (b : List Byte) (vc1 : Bool) :
    x.hostData q.fn.toNat q.sq.toNat q.cid.toNat w 0 0 b false vc1 = x.posted x.nvme.cqs x.nvme.msixPend
      [.data q.fn.toNat q.sq.toNat q.cid.toNat (w.data.lands 0 b) false false vc1 x.relaxed] := by
  simp [State.hostData, divided, State.emit_of_hostOpen (State.hostOpen_of_serving h.serving), State.posted]

/-- An admin command answered with data and success. -/
theorem State.Fronted.answerData {s x : State} {q : Sqe} (h : s.Fronted x) (hp : x.CanPost q) (w : Walk) (page : List Byte)
    (offset want : Nat) : ∃ c p o, x.answerData q w page offset want = x.posted c p o ∧
      Cond.landed s (x.posted c p o) q w ((page.drop offset).take want) = true ∧ Cond.completed s (x.posted c p o) q 0 0 = true := by
  rw [State.answerData, hp.hostData]
  obtain ⟨c, p, ph, vc, o, ha⟩ := (hp.posted x.nvme.msixPend [_]).answer 0
  rw [ha, State.posted_posted]
  exact ⟨c, p, _, rfl, gave_of_mem_sent (h.mem_sent_posted List.mem_cons_self c p),
    completed_of_mem_sent (h.mem_sent_posted (List.mem_cons_of_mem _ List.mem_cons_self) c p)⟩

/-! ### Conditions of admin commands -/

theorem State.admin_takes_of_cond {s : State} {q : Sqe} (h : Cond.admin s q = true) :
    ∃ t, s.Taken t ∧ t.CanPost q ∧ ∀ f, s.admin q true f = f t := by
  simp only [Cond.admin, Bool.and_eq_true, beq_iff_eq] at h
  obtain ⟨⟨hq, hf⟩, -⟩ := h
  exact State.admin_takes hq hf

theorem State.CanPost.setFree {x : State} {q : Sqe} (h : x.CanPost q) (k : Nat) : ({ x with free := k } : State).CanPost q :=
  ⟨h.admin, h.serving, h.enabled, h.alive, h.noReset, h.room⟩

/-! ### Log pages (R124, R126, R127) -/

theorem State.deliverKept_of_none {s : State} {fn : Nat} (h : (s.ctrl fn).events = []) : s.deliverKept fn = s := by
  simp [State.deliverKept, h]

/-- Reading a page with no event kept: the front end alone changes; the page's event types unmask, and the Changed Namespace List
empties. -/
theorem State.logRead_of_none {s : State} {fn : Nat} (lid : Nat) (h : (s.ctrl fn).events = []) : ∃ n,
    s.logRead fn lid = { s with nvme := n } ∧
      (Tab.get n.ctrls (Ctrl.base fn) fn).masked = (s.ctrl fn).masked.filter (fun m => m % 256 != lid) ∧
      (lid = 4 → n.changedNs = []) := by
  unfold State.logRead
  dsimp only
  rw [State.deliverKept_of_none]
  · split <;> split
    · omega
    all_goals exact ⟨_, rfl, by simp, by simp_all⟩
  · split <;> split <;> simpa [State.ctrl] using h

/-- Reading a log page draws free values at most. -/
theorem State.logPage_draws (s : State) (fn lid nsid : Nat) (rgo : Bool) :
    ∃ k, (s.logPage fn lid nsid rgo).2 = { s with free := k } := by
  unfold State.logPage
  split
  case h_2 =>
    split
    · exact ⟨_, rfl⟩
    · exact ⟨_, rfl⟩
  all_goals exact ⟨_, rfl⟩

/-- GET_LOG_PAGE (R124, R126, R127). -/
theorem getLogPage_answers (q : Sqe) (lid : BitVec 8) (nsid : BitVec 32) (offset : BitVec 64) (numd : BitVec 32) (rae rgo : Bool)
    (w : Walk) (s : State) (h : Cond.getLogPage q lid nsid offset numd rgo w s = true) :
    ∃ u, exec (.getLogPage q lid nsid offset numd rae rgo w) s = .next u ∧
      (∀ p ∈ (s.logPage q.fn.toNat lid.toNat nsid.toNat rgo).1, (p.drop offset.toNat).take (4 * (numd.toNat + 1)) ≠ [] →
        Cond.landed s u q w ((p.drop offset.toNat).take (4 * (numd.toNat + 1))) = true) ∧
      Cond.completed s u q 0 0 = true ∧ (rae = false → lid = 4 → u.nvme.changedNs = []) ∧
      (rae = true → u.nvme.changedNs = s.nvme.changedNs ∧ (u.ctrl q.fn.toNat).masked = (s.ctrl q.fn.toNat).masked) ∧
      (rae = false → (u.ctrl q.fn.toNat).masked = (s.ctrl q.fn.toNat).masked.filter fun m => m % 256 != lid.toNat) ∧
      Cond.keepsRest s u = true := by
  simp only [Cond.getLogPage, Bool.and_eq_true, decide_eq_true_eq, beq_iff_eq, List.isEmpty_iff, Option.any_eq_true] at h
  obtain ⟨⟨⟨⟨⟨⟨hadm, hlid⟩, hlen⟩, hwalk⟩, hoff⟩, hev⟩, page, hpage, hin⟩ := h
  obtain ⟨t, ht, hp, hrun⟩ := State.admin_takes_of_cond hadm
  obtain ⟨x, hx, hf, hpx, hn⟩ : ∃ x, (t.logPage q.fn.toNat lid.toNat nsid.toNat rgo).2 = x ∧ s.Fronted x ∧ x.CanPost q ∧
      x.nvme = t.nvme := by
    obtain ⟨k, hk⟩ := t.logPage_draws q.fn.toNat lid.toNat nsid.toNat rgo
    exact ⟨_, hk, ht.fronted.setFree k, hp.setFree k, rfl⟩
  have hctrl : x.ctrl q.fn.toNat = s.ctrl q.fn.toNat := (congrArg (fun n : Nvme => Tab.get n.ctrls _ _) hn).trans (ht.ctrl _)
  obtain ⟨c, p, o, ha, hland, hcomp⟩ := hf.answerData hpx w page offset.toNat (4 * (numd.toNat + 1))
  have hrest := (hf.posted c p o).keepsRest
  have hdata : ∀ y ∈ (s.logPage q.fn.toNat lid.toNat nsid.toNat rgo).1,
      Cond.landed s (x.posted c p o) q w ((y.drop offset.toNat).take (4 * (numd.toNat + 1))) = true := by
    intro y hy
    rw [hpage, Option.mem_some_iff] at hy
    exact hy ▸ hland
  have hget : s.getLogPage q lid.toNat nsid.toNat offset.toNat numd.toNat rae rgo w =
      if rae then x.posted c p o else (x.posted c p o).logRead q.fn.toNat lid.toNat := by
    have hlen' : ¬ maxTransfer < 4 * (numd.toNat + 1) := by omega
    have hin' : ¬ page.length < offset.toNat := by omega
    rw [State.getLogPage, hrun]
    simp only [hlid, hlen', ht.walkStatus, hwalk, ht.logPage, hpage, hx, hoff, hin', ha, Bool.not_true, Bool.false_eq_true, if_false,
      bne_self_eq_false, decide_false, Bool.or_self]
  cases rae with
  | true =>
    exact ⟨_, congrArg s.done hget, fun y hy _ => hdata y hy, hcomp, nofun,
      fun _ => ⟨(congrArg Nvme.changedNs hn).trans ht.changedNs, congrArg Ctrl.masked hctrl⟩, nofun, hrest⟩
  | false =>
    obtain ⟨n, hread, hmask, hchanged⟩ := State.logRead_of_none (s := x.posted c p o) (fn := q.fn.toNat) lid.toNat
      (by rw [State.posted_ctrl, hctrl, hev])
    rw [State.posted_ctrl, hctrl] at hmask
    exact ⟨_, congrArg s.done (hget.trans hread), fun y hy _ => hdata y hy, hcomp, fun _ h4 => hchanged (by rw [h4]; rfl), nofun,
      fun _ => hmask, hrest⟩

/-! ### Identify, Abort, Keep Alive, Asynchronous Event Request -/

/-- IDENTIFY (R120). -/
theorem identify_answers (q : Sqe) (cns : BitVec 8) (nsid : BitVec 32) (cntid : BitVec 16) (csi : BitVec 8) (w : Walk) (s : State)
    (h : Cond.identify q cns nsid cntid csi w s = true) :
    ∃ u, exec (.identify q cns nsid cntid csi w) s = .next u ∧
      (∀ p ∈ (s.identifyData q.fn.toNat cns.toNat nsid.toNat cntid.toNat csi.toNat).getLeft?,
        Cond.landed s u q w (p.1.take 4096) = true) ∧
      Cond.completed s u q 0 0 = true ∧ u.nvme.namespaces = s.nvme.namespaces ∧ Cond.keepsRest s u = true := by
  simp only [Cond.identify, Bool.and_eq_true, beq_iff_eq, Sum.isLeft_iff] at h
  obtain ⟨⟨hadm, hwalk⟩, d, hd⟩ := h
  obtain ⟨t, ht, hp, hrun⟩ := State.admin_takes_of_cond hadm
  obtain ⟨c, p, o, ha, hland, hcomp⟩ := ht.fronted.answerData hp w d.1 0 4096
  have hid : s.identify q cns.toNat nsid.toNat cntid.toNat csi.toNat w = t.posted c p o := by
    rw [State.identify, hrun]
    simp only [ht.walkStatus, hwalk, ht.identifyData, hd, Sum.map_inl, ha, bne_self_eq_false, Bool.false_eq_true, if_false]
  refine ⟨_, congrArg s.done hid, fun x hx => ?_, hcomp, ht.namespaces, (ht.fronted.posted c p o).keepsRest⟩
  rw [hd, Sum.getLeft?_inl, Option.mem_some_iff] at hx
  exact hx ▸ hland

/-- ABORT (R143). -/
theorem abort_answers (q : Sqe) (s : State) (h : Cond.abort q s = true) :
    ∃ u, exec (.abort q) s = .next u ∧ Cond.completed s u q 0 1 = true ∧ u.nvme.cmds = s.nvme.cmds ∧ Cond.keepsRest s u = true := by
  simp only [Cond.abort, Bool.and_eq_true, beq_iff_eq] at h
  obtain ⟨t, ht, hp, hrun⟩ := State.admin_takes h.1 h.2
  obtain ⟨c, p, o, ha, hcomp⟩ := ht.fronted.answer hp 1
  exact ⟨_, congrArg s.done ((hrun _).trans ha), hcomp, ht.cmds, (ht.fronted.posted c p o).keepsRest⟩

/-- KEEP_ALIVE (R113). -/
theorem keepAlive_answers (q : Sqe) (s : State) (h : Cond.keepAlive q s = true) :
    ∃ u, exec (.keepAlive q) s = .next u ∧ (u.ctrl q.fn.toNat).keepAliveAt = s.pkg.timebase ∧ Cond.completed s u q 0 0 = true ∧
      Cond.keepsRest s u = true := by
  simp only [Cond.keepAlive, Bool.and_eq_true, beq_iff_eq] at h
  obtain ⟨t, ht, hp, hrun⟩ := State.admin_takes h.1 h.2
  have hx : s.Fronted (t.setCtrl q.fn.toNat { t.ctrl q.fn.toNat with keepAliveAt := t.pkg.timebase }) :=
    ht.fronted.setCtrl _ _
  obtain ⟨c, p, o, ha, hcomp⟩ := hx.answer (hp.setCtrl rfl rfl rfl) 0
  refine ⟨_, congrArg s.done ((hrun _).trans ha), ?_, hcomp, (hx.posted c p o).keepsRest⟩
  change ((t.setCtrl q.fn.toNat _).ctrl q.fn.toNat).keepAliveAt = _
  rw [State.ctrl_setCtrl, ht.pkg]

/-- ASYNCHRONOUS_EVENT_REQUEST (R127): with no event kept, the request is held. -/
theorem asynchronousEventRequest_held (q : Sqe) (s : State) (h : Cond.asynchronousEventRequest q s = true) :
    ∃ u, exec (.asynchronousEventRequest q) s = .next u ∧
      (u.ctrl q.fn.toNat).aers = (s.ctrl q.fn.toNat).aers ++ [q.cid.toNat] ∧ Cond.keepsRest s u = true := by
  simp only [Cond.asynchronousEventRequest, Bool.and_eq_true, beq_iff_eq, decide_eq_true_eq, List.isEmpty_iff] at h
  obtain ⟨⟨⟨hq, hf⟩, hroom⟩, hev⟩ := h
  obtain ⟨t, ht, -, hrun⟩ := State.admin_takes hq hf
  have hroom' : ¬ 16 ≤ (s.ctrl q.fn.toNat).aers.length := by omega
  have hreq : s.asyncRequest q =
      t.setCtrl q.fn.toNat { s.ctrl q.fn.toNat with aers := (s.ctrl q.fn.toNat).aers ++ [q.cid.toNat] } := by
    rw [State.asyncRequest, hrun]
    simp only [ht.ctrl, hroom', if_false]
    exact State.deliverKept_of_none (by rw [State.ctrl_setCtrl]; exact hev)
  have hx := ht.fronted.setCtrl q.fn.toNat { s.ctrl q.fn.toNat with aers := (s.ctrl q.fn.toNat).aers ++ [q.cid.toNat] }
  refine ⟨_, congrArg s.done hreq, ?_, hx.keepsRest⟩
  change ((t.setCtrl q.fn.toNat _).ctrl q.fn.toNat).aers = _
  rw [State.ctrl_setCtrl]

/-! ### Features (R121) -/

/-- A feature of the controller that has a value of its own and moves no data. -/
structure OwnFeature (fid : Nat) : Prop where
  known : featureIds.contains fid = true
  notQueues : fid ≠ 0x07
  notTimestamp : fid ≠ 0x0E
  notKeepAlive : fid ≠ 0x0F
  notHostId : fid ≠ 0x81
  notMask : fid ≠ 0x82
  notPower : fid ≠ 0x83

theorem OwnFeature.ofContains {fid : Nat} (h : [0x01, 0x02, 0x04, 0x05, 0x08, 0x09, 0x0B].contains fid = true) : OwnFeature fid := by
  have hall : ∀ f ∈ [0x01, 0x02, 0x04, 0x05, 0x08, 0x09, 0x0B], featureIds.contains f = true ∧
      f ≠ 0x07 ∧ f ≠ 0x0E ∧ f ≠ 0x0F ∧ f ≠ 0x81 ∧ f ≠ 0x82 ∧ f ≠ 0x83 := by decide
  obtain ⟨h1, h2, h3, h4, h5, h6, h7⟩ := hall fid (List.contains_iff_mem.1 h)
  exact ⟨h1, h2, h3, h4, h5, h6, h7⟩

theorem OwnFeature.key {fid : Nat} (h : OwnFeature fid) (dw11 nsid : Nat) : featureKey2 fid dw11 nsid = featureKey2 fid dw11 0 := by
  simp only [featureKey2, h.notMask, if_false]

theorem OwnFeature.value {fid : Nat} (h : OwnFeature fid) (dw11 data : Nat) : featureValue fid dw11 data = featureValue fid dw11 0 := by
  simp only [featureValue, h.notTimestamp, h.notHostId, if_false]

theorem OwnFeature.noData {fid : Nat} (h : OwnFeature fid) : featureBytes fid = 0 := by
  simp only [featureBytes, h.notTimestamp, h.notHostId, if_false]

theorem OwnFeature.notPerNamespace {fid : Nat} (h : OwnFeature fid) : perNamespace fid = false := by
  simp [perNamespace, h.notMask, h.notPower]

theorem OwnFeature.saved {fid : Nat} (h : OwnFeature fid) (dw11 : Nat) (spaces : List Nat) :
    savedKeys fid dw11 spaces = [featureKey2 fid dw11 0] := by
  simp only [savedKeys, h.notMask, h.notPower, if_false]

theorem OwnFeature.put {fid : Nat} (h : OwnFeature fid) (s : State) (fn dw11 data : Nat) (spaces : List Nat) :
    s.putFeature fn fid dw11 data spaces = s.setCtrl fn { s.ctrl fn with
      features := Tab.put (s.ctrl fn).features (featureKey2 fid dw11 0) (featureValue fid dw11 data) } := by
  unfold State.putFeature
  split
  · exact absurd rfl h.notQueues
  · exact absurd rfl h.notTimestamp
  · exact absurd rfl h.notKeepAlive
  · exact absurd rfl h.notMask
  · exact absurd rfl h.notPower
  · rfl

theorem OwnFeature.put_features {fid : Nat} (h : OwnFeature fid) (s : State) (fn dw11 data : Nat) (spaces : List Nat) :
    ((s.putFeature fn fid dw11 data spaces).ctrl fn).features =
      Tab.put (s.ctrl fn).features (featureKey2 fid dw11 0) (featureValue fid dw11 0) := by
  rw [h.put, State.ctrl_setCtrl, h.value]

/-! The features with a meaning of their own, once set. -/

theorem State.putFeature_timestamp (s : State) (fn dw11 data : Nat) (spaces : List Nat) :
    ((s.putFeature fn 0x0E dw11 data spaces).ctrl fn).features =
      Tab.put (Tab.put (s.ctrl fn).features 0x0E (data % 2 ^ 48)) 0x50000 s.now :=
  congrArg Ctrl.features (State.ctrl_setCtrl s fn _)

theorem State.putFeature_keepAlive (s : State) (fn dw11 data : Nat) (spaces : List Nat) :
    ((s.putFeature fn 0x0F dw11 data spaces).ctrl fn).keepAliveMs = ceilDiv dw11 100 * 100 :=
  congrArg Ctrl.keepAliveMs (State.ctrl_setCtrl s fn _)

theorem State.putFeature_hostId (s : State) (fn dw11 data : Nat) (spaces : List Nat) :
    ((s.putFeature fn 0x81 dw11 data spaces).ctrl fn).features = Tab.put (s.ctrl fn).features 0x81 (data % 2 ^ 128) :=
  congrArg Ctrl.features (State.ctrl_setCtrl s fn _)

theorem State.putFeature_mask (s : State) (fn dw11 data : Nat) (spaces : List Nat) :
    ((s.putFeature fn 0x82 dw11 data spaces).ctrl fn).features =
      spaces.foldl (fun t n => Tab.put t (0x100000 + n) (dw11 &&& 0xE)) (s.ctrl fn).features :=
  congrArg Ctrl.features (State.ctrl_setCtrl s fn _)

/-- The namespace of an identifier after an update that keeps every identifier. -/
theorem find?_updateIf_nsid (p : Namespace → Bool) (f : Namespace → Namespace) (hf : ∀ n, (f n).nsid = n.nsid) (nsid : Nat)
    (l : List Namespace) : (updateIf p f l).find? (fun n => n.nsid == nsid) =
      (l.find? fun n => n.nsid == nsid).map fun n => if p n then f n else n := by
  rw [updateIf, List.find?_map]
  congr 2
  funext n
  simp only [Function.comp]
  split <;> simp [hf]

theorem State.putFeature_power (s : State) (fn dw11 data nsid : Nat) (spaces : List Nat) :
    (s.putFeature fn 0x83 dw11 data spaces).namespace? nsid =
      (s.namespace? nsid).map fun n => if spaces.contains n.nsid then { n with ptpl := bit dw11 0 } else n :=
  find?_updateIf_nsid _ (fun n => { n with ptpl := bit dw11 0 }) (fun _ => rfl) nsid _

theorem OwnFeature.now {fid : Nat} (h : OwnFeature fid) (s : State) (fn nsid dw11 : Nat) :
    s.featureNow fn fid nsid dw11 = (s.ctrl fn).feature (featureKey2 fid dw11 nsid) := by
  unfold State.featureNow
  split
  · exact absurd rfl h.notQueues
  · exact absurd rfl h.notPower
  · exact absurd rfl h.notTimestamp
  · rfl

/-- Setting a feature changes the front end alone. -/
theorem State.putFeature_nvme (s : State) (fn fid dw11 data : Nat) (spaces : List Nat) :
    ∃ n, s.putFeature fn fid dw11 data spaces = { s with nvme := n } := by
  unfold State.putFeature
  split
  all_goals exact ⟨_, rfl⟩

theorem State.CanPost.putFeature {s : State} {q : Sqe} (h : s.CanPost q) (fid dw11 data : Nat) (spaces : List Nat) :
    (s.putFeature q.fn.toNat fid dw11 data spaces).CanPost q := by
  unfold State.putFeature
  split
  case h_1 => exact h
  case h_5 => exact ⟨h.admin, h.serving, h.enabled, h.alive, h.noReset, h.room⟩
  all_goals exact h.setCtrl rfl rfl rfl

/-- A feature set, and saved where that is asked. -/
def State.withFeature (s : State) (fn fid dw11 data : Nat) (spaces : List Nat) (sv : Bool) : State :=
  let x := s.putFeature fn fid dw11 data spaces
  if sv then { x with nvme.saved :=
    (savedKeys fid dw11 spaces).foldl (fun t k => Tab.put t (savedKey fn k) (featureValue fid dw11 data)) x.nvme.saved }
  else x

theorem State.Fronted.withFeature {s t : State} (h : s.Fronted t) (fn fid dw11 data : Nat) (spaces : List Nat) (sv : Bool) :
    s.Fronted (t.withFeature fn fid dw11 data spaces sv) := by
  obtain ⟨n, hn⟩ := t.putFeature_nvme fn fid dw11 data spaces
  unfold State.withFeature
  dsimp only
  rw [hn]
  split
  · exact h.setNvme _
  · exact h.setNvme n

theorem State.CanPost.withFeature {t : State} {q : Sqe} (h : t.CanPost q) (fid dw11 data : Nat) (spaces : List Nat) (sv : Bool) :
    (t.withFeature q.fn.toNat fid dw11 data spaces sv).CanPost q := by
  have hp := h.putFeature fid dw11 data spaces
  unfold State.withFeature
  dsimp only
  split
  · exact ⟨hp.admin, hp.serving, hp.enabled, hp.alive, hp.noReset, hp.room⟩
  · exact hp

theorem State.withFeature_ctrl (t : State) (fn fid dw11 data : Nat) (spaces : List Nat) (sv : Bool) (k : Nat) :
    (t.withFeature fn fid dw11 data spaces sv).ctrl k = (t.putFeature fn fid dw11 data spaces).ctrl k := by
  cases sv <;> rfl

theorem State.withFeature_namespaces (t : State) (fn fid dw11 data : Nat) (spaces : List Nat) (sv : Bool) :
    (t.withFeature fn fid dw11 data spaces sv).nvme.namespaces = (t.putFeature fn fid dw11 data spaces).nvme.namespaces := by
  cases sv <;> rfl

theorem OwnFeature.withFeature_saved {fid : Nat} (h : OwnFeature fid) (t : State) (fn dw11 data : Nat) (spaces : List Nat) :
    Tab.find (t.withFeature fn fid dw11 data spaces true).nvme.saved (savedKey fn (featureKey2 fid dw11 0)) =
      some (featureValue fid dw11 0) := by
  simp only [State.withFeature, if_true, h.saved, h.value dw11 data, List.foldl_cons, List.foldl_nil, Tab.find_put_same]

/-- A Set Features passes its checks (R121, R128). -/
structure State.TakesFeature (s : State) (q : Sqe) (fid nsid dw11 : Nat) (sv : Bool) (w : Walk) : Prop where
  known : featureIds.contains fid = true
  good : (s.ctrl q.fn.toNat).featureBad fid dw11 = false
  save : sv = true → saveable.contains fid = true ∧ s.cs.faulted = false
  walk : s.walkStatus q w (featureBytes fid) true = 0
  spaces : perNamespace fid = true → s.featureSpaces q.fn.toNat fid nsid ≠ [] ∧ nsid ≠ 0xFFFFFFFF

/-- A Set Features that passes its checks is answered with success once the feature is set. -/
theorem State.TakesFeature.answers {s : State} {q : Sqe} {fid nsid dw11 : Nat} {sv : Bool} {w : Walk}
    (h : s.TakesFeature q fid nsid dw11 sv w) (ha : Cond.admin s q = true) (data : Nat) :
    ∃ t u, s.Taken t ∧ s.done (s.setFeatures q fid nsid dw11 data sv w) = .next u ∧
      (∀ fn, u.ctrl fn = (t.putFeature q.fn.toNat fid dw11 data (s.featureSpaces q.fn.toNat fid nsid)).ctrl fn) ∧
      u.nvme.namespaces = (t.putFeature q.fn.toNat fid dw11 data (s.featureSpaces q.fn.toNat fid nsid)).nvme.namespaces ∧
      u.nvme.saved = (t.withFeature q.fn.toNat fid dw11 data (s.featureSpaces q.fn.toNat fid nsid) sv).nvme.saved ∧
      Cond.completed s u q 0 (if fid = 0x07 then (s.ctrl q.fn.toNat).grant dw11 else 0) = true ∧ Cond.keepsRest s u = true := by
  obtain ⟨t, ht, hp, hrun⟩ := State.admin_takes_of_cond ha
  have hf := ht.fronted.withFeature q.fn.toNat fid dw11 data (s.featureSpaces q.fn.toNat fid nsid) sv
  obtain ⟨c, p, o, hans, hcomp⟩ := hf.answer (hp.withFeature fid dw11 data (s.featureSpaces q.fn.toNat fid nsid) sv)
    (if fid = 0x07 then (s.ctrl q.fn.toNat).grant dw11 else 0)
  refine ⟨t, _, ht, congrArg s.done (Eq.trans ?_ hans), State.withFeature_ctrl t _ _ _ _ _ sv,
    State.withFeature_namespaces t _ _ _ _ _ sv, rfl, hcomp, (hf.posted c p o).keepsRest⟩
  have hsave : (sv && !saveable.contains fid) = false := by
    cases sv with
    | false => rfl
    | true => rw [(h.save rfl).1]; rfl
  have hfault : (sv && s.cs.faulted) = false := by
    cases sv with
    | false => rfl
    | true => exact (h.save rfl).2
  have hspace : (perNamespace fid && (s.featureSpaces q.fn.toNat fid nsid).isEmpty && nsid != 0xFFFFFFFF) = false := by
    cases hn : perNamespace fid with
    | false => rfl
    | true => simp [(h.spaces hn).1]
  have hpower : ¬ (fid = 0x83 ∧ nsid = 0xFFFFFFFF) := fun ⟨h1, h2⟩ => (h.spaces (by rw [h1]; rfl)).2 h2
  rw [State.setFeatures, hrun]
  simp only [ht.ctrl, ht.featureSpaces, ht.walkStatus, ht.cs, h.known, h.good, h.walk, hsave, hfault, hspace, hpower, Bool.not_true,
    Bool.or_self, Bool.false_eq_true, if_false, bne_self_eq_false]
  rfl

/-- SET_FEATURES of a feature of the controller with a value of its own (R121). -/
theorem setFeatures_keeps (q : Sqe) (fid : BitVec 8) (nsid dw11 : BitVec 32) (data : BitVec 256) (sv : Bool) (w : Walk) (s : State)
    (h : Cond.setFeatures q fid dw11 sv s = true) :
    ∃ u, exec (.setFeatures q fid nsid dw11 data sv w) s = .next u ∧
      Tab.find (u.ctrl q.fn.toNat).features (featureKey2 fid.toNat dw11.toNat nsid.toNat) = some (featureValue fid.toNat dw11.toNat 0) ∧
      (sv = true → Tab.find u.nvme.saved (savedKey q.fn.toNat (featureKey2 fid.toNat dw11.toNat 0)) =
        some (featureValue fid.toNat dw11.toNat 0)) ∧
      Cond.completed s u q 0 0 = true ∧ Cond.keepsRest s u = true := by
  simp only [Cond.setFeatures, Bool.and_eq_true, Bool.not_eq_true', Bool.or_eq_true] at h
  obtain ⟨⟨⟨hadm, hfid⟩, hgood⟩, hsv⟩ := h
  have hown := OwnFeature.ofContains hfid
  have htakes : s.TakesFeature q fid.toNat nsid.toNat dw11.toNat sv w :=
    ⟨hown.known, hgood, fun h => hsv.resolve_left (by simp [h]), by rw [hown.noData]; rfl,
      fun h => absurd h (by rw [hown.notPerNamespace]; nofun)⟩
  obtain ⟨t, u, -, hu, hctrl, -, hsaved, hcomp, hrest⟩ := htakes.answers hadm data.toNat
  rw [if_neg hown.notQueues] at hcomp
  refine ⟨u, hu, ?_, fun h => ?_, hcomp, hrest⟩
  · rw [hctrl, hown.put_features, hown.key _ nsid.toNat, Tab.find_put_same]
  · subst h
    rw [hsaved, hown.withFeature_saved]

/-- SET_FEATURES of Number of Queues, the Timestamp, Keep Alive and the Host Identifier (R121). -/
theorem setFeatures_other (q : Sqe) (fid : BitVec 8) (nsid dw11 : BitVec 32) (data : BitVec 256) (sv : Bool) (w : Walk) (s : State)
    (h : Cond.setFeaturesOther q fid dw11 sv w s = true) :
    ∃ u, exec (.setFeatures q fid nsid dw11 data sv w) s = .next u ∧
      (fid = 0x0E → Tab.find (u.ctrl q.fn.toNat).features 0x0E = some (data.toNat % 2 ^ 48)) ∧
      (fid = 0x0F → (u.ctrl q.fn.toNat).keepAliveMs = ceilDiv dw11.toNat 100 * 100) ∧
      (fid = 0x81 → u.hostId q.fn.toNat = data.toNat % 2 ^ 128) ∧
      Cond.completed s u q 0 (if fid = 7 then (s.ctrl q.fn.toNat).grant dw11.toNat else 0) = true ∧ Cond.keepsRest s u = true := by
  simp only [Cond.setFeaturesOther, Bool.and_eq_true, Bool.not_eq_true', beq_iff_eq] at h
  obtain ⟨⟨⟨⟨hadm, hfid⟩, hgood⟩, hsv⟩, hwalk⟩ := h
  obtain ⟨hknown, hper⟩ := (by decide : ∀ f ∈ [0x07, 0x0E, 0x0F, 0x81], featureIds.contains f = true ∧ perNamespace f = false)
    fid.toNat (List.contains_iff_mem.1 hfid)
  have htakes : s.TakesFeature q fid.toNat nsid.toNat dw11.toNat sv w :=
    ⟨hknown, hgood, fun h => absurd (hsv.symm.trans h) nofun, hwalk, fun h => absurd (hper.symm.trans h) nofun⟩
  obtain ⟨t, u, -, hu, hctrl, -, -, hcomp, hrest⟩ := htakes.answers hadm data.toNat
  have h7 : fid.toNat = 0x07 ↔ fid = 7 := ⟨fun h => BitVec.eq_of_toNat_eq h, fun h => by rw [h]; rfl⟩
  simp only [h7] at hcomp
  refine ⟨u, hu, ?_, ?_, ?_, hcomp, hrest⟩
  · intro h
    have hid : fid.toNat = 0x0E := by rw [h]; rfl
    rw [hctrl, hid, State.putFeature_timestamp, Tab.find_put_other _ _ (by decide), Tab.find_put_same]
  · intro h
    have hid : fid.toNat = 0x0F := by rw [h]; rfl
    rw [hctrl, hid, State.putFeature_keepAlive]
  · intro h
    have hid : fid.toNat = 0x81 := by rw [h]; rfl
    rw [State.hostId, hctrl, hid, State.putFeature_hostId, Tab.get_put_same]

/-- The namespaces that a feature names by one identifier are all that one. -/
theorem State.eq_of_mem_featureSpaces {s : State} {fn fid nsid n : Nat} (hn : nsid ≠ 0xFFFFFFFF)
    (h : n ∈ s.featureSpaces fn fid nsid) : n = nsid := by
  simp only [State.featureSpaces, hn, and_false, if_false, List.mem_filter, beq_iff_eq] at h
  exact h.2

theorem State.namespace?_of_mem_featureSpaces {s : State} {fn fid nsid : Nat} (h : nsid ∈ s.featureSpaces fn fid nsid) :
    ∃ n, s.namespace? nsid = some n ∧ n.nsid = nsid := by
  have hl : nsid ∈ (s.nvme.namespaces.filter fun n => n.attached.contains (s.cntlid fn)).map fun (n : Namespace) => n.nsid := by
    unfold State.featureSpaces at h
    dsimp only at h
    split at h
    · exact h
    · exact (List.mem_filter.1 h).1
  obtain ⟨m, hm, hid⟩ := List.mem_map.1 hl
  cases hf : s.namespace? nsid with
  | none => exact absurd (List.find?_eq_none.1 hf m (List.mem_filter.1 hm).1) (by simp [hid])
  | some n => exact ⟨n, rfl, by simpa using List.find?_some hf⟩

/-- A value put under one key, as often as there are namespaces of one identifier. -/
theorem Tab.find_foldl_put_same {α : Type} (k : Nat) (v : α) (key : Nat → Nat) : ∀ (l : List Nat) (t : Tab α),
    (∀ n ∈ l, key n = k) → l ≠ [] → Tab.find (l.foldl (fun t n => Tab.put t (key n) v) t) k = some v
  | [], _, _, h => absurd rfl h
  | [n], t, hk, _ => by rw [List.foldl_cons, List.foldl_nil, hk n List.mem_cons_self, Tab.find_put_same]
  | n :: m :: l, t, hk, _ => Tab.find_foldl_put_same k v key (m :: l) _ (fun a ha => hk a (List.mem_cons_of_mem _ ha)) nofun

/-- SET_FEATURES of one attached namespace (R121, R128). -/
theorem setFeatures_namespace (q : Sqe) (fid : BitVec 8) (nsid dw11 : BitVec 32) (data : BitVec 256) (sv : Bool) (w : Walk) (s : State)
    (h : Cond.setFeaturesNs q fid nsid sv w s = true) :
    ∃ u, exec (.setFeatures q fid nsid dw11 data sv w) s = .next u ∧
      (fid = 0x83 → (u.namespace? nsid.toNat).map (fun n => n.ptpl) = some (bit dw11.toNat 0)) ∧
      (fid = 0x82 → Tab.find (u.ctrl q.fn.toNat).features (0x100000 + nsid.toNat) = some (dw11.toNat &&& 0xE)) ∧
      Cond.completed s u q 0 0 = true ∧ Cond.keepsRest s u = true := by
  simp only [Cond.setFeaturesNs, Bool.and_eq_true, Bool.not_eq_true', Bool.or_eq_true, beq_iff_eq, bne_iff_ne] at h
  obtain ⟨⟨⟨⟨⟨hadm, hfid⟩, hspaces⟩, hone⟩, hsv⟩, -⟩ := h
  have hmem := List.contains_iff_mem.1 hspaces
  have hall : nsid.toNat ≠ 0xFFFFFFFF := fun h => hone (BitVec.eq_of_toNat_eq h)
  have htakes : s.TakesFeature q fid.toNat nsid.toNat dw11.toNat sv w := by
    rcases hfid with rfl | rfl
    all_goals exact ⟨by decide, rfl, fun h => absurd (hsv.symm.trans h) nofun, rfl, fun _ => ⟨List.ne_nil_of_mem hmem, hall⟩⟩
  obtain ⟨t, u, ht, hu, hctrl, hns, -, hcomp, hrest⟩ := htakes.answers hadm data.toNat
  have h7 : fid.toNat ≠ 0x07 := by rcases hfid with rfl | rfl <;> decide
  rw [if_neg h7] at hcomp
  refine ⟨u, hu, ?_, ?_, hcomp, hrest⟩
  · intro h
    have hid : fid.toNat = 0x83 := by rw [h]; rfl
    obtain ⟨n, hn, hthere⟩ := State.namespace?_of_mem_featureSpaces hmem
    have hu' : u.namespace? nsid.toNat = (State.putFeature ..).namespace? nsid.toNat := congrArg (List.find? _) hns
    rw [hid] at hspaces hu'
    rw [hu', State.putFeature_power, ht.namespace?, hn, Option.map_some, Option.map_some, hthere, if_pos hspaces]
  · intro h
    have hid : fid.toNat = 0x82 := by rw [h]; rfl
    rw [hctrl, hid, State.putFeature_mask]
    rw [hid] at hmem
    exact Tab.find_foldl_put_same _ _ _ _ _ (fun n hn => by rw [State.eq_of_mem_featureSpaces hall hn]) (List.ne_nil_of_mem hmem)

/-- GET_FEATURES, by Select (R121). -/
theorem getFeatures_answers (q : Sqe) (fid : BitVec 8) (nsid dw11 : BitVec 32) (sel : BitVec 3) (w : Walk) (s : State)
    (h : Cond.getFeatures q fid dw11 sel s = true) :
    ∃ u, exec (.getFeatures q fid nsid dw11 sel w) s = .next u ∧
      Cond.completed s u q 0 ((if sel = 0 then (s.ctrl q.fn.toNat).feature (featureKey2 fid.toNat dw11.toNat nsid.toNat)
        else if sel = 1 then featureDefault (featureKey2 fid.toNat dw11.toNat nsid.toNat)
        else if sel = 2 then Tab.get s.nvme.saved (featureDefault (featureKey2 fid.toNat dw11.toNat nsid.toNat))
          (savedKey q.fn.toNat (featureKey2 fid.toNat dw11.toNat 0))
        else b2n (saveable.contains fid.toNat) + 4) % 2 ^ 32) = true ∧
      (u.ctrl q.fn.toNat).features = (s.ctrl q.fn.toNat).features ∧ Cond.keepsRest s u = true := by
  simp only [Cond.getFeatures, Bool.and_eq_true, Bool.not_eq_true', decide_eq_true_eq] at h
  obtain ⟨⟨⟨hadm, hfid⟩, hsel⟩, hvec⟩ := h
  have hown := OwnFeature.ofContains hfid
  obtain ⟨t, ht, hp, hrun⟩ := State.admin_takes_of_cond hadm
  obtain ⟨c, p, o, hans, hcomp⟩ := ht.fronted.answer hp _
  refine ⟨_, congrArg s.done (Eq.trans ?_ hans), hcomp, congrArg Ctrl.features (ht.ctrl _), (ht.fronted.posted c p o).keepsRest⟩
  have hsel' : ¬ 3 < sel.toNat := by omega
  have hvec' : (fid.toNat == 0x09 && decide ((s.ctrl q.fn.toNat).vi ≤ bits dw11.toNat 0 16)) = false := by
    have h9 : (fid.toNat == 0x09) = (fid == 9) := by rw [Bool.eq_iff_iff]; simp [← BitVec.toNat_inj]
    rw [h9, hvec]
  rw [State.getFeatures, hrun]
  simp only [ht.ctrl, ht.saved, hown.known, hown.notPerNamespace, hown.noData, hown.saved, hown.now, hvec', hsel', Bool.not_true,
    Bool.or_self, Bool.false_and, Bool.false_eq_true, if_false, decide_false, bne_self_eq_false, List.head?_cons, Option.getD_some]
  obtain rfl | rfl | rfl | rfl := (by decide : ∀ x : BitVec 3, x.toNat ≤ 3 → x = 0 ∨ x = 1 ∨ x = 2 ∨ x = 3) sel hsel
  · rfl
  · rfl
  · rfl
  · cases saveable.contains fid.toNat <;> rfl

/-! ### Keep Alive expiry (R180) -/

/-- A counter counts on from the value it has. -/
theorem State.val_bump_congr {s t : State} {idx sub : Nat} (hq : idx ≠ 0x3020) (h : s.val idx sub = t.val idx sub) :
    (s.bump idx sub).val idx sub = (t.bump idx sub).val idx sub := by
  unfold State.val at h ⊢
  simp only [State.bump, State.fbump, State.fval_setFval _ _ _ _ _ hq, h]

/-- A function's fatal state before its event is raised: `CSTS.CFS`, the cause, the count. -/
def State.condemned (s : State) (fn cause : Nat) : State :=
  ((({ s with nvme.heldCpl := s.nvme.heldCpl.filter fun (h : HeldCpl) => h.fn != fn } : State).setCtrl fn
    { s.ctrl fn with cfs := true }).setFval fn 0x4020 8 cause).bump 0x4000 3

theorem State.fatal_noticed (s : State) (fn cause : Nat) : (s.condemned fn cause).Noticed (s.fatal fn cause) :=
  State.fire_noticed _ _

theorem State.fatal_fronted (s : State) (fn cause : Nat) : s.Fronted (s.fatal fn cause) := by
  obtain ⟨e, o, p, w, v, hf, -⟩ := s.fatal_noticed fn cause
  exact ⟨_, _, e, w, o, _, hf⟩

theorem State.fatal_cfs (s : State) (fn cause : Nat) : ((s.fatal fn cause).ctrl fn).cfs = true := by
  rw [(s.fatal_noticed fn cause).ctrl]
  exact congrArg Ctrl.cfs (State.ctrl_setCtrl _ fn _)

theorem State.fatal_cause (s : State) (fn cause : Nat) : (s.fatal fn cause).fval fn 0x4020 8 = cause := by
  rw [(s.fatal_noticed fn cause).fval (by decide) (by decide) (by decide), State.condemned, State.bump, State.fbump,
    State.fval_setFval_other _ _ _ _ _ _ _ _ (by decide) (ekey_ne (by decide) (by decide) (by decide) (by decide) (by decide)),
    State.fval_setFval _ _ _ _ _ (by decide)]

theorem State.fatal_count (s : State) (fn cause : Nat) : (s.fatal fn cause).val 0x4000 3 = (s.bump 0x4000 3).val 0x4000 3 := by
  refine ((s.fatal_noticed fn cause).fval (by decide) (by decide) (by decide)).trans (State.val_bump_congr (by decide) ?_)
  exact State.fval_setFval_other _ _ _ _ _ _ _ _ (by decide) (ekey_ne (by decide) (by decide) (by decide) (by decide) (by decide))

/-- KEEP_ALIVE_EXPIRY of a timer that has run out (R180). -/
theorem keepAliveExpiry_fatal (fn : BitVec 8) (s : State) (h : Cond.keepAliveExpiry fn s = true) :
    ∃ u, exec (.keepAliveExpiry fn) s = .next u ∧ (u.ctrl fn.toNat).cfs = true ∧ u.fval fn.toNat 0x4020 8 = 2 ∧
      u.val 0x4000 3 = (s.bump 0x4000 3).val 0x4000 3 ∧ Cond.keepsRest s u = true := by
  simp only [Cond.keepAliveExpiry, Bool.and_eq_true, Bool.not_eq_true', bne_iff_ne, decide_eq_true_eq] at h
  obtain ⟨⟨⟨hen, hcfs⟩, hms⟩, hdue⟩ := h
  have hdue' : ¬ s.since (s.ctrl fn.toNat).keepAliveAt < usTicks (1000 * (s.ctrl fn.toNat).keepAliveMs) := by omega
  have hrun : s.keepAliveExpiry fn.toNat = (s.fatal fn.toNat 2).fbump fn.toNat 0x3030 1 1 := by
    simp [State.keepAliveExpiry, hen, hcfs, hms, hdue']
  have hother (fn' idx sub : Nat) (hi : idx < 2 ^ 16) (hs : sub < 2 ^ 8) (hq : idx ≠ 0x3020) (hne : idx ≠ 0x3030) :
      ((s.fatal fn.toNat 2).fbump fn.toNat 0x3030 1 1).fval fn' idx sub = (s.fatal fn.toNat 2).fval fn' idx sub :=
    State.fval_setFval_other _ _ _ _ _ _ _ _ hq (ekey_ne hi hs (by decide) (by decide) hne)
  refine ⟨_, congrArg s.done hrun, s.fatal_cfs fn.toNat 2, ?_, ?_, ?_⟩
  · exact (hother _ _ _ (by decide) (by decide) (by decide) (by decide)).trans (s.fatal_cause fn.toNat 2)
  · exact (hother _ _ _ (by decide) (by decide) (by decide) (by decide)).trans (s.fatal_count fn.toNat 2)
  · exact (s.fatal_fronted fn.toNat 2).keepsRest

/-- Settles O12: one theorem for each command, each from the state its taking leaves and the completion it posts. -/
theorem adminReportsAndFeatures : Obligations.AdminReportsAndFeatures :=
  ⟨getLogPage_answers, identify_answers, abort_answers, setFeatures_keeps, setFeatures_other, setFeatures_namespace,
    getFeatures_answers, asynchronousEventRequest_held, keepAlive_answers, keepAliveExpiry_fatal⟩

end Sys2Proof.Machine
end

section
/-! PROOFS. Refutation of the statement on how media operations end. The event of a completion (R194) can be routed to a host notification
line (R549), whose message waits as a pending bit where its vector is masked (R102); that bit is the front end's, and the statement says that
the front end has not changed. -/
namespace Sys2Proof.Machine

/-- A program of one plane whose data is in the die: posted in a ring, with its event asked for. -/
def eventedProgram : MOp :=
  { freshOp 5 0 ⟨.program, 1, 0, true, 1, 0, 7, 3, 0, 0, 0, 0, 0x100000010000, 0x100000020000, 0⟩ (.ring 2) with
    started := true, transferred := true }

/-- That program runs on LUN 0 of channel 0. Source 0, the port's, is enabled and routed to host line 0; the physical function has MSI-X on
and every vector of its own masked, as a reset leaves them. -/
def programBeforeMaskedLine : State := { State.reset with
  pkg := { Pkg.init with phase := .running }
  media := { Media.init with
    ports := [(0, { Port.init with enable := true, eventEn := true, claim := .owned, trained := true, cplBase := 0x100000002000 })]
    luns := [(0, { Lun.init with state := .programming, ops := [eventedProgram] })] }
  ev := { Events.init with enable := setSrc Events.init.enable 0 true, target := [(0, 132)] }
  nvme := { Nvme.init with config := [(0x14, 2 ^ 31)] } }

theorem programEnd_of_programBeforeMaskedLine : Cond.programEnd 0 0 true programBeforeMaskedLine = true := by
  decide

/-- No message of the physical function waits before the program ends, and one of line 0's vector does after it. -/
theorem programEnd_leaves_message_pending :
    programBeforeMaskedLine.nvme.msixPend = [] ∧
      ∃ u, exec (.programEnd 0 0 true 0xE0) programBeforeMaskedLine = .next u ∧ u.nvme.msixPend = [(60, true)] :=
  ⟨rfl, _, rfl, by decide +kernel⟩

theorem eventedProgram_found : (programBeforeMaskedLine.lun 0 0).ops.find?
    (fun o => o.started && o.transferred && o.desc.opcode == .program) = some eventedProgram := by
  decide

theorem nvme_of_restMedia {s u : State} (h : Cond.restMedia s u = true) : u.nvme = s.nvme := by
  simp only [Cond.restMedia, Bool.and_eq_true, beq_iff_eq] at h
  obtain ⟨⟨⟨⟨⟨⟨⟨⟨⟨⟨⟨-, hnvme⟩, -⟩, -⟩, -⟩, -⟩, -⟩, -⟩, -⟩, -⟩, -⟩, -⟩ := h
  exact hnvme

/-- Refutes O24: PROGRAM_END posts its completion and leaves a message pending. -/
theorem not_mediaEnds : ¬ Obligations.MediaEnds := by
  unfold Obligations.MediaEnds
  rintro ⟨-, -, -, -, -, -, hprogram, -⟩
  obtain ⟨hbefore, v, hv, hafter⟩ := programEnd_leaves_message_pending
  obtain ⟨u, hu, hends⟩ := hprogram 0 0 true 0xE0 _ programEnd_of_programBeforeMaskedLine
  obtain ⟨⟨-, -, hrest⟩, -⟩ := hends eventedProgram eventedProgram_found
  obtain rfl : v = u := Host.Outcome.next.inj (hv.symm.trans hu)
  rw [nvme_of_restMedia hrest, hbefore] at hafter
  exact absurd hafter nofun

end Sys2Proof.Machine
end

section
/-! PROOFS. Refutation of the statement on forwarded commands. Data that the owner sends for a command of this Isle goes to the host over PCIe.
A flush shuts the host off 1 ms after it began (R47, R296) while the Strait goes on, and the data that then comes goes nowhere. -/
namespace Sys2Proof.Machine

/-! ### A frame received while nothing waits for the link -/

theorem State.pump_of_no_waiting {s : State} (h : s.twin.waiting = []) : s.pump = s := by
  rw [State.pump, h, List.length_nil, State.pumpN]

theorem State.linkFields_of_no_waiting {s : State} (h : s.twin.waiting = []) (l : Link) : ∃ w, s.linkFields l = { s with twin := w } :=
  ⟨_, State.pump_of_no_waiting h⟩

/-- A frame received while nothing waits for the link hands on a state in which the link alone has moved. -/
theorem State.frame_of_plain {s : State} (h : Cond.plain s = true) (cls : Nat) (l : Link) (f : State → State) :
    ∃ w, s.frame cls l f = f { s with twin := w } := by
  simp only [Cond.plain, Cond.up, Bool.and_eq_true, bne_iff_ne, List.isEmpty_iff] at h
  obtain ⟨⟨hlanes, hsession⟩, hwaiting⟩ := h
  have hup : (decide (s.twin.lanes = 0) || !s.twin.session) = false := by simp [hlanes, hsession]
  rw [State.frame, hup]
  obtain ⟨w, hw⟩ := State.linkFields_of_no_waiting (s := { s with
    twin.rxNext := s.twin.rxNext + 1, twin.unackedRx := true, twin.silent := false
    twin.owed := s.twin.owed.setIfInBounds cls ((s.twin.owed[cls]?).getD 0 + 1) }) hwaiting l
  exact ⟨w, congrArg f hw⟩

/-! ### Nothing goes to a host that cannot be reached -/

theorem State.emit_data_of_not_hostOpen {s : State} (h : s.hostOpen = false) (fn sq cid : Nat) (b : List Byte) (md ep vc1 ro : Bool) :
    s.emit (.data fn sq cid b md ep vc1 ro) = s := by
  simp [State.emit, Emit.toHost, h]

theorem State.hostData_of_not_hostOpen {s : State} (h : s.hostOpen = false) (fn sq cid : Nat) (w : Walk) (apart first : Nat) (b : List Byte)
    (ep vc1 : Bool) : s.hostData fn sq cid w apart first b ep vc1 = s := by
  simp only [State.hostData, State.emit_data_of_not_hostOpen h, ite_self]

/-- Data for a command forwarded from here, when the host cannot be reached: the link alone has moved. -/
theorem State.fwdData_of_not_hostOpen {s : State} {tag : Nat} (hlink : Cond.plain s = true) (hshut : s.hostOpen = false)
    (hout : (Cond.forwarded s tag).isSome = true) (l : Link) (offset : Nat) (data : List Byte) :
    ∃ w, s.fwdData l tag offset data = { s with twin := w } := by
  obtain ⟨f, hf⟩ := Option.isSome_iff_exists.1 hout
  obtain ⟨w, hw⟩ := State.frame_of_plain hlink 4 l _
  refine ⟨w, hw.trans ?_⟩
  have hfound : ({ s with twin := w } : State).nvme.fwdOut.find? (fun f => f.tag == tag) = some f := hf
  simp only [hfound]
  split
  · rfl
  · exact State.hostData_of_not_hostOpen (s := { s with twin := w }) hshut _ _ _ _ _ _ _ _ _

theorem State.runDevices_of_no_cmds {s : State} (h : s.nvme.cmds = []) : s.runDevices = s := by
  rw [State.runDevices, h, List.filter_nil, List.foldl_nil]

/-! ### The counterexample -/

/-- A read of the physical function, forwarded to the twin. -/
def forwardedRead : FwdCmd := ⟨8, 0, 1, 7, 1, 1, false, 1, [], false, false, [], 0, .ok, 0, false, false⟩

/-- A package 1 ms into the flush of a power failure, in a session of the Strait, with that command forwarded. -/
def forwardingLateInFlush : State := { State.reset with
  pkg := { Pkg.init with phase := .flushing .powerFail, timebase := 100000 }
  hold := { Hold.init with flush := some ⟨.powerFail, 0, 0, 0, false, false, false, 0, 0, 0⟩ }
  twin := { Twin.init with lanes := 8, session := true, pair := .inStep }
  nvme := { Nvme.init with fwdOut := [forwardedRead] } }

theorem fwdDataToHost_of_forwardingLateInFlush : Cond.fwdDataToHost 8 forwardingLateInFlush = true := by
  decide

theorem forwardingLateInFlush_not_hostOpen : forwardingLateInFlush.hostOpen = false := by
  decide

/-- FWD_DATA then sends nothing, to the host or to the twin. -/
theorem fwdData_sends_nothing_lateInFlush (l : Link) (offset : BitVec 32) (data : List Byte) :
    ∃ u, exec (.fwdData l 8 offset data) forwardingLateInFlush = .next u ∧ Cond.sent forwardingLateInFlush u = [] := by
  obtain ⟨w, hw⟩ := State.fwdData_of_not_hostOpen (s := forwardingLateInFlush) (tag := 8) (by decide)
    forwardingLateInFlush_not_hostOpen (by decide) l offset.toNat data
  have hrun : (forwardingLateInFlush.fwdData l 8 offset.toNat data).runDevices = { forwardingLateInFlush with twin := w } := by
    rw [hw]
    exact State.runDevices_of_no_cmds rfl
  exact ⟨_, congrArg forwardingLateInFlush.done hrun, rfl⟩

/-- Refutes O31: FWD_DATA for a command forwarded from here sends the host nothing once a flush has shut it off. -/
theorem not_forwardingAndProxy : ¬ Obligations.ForwardingAndProxy := by
  unfold Obligations.ForwardingAndProxy
  rintro ⟨-, -, -, hdata, -⟩
  obtain ⟨v, hv, hnothing⟩ := fwdData_sends_nothing_lateInFlush ⟨0, 0, 0⟩ 0 [1]
  obtain ⟨u, hu, -, hsent, -⟩ := hdata ⟨0, 0, 0⟩ 8 0 [1] _ fwdDataToHost_of_forwardingLateInFlush
  obtain rfl : v = u := Host.Outcome.next.inj (hv.symm.trans hu)
  have hsome := hsent forwardedRead rfl
  rw [hnothing] at hsome
  exact absurd hsome nofun

end Sys2Proof.Machine
end

section
/-! PROOFS. Refutations of the statements on media rings, on media operations and on takeover. In each, a command raises an event that can be
routed to a host notification line (R549), whose message waits as a pending bit where its vector is masked (R102). That bit is the front end's,
and each statement says that the front end has not changed. -/
namespace Sys2Proof.Machine

/-- No message of a masked vector waits before a command, and one waits after it. -/
def LeavesMessagePending (c : Instr) (s : State) : Prop :=
  s.nvme.msixPend = [] ∧ ∃ u, exec c s = .next u ∧ u.nvme.msixPend = [(60, true)]

theorem LeavesMessagePending.nvme_ne {c : Instr} {s u : State} (h : LeavesMessagePending c s) (hu : exec c s = .next u) :
    u.nvme ≠ s.nvme := by
  obtain ⟨hbefore, v, hv, hafter⟩ := h
  obtain rfl : v = u := Host.Outcome.next.inj (hv.symm.trans hu)
  intro hsame
  rw [hsame, hbefore] at hafter
  exact absurd hafter nofun

theorem nvme_of_restTwin {s u : State} (h : Cond.restTwin s u = true) : u.nvme = s.nvme := by
  simp only [Cond.restTwin, Bool.and_eq_true, beq_iff_eq] at h
  obtain ⟨⟨⟨⟨⟨⟨⟨⟨⟨⟨⟨⟨⟨⟨⟨-, hnvme⟩, -⟩, -⟩, -⟩, -⟩, -⟩, -⟩, -⟩, -⟩, -⟩, -⟩, -⟩, -⟩, -⟩, -⟩ := h
  exact hnvme

/-! ### A ring reset (R220) -/

/-- The port of `programBeforeMaskedLine`, the program fetched from its ring and not started. -/
def fetchedBeforeMaskedLine : State :=
  programBeforeMaskedLine.setLun 0 0 { Lun.init with ops := [{ eventedProgram with started := false, transferred := false }] }

theorem ringReset_of_fetchedBeforeMaskedLine : Cond.ringReset 0 fetchedBeforeMaskedLine = true := by
  decide

/-- The program completes `FLUSHED`, with the event it asks for. -/
theorem ringReset_leaves_message_pending : LeavesMessagePending (.ringReset 0) fetchedBeforeMaskedLine :=
  ⟨rfl, _, rfl, by decide +kernel⟩

/-- Refutes O22: the completions that RING_RESET posts raise their events, one of which leaves a message pending. -/
theorem not_mediaRings : ¬ Obligations.MediaRings := by
  unfold Obligations.MediaRings
  rintro ⟨-, -, -, hreset, -⟩
  obtain ⟨u, hu, -, -, -, -, -, hrest⟩ := hreset 0 _ ringReset_of_fetchedBeforeMaskedLine
  exact ringReset_leaves_message_pending.nvme_ne hu (nvme_of_restMedia hrest)

/-! ### A status read (R201) -/

/-- A status read posted in a ring, with its event asked for. -/
def eventedStatusRead : MOp := { eventedProgram with desc.opcode := .readStatus, started := false, transferred := false }

/-- The port of `programBeforeMaskedLine` with that operation fetched. -/
def statusReadBeforeMaskedLine : State := programBeforeMaskedLine.setLun 0 0 { Lun.init with ops := [eventedStatusRead] }

theorem mediaReadStatus_of_statusReadBeforeMaskedLine : Cond.mediaReadStatus 0 0 statusReadBeforeMaskedLine = true := by
  decide

theorem readStatus_leaves_message_pending : LeavesMessagePending (.mediaReadStatus 0 0 0xE0) statusReadBeforeMaskedLine :=
  ⟨rfl, _, rfl, by decide +kernel⟩

theorem eventedStatusRead_found :
    (statusReadBeforeMaskedLine.lun 0 0).ops.find? (fun o => o.desc.opcode == .readStatus) = some eventedStatusRead := by
  decide

/-- Refutes O23: READ_STATUS completes with the event that its descriptor asks for, which leaves a message pending. -/
theorem not_mediaOperations : ¬ Obligations.MediaOperations := by
  unfold Obligations.MediaOperations
  rintro ⟨-, -, -, -, -, -, -, -, -, -, -, hstatus, -⟩
  obtain ⟨u, hu, hends⟩ := hstatus 0 0 0xE0 _ mediaReadStatus_of_statusReadBeforeMaskedLine
  obtain ⟨⟨-, -, hrest⟩, -⟩ := hends eventedStatusRead eventedStatusRead_found
  exact readStatus_leaves_message_pending.nvme_ne hu (nvme_of_restMedia hrest)

/-! ### A silent link (R336) -/

/-- A package of a pair in a flush, so that it may not act on its twin, with the link in session. The link's event is enabled and routed to host
line 0, and every vector of the physical function is masked. -/
def linkedBeforeMaskedLine : State := { State.reset with
  pkg := { Pkg.init with phase := .flushing .powerFail, straps := ⟨false, true, false⟩ }
  hold := { Hold.init with flush := some ⟨.powerFail, 0, 0, 0, false, false, false, 0, 0, 0⟩ }
  twin := { Twin.init with lanes := 8, session := true, pair := .inStep }
  ev := { Events.init with enable := setSrc Events.init.enable (evSrc 42 1) true, target := [(evSrc 42 1, 132)] }
  nvme := programBeforeMaskedLine.nvme }

theorem straitSilence_of_linkedBeforeMaskedLine : Cond.straitSilence linkedBeforeMaskedLine = true := by
  decide

/-- The link goes down, with its event. -/
theorem straitSilence_leaves_message_pending : LeavesMessagePending .straitSilence linkedBeforeMaskedLine :=
  ⟨rfl, _, rfl, by decide +kernel⟩

/-- Refutes O32: STRAIT_SILENCE raises the link's event, which leaves a message pending. -/
theorem not_takeoverAndChannels : ¬ Obligations.TakeoverAndChannels := by
  unfold Obligations.TakeoverAndChannels
  rintro ⟨-, -, -, -, hsilence, -⟩
  obtain ⟨u, hu, -, -, -, -, -, hrest⟩ := hsilence _ straitSilence_of_linkedBeforeMaskedLine
  exact straitSilence_leaves_message_pending.nvme_ne hu (nvme_of_restTwin hrest)

end Sys2Proof.Machine
end

section
/-! PROOFS. Refutation of the statement on the code store. A completion raises the event of the controller (R240), which like any other can be
routed to a host notification line (R549); the statement says that the front end, where the message of a masked vector waits (R102), has not
changed. -/
namespace Sys2Proof.Machine

/-- An erase of the second sector of bank 0, with its event asked for. -/
def eventedSectorErase : CsOp := ⟨.erase, 7, true, false, false, 0x40000, 0, 0, 0, false, 0, false⟩

/-- A code store whose controller has fetched that erase, the one descriptor of its ring, and has not started it. The controller's source, 42:0, is
enabled and routed to host line 0, and every vector of the physical function is masked. -/
def csFetchedBeforeMaskedLine : State := { State.reset with
  pkg := { Pkg.init with phase := .running }
  cs := { CodeStore.init false with
    enable := true, eventEn := true, descBase := 0x110000C00000, cplBase := 0x110000C01000, descTail := 1, descHead := 1
    ops := [eventedSectorErase] }
  ev := { Events.init with enable := setSrc Events.init.enable (evSrc 42 0) true, target := [(evSrc 42 0, 132)] }
  nvme := programBeforeMaskedLine.nvme }

theorem csQueueReset_of_csFetchedBeforeMaskedLine : Cond.csQueueReset csFetchedBeforeMaskedLine = true := by
  decide

/-- The erase completes `FLUSHED`, with the event it asks for. -/
theorem csQueueReset_leaves_message_pending : LeavesMessagePending .csQueueReset csFetchedBeforeMaskedLine :=
  ⟨rfl, _, rfl, by decide +kernel⟩

theorem nvme_of_restCs {s u : State} (h : Cond.restCs s u = true) : u.nvme = s.nvme := by
  simp only [Cond.restCs, Bool.and_eq_true, beq_iff_eq] at h
  obtain ⟨⟨⟨⟨⟨⟨⟨⟨⟨⟨⟨⟨⟨-, hnvme⟩, -⟩, -⟩, -⟩, -⟩, -⟩, -⟩, -⟩, -⟩, -⟩, -⟩, -⟩, -⟩ := h
  exact hnvme

/-- Refutes O25: the completion that QUEUE_RESET posts for a waiting descriptor raises its event, which leaves a message pending. -/
theorem not_codeStoreQueue : ¬ Obligations.CodeStoreQueue := by
  unfold Obligations.CodeStoreQueue
  rintro ⟨-, -, hreset, -⟩
  obtain ⟨u, hu, -, -, -, -, -, -, -, hrest⟩ := hreset _ csQueueReset_of_csFetchedBeforeMaskedLine
  exact csQueueReset_leaves_message_pending.nvme_ne hu (nvme_of_restCs hrest)

end Sys2Proof.Machine
end

section
/-! PROOFS. Refutation of the statement on the hold-up. A measurement that has been postponed 60 times fails (R305), and its end is an event
(R547), which like any other can be routed to a host notification line (R549); the statement says that the front end, where the message of a masked
vector waits (R102), has not changed. -/
namespace Sys2Proof.Machine

/-- A series of measurements postponed 60 times, its test load not asserted. The source of a measurement's end, 42:4, is enabled and routed to host
line 0, and every vector of the physical function is masked. -/
def postponedBeforeMaskedLine : State := { State.reset with
  pkg := { Pkg.init with phase := .running }
  hold := { Hold.init with series := some ⟨0, false, 60, 0⟩ }
  ev := { Events.init with enable := setSrc Events.init.enable (evSrc 42 4) true, target := [(evSrc 42 4, 132)] }
  nvme := programBeforeMaskedLine.nvme }

theorem huMeasurementStartGivenUp_of_postponedBeforeMaskedLine :
    Cond.huMeasurementStartGivenUp 0 postponedBeforeMaskedLine = true := by
  decide

/-- With the bank not charged the series ends, with its event. -/
theorem huMeasurementStart_leaves_message_pending : LeavesMessagePending (.huMeasurementStart 0) postponedBeforeMaskedLine :=
  ⟨rfl, _, rfl, by decide +kernel⟩

theorem nvme_of_restXlat {s u : State} (h : Cond.restXlat s u = true) : u.nvme = s.nvme := by
  simp only [Cond.restXlat, Bool.and_eq_true, beq_iff_eq] at h
  obtain ⟨⟨⟨⟨⟨⟨⟨⟨⟨⟨⟨-, hnvme⟩, -⟩, -⟩, -⟩, -⟩, -⟩, -⟩, -⟩, -⟩, -⟩, -⟩ := h
  exact hnvme

/-- Refutes O28: the measurement that HU_MEASUREMENT_START gives up ends its series with an event, which leaves a message pending. -/
theorem not_holdUp : ¬ Obligations.HoldUp := by
  unfold Obligations.HoldUp
  rintro ⟨-, -, -, -, hgivenUp, -⟩
  obtain ⟨u, hu, -, -, -, -, -, -, -, hrest⟩ := hgivenUp 0 _ huMeasurementStartGivenUp_of_postponedBeforeMaskedLine
  exact huMeasurementStart_leaves_message_pending.nvme_ne hu (nvme_of_restXlat hrest)

end Sys2Proof.Machine
end

section
/-! PROOFS. Refutation of the statement on the Strait link. The source of a twin slot, which EVENT_FWD latches, is routed as any other is, to a host
notification line as well (R549); the statement says that the front end, where the message of a masked vector waits (R102), has not changed. -/
namespace Sys2Proof.Machine

/-- A package in step with its twin, with nothing that waits for the link. The source of twin slot 0 is enabled and routed to host line 0, and every
vector of the physical function is masked. -/
def twinSlotBeforeMaskedLine : State := { State.reset with
  pkg := { Pkg.init with phase := .running, straps := ⟨false, true, false⟩ }
  twin := { Twin.init with lanes := 8, session := true, pair := .inStep }
  ev := { Events.init with enable := setSrc Events.init.enable 1920 true, target := [(1920, 132)] }
  nvme := programBeforeMaskedLine.nvme }

theorem eventFwd_of_twinSlotBeforeMaskedLine : Cond.eventFwd 0 twinSlotBeforeMaskedLine = true := by
  decide

/-- The twin's event reaches the host line as it would from this Isle. -/
theorem eventFwd_leaves_message_pending : LeavesMessagePending (.eventFwd ⟨0, 0, 0⟩ 0) twinSlotBeforeMaskedLine :=
  ⟨rfl, _, rfl, by decide +kernel⟩

/-- Refutes O29: EVENT_FWD for a twin slot routed to a host notification line leaves a message pending. -/
theorem not_straitLink : ¬ Obligations.StraitLink := by
  unfold Obligations.StraitLink
  rintro ⟨-, -, -, -, -, -, -, -, -, -, hevent, -⟩
  obtain ⟨u, hu, -, -, hrest⟩ := hevent ⟨0, 0, 0⟩ 0 _ eventFwd_of_twinSlotBeforeMaskedLine
  exact eventFwd_leaves_message_pending.nvme_ne hu (nvme_of_restTwin hrest)

end Sys2Proof.Machine
end
